-- ==== Sys2Proof/Word.lean ====
section
/-! DEFINITION. The words of the host link: a byte, and the multi-byte fields of a payload, sent high byte first
(00_scope.md 1.6.6). Everything inside the part that the manual counts, measures or names is a Nat, an Int or an
inductive type; bit vectors stand only for what travels on the line and for the wrapping time stamp counter. -/

namespace Sys2Proof

/-- One byte of the host link. -/
abbrev Byte := BitVec 8

/-- A two-byte field, high byte first. -/
abbrev Half := BitVec 16

/-- A three-byte field (the notice mask), high byte first. -/
abbrev Triple := BitVec 24

/-- A four-byte field, high byte first, and the time stamp counter. -/
abbrev Word := BitVec 32

end Sys2Proof
end

