-- ==== Sys2Proof/Syntax.lean ====
section
/-! DEFINITION. The names of the machine's parts, the operands of commands, the host requests of Table 46, and `Instr`:
one constructor per row of spec/opcode_table.json. -/

namespace Sys2Proof

/-- The softener columns (00_scope.md 1.6.3). -/
inductive Column where
  | a | b | c
  deriving DecidableEq, Repr

/-- The dosing channels; channel n is selector position n, and position 1 is the selector's home (Table 26). -/
inductive Channel where
  | d1 | d2 | d3
  deriving DecidableEq, Repr

/-- The spray zones, in their cyclic order. -/
inductive Zone where
  | z1 | z2 | z3 | z4
  deriving DecidableEq, Repr

/-- The two rotating arms, which carry a rotation sensor (Table 37). -/
inductive Arm where
  | z1 | z2
  deriving DecidableEq, Repr

/-- Positions of the column valve (3.8). -/
inductive ValvePos where
  | column (col : Column)
  | bypass
  deriving DecidableEq, Repr

/-- The two indications of a failed temperature sensor (R131). -/
inductive SensorKind where
  | openCircuit | shortCircuit
  deriving DecidableEq, Repr

/-- What the sump temperature sensor channel shows: a measurement in quarters of a degree, or an indication (R130, R131). -/
inductive SensorSignal where
  | measured (quarters : Int)
  | failed (kind : SensorKind)
  deriving DecidableEq, Repr

/-- One value for each dosing channel. -/
structure PerChannel (α : Type) where
  d1 : α
  d2 : α
  d3 : α
  deriving DecidableEq, Repr

/-- The machine's inputs as they stand, whether or not the part senses them (Tables 10, 21, 26, 33, 37, 40). A Bool is
true for the reading its name says: EMPTY, REACHED, HIGH, ACTIVE, OPEN, LOW, PRESSURE, HOME, PRESENT, asserted. -/
structure Pins where
  sumpEmpty : Bool
  heaterCover : Bool
  highLevel : Bool
  flood : Bool
  lidOpen : Bool
  saltLow : Bool
  pressure : Bool
  doorOpen : Bool
  home : Bool
  low : PerChannel Bool
  capOpen : PerChannel Bool
  booster : Bool
  actuator : Bool
  sensor : SensorSignal
  /-- transmission in per mille of the clean-water reference, before R45 limits it -/
  turbidity : Int
  pfw : Bool
  deriving DecidableEq, Repr

/-- The inputs that no row of the table reports: they are presented with each second (log entry 5). -/
structure Ambient where
  turbidity : Int
  booster : Bool
  actuator : Bool
  deriving DecidableEq, Repr

/-- One dose reference as it travels (Table 53). -/
structure RefPayload where
  channel : Byte
  base : Half
  maximum : Half
  deriving DecidableEq, Repr

/-- The 29-byte phase record as it travels (Table 53). -/
structure PhasePayload where
  kind : Byte
  fillVolume : Half
  target : Byte
  heatLimit : Half
  holdTime : Half
  weight1 : Byte
  weight2 : Byte
  weight3 : Byte
  weight4 : Byte
  slotLength : Byte
  refCount : Byte
  ref1 : RefPayload
  ref2 : RefPayload
  flags : Byte
  dwell : Half
  openTime : Half
  deriving DecidableEq, Repr

/-- The 26 request kinds of Table 46 with the fields each carries. -/
inductive Request where
  | identify
  | linkEnable
  | getStatus
  | setConfig (id : Byte) (value : Word)
  | getConfig (id : Byte)
  | setNoticeMask (mask : Triple)
  | standby
  | shutdown (mode : Byte)
  | resetUnit (unit : Byte)
  | readFaultHistory
  | acknowledgeFault
  | loadPhase (index : Byte) (record : PhasePayload)
  | readPhase (index : Byte)
  | setPhaseCount (count : Byte)
  | clearProgram
  | startProgram
  | hold
  | continueProgram
  | abortProgram
  | readColumn (column : Byte)
  | regenerate (column : Byte)
  | retireColumn (column : Byte)
  | restoreColumn (column : Byte)
  | readReservoir (channel : Byte)
  | setReservoirLevel (channel : Byte) (level : Half)
  | primeChannel (channel : Byte) (strokes : Byte)
  deriving DecidableEq, Repr

/-- The commands of the part: one constructor per row of spec/opcode_table.json, in the table's order. A host request
carries the tag of its frame; an event carries the reading that its row reports. -/
inductive Instr where
  | identify (tag : Byte)
  | linkEnable (tag : Byte)
  | getStatus (tag : Byte)
  | setConfig (tag : Byte) (id : Byte) (value : Word)
  | setConfigNominalCapacity (tag : Byte) (value : Word)
  | setConfigSwitchReserve (tag : Byte) (value : Word)
  | setConfigFittedColumns (tag : Byte) (value : Word)
  | setConfigSilenceLimit (tag : Byte) (value : Word)
  | getConfig (tag : Byte) (id : Byte)
  | setNoticeMask (tag : Byte) (mask : Triple)
  | standby (tag : Byte)
  | shutdownNormal (tag : Byte)
  | shutdownAbrupt (tag : Byte)
  | resetUnitSequencer (tag : Byte)
  | resetUnitSoftener (tag : Byte)
  | resetUnitDosing (tag : Byte)
  | resetUnitDoor (tag : Byte)
  | resetUnitLink (tag : Byte)
  | readFaultHistory (tag : Byte)
  | acknowledgeFault (tag : Byte)
  | loadPhase (tag : Byte) (index : Byte) (record : PhasePayload)
  | readPhase (tag : Byte) (index : Byte)
  | setPhaseCount (tag : Byte) (count : Byte)
  | clearProgram (tag : Byte)
  | startProgram (tag : Byte)
  | hold (tag : Byte)
  | continueProgram (tag : Byte)
  | abortProgram (tag : Byte)
  | readColumn (tag : Byte) (column : Byte)
  | regenerate (tag : Byte) (column : Byte)
  | retireColumn (tag : Byte) (column : Byte)
  | restoreColumn (tag : Byte) (column : Byte)
  | readReservoir (tag : Byte) (channel : Byte)
  | setReservoirLevel (tag : Byte) (channel : Byte) (level : Half)
  | primeChannel (tag : Byte) (channel : Byte) (strokes : Byte)
  /-- the line delivers these bytes, which end a good frame -/
  | frameGood (bytes : List Byte)
  /-- the line delivers these bytes, and then, if `stopLow`, a byte with its stop bit low -/
  | frameBad (bytes : List Byte) (stopLow : Bool)
  /-- the line delivers these bytes and then nothing for more than 20 ms -/
  | byteGapTimeout (bytes : List Byte)
  | frameTransmitEnd
  | silenceTimeout
  | timeStampTick (ambient : Ambient)
  | standbyLinkWake
  | powerOn (pins : Pins)
  | resetLineAssertion (pins : Pins)
  | powerLoss
  | pfwAssertion
  | pfwRelease
  | retainedWriteEnd
  | flowMeterPulse
  | sumpEmptySwitchChange (empty : Bool)
  | heaterCoverLevelChange (reached : Bool)
  | highLevelSwitchChange (high : Bool)
  | floodSwitchChange (active : Bool)
  | floodRunOnExpiry
  | leakDrainExpiry
  | drainBurstExpiry
  | fillLimitExpiry
  | drainRunOnExpiry
  | drainAttemptLimit
  | drainPauseExpiry
  | holdTimerExpiry
  | settlingTimerExpiry
  | waterWaitExpiry
  | drainExtensionExpiry
  | saltLidSwitchChange (lidOpen : Bool)
  | saltLowSwitchChange (low : Bool)
  | brineStageTimeLimit
  | rinseStageTimeLimit
  | regenDwellExpiry
  | columnValveConfirmation (position : ValvePos)
  | columnValveMoveTimeout
  | gatherWindowExpiry
  | selectorPositionReport (position : Channel)
  | selectorMoveTimeout
  | strokeConfirmationPulse
  | strokeTimeout
  | lowSwitchChange (channel : Channel) (low : Bool)
  | capSwitchChange (channel : Channel) (capOpen : Bool)
  | sumpTemperatureChange (quarters : Int)
  | sensorIndication (kind : SensorKind)
  | sensorRecovery (quarters : Int)
  | heatLimitExpiry
  | pressureSwitchChange (pressure : Bool)
  | lowTimerExpiry
  | slotTimeExpiry
  | diverterPositionReport (zone : Zone)
  | diverterMoveTimeout
  | armRotationPulse (arm : Arm)
  | armTimerExpiry (arm : Arm)
  | doorSwitchChange (doorOpen : Bool)
  | actuatorEncoderEdge (outward : Bool)
  | homeSwitchChange (home : Bool)
  | stallTimerExpiry
  | dryingDwellExpiry
  | coolWaitExpiry
  | retryPauseExpiry
  | openTimeExpiry
  deriving DecidableEq, Repr

end Sys2Proof
end

