-- ==== Sys2Proof/Config.lean ====
section
/-! DEFINITION. What the manual fixes as constants of the part, and the values it leaves open. An open value is an opaque
constant: nothing in Lean can evaluate it, and what is proved holds whatever it is (log entry 10). The open layouts of
payloads need the model's record types and stand in Machine/Wire.lean. -/

namespace Sys2Proof

/-- FREE VALUE: the silicon revision, one byte (R186 names it and gives no value). -/
opaque Config.siliconRevision : Byte

/-! ## Limits of the supervision timers -/

/-- The water wait after the first fill-limit expiry, in s (R10). -/
def Config.waterWait : Nat := 120

/-- The settling time of the door, in s (R25). -/
def Config.settling : Nat := 2

/-- The longest drain extension, in s (R30). -/
def Config.extension : Nat := 90

/-- The volume of a top-up, in mL (R16). -/
def Config.topUp : Nat := 300

/-- Run-on of a SEQ drain, in s (R47). -/
def Config.drainRunOn : Nat := 15

/-- Limit of one drain attempt, in s (R47). -/
def Config.drainAttempt : Nat := 120

/-- Pause before a drain retry, in s (R48). -/
def Config.drainPause : Nat := 30

/-- Length of a drain burst, in s (R49). -/
def Config.burst : Nat := 20

/-- Length of the leak drain and of the flood run-on, in s (R36, R52). -/
def Config.leakDrain : Nat := 60

/-- Run-on of the flood request, in s (R52). -/
def Config.floodRunOn : Nat := 60

/-- Stray flow that raises INLET_LEAK, in mL (R36). -/
def Config.strayLimit : Nat := 200

/-- Limit of a column valve move, in s (R76). -/
def Config.valveMove : Nat := 8

/-- Limit of the brine stage, in s of draw (R84). -/
def Config.brineStage : Nat := 90

/-- Limit of the rinse stage, in s of rinse (R88). -/
def Config.rinseStage : Nat := 120

/-- The gather window, in s (R116). -/
def Config.gatherWindow : Nat := 2

/-- Limit of a selector homing or move, in s (R118). -/
def Config.selectorMove : Nat := 5

/-- The time a stroke's confirmation is waited for, in ms (R121). -/
def Config.strokeTime : Nat := 400

/-- The largest dose queue (R114). -/
def Config.queueSize : Nat := 6

/-- Limit of a diverter homing or move, in s (R151). -/
def Config.diverterMove : Nat := 6

/-- Time of low pressure before the pressure-low report, in s (R148). -/
def Config.lowTime : Nat := 5

/-- Time without a rotation pulse before an arm has stalled, in s (R153). -/
def Config.armTime : Nat := 8

/-- Time without an encoder edge before the actuator has stalled, in ms (R160). -/
def Config.stallTime : Nat := 300

/-- The retry pause of OPENING, in s (R166). -/
def Config.retryPause : Nat := 2

/-- Limit of the cool wait, in s (R164). -/
def Config.coolWait : Nat := 900

/-- The actuator count at which the latch releases (R165). -/
def Config.latchPoint : Nat := 150

/-- The largest actuator count (R159). -/
def Config.countMax : Nat := 1200

/-- The fall of the count that shows a door pushed shut (R168). -/
def Config.pushedShut : Nat := 20

/-! ## Over-temperature thresholds in °C (Table 35) -/

/-- Warning entry: power mode HALF. -/
def Config.warnEntry : Nat := 80

/-- Warning exit: power mode FULL. -/
def Config.warnExit : Nat := 78

/-- Critical: OVERHEAT and the lockout. -/
def Config.critical : Nat := 88

/-- Release of the lockout. -/
def Config.release : Nat := 70

/-! ## The link -/

/-- Receive error count at which the link is DEGRADED (R181). -/
def Config.degradedCount : Nat := 96

/-- Receive error count at which the link is LOST (R181). -/
def Config.lostCount : Nat := 128

/-- What a bad frame adds to the receive error count (R180). -/
def Config.badFrame : Nat := 8

/-- The largest fault history (R204). -/
def Config.historySize : Nat := 16

/-! ## The reservoirs, in 0.01 mL (Table 28) -/

/-- Volume of a full reservoir. -/
def Config.capacity : Channel → Nat
  | .d1 => 45000
  | .d2 => 30000
  | .d3 => 20000

/-- Level at or below which a reservoir is reported low. -/
def Config.lowMark : Channel → Nat
  | .d1 => 4000
  | .d2 => 3000
  | .d3 => 2000

end Sys2Proof
end

