-- ==== Sys2Proof/Decode.lean ====
section
/-! DEFINITION. What arrives on the line and what is read from it: the CRC and the frame envelope (Table 44, R175), the
receiver's verdict on the bytes it has assembled (R176), the request that a frame spells (Table 46, R178), and the
encoder of requests and frames, written from the same tables. The rows of spec/opcode_table.json give no bits, so the
word decoder of the host's interface reads no command from a word. -/

namespace Sys2Proof

/-- The command that a word spells by the table's bits: the table gives bits to no row, so there is none. -/
def decodeTableWord (_nbits _w : Nat) : Option Instr := none

/-! ## CRC-16 with the polynomial x^16 + x^12 + x^5 + 1 (R175) -/

/-- One bit of the CRC: shift left, and add the polynomial when the bit shifted out is 1. -/
def crcBit (r : Half) : Half :=
  if r.msb then (r <<< 1) ^^^ 0x1021#16 else r <<< 1

/-- One byte of the CRC, most significant bit first. -/
def crcByte (r : Half) (b : Byte) : Half :=
  crcBit (crcBit (crcBit (crcBit (crcBit (crcBit (crcBit (crcBit (r ^^^ (b.setWidth 16 <<< 8)))))))))

/-- The CRC of a run of bytes; the register starts at 0xFFFF and is neither reflected nor inverted (R175). -/
def crc16 (bytes : List Byte) : Half := bytes.foldl crcByte 0xFFFF#16

/-! ## Multi-byte fields, high byte first (00_scope.md 1.6.6) -/

def halfOf (a b : Byte) : Half := a ++ b
def tripleOf (a b c : Byte) : Triple := a ++ b ++ c
def wordOf (a b c d : Byte) : Word := a ++ b ++ c ++ d
def halfBytes (h : Half) : List Byte := [h.extractLsb' 8 8, h.extractLsb' 0 8]
def tripleBytes (t : Triple) : List Byte := [t.extractLsb' 16 8, t.extractLsb' 8 8, t.extractLsb' 0 8]
def wordBytes (w : Word) : List Byte :=
  [w.extractLsb' 24 8, w.extractLsb' 16 8, w.extractLsb' 8 8, w.extractLsb' 0 8]

/-! ## The frame envelope (Table 44) -/

/-- A frame without its envelope: kind, tag and payload. -/
structure Frame where
  kind : Byte
  tag : Byte
  payload : List Byte
  deriving DecidableEq, Repr

/-- The marker that starts a frame. -/
def frameMarker : Byte := 0xA5#8

/-- The bytes the CRC is computed over: length, kind, tag, payload (R175). -/
def Frame.body (f : Frame) : List Byte :=
  BitVec.ofNat 8 (f.payload.length + 2) :: f.kind :: f.tag :: f.payload

/-- The frame as it stands on the line (Table 44, R175). -/
def Frame.wire (f : Frame) : List Byte :=
  frameMarker :: f.body ++ halfBytes (crc16 f.body)

/-- What the receiver makes of the bytes it has assembled (R176). -/
inductive Verdict where
  | more
  | bad
  | good (f : Frame)
  deriving DecidableEq, Repr

/-- R176: the verdict on the bytes collected from the marker on. The length must lie in 2..200; the frame ends after the
length's count of bytes and the two CRC bytes, and is good when the CRC matches. -/
def assemblyVerdict (bytes : List Byte) : Verdict :=
  match bytes with
  | _marker :: len :: rest =>
    if len.toNat < 2 ∨ 200 < len.toNat then .bad
    else if rest.length < len.toNat + 2 then .more
    else
      match rest.take len.toNat, rest.drop len.toNat with
      | kind :: tag :: payload, [hi, lo] =>
        if crc16 (len :: kind :: tag :: payload) = halfOf hi lo then .good ⟨kind, tag, payload⟩ else .bad
      | _, _ => .bad
  | _ => .more

/-! ## Requests (Table 46) -/

/-- Steps 1 and 2 of R178 on a frame: the kind, then the length. -/
inductive Parsed where
  | unknownKind
  | badLength
  | request (r : Request)
  deriving DecidableEq, Repr

/-- The phase record of Table 53, read from its 29 bytes. -/
def parsePhase : List Byte → Option PhasePayload
  | [k, v1, v0, t, l1, l0, h1, h0, w1, w2, w3, w4, sl, rc, c1, b11, b10, m11, m10, c2, b21, b20, m21, m20, fl, d1, d0,
      o1, o0] =>
    some ⟨k, halfOf v1 v0, t, halfOf l1 l0, halfOf h1 h0, w1, w2, w3, w4, sl, rc,
      ⟨c1, halfOf b11 b10, halfOf m11 m10⟩, ⟨c2, halfOf b21 b20, halfOf m21 m20⟩, fl, halfOf d1 d0, halfOf o1 o0⟩
  | _ => none

/-- A request without payload. -/
def parseNone (r : Request) : List Byte → Parsed
  | [] => .request r
  | _ => .badLength

/-- A request with a payload of one byte. -/
def parseOne (r : Byte → Request) : List Byte → Parsed
  | [b] => .request (r b)
  | _ => .badLength

/-- A LOAD PHASE payload: index 1, phase record 29. -/
def parseLoadPhase : List Byte → Parsed
  | i :: rest =>
    match parsePhase rest with
    | some p => .request (.loadPhase i p)
    | none => .badLength
  | [] => .badLength

/-- The request that a frame of this kind and payload spells (Table 46; R178 steps 1 and 2). -/
def parseRequest (kind : Byte) (payload : List Byte) : Parsed :=
  match kind.toNat with
  | 0x01 => parseNone .identify payload
  | 0x02 => parseNone .linkEnable payload
  | 0x03 => parseNone .getStatus payload
  | 0x04 =>
    match payload with
    | [i, a, b, c, d] => .request (.setConfig i (wordOf a b c d))
    | _ => .badLength
  | 0x05 => parseOne .getConfig payload
  | 0x06 =>
    match payload with
    | [a, b, c] => .request (.setNoticeMask (tripleOf a b c))
    | _ => .badLength
  | 0x07 => parseNone .standby payload
  | 0x08 => parseOne .shutdown payload
  | 0x09 => parseOne .resetUnit payload
  | 0x0A => parseNone .readFaultHistory payload
  | 0x0B => parseNone .acknowledgeFault payload
  | 0x10 => parseLoadPhase payload
  | 0x11 => parseOne .readPhase payload
  | 0x12 => parseOne .setPhaseCount payload
  | 0x13 => parseNone .clearProgram payload
  | 0x14 => parseNone .startProgram payload
  | 0x15 => parseNone .hold payload
  | 0x16 => parseNone .continueProgram payload
  | 0x17 => parseNone .abortProgram payload
  | 0x20 => parseOne .readColumn payload
  | 0x21 => parseOne .regenerate payload
  | 0x22 => parseOne .retireColumn payload
  | 0x23 => parseOne .restoreColumn payload
  | 0x28 => parseOne .readReservoir payload
  | 0x29 =>
    match payload with
    | [c, a, b] => .request (.setReservoirLevel c (halfOf a b))
    | _ => .badLength
  | 0x2A =>
    match payload with
    | [c, n] => .request (.primeChannel c n)
    | _ => .badLength
  | _ => .unknownKind

/-! ## The encoder -/

/-- The kind byte of a request (Table 46). -/
def Request.kind : Request → Byte
  | .identify => 0x01#8
  | .linkEnable => 0x02#8
  | .getStatus => 0x03#8
  | .setConfig _ _ => 0x04#8
  | .getConfig _ => 0x05#8
  | .setNoticeMask _ => 0x06#8
  | .standby => 0x07#8
  | .shutdown _ => 0x08#8
  | .resetUnit _ => 0x09#8
  | .readFaultHistory => 0x0A#8
  | .acknowledgeFault => 0x0B#8
  | .loadPhase _ _ => 0x10#8
  | .readPhase _ => 0x11#8
  | .setPhaseCount _ => 0x12#8
  | .clearProgram => 0x13#8
  | .startProgram => 0x14#8
  | .hold => 0x15#8
  | .continueProgram => 0x16#8
  | .abortProgram => 0x17#8
  | .readColumn _ => 0x20#8
  | .regenerate _ => 0x21#8
  | .retireColumn _ => 0x22#8
  | .restoreColumn _ => 0x23#8
  | .readReservoir _ => 0x28#8
  | .setReservoirLevel _ _ => 0x29#8
  | .primeChannel _ _ => 0x2A#8

/-- One dose reference, five bytes (Table 53). -/
def RefPayload.bytes (r : RefPayload) : List Byte :=
  r.channel :: halfBytes r.base ++ halfBytes r.maximum

/-- The 29 bytes of a phase record (Table 53). -/
def PhasePayload.bytes (p : PhasePayload) : List Byte :=
  p.kind :: halfBytes p.fillVolume ++ p.target :: halfBytes p.heatLimit ++ halfBytes p.holdTime
    ++ [p.weight1, p.weight2, p.weight3, p.weight4, p.slotLength, p.refCount]
    ++ p.ref1.bytes ++ p.ref2.bytes ++ p.flags :: halfBytes p.dwell ++ halfBytes p.openTime

/-- The payload of a request (Table 46). -/
def Request.payload : Request → List Byte
  | .setConfig i v => i :: wordBytes v
  | .getConfig i => [i]
  | .setNoticeMask m => tripleBytes m
  | .shutdown m => [m]
  | .resetUnit u => [u]
  | .loadPhase i p => i :: p.bytes
  | .readPhase i => [i]
  | .setPhaseCount n => [n]
  | .readColumn c => [c]
  | .regenerate c => [c]
  | .retireColumn c => [c]
  | .restoreColumn c => [c]
  | .readReservoir c => [c]
  | .setReservoirLevel c l => c :: halfBytes l
  | .primeChannel c n => [c, n]
  | .identify | .linkEnable | .getStatus | .standby | .readFaultHistory | .acknowledgeFault | .clearProgram
  | .startProgram | .hold | .continueProgram | .abortProgram => []

/-- The frame by which a host sends a request under a tag. -/
def Request.frame (r : Request) (tag : Byte) : Frame := ⟨r.kind, tag, r.payload⟩

/-- The request and tag of a command that is a request row. -/
def Instr.request? : Instr → Option (Byte × Request)
  | .identify t => some (t, .identify)
  | .linkEnable t => some (t, .linkEnable)
  | .getStatus t => some (t, .getStatus)
  | .setConfig t i v => some (t, .setConfig i v)
  | .setConfigNominalCapacity t v => some (t, .setConfig 4#8 v)
  | .setConfigSwitchReserve t v => some (t, .setConfig 5#8 v)
  | .setConfigFittedColumns t v => some (t, .setConfig 6#8 v)
  | .setConfigSilenceLimit t v => some (t, .setConfig 27#8 v)
  | .getConfig t i => some (t, .getConfig i)
  | .setNoticeMask t m => some (t, .setNoticeMask m)
  | .standby t => some (t, .standby)
  | .shutdownNormal t => some (t, .shutdown 0#8)
  | .shutdownAbrupt t => some (t, .shutdown 1#8)
  | .resetUnitSequencer t => some (t, .resetUnit 1#8)
  | .resetUnitSoftener t => some (t, .resetUnit 2#8)
  | .resetUnitDosing t => some (t, .resetUnit 3#8)
  | .resetUnitDoor t => some (t, .resetUnit 4#8)
  | .resetUnitLink t => some (t, .resetUnit 5#8)
  | .readFaultHistory t => some (t, .readFaultHistory)
  | .acknowledgeFault t => some (t, .acknowledgeFault)
  | .loadPhase t i p => some (t, .loadPhase i p)
  | .readPhase t i => some (t, .readPhase i)
  | .setPhaseCount t n => some (t, .setPhaseCount n)
  | .clearProgram t => some (t, .clearProgram)
  | .startProgram t => some (t, .startProgram)
  | .hold t => some (t, .hold)
  | .continueProgram t => some (t, .continueProgram)
  | .abortProgram t => some (t, .abortProgram)
  | .readColumn t c => some (t, .readColumn c)
  | .regenerate t c => some (t, .regenerate c)
  | .retireColumn t c => some (t, .retireColumn c)
  | .restoreColumn t c => some (t, .restoreColumn c)
  | .readReservoir t c => some (t, .readReservoir c)
  | .setReservoirLevel t c l => some (t, .setReservoirLevel c l)
  | .primeChannel t c n => some (t, .primeChannel c n)
  | _ => none

end Sys2Proof
end

