-- ==== Sys2Proof/Machine/State.lean ====
section
/-! DEFINITION. The state of the part as plain data: one structure per block, with the value each field takes at power-on
and at a RESET-line reset as its default (the tables the docstrings name), the retained store, the link with its notices
and replies, the queue of commands, and `State.reset`. -/

namespace Sys2Proof.Machine

/-- A stop of the model. The spec gives every command an effect in every state, so nothing raises one (log entry 2). -/
inductive Fault where
  deriving DecidableEq, Repr

/-- A command without meaning. -/
inductive Refusal where
  /-- Raised only by an arm of `exec` whose command has no meaning yet; safe, since nothing is claimed of such a step. No
  arm raises it. -/
  | notModelled (mnemonic : String)
  deriving DecidableEq, Repr

/-! ## Names shared by several blocks -/

/-- The fault codes (Table 52). -/
inductive FaultCode where
  | flood | inletLeak | waterSupply | drainBlocked | overheat | tempSensor | pressureLoss | diverter | columnValve
  | brineTimeout | rinseTimeout | selector | doseLineDry | doorActuator | retainedInvalid | linkLost
  deriving DecidableEq, Repr

/-- Stages of a drying (Table 42). -/
inductive DryStage where
  | none | dwell | waitCool | opening | ajar | retracting | done
  deriving DecidableEq, Repr

/-- Why the link became LOST (Table 47). -/
inductive LostCause where
  | none | count | silence
  deriving DecidableEq, Repr

/-- A detail value of a fault entry. Numbers, columns and channels have their code in the manual; the code of the other
names is open (log entry 10). `absent` is a value the raising rule names and the moment does not have. -/
inductive Detail where
  | num (n : Nat)
  | column (col : Column)
  | channel (ch : Channel)
  | zone (z : Zone)
  | valve (p : ValvePos)
  | sensor (k : SensorKind)
  | stage (st : DryStage)
  | lost (cause : LostCause)
  | absent
  deriving DecidableEq, Repr

/-- A fault entry (R190, Table 55); phase 255 is no phase. -/
structure FaultEntry where
  code : FaultCode
  stamp : Word
  phase : Nat
  detail1 : Detail
  detail2 : Detail
  deriving DecidableEq, Repr

/-- The kinds of a phase other than DRY; they differ only in name (Table 6). -/
inductive WashKind where
  | prewash | main | rinse | finalRinse
  deriving DecidableEq, Repr

/-- One value for each zone. -/
structure PerZone (α : Type) where
  z1 : α
  z2 : α
  z3 : α
  z4 : α
  deriving DecidableEq, Repr

/-- A dose reference of a phase record, in 0.1 mL (Table 6). -/
structure DoseRef where
  channel : Channel
  base : Nat
  maximum : Nat
  deriving DecidableEq, Repr

/-- The fields of a phase record other than DRY (Table 6). -/
structure WashRecord where
  fillVolume : Nat
  target : Nat
  heatLimit : Nat
  holdTime : Nat
  weights : PerZone Nat
  slotLength : Nat
  refs : List DoseRef
  drain : Bool
  sample : Bool
  deriving DecidableEq, Repr

/-- A phase record as stored (Table 6, R2). -/
inductive Phase where
  | wash (kind : WashKind) (record : WashRecord)
  | dry (dwell openTime : Nat)
  deriving DecidableEq, Repr

/-- The configuration: the 27 parameters of Table 49 with their defaults. -/
structure ConfigRec where
  hRaw : Nat := 360
  hTgt : Nat := 50
  k : Nat := 480
  /-- in whole mmol -/
  nominal : Nat := 80
  /-- in nmol -/
  reserve : Nat := 1000000
  fitted : Nat := 3
  qb : Nat := 20
  stroke : PerChannel Nat := ⟨25, 25, 25⟩
  kh1 : Nat := 120
  kh2 : Nat := 80
  soil : Vector Nat 8 := #v[700, 800, 900, 1000, 1100, 1250, 1400, 1600]
  defaultSoil : Nat := 3
  /-- drying mode AUTO -/
  autoDry : Bool := true
  rDry : Nat := 250
  openLimit : Nat := 55
  gapTarget : Nat := 800
  fillLimit : Nat := 240
  silenceLimit : Nat := 30
  deriving DecidableEq, Repr

/-! ## SEQ -/

/-- Sequencer states (Table 7). -/
inductive SeqState where
  | idle | running | holding | suspended | waitWater | ending | ended | faulted
  deriving DecidableEq, Repr

/-- Sub-stages (R8). -/
inductive SubStage where
  | none | fill | dose | heat | circulate | drain | dry
  deriving DecidableEq, Repr

/-- What SUSPENDED remembers (R24). -/
inductive Remembered where
  | none | sub (stage : SubStage) | waitWater
  deriving DecidableEq, Repr

/-- How a program ended (Table 8). -/
inductive Outcome where
  | none | completed | aborted | faulted
  deriving DecidableEq, Repr

/-- The program summary (Table 8). -/
structure Summary where
  phasesRun : Nat := 0
  water : Nat := 0
  dose : PerChannel Nat := ⟨0, 0, 0⟩
  columns : List Column := []
  breakthrough : Nat := 0
  outcome : Outcome := .none
  deriving DecidableEq, Repr

/-- The Phase Sequencer (R1, R7). -/
structure Seq where
  table : Vector (Option Phase) 12 := Vector.replicate 12 none
  count : Nat := 0
  state : SeqState := .idle
  idx : Nat := 0
  sub : SubStage := .none
  remembered : Remembered := .none
  /-- the phase in progress has asked its main fill (R6, R25) -/
  fillBegun : Bool := false
  soil : Nat := 3
  summary : Summary := {}
  holdPending : Bool := false
  fault : Option FaultCode := none
  topUpMark : Bool := false
  fillTimeouts : Nat := 0
  holdTimer : Nat := 0
  settling : Option Nat := none
  /-- time left of the water wait (R10); frozen in SUSPENDED -/
  waterWait : Option Nat := none
  /-- time used of the drain extension (R30) -/
  extension : Option Nat := none
  /-- heating disabled for the rest of the program, as reported by HTC (R12) -/
  heaterOff : Bool := false
  /-- the limit left that HTC reported at the last withdrawal (R132) -/
  heatLeft : Nat := 0
  /-- arrival numbers of the dose requests of this phase that have not ended (R11) -/
  placed : List Nat := []
  permit : Bool := false
  deriving DecidableEq, Repr

/-! ## WPC -/

/-- The holder of the inlet (Table 11). -/
inductive Holder where
  | none | fill | brine | rinse
  deriving DecidableEq, Repr

/-- The kind of a FILL request. -/
inductive FillKind where
  | main | topUp
  deriving DecidableEq, Repr

/-- Why a FILL grant ended (R41, R43, R51). -/
inductive FillEnd where
  | volumeReached | highLevel | limitExpired | withdrawn | revoked
  deriving DecidableEq, Repr

/-- SEQ's request for the inlet; HELD when `held`, else WAITING. -/
structure FillReq where
  target : Nat
  kind : FillKind
  held : Bool
  deriving DecidableEq, Repr

/-- The kind of RGE's request. -/
inductive RegenKind where
  | brine | rinse
  deriving DecidableEq, Repr

/-- RGE's request for the inlet; HELD when `held`, else WAITING. -/
structure RegenReq where
  kind : RegenKind
  held : Bool
  deriving DecidableEq, Repr

/-- The state of a SEQ drain request with the time its stage has used, in s (R47, R48). -/
inductive DrainStage where
  | pumping (used : Nat) | paused (used : Nat) | runOn (used : Nat) | kept
  deriving DecidableEq, Repr

/-- A SEQ drain request; `second` marks attempt 2. -/
structure SeqDrain where
  stage : DrainStage
  second : Bool
  deriving DecidableEq, Repr

/-- RGE's drain burst (R49); RUNNING carries the time used. -/
inductive Burst where
  | waiting | running (used : Nat)
  deriving DecidableEq, Repr

/-- The flood request (R51, R52); RUN_ON carries the time left. -/
inductive FloodReq where
  | active | runOn (left : Nat)
  deriving DecidableEq, Repr

/-- The Water Path Controller (Table 11, Table 13). -/
structure Wpc where
  holder : Holder := .none
  fill : Option FillReq := none
  regen : Option RegenReq := none
  latchedK : Nat := 480
  residue : Nat := 0
  grantCount : Nat := 0
  fillTimer : Option Nat := none
  strayResidue : Nat := 0
  strayCount : Nat := 0
  sumpEmpty : Bool
  heaterCover : Bool
  highLevel : Bool
  flood : Bool
  seqDrain : Option SeqDrain := none
  burst : Option Burst := none
  leak : Option Nat := none
  floodReq : Option FloodReq := none
  inhibit : Bool := false
  inletValve : Bool := false
  brineValve : Bool := false
  drainPump : Bool := false
  deriving DecidableEq, Repr

/-! ## SFU -/

/-- A column record but for its id and state: the id is where it is kept, the state is its place (R55, log entry 25). -/
structure ColRec where
  remaining : Nat := 0
  exhausted : Bool := true
  regens : Nat := 0
  degraded : Bool := false
  deriving DecidableEq, Repr

/-- Column states (Table 16). -/
inductive ColState where
  | service | ready | waiting | regenerating | retired | faulted
  deriving DecidableEq, Repr

/-- The fill hardness record (Table 19); the latched values stand beside it in `Sfu`. -/
structure FillRec where
  isOpen : Bool := false
  v : Nat := 0
  g : Nat := 0
  hFill : Nat := 0
  breakthrough : Nat := 0
  deriving DecidableEq, Repr

/-- An unconfirmed column valve move; `homing` marks a move that ends a homing (R76). -/
structure ValveMove where
  target : ValvePos
  used : Nat
  homing : Bool
  deriving DecidableEq, Repr

/-- The Softener Unit (Tables 15 to 19). -/
structure Sfu where
  colA : ColRec := {}
  colB : ColRec := {}
  /-- absent with two columns fitted (R54) -/
  colC : Option ColRec := some {}
  service : Option Column := none
  ready : List Column := []
  regenQ : List Column := []
  retired : List Column := []
  faulted : List Column := []
  rho : Nat := 0
  hRaw : Nat := 0
  hTgt : Nat := 0
  blend : Nat := 1000
  duty : Nat := 1000
  fill : FillRec := {}
  topUpCount : Nat := 0
  topUpMark : Bool := false
  /-- none is UNKNOWN -/
  valvePos : Option ValvePos := none
  valveMove : Option ValveMove := none
  failedValve : Option ValvePos := none
  valveFault : Bool := false
  deriving DecidableEq, Repr

/-! ## RGE -/

/-- Engine states (Table 24). -/
inductive RgeState where
  | idle | brineWait | brineDraw | dwell | rinseWait | rinse | effluentDrain
  deriving DecidableEq, Repr

/-- The timeout mark (Table 23). -/
inductive TimeoutMark where
  | none | brine | rinse
  deriving DecidableEq, Repr

/-- The completion result (R89). -/
structure RegenResult where
  remaining : Nat
  degraded : Bool
  deriving DecidableEq, Repr

/-- The Regeneration Engine (Table 23). -/
structure Rge where
  state : RgeState := .idle
  column : Option Column := none
  qb : Nat := 0
  deficit : Nat := 0
  brineTarget : Nat := 0
  brineDrawn : Nat := 0
  dwellTime : Nat := 0
  dwellLeft : Nat := 0
  rinseTarget : Nat := 0
  rinseDelivered : Nat := 0
  stageTime : Nat := 0
  saltMark : Bool := false
  timeout : TimeoutMark := .none
  result : Option RegenResult := none
  routing : Option Column := none
  lidOpen : Bool
  saltLow : Bool
  deriving DecidableEq, Repr

/-! ## DSU -/

/-- A reservoir record but for its constants and its stroke volume, which is the configuration's (Tables 27, 28). -/
structure Reservoir where
  fitted : Bool
  level : Nat
  empty : Bool
  lowNotified : Bool
  capOpened : Bool := false
  deriving DecidableEq, Repr

/-- Who placed a dose request (Table 31). -/
inductive Origin where
  | sequencer (phase : Nat) | hostPrime
  deriving DecidableEq, Repr

/-- Outcomes of a dose request (Table 31). -/
inductive DoseOutcome where
  | full | underdose | cancelled
  deriving DecidableEq, Repr

/-- Underdose reasons (Table 31). -/
inductive DoseReason where
  | channelEmpty | levelLow | lineDry | selector | primeUnconfirmed
  deriving DecidableEq, Repr

/-- States of a request that stands in the queue (Table 31); a DONE or CANCELLED request has left it (R114). -/
inductive DoseState where
  | queued | active
  deriving DecidableEq, Repr

/-- A dose request record (Table 31). `cancel` is the model's mark that a cancellation waits for the stroke or move in
progress (R126). -/
structure DoseReq where
  channel : Channel
  origin : Origin
  volume : Nat
  target : Nat
  strokeVolume : Nat
  arrival : Nat
  state : DoseState := .queued
  commanded : Nat := 0
  confirmed : Nat := 0
  misses : Nat := 0
  confirmations : Nat := 0
  cancel : Bool := false
  deriving DecidableEq, Repr

/-- States of the pump arbiter (Table 32). -/
inductive DsuState where
  | idle | gathering | serving | paused
  deriving DecidableEq, Repr

/-- An unconfirmed selector homing (target 1) or move, with the time used in s. -/
structure SelectorMove where
  homing : Bool
  target : Channel
  used : Nat
  deriving DecidableEq, Repr

/-- The Dosing Unit (Table 32). The dose queue is `batch` in sweep order, then `waiting` in order of acceptance; the
current request is the ACTIVE one at the head of the batch (R114, R117). -/
structure Dsu where
  r1 : Reservoir
  r2 : Reservoir
  r3 : Reservoir
  lowSw : PerChannel Bool
  capSw : PerChannel Bool
  state : DsuState := .idle
  windowLeft : Nat := 0
  batch : List DoseReq := []
  waiting : List DoseReq := []
  next : Nat := 0
  /-- none is UNKNOWN -/
  selector : Option Channel := none
  move : Option SelectorMove := none
  /-- the stroke awaiting its confirmation, with the time used in ms -/
  stroke : Option Nat := none
  pause : Bool := false
  deriving DecidableEq, Repr

/-! ## HTC -/

/-- A heat request; HEATING when `heating`, else REGULATING (R132). -/
structure HeatReq where
  target : Nat
  heating : Bool
  deriving DecidableEq, Repr

/-- What the heater is fed (Table 33). -/
inductive HeaterOutput where
  | off | full | half
  deriving DecidableEq, Repr

/-- The Heater Controller (Table 34). -/
structure Htc where
  /-- none is INVALID -/
  temp : Option Nat := none
  valid : Bool := true
  faultKind : Option SensorKind := none
  /-- the last valid reading, which a TEMP_SENSOR fault carries (R131) -/
  lastValid : Option Nat := none
  request : Option HeatReq := none
  limitLeft : Nat := 0
  demand : Bool := false
  /-- power mode HALF -/
  half : Bool := false
  output : HeaterOutput := .off
  lockout : Bool := false
  lossCount : Nat := 0
  phaseDisable : Bool := false
  programDisable : Bool := false
  deriving DecidableEq, Repr

/-! ## CZS -/

/-- An unconfirmed diverter homing (target Z1) or move, with the time used in s. -/
structure DiverterMove where
  homing : Bool
  target : Zone
  used : Nat
  deriving DecidableEq, Repr

/-- The Circulation and Zone Scheduler (Table 38). -/
structure Czs where
  pump : Bool := false
  /-- the filtered reading is PRESSURE -/
  reading : Bool
  /-- pressure condition CONFIRMED -/
  confirmed : Bool := false
  lowTimer : Option Nat := none
  episode : Bool := false
  weights : PerZone Nat := ⟨0, 0, 0, 0⟩
  slotLength : Nat := 10
  started : Bool := false
  zone : Option Zone := none
  slotsGiven : Nat := 0
  slotTime : Nat := 0
  /-- none is UNKNOWN -/
  position : Option Zone := none
  move : Option DiverterMove := none
  failed : Option Zone := none
  fixed : Bool := false
  arm1 : Option Nat := none
  arm2 : Option Nat := none
  stall1 : Nat := 0
  stall2 : Nat := 0
  /-- the MODEL's own: the supervised arm whose pulse has come since the last second (R156, log entry 40) -/
  pulsed : Option Arm := none
  /-- the MODEL's own: a stall, or the end of a slot that had waited for the pump, has begun the slot in progress since the last
  second (R156, R146, log entries 40, 69) -/
  slotOfStall : Bool := false
  deriving DecidableEq, Repr

/-! ## DDU -/

/-- What the actuator motor is commanded to do (Table 42). -/
inductive Drive where
  | outward | inward | stopped
  deriving DecidableEq, Repr

/-- Drying outcomes (Table 43). -/
inductive DryOutcome where
  | none | completed | completedClosed | openedByUser | closedByUser | actuatorFault | ended | interrupted
  deriving DecidableEq, Repr

/-- A drying start: dwell and open time. -/
structure DryStart where
  dwell : Nat
  openTime : Nat
  deriving DecidableEq, Repr

/-- The Door Drying Unit (Table 42). -/
structure Ddu where
  doorOpen : Bool
  fitted : Bool
  count : Nat := 0
  homed : Bool := false
  drive : Drive := .stopped
  /-- the stall timer, in ms -/
  stall : Option Nat := none
  stage : DryStage := .none
  /-- drying form OPEN -/
  formOpen : Bool := true
  /-- time left in DWELL or AJAR, time used in WAIT_COOL -/
  stageTime : Nat := 0
  dwell : Nat := 0
  openTime : Nat := 0
  /-- latched drying mode AUTO -/
  autoMode : Bool := false
  gapTarget : Nat := 0
  openLimit : Nat := 0
  gapHeld : Nat := 0
  retryUsed : Bool := false
  retryPause : Option Nat := none
  expired : Bool := false
  gapShort : Bool := false
  outcome : DryOutcome := .none
  awaited : Bool := false
  pendingStart : Option DryStart := none
  /-- the model's mark: a RESET UNIT DOOR ends the pending start when its homing ends (R172) -/
  dropPending : Bool := false
  deriving DecidableEq, Repr

/-! ## Notices (Table 51) -/

/-- Wake sources (R197). -/
inductive WakeSource where
  | door | saltLid | cap (ch : Channel) | flood | link
  deriving DecidableEq, Repr

/-- Part states (Table 56). -/
inductive PartState where
  | down | starting | ready | standby | shuttingDown | shut
  deriving DecidableEq, Repr

/-- Why the service position changed (R63). -/
inductive SwitchReason where
  | exhausted | ready | hostRegenerate | retire | release | fittedColumns
  deriving DecidableEq, Repr

/-- Outcomes of a regeneration (R99). -/
inductive RegenOutcome where
  | completed | degraded | faulted | abandoned | retired
  deriving DecidableEq, Repr

/-- The place a column joined (R99). -/
inductive ColPlace where
  | readyQueue | regenQueue | faultedSet | retiredSet
  deriving DecidableEq, Repr

/-- The content of DOSE_DONE and UNDERDOSE (R124). -/
structure DoseReport where
  channel : Channel
  origin : Origin
  target : Nat
  commanded : Nat
  confirmed : Nat
  volume : Nat
  outcome : DoseOutcome
  reason : Option DoseReason
  deriving DecidableEq, Repr

/-- The content of REGEN_DONE (R99). -/
structure RegenReport where
  column : Column
  outcome : RegenOutcome
  remaining : Nat
  place : ColPlace
  regens : Nat
  brineDrawn : Nat
  rinseDelivered : Nat
  timeout : TimeoutMark
  deriving DecidableEq, Repr

/-- The content of DRY_STAGE (R170); a field of another stage is absent. -/
structure DryReport where
  stage : DryStage
  formOpen : Bool
  count : Nat
  phase : Nat
  expired : Option Bool
  gap : Option (Nat × Bool)
  outcome : Option DryOutcome
  deriving DecidableEq, Repr

/-- The kind of a phase, as notices name it. -/
inductive PhaseKind where
  | wash (kind : WashKind) | dry
  deriving DecidableEq, Repr

/-- The content of a notice, by kind (Table 51). -/
inductive Content where
  | ready (startedFrom : PartState) (faults : List FaultCode)
  | wake (source : WakeSource)
  | door (doorOpen : Bool) (count : Nat) (stage : DryStage)
  | phaseBegin (idx : Nat) (kind : PhaseKind)
  | phaseEnd (idx : Nat) (kind : PhaseKind)
  | holdReached (idx : Nat)
  | programEnd (summary : Summary)
  | waterWait (idx : Nat)
  | heatTimeout (phase target : Nat) (temp : Option Nat)
  | tempWarn (temp : Nat) (phase : Option Nat)
  | armStall (arm : Arm) (phase stalls : Nat) (dropped : Bool)
  | columnSwitch (outgoing incoming : Option Column) (reason : SwitchReason) (remaining v : Nat)
  | breakthrough (col : Column) (kind : FillKind) (volume : Nat)
  | regenDone (report : RegenReport)
  | saltLow (col : Column) (drawn : Nat)
  | doseDone (report : DoseReport)
  | underdose (report : DoseReport)
  | reservoirLow (ch : Channel) (level : Nat)
  | dryStage (report : DryReport)
  | shutdownDone (abrupt : Bool)
  | linkRecovered (cause : LostCause) (stamp : Word) (pending : Nat)
  | fault (entry : FaultEntry)
  deriving DecidableEq, Repr

/-- A pending notice (R187). -/
structure Notice where
  content : Content
  stamp : Word
  repeats : Nat
  deriving DecidableEq, Repr

/-! ## The retained store -/

/-- The retained records, in the order of Table 58. -/
inductive RecordId where
  | config | faults | columns | reservoirs
  deriving DecidableEq, Repr

/-- The contents of the column records (Table 58): the records, the places and the order of the queues. -/
structure RetainedColumns where
  colA : ColRec
  colB : ColRec
  colC : Option ColRec
  service : Option Column
  ready : List Column
  regenQ : List Column
  engine : Option Column
  retired : List Column
  faulted : List Column
  deriving DecidableEq, Repr

/-- The contents of the reservoir records (Table 58): level and EMPTY mark of each channel. -/
structure RetainedReservoirs where
  level : PerChannel Nat
  empty : PerChannel Bool
  deriving DecidableEq, Repr

/-- The contents captured for a write in progress (R201). -/
inductive Captured where
  | config (contents : ConfigRec)
  | faults (contents : List FaultEntry)
  | columns (contents : RetainedColumns)
  | reservoirs (contents : RetainedReservoirs)
  deriving DecidableEq, Repr

/-- The Retained Store. A stored copy whose check byte matches is `some` contents, one whose check byte does not is `none`
(log entry 11). -/
structure Rst where
  config : Option ConfigRec := none
  faults : Option (List FaultEntry) := none
  columns : Option RetainedColumns := none
  reservoirs : Option RetainedReservoirs := none
  pendingWrites : List RecordId := []
  writing : Option Captured := none
  /-- the live fault history, oldest first (R204) -/
  history : List FaultEntry := []
  deriving DecidableEq, Repr

/-! ## Part state -/

/-- Shutdown status (R193). -/
inductive ShutStatus where
  | none | inProgress | complete
  deriving DecidableEq, Repr

/-- The four homings of STARTING (R195). -/
structure Homings where
  valve : Bool := false
  diverter : Bool := false
  selector : Bool := false
  actuator : Bool := false
  deriving DecidableEq, Repr

/-- The part as a whole (10.1, 10.2, 10.4). -/
structure Part where
  state : PartState := .down
  shutdown : ShutStatus := .none
  homings : Homings := {}
  homingFaults : List FaultCode := []
  startedFrom : PartState := .down
  /-- the mode of the shutdown is ABRUPT -/
  abrupt : Bool := false
  writesAsked : Bool := false
  powered : Bool := true
  pfw : Bool := false
  deriving DecidableEq, Repr

/-! ## Replies and the transmit line -/

/-- Reply statuses (Table 45). -/
inductive Status where
  | ok | clamped | unknownKind | badLength | badField | wrongState | busy | notReady | notFitted | badProgram
  deriving DecidableEq, Repr

/-- The record of READ COLUMN (Table 54). -/
structure ColumnReply where
  column : Column
  state : ColState
  remaining : Nat
  exhausted : Bool
  degraded : Bool
  regens : Nat
  place : Nat
  residue : Nat
  deriving DecidableEq, Repr

/-- The record of READ RESERVOIR (R107, note of Table 46). -/
structure ReservoirReply where
  channel : Channel
  fitted : Bool
  capacity : Nat
  level : Nat
  lowMark : Nat
  empty : Bool
  lowNotified : Bool
  capOpened : Bool
  strokeVolume : Nat
  lowSwitch : Bool
  capSwitch : Bool
  deriving DecidableEq, Repr

/-- The identity of R186. -/
structure Identity where
  designation : List Byte
  revision : Byte
  requestKinds : Nat
  noticeKinds : Nat
  largestPayload : Nat
  fittedColumns : Nat
  d3Fitted : Bool
  actuatorFitted : Bool
  stamp : Word
  deriving DecidableEq, Repr

/-- A dose request as GET STATUS reports it (R114). -/
structure DoseView where
  channel : Channel
  origin : Origin
  state : DoseState
  target : Nat
  confirmed : Nat
  deriving DecidableEq, Repr

/-- The status snapshot (Table 50), group by group. -/
structure PartView where
  state : PartState
  shutdown : ShutStatus
  stamp : Word
  deriving DecidableEq, Repr

structure SeqView where
  state : SeqState
  idx : Nat
  sub : SubStage
  remembered : Remembered
  holdPending : Bool
  fault : Option FaultCode
  permit : Bool
  extension : Bool
  deriving DecidableEq, Repr

structure WaterView where
  holder : Holder
  grantCount : Nat
  fill : Option FillReq
  regen : Option RegenReq
  drainPump : Bool
  seqDrain : Option SeqDrain
  burst : Option Burst
  leak : Option Nat
  floodReq : Option FloodReq
  strayCount : Nat
  sumpEmpty : Bool
  heaterCover : Bool
  highLevel : Bool
  flood : Bool
  deriving DecidableEq, Repr

structure SoftenerView where
  service : Option Column
  remaining : Option Nat
  ready : List Column
  regenQ : List Column
  retired : List Column
  faulted : List Column
  valvePos : Option ValvePos
  valveTarget : Option ValvePos
  valveFault : Bool
  deriving DecidableEq, Repr

structure RegenView where
  state : RgeState
  column : Option Column
  /-- the column's remaining capacity as its record keeps it until the hand-back (R89; Table 50 does not list it) -/
  remaining : Option Nat
  brineDrawn : Nat
  brineTarget : Nat
  rinseDelivered : Nat
  rinseTarget : Nat
  stageTime : Nat
  dwellLeft : Nat
  saltMark : Bool
  timeout : TimeoutMark
  result : Option RegenResult
  deriving DecidableEq, Repr

structure DosingView where
  state : DsuState
  pause : Bool
  selector : Option Channel
  selectorTarget : Option Channel
  current : Option DoseView
  batch : List DoseView
  waiting : List DoseView
  empty : PerChannel Bool
  deriving DecidableEq, Repr

structure HeatingView where
  temp : Option Nat
  output : HeaterOutput
  half : Bool
  lockout : Bool
  valid : Bool
  faultKind : Option SensorKind
  request : Option HeatReq
  limitLeft : Nat
  lossCount : Nat
  phaseDisable : Bool
  programDisable : Bool
  deriving DecidableEq, Repr

structure CirculationView where
  pump : Bool
  confirmed : Bool
  position : Option Zone
  target : Option Zone
  fixed : Bool
  zone : Option Zone
  slotsGiven : Nat
  slotTime : Nat
  slotLength : Nat
  weights : PerZone Nat
  stall1 : Nat
  stall2 : Nat
  deriving DecidableEq, Repr

structure DryingView where
  doorOpen : Bool
  count : Nat
  drive : Drive
  homed : Bool
  stage : DryStage
  outcome : DryOutcome
  deriving DecidableEq, Repr

/-- Link states (R181). -/
inductive LinkState where
  | down | up | degraded | lost
  deriving DecidableEq, Repr

structure LinkView where
  state : LinkState
  errors : Nat
  lostCause : LostCause
  pending : Nat
  deriving DecidableEq, Repr

structure Snapshot where
  part : PartView
  seq : SeqView
  water : WaterView
  softener : SoftenerView
  regen : RegenView
  dosing : DosingView
  heating : HeatingView
  circulation : CirculationView
  drying : DryingView
  link : LinkView
  latest : Option FaultEntry
  deriving DecidableEq, Repr

/-- What follows the status byte of a reply (Table 46). -/
inductive ReplyBody where
  | empty
  | partState (state : PartState)
  | config (id : Byte) (value : Nat)
  | mask (mask : BitVec 22)
  | unit (unit : Byte)
  | history (entries : List FaultEntry)
  | index (index : Byte)
  | phaseRecord (index : Byte) (record : Option Phase)
  | count (count : Byte)
  | column (record : ColumnReply)
  | reservoir (record : ReservoirReply)
  | level (ch : Channel) (level : Nat)
  | identity (identity : Identity)
  | snapshot (snapshot : Snapshot)
  | offending (index : Nat)
  deriving DecidableEq, Repr

/-- An owner's answer: status and what follows it. -/
structure Answer where
  status : Status
  body : ReplyBody
  deriving DecidableEq, Repr

/-- The awaiting request with its owner's answer, which the transmitter sends when the line is free (R177 to R179). -/
structure Awaiting where
  kind : Byte
  tag : Byte
  answer : Answer
  deriving DecidableEq, Repr

/-- The kind and tag of a frame to be answered BUSY (R177). -/
structure BusyAnswer where
  kind : Byte
  tag : Byte
  deriving DecidableEq, Repr

/-- A frame on the transmit line (R179). -/
inductive TxFrame where
  | reply (request : Awaiting)
  | busy (request : BusyAnswer)
  | notice (notice : Notice)
  deriving DecidableEq, Repr

/-- The Link Interface (Table 47). -/
structure Lnk where
  /-- receiver condition ASSEMBLING, else HUNTING -/
  assembling : Bool := false
  assembly : List Byte := []
  awaiting : Option Awaiting := none
  busy : Option BusyAnswer := none
  tx : Option TxFrame := none
  state : LinkState := .down
  errors : Nat := 0
  silence : Option Nat := none
  lostCause : LostCause := .none
  lostStamp : Word := 0#32
  notices : List Notice := []
  mask : BitVec 22 := BitVec.allOnes 22
  stamp : Word := 0#32
  latest : Option FaultEntry := none
  deriving DecidableEq, Repr

/-! ## The state -/

/-- A report from a block to the sequencer, taken in the order made (log entry 8). -/
inductive Report where
  | fillEnded (kind : FillKind) (reason : FillEnd) (count : Nat)
  | fillRefused
  | drainEnded
  | programFault (code : FaultCode)
  | targetReached
  | heatLimitExpired
  | heatDisabled
  | sensorFailed
  | doseEnded (arrival : Nat)
  | pressureLow
  | doorOpened
  | doorClosed
  | dryingDone (outcome : DryOutcome)
  | engineLeft
  | linkLost
  deriving DecidableEq, Repr

/-- The MODEL's own marks of two events that fall together, the one that ends a time or begins it anew being taken first (log
entries 69, 70). TIME_STAMP_TICK clears them all. -/
structure Ties where
  /-- the diverter's move under way was commanded in the step of the confirmation before it (R151) -/
  diverter : Bool := false
  /-- the selector's move under way was commanded in the step of the confirmation before it (R118) -/
  selector : Bool := false
  /-- the column valve's move under way was commanded in the step of the confirmation before it (R76) -/
  valve : Bool := false
  /-- a good frame has set the running silence timer back to 0 (R182) -/
  silence : Bool := false
  /-- the FILL grant was made in the step in which the one before it ended (R41) -/
  fill : Bool := false
  /-- the pump was stopped in a slot whose time counted (R146) -/
  slot : Bool := false
  /-- an encoder edge has set the stall timer back to 0 with the 300 ms right behind it (R160) -/
  stall : Bool := false
  deriving DecidableEq, Repr

/-- The whole part. -/
structure State where
  part : Part
  pins : Pins
  cfg : ConfigRec
  lnk : Lnk
  seq : Seq
  wpc : Wpc
  sfu : Sfu
  rge : Rge
  dsu : Dsu
  htc : Htc
  czs : Czs
  ddu : Ddu
  rst : Rst
  ties : Ties
  /-- the model's own: reports between blocks inside a step; empty between steps (log entry 8) -/
  reports : List Report
  /-- the commands waiting, first in first out -/
  pending : List Instr
  deriving DecidableEq, Repr

/-- The inputs of State.reset: a machine standing dry with every door, cap and lid closed and every unit fitted
(DESIGN CHOICE, log entry 6). -/
def Pins.quiet : Pins where
  sumpEmpty := true
  heaterCover := false
  highLevel := false
  flood := false
  lidOpen := false
  saltLow := false
  pressure := false
  doorOpen := false
  home := true
  low := ⟨false, false, false⟩
  capOpen := ⟨false, false, false⟩
  booster := true
  actuator := true
  sensor := .measured 80
  turbidity := 1000
  pfw := false

/-- A RETAINED_INVALID entry as it stands at time stamp 0 (R203, R190). -/
def State.invalidEntry (record : Nat) : FaultEntry :=
  ⟨.retainedInvalid, 0#32, 255, .num record, .num 0⟩

/-- The part right after its first power-on: every field at its reset value, the four retained records, never written,
found invalid and restored with their defaults, the four RETAINED_INVALID faults entered, the four writes asked and the
first of them, the fault history's, begun (R193, R203, R201; log entries 6, 9 and 34). -/
def State.reset : State where
  part := {}
  pins := Pins.quiet
  cfg := {}
  lnk :=
    { notices := [⟨.fault (State.invalidEntry 4), 0#32, 3⟩]
      latest := some (State.invalidEntry 4) }
  seq := { permit := true }
  wpc := { sumpEmpty := true, heaterCover := false, highLevel := false, flood := false }
  sfu := { regenQ := [.a, .b, .c] }
  rge := { lidOpen := false, saltLow := false }
  dsu :=
    { r1 := ⟨true, 0, true, true, false⟩
      r2 := ⟨true, 0, true, true, false⟩
      r3 := ⟨true, 0, true, true, false⟩
      lowSw := ⟨false, false, false⟩
      capSw := ⟨false, false, false⟩ }
  htc := {}
  czs := { reading := false }
  ddu := { doorOpen := false, fitted := true }
  rst :=
    { pendingWrites := [.config, .columns, .reservoirs]
      writing := some (.faults [State.invalidEntry 1, State.invalidEntry 2, State.invalidEntry 3, State.invalidEntry 4])
      history := [State.invalidEntry 1, State.invalidEntry 2, State.invalidEntry 3, State.invalidEntry 4] }
  ties := {}
  reports := []
  pending := []

end Sys2Proof.Machine
end

