-- ==== Sys2Proof/Machine/Ops.lean ====
section
/-! DEFINITION. The operations shared by the blocks: raising notices and faults, asking and beginning retained writes,
beginning a transmission, reports to the sequencer, what is sensed in which part state, and the access to the records
kept per column, channel and zone. -/

namespace Sys2Proof.Machine

/-! ## The shape of a meaning -/

/-- What a meaning answers: the next state. -/
abbrev Step := Host.Outcome State Fault Refusal

/-- A command acts on a part that has power; without it nothing is received and nothing sensed (R202, log entry 32). -/
def whenPowered (f : State → State) (s : State) : Step := .next (if s.part.powered then f s else s)

/-! ## One block at a time -/

def onPart (f : Part → Part) (s : State) : State := { s with part := f s.part }
def onPins (f : Pins → Pins) (s : State) : State := { s with pins := f s.pins }
def onCfg (f : ConfigRec → ConfigRec) (s : State) : State := { s with cfg := f s.cfg }
def onLnk (f : Lnk → Lnk) (s : State) : State := { s with lnk := f s.lnk }
def onSeq (f : Seq → Seq) (s : State) : State := { s with seq := f s.seq }
def onWpc (f : Wpc → Wpc) (s : State) : State := { s with wpc := f s.wpc }
def onSfu (f : Sfu → Sfu) (s : State) : State := { s with sfu := f s.sfu }
def onRge (f : Rge → Rge) (s : State) : State := { s with rge := f s.rge }
def onDsu (f : Dsu → Dsu) (s : State) : State := { s with dsu := f s.dsu }
def onHtc (f : Htc → Htc) (s : State) : State := { s with htc := f s.htc }
def onCzs (f : Czs → Czs) (s : State) : State := { s with czs := f s.czs }
def onDdu (f : Ddu → Ddu) (s : State) : State := { s with ddu := f s.ddu }
def onRst (f : Rst → Rst) (s : State) : State := { s with rst := f s.rst }
def onTies (f : Ties → Ties) (s : State) : State := { s with ties := f s.ties }
def onReports (f : List Report → List Report) (s : State) : State := { s with reports := f s.reports }

/-! ## One value per channel and per zone -/

def perChannelGet {α : Type} (p : PerChannel α) : Channel → α
  | .d1 => p.d1
  | .d2 => p.d2
  | .d3 => p.d3

def perChannelSet {α : Type} (p : PerChannel α) (ch : Channel) (v : α) : PerChannel α :=
  match ch with
  | .d1 => { p with d1 := v }
  | .d2 => { p with d2 := v }
  | .d3 => { p with d3 := v }

def perZoneGet {α : Type} (p : PerZone α) : Zone → α
  | .z1 => p.z1
  | .z2 => p.z2
  | .z3 => p.z3
  | .z4 => p.z4

def perZoneSet {α : Type} (p : PerZone α) (z : Zone) (v : α) : PerZone α :=
  match z with
  | .z1 => { p with z1 := v }
  | .z2 => { p with z2 := v }
  | .z3 => { p with z3 := v }
  | .z4 => { p with z4 := v }

/-! ## Notices (R187) -/

/-- The code of a notice's kind (Table 51). -/
def noticeCode : Content → Nat
  | .ready .. => 1
  | .wake .. => 2
  | .door .. => 3
  | .phaseBegin .. => 4
  | .phaseEnd .. => 5
  | .holdReached .. => 6
  | .programEnd .. => 7
  | .waterWait .. => 8
  | .heatTimeout .. => 9
  | .tempWarn .. => 10
  | .armStall .. => 11
  | .columnSwitch .. => 12
  | .breakthrough .. => 13
  | .regenDone .. => 14
  | .saltLow .. => 15
  | .doseDone .. => 16
  | .underdose .. => 17
  | .reservoirLow .. => 18
  | .dryStage .. => 19
  | .shutdownDone .. => 20
  | .linkRecovered .. => 21
  | .fault .. => 22

/-- Enter an event in the notice set: in place of the pending notice of its kind, with the repeat count raised and
stopping at 255, else at the tail (R187). -/
def enterNotice (c : Content) (stamp : Word) : List Notice → List Notice
  | [] => [⟨c, stamp, 0⟩]
  | n :: rest =>
    if noticeCode n.content = noticeCode c then ⟨c, stamp, min 255 (n.repeats + 1)⟩ :: rest
    else n :: enterNotice c stamp rest

/-- A kind is enabled by its mask bit; FAULT cannot be masked (R189, R190). -/
def noticeEnabled (mask : BitVec 22) (code : Nat) : Bool :=
  code == 22 || mask.getLsbD (code - 1)

/-- A block raises an event (R187). -/
def raiseNotice (c : Content) (s : State) : State :=
  if noticeEnabled s.lnk.mask (noticeCode c) then
    onLnk (fun l => { l with notices := enterNotice c l.stamp l.notices }) s
  else s

/-! ## Retained writes (R201) -/

/-- Ask a write of a record: it joins the tail of the list unless it stands in it (R201). -/
def askRecord (id : RecordId) (r : Rst) : Rst :=
  if id ∈ r.pendingWrites then r else { r with pendingWrites := r.pendingWrites ++ [id] }

def askWrite (id : RecordId) (s : State) : State := onRst (fun r => askRecord id r) s

/-- Ask a write of all four records (R198, R199, R202): configuration, fault history, column records, reservoir records. R202
gives this order for the power-fail warning; that a shutdown asks in the same one is the model's (DESIGN CHOICE, log entry 67).
-/
def askAllWrites (s : State) : State :=
  askWrite .reservoirs (askWrite .columns (askWrite .faults (askWrite .config s)))

/-- The contents of a record as its owner holds them now (Table 58). -/
def captureRecord (s : State) : RecordId → Captured
  | .config => .config s.cfg
  | .faults => .faults s.rst.history
  | .columns =>
    .columns ⟨s.sfu.colA, s.sfu.colB, s.sfu.colC, s.sfu.service, s.sfu.ready, s.sfu.regenQ, s.rge.column, s.sfu.retired,
      s.sfu.faulted⟩
  | .reservoirs =>
    .reservoirs ⟨⟨s.dsu.r1.level, s.dsu.r2.level, s.dsu.r3.level⟩, ⟨s.dsu.r1.empty, s.dsu.r2.empty, s.dsu.r3.empty⟩⟩

/-- Begin the next write when none is in progress (R201). -/
def beginWrite (s : State) : State :=
  match s.rst.writing, s.rst.pendingWrites with
  | none, id :: rest => onRst (fun r => { r with pendingWrites := rest, writing := some (captureRecord s id) }) s
  | _, _ => s

/-! ## Faults (R190, R204) -/

/-- Append an entry to the fault history, whose oldest entry goes when it holds 16 (R204). -/
def appendHistory (e : FaultEntry) (h : List FaultEntry) : List FaultEntry :=
  if Config.historySize ≤ h.length then h.tail ++ [e] else h ++ [e]

/-- A program runs (R190): the sequencer is in none of IDLE, ENDED and FAULTED. -/
def programRuns (s : State) : Bool :=
  match s.seq.state with
  | .idle | .ended | .faulted => false
  | .running | .holding | .suspended | .waitWater | .ending => true

/-- The phase index that a fault entry carries; 255 when no program runs (R190). -/
def faultPhase (s : State) : Nat := if programRuns s then s.seq.idx else 255

/-- The fault entry of a raise (R190). -/
def faultEntry (code : FaultCode) (d1 d2 : Detail) (s : State) : FaultEntry :=
  ⟨code, s.lnk.stamp, faultPhase s, d1, d2⟩

/-- What LNK does with a fault entry: the history with its write, the FAULT notice, the latest fault (R190, R204). -/
def enterFault (e : FaultEntry) (s : State) : State :=
  let s := askWrite .faults (onRst (fun r => { r with history := appendHistory e r.history }) s)
  let s := raiseNotice (.fault e) s
  onLnk (fun l => { l with latest := some e }) s

/-- A block raises a fault. -/
def raiseFault (code : FaultCode) (d1 d2 : Detail) (s : State) : State :=
  enterFault (faultEntry code d1 d2 s) s

/-! ## Reports to the sequencer (log entry 8) -/

def report (r : Report) (s : State) : State := onReports (fun l => l ++ [r]) s

/-! ## The transmit line (R179) -/

/-- The link state lets notices be sent (R179, R181). -/
def linkSends (s : State) : Bool :=
  match s.lnk.state with
  | .up | .degraded => true
  | .down | .lost => false

/-- Begin the next frame when the line is free: the reply, the BUSY answer, the head of the notice set (R179, R188). -/
def beginTransmit (s : State) : State :=
  match s.lnk.tx with
  | some _ => s
  | none =>
    match s.lnk.awaiting, s.lnk.busy with
    | some a, _ => onLnk (fun l => { l with tx := some (.reply a) }) s
    | none, some b => onLnk (fun l => { l with tx := some (.busy b) }) s
    | none, none =>
      match s.lnk.notices with
      | [] => s
      | n :: rest =>
        if linkSends s then onLnk (fun l => { l with tx := some (.notice n), notices := rest }) s else s

/-- The end of every step: the retained store and the transmitter take up their next work (log entry 9). -/
def finish (s : State) : State := beginTransmit (beginWrite s)

/-! ## What is sensed (R193, R196, R198) -/

/-- The part state in which the machine's inputs are sensed. -/
def senses (s : State) : Bool :=
  match s.part.state with
  | .starting | .ready | .shuttingDown => true
  | .down | .standby | .shut => false

/-- The door, the salt lid and the caps are sensed in STANDBY too (R196). -/
def sensesOutside (s : State) : Bool := senses s || s.part.state == .standby

/-- Columns are handed to the engine (R80). -/
def handsOver (s : State) : Bool := s.part.state == .starting || s.part.state == .ready

/-- The silence timer counts (R182). -/
def silenceCounts (s : State) : Bool := linkSends s && senses s

/-! ## Columns -/

/-- The record of a column; a column without record reads as an empty one. -/
def columnRec (f : Sfu) : Column → ColRec
  | .a => f.colA
  | .b => f.colB
  | .c => f.colC.getD {}

/-- Write the record of a column; column C only while it has one (R54). -/
def setColumnRec (f : Sfu) (col : Column) (r : ColRec) : Sfu :=
  match col with
  | .a => { f with colA := r }
  | .b => { f with colB := r }
  | .c => { f with colC := f.colC.map fun _ => r }

/-- Column C exists while three columns are fitted (R54). -/
def columnFitted (s : State) : Column → Bool
  | .a | .b => true
  | .c => s.cfg.fitted == 3

/-- Remove a column from a queue or set; what stands behind it closes up. -/
def dropColumn (col : Column) (l : List Column) : List Column := l.filter fun x => x != col

/-- The state of a column, which names its place (R55, Table 16). -/
def columnState (s : State) (col : Column) : ColState :=
  if s.sfu.service = some col then .service
  else if col ∈ s.sfu.ready then .ready
  else if col ∈ s.sfu.regenQ then .waiting
  else if s.rge.column = some col then .regenerating
  else if col ∈ s.sfu.retired then .retired
  else .faulted

/-- The nominal capacity in nmol (Table 49: the parameter is in mmol). -/
def nominalCapacity (s : State) : Nat := s.cfg.nominal * 1000000

/-! ## Channels -/

def reservoirOf (d : Dsu) : Channel → Reservoir
  | .d1 => d.r1
  | .d2 => d.r2
  | .d3 => d.r3

def setReservoir (d : Dsu) (ch : Channel) (r : Reservoir) : Dsu :=
  match ch with
  | .d1 => { d with r1 := r }
  | .d2 => { d with r2 := r }
  | .d3 => { d with r3 := r }

/-! ## The sequencer's current phase -/

/-- The kind of a phase as notices name it. -/
def phaseKind : Phase → PhaseKind
  | .wash k _ => .wash k
  | .dry .. => .dry

/-- The record of a slot. -/
def phaseAt (q : Seq) (i : Nat) : Option Phase := (q.table[i]?).join

/-- The record of the current phase; the manual edits no slot at or below the current index (R4). -/
def currentPhase (s : State) : Option Phase := phaseAt s.seq s.seq.idx

/-- The wash fields of the current phase, if it has them. -/
def currentWash (s : State) : Option WashRecord :=
  match currentPhase s with
  | some (.wash _ r) => some r
  | _ => none

/-- Sequencer RUNNING in a sub-stage. -/
def runningIn (s : State) (st : SubStage) : Bool := s.seq.state == .running && s.seq.sub == st

end Sys2Proof.Machine
end

