-- ==== Sys2Proof/Machine/Operands.lean ====
section
/-! DEFINITION. The operand fields of requests: column, channel and unit codes, the 27 parameters with their ranges
(Table 49), and the examination of a phase record (R2). -/

namespace Sys2Proof.Machine

/-! ## Codes -/

/-- A column id of Table 46. -/
def columnOfCode (b : Byte) : Option Column :=
  match b.toNat with
  | 1 => some .a
  | 2 => some .b
  | 3 => some .c
  | _ => none

/-- A channel code of Table 46. -/
def channelOfCode (b : Byte) : Option Channel :=
  match b.toNat with
  | 1 => some .d1
  | 2 => some .d2
  | 3 => some .d3
  | _ => none

/-- The units of RESET UNIT (R191, R200). -/
inductive UnitCode where
  | sequencer | softener | dosing | door | link
  deriving DecidableEq, Repr

def unitOfCode (b : Byte) : Option UnitCode :=
  match b.toNat with
  | 1 => some .sequencer
  | 2 => some .softener
  | 3 => some .dosing
  | 4 => some .door
  | 5 => some .link
  | _ => none

/-! ## Parameters (Table 49) -/

/-- The range of a parameter; none outside 1..27. -/
def paramRange (id : Nat) : Option (Nat × Nat) :=
  match id with
  | 1 => some (0, 1000)
  | 2 => some (0, 300)
  | 3 => some (200, 1000)
  | 4 => some (20, 200)
  | 5 => some (0, 10000000)
  | 6 => some (2, 3)
  | 7 => some (10, 50)
  | 8 | 9 | 10 => some (10, 50)
  | 11 | 12 => some (0, 300)
  | 13 | 14 | 15 | 16 | 17 | 18 | 19 | 20 => some (500, 2000)
  | 21 => some (0, 7)
  | 22 => some (0, 1)
  | 23 => some (0, 500)
  | 24 => some (40, 70)
  | 25 => some (300, 1100)
  | 26 => some (60, 600)
  | 27 => some (5, 120)
  | _ => none

/-- The stored value of a parameter. -/
def paramGet (c : ConfigRec) (id : Nat) : Nat :=
  match id with
  | 1 => c.hRaw
  | 2 => c.hTgt
  | 3 => c.k
  | 4 => c.nominal
  | 5 => c.reserve
  | 6 => c.fitted
  | 7 => c.qb
  | 8 => c.stroke.d1
  | 9 => c.stroke.d2
  | 10 => c.stroke.d3
  | 11 => c.kh1
  | 12 => c.kh2
  | 13 => c.soil[0]
  | 14 => c.soil[1]
  | 15 => c.soil[2]
  | 16 => c.soil[3]
  | 17 => c.soil[4]
  | 18 => c.soil[5]
  | 19 => c.soil[6]
  | 20 => c.soil[7]
  | 21 => c.defaultSoil
  | 22 => if c.autoDry then 1 else 0
  | 23 => c.rDry
  | 24 => c.openLimit
  | 25 => c.gapTarget
  | 26 => c.fillLimit
  | 27 => c.silenceLimit
  | _ => 0

/-- Store the value of a parameter. -/
def paramSet (c : ConfigRec) (id v : Nat) : ConfigRec :=
  match id with
  | 1 => { c with hRaw := v }
  | 2 => { c with hTgt := v }
  | 3 => { c with k := v }
  | 4 => { c with nominal := v }
  | 5 => { c with reserve := v }
  | 6 => { c with fitted := v }
  | 7 => { c with qb := v }
  | 8 => { c with stroke := { c.stroke with d1 := v } }
  | 9 => { c with stroke := { c.stroke with d2 := v } }
  | 10 => { c with stroke := { c.stroke with d3 := v } }
  | 11 => { c with kh1 := v }
  | 12 => { c with kh2 := v }
  | 13 => { c with soil := c.soil.set 0 v }
  | 14 => { c with soil := c.soil.set 1 v }
  | 15 => { c with soil := c.soil.set 2 v }
  | 16 => { c with soil := c.soil.set 3 v }
  | 17 => { c with soil := c.soil.set 4 v }
  | 18 => { c with soil := c.soil.set 5 v }
  | 19 => { c with soil := c.soil.set 6 v }
  | 20 => { c with soil := c.soil.set 7 v }
  | 21 => { c with defaultSoil := v }
  | 22 => { c with autoDry := v == 1 }
  | 23 => { c with rDry := v }
  | 24 => { c with openLimit := v }
  | 25 => { c with gapTarget := v }
  | 26 => { c with fillLimit := v }
  | 27 => { c with silenceLimit := v }
  | _ => c

/-- A value limited to a range (R184). -/
def limitTo (range : Nat × Nat) (v : Nat) : Nat := max range.1 (min range.2 v)

/-- Every parameter of a configuration limited to its range (R203). -/
def limitConfig (c : ConfigRec) : ConfigRec :=
  (List.range 27).foldl (fun c i =>
    match paramRange (i + 1) with
    | some range => paramSet c (i + 1) (limitTo range (paramGet c (i + 1)))
    | none => c) c

/-! ## Phase records (R2, Table 6, Table 53) -/

/-- The kinds of a phase record by their codes; DRY is 4. -/
def kindOfCode (b : Byte) : Option PhaseKind :=
  match b.toNat with
  | 0 => some (.wash .prewash)
  | 1 => some (.wash .main)
  | 2 => some (.wash .rinse)
  | 3 => some (.wash .finalRinse)
  | 4 => some .dry
  | _ => none

/-- The form test found something (R2 step 2), or the fit test did (R2 step 3), or the record is stored, limited or not
(R2 step 4). -/
inductive PhaseExam where
  | badField
  | notFitted
  | stored (phase : Phase) (changed : Bool)
  deriving DecidableEq, Repr

/-- The references a record carries, by its count (note of Table 53); none if a channel is unknown. -/
def refsOf (p : PhasePayload) : Option (List (Channel × Nat × Nat)) :=
  let one := fun r : RefPayload =>
    (channelOfCode r.channel).map fun ch => (ch, r.base.toNat, r.maximum.toNat)
  match p.refCount.toNat with
  | 0 => some []
  | 1 => (one p.ref1).map fun r => [r]
  | 2 =>
    match one p.ref1, one p.ref2 with
    | some r1, some r2 => if r1.1 = r2.1 then none else some [r1, r2]
    | _, _ => none
  | _ => none

/-- A target temperature: 0, or 30..75 °C, 1 to 29 becoming 30 (R2 step 4). -/
def limitTarget (t : Nat) : Nat := if t = 0 then 0 else limitTo (30, 75) t

/-- The wash record of a payload, unlimited. -/
def rawWash (p : PhasePayload) (refs : List (Channel × Nat × Nat)) : WashRecord where
  fillVolume := p.fillVolume.toNat
  target := p.target.toNat
  heatLimit := p.heatLimit.toNat
  holdTime := p.holdTime.toNat
  weights := ⟨p.weight1.toNat, p.weight2.toNat, p.weight3.toNat, p.weight4.toNat⟩
  slotLength := p.slotLength.toNat
  refs := refs.map fun r => ⟨r.1, r.2.1, r.2.2⟩
  drain := p.flags.getLsbD 0
  sample := p.flags.getLsbD 1

/-- The wash record with each numeric field limited to its range (R2 step 4). -/
def limitWash (w : WashRecord) : WashRecord where
  fillVolume := limitTo (1500, 6000) w.fillVolume
  target := limitTarget w.target
  heatLimit := limitTo (60, 3600) w.heatLimit
  holdTime := limitTo (0, 3600) w.holdTime
  weights := ⟨min 7 w.weights.z1, min 7 w.weights.z2, min 7 w.weights.z3, min 7 w.weights.z4⟩
  slotLength := limitTo (10, 60) w.slotLength
  refs := w.refs.map fun r => ⟨r.channel, limitTo (0, 400) r.base, limitTo (10, 600) r.maximum⟩
  drain := w.drain
  sample := w.sample

/-- Steps 2 to 4 of the examination of a phase record (R2). -/
def examinePhase (d3Fitted : Bool) (p : PhasePayload) : PhaseExam :=
  match kindOfCode p.kind with
  | none => .badField
  | some .dry =>
    let dwell := p.dwell.toNat
    let openTime := p.openTime.toNat
    .stored (.dry (limitTo (0, 3600) dwell) (limitTo (0, 3600) openTime))
      (decide (3600 < dwell) || decide (3600 < openTime))
  | some (.wash k) =>
    match refsOf p with
    | none => .badField
    | some refs =>
      let w := rawWash p refs
      if w.weights = ⟨0, 0, 0, 0⟩ then .badField
      else if !d3Fitted && w.refs.any (fun r => r.channel == .d3) then .notFitted
      else .stored (.wash k (limitWash w)) (decide (limitWash w ≠ w))

/-! ## The validity of a program (R4, R5) -/

/-- A phase references a channel that is not fitted. -/
def refsUnfitted (d3Fitted : Bool) : Phase → Bool
  | .wash _ w => !d3Fitted && w.refs.any fun r => r.channel == .d3
  | .dry .. => false

/-- The slot at an index makes a program of this count invalid (R5). -/
def slotBad (d3Fitted : Bool) (q : Seq) (count i : Nat) : Bool :=
  match phaseAt q i with
  | none => true
  | some (.dry _ _) => decide (i + 1 < count)
  | some p => refsUnfitted d3Fitted p

/-- The lowest offending index from `lo` up, below the count (R4, R5). -/
def firstBadSlot (d3Fitted : Bool) (q : Seq) (lo count : Nat) : Option Nat :=
  (List.range 12).find? fun i => decide (lo ≤ i) && decide (i < count) && slotBad d3Fitted q count i

/-- The offending index of START PROGRAM (R5); a count of 0 gives index 0. -/
def startOffends (d3Fitted : Bool) (q : Seq) : Option Nat :=
  if q.count = 0 then some 0 else firstBadSlot d3Fitted q 0 q.count

end Sys2Proof.Machine
end

