-- ==== Sys2Proof/Machine/Flags.lean ====
section
/-! DEFINITION. The conditions that the part computes from its state: the sump permit, the drain pump, the inlet's grant
conditions, the heater's enable conditions and output, the supervision of the arms, and the conditions of STANDBY and of
the end of a shutdown. -/

namespace Sys2Proof.Machine

/-! ## The sump and the inlet -/

/-- The drain requests that ask for the pump (Table 14, R46). -/
def drainAsks : Option SeqDrain → Bool
  | some ⟨.paused _, _⟩ => false
  | some _ => true
  | none => false

def burstRuns : Option Burst → Bool
  | some (.running _) => true
  | _ => false

/-- The drain pump runs while at least one drain request asks for it (R46). -/
def pumpAsked (w : Wpc) : Bool := drainAsks w.seqDrain || burstRuns w.burst || w.leak.isSome || w.floodReq.isSome

/-- The sump permit is granted in these cases and withdrawn in every other (R29). -/
def permitCondition (s : State) : Bool :=
  match s.seq.state with
  | .running =>
    (s.seq.sub == .drain && s.wpc.drainPump) || (s.seq.sub == .dry && s.wpc.sumpEmpty)
  | .idle | .ended | .holding | .faulted => s.wpc.sumpEmpty
  | .suspended | .waitWater | .ending => false

/-- What must hold for a regeneration to keep the inlet (R39): the permit, no flood, the high-level switch NOT_HIGH. -/
def regenMayFlow (s : State) : Bool :=
  s.seq.permit && !s.wpc.flood && !s.wpc.inhibit && !s.wpc.highLevel

/-- A waiting regeneration request is granted while these hold (R39). -/
def regenGrantable (s : State) : Bool :=
  s.wpc.fill.isNone && regenMayFlow s && s.wpc.burst != some .waiting && s.wpc.holder == .none

/-! ## The heater (R135 to R137) -/

/-- The enable conditions of the heater, both heat-disables clear (R135), in a part state that supervises it (R129). -/
def heaterEnabled (s : State) : Bool :=
  senses s && (runningIn s .heat || runningIn s .circulate) && s.htc.request.isSome && !s.ddu.doorOpen
    && s.wpc.heaterCover && s.czs.confirmed && s.htc.valid && !s.htc.lockout && !s.htc.phaseDisable
    && !s.htc.programDisable

/-- What the heater is fed (R137, Table 36). -/
def heaterOutput (s : State) : HeaterOutput :=
  if heaterEnabled s && s.htc.demand then (if s.htc.half then .half else .full) else .off

/-! ## Circulation -/

def zoneOfArm : Arm → Zone
  | .z1 => .z1
  | .z2 => .z2

/-- A zone with an arm is supervised (R153). -/
def armSupervised (s : State) (arm : Arm) : Bool :=
  s.czs.pump && s.czs.position == some (zoneOfArm arm) && s.czs.move.isNone
    && decide (0 < perZoneGet s.czs.weights (zoneOfArm arm)) && s.czs.confirmed

/-- Some zone has a working weight above 0; else the schedule holds (R155). -/
def anyWeight (w : PerZone Nat) : Bool :=
  decide (0 < w.z1) || decide (0 < w.z2) || decide (0 < w.z3) || decide (0 < w.z4)

/-- The slot time counts (R150, R152, R155). -/
def slotCounts (s : State) : Bool :=
  s.czs.pump && s.czs.started && s.czs.move.isNone && !s.czs.fixed && s.czs.zone.isSome && anyWeight s.czs.weights

/-- A phase is in progress, for a failing diverter (R152, log entry 30). -/
def phaseInProgress (s : State) : Bool :=
  match s.seq.state with
  | .running | .suspended | .waitWater => true
  | .idle | .holding | .ending | .ended | .faulted => false

/-! ## Drying -/

/-- A drying is in progress. -/
def dryingRuns (d : Ddu) : Bool :=
  match d.stage with
  | .none | .done => false
  | .dwell | .waitCool | .opening | .ajar | .retracting => true

/-- The actuator is at home, or none is fitted (R161, R196). -/
def actuatorHome (d : Ddu) : Bool := !d.fitted || (d.count == 0 && d.homed && d.drive == .stopped)

/-- The cool-down condition of WAIT_COOL (R164); an INVALID reading meets it. -/
def coolEnough (s : State) : Bool :=
  match s.htc.temp with
  | none => true
  | some t => decide (t ≤ s.ddu.openLimit)

/-! ## The drain extension (R30) -/

/-- The engine is in a state for which a drain is extended. -/
def engineWantsDrain (s : State) : Bool :=
  match s.rge.state with
  | .brineWait | .brineDraw | .rinseWait | .rinse => true
  | .idle | .dwell | .effluentDrain => false

/-- The slot holds a phase that is not DRY. -/
def isWash (q : Seq) (i : Nat) : Bool :=
  match phaseAt q i with
  | some (.wash _ _) => true
  | _ => false

/-- The program has a non-DRY phase above the current index and below the count. -/
def laterWash (q : Seq) : Bool :=
  (List.range 12).any fun i => decide (q.idx < i) && decide (i < q.count) && isWash q i

/-- The three conditions of the extension. -/
def extensionHolds (s : State) : Bool := engineWantsDrain s && s.sfu.ready.isEmpty && laterWash s.seq

/-! ## STANDBY and shutdown -/

/-- The conditions of STANDBY (R196). -/
def standbyAllowed (s : State) : Bool :=
  (s.seq.state == .idle || s.seq.state == .ended)
    && s.rge.state == .idle && s.sfu.regenQ.isEmpty
    && s.dsu.state == .idle
    && actuatorHome s.ddu
    && s.wpc.holder == .none && s.wpc.seqDrain.isNone && s.wpc.burst.isNone && s.wpc.leak.isNone
    && s.sfu.valveMove.isNone && s.czs.move.isNone && s.dsu.move.isNone

/-- The work of a NORMAL shutdown is complete (R198); that of an ABRUPT one is done when it is taken (R199). -/
def shutdownWorkDone (s : State) : Bool :=
  s.part.abrupt
    || (s.wpc.seqDrain.isNone && (s.seq.state == .idle || s.seq.state == .ended || s.seq.state == .faulted)
        && s.rge.state == .idle && s.dsu.state == .idle && s.ddu.drive == .stopped && s.wpc.leak.isNone)

/-- The four homings of STARTING have ended (R195). -/
def homingsEnded (s : State) : Bool :=
  !s.part.homings.valve && !s.part.homings.diverter && !s.part.homings.selector && !s.part.homings.actuator

end Sys2Proof.Machine
end

