-- ==== Sys2Proof/Machine/Circulation.lean ====
section
/-! DEFINITION. The Circulation and Zone Scheduler: the pump and its pressure, the zone schedule, the diverter and the
supervision of the arms (07_circulation_and_spray_zones.md). -/

namespace Sys2Proof.Machine

/-! ## The diverter (R151, R152) -/

/-- Home the diverter (R151). -/
def homeDiverter (s : State) : State :=
  onCzs (fun z => { z with move := some ⟨true, .z1, 0⟩, failed := none }) s

/-- Command a move to a zone; from an UNKNOWN position a homing, whose end commands the move (R150, R151). -/
def commandDiverter (z : Zone) (s : State) : State :=
  match s.czs.position with
  | none => homeDiverter s
  | some _ => onCzs (fun x => { x with move := some ⟨false, z, 0⟩, failed := none }) s

/-- A slot of the zone begins (R150). A move under way is replaced (R151, log entry 30). -/
def beginSlot (z : Zone) (s : State) : State :=
  let s := onCzs (fun x => { x with zone := some z, slotsGiven := x.slotsGiven + 1, slotTime := 0, slotOfStall := false }) s
  if s.czs.position = some z ∧ s.czs.move = none then s else commandDiverter z s

/-! ## The schedule (R145, R149) -/

/-- The zones after one, in cyclic order, the zone itself last. -/
def zonesAfter : Zone → List Zone
  | .z1 => [.z2, .z3, .z4, .z1]
  | .z2 => [.z3, .z4, .z1, .z2]
  | .z3 => [.z4, .z1, .z2, .z3]
  | .z4 => [.z1, .z2, .z3, .z4]

/-- The first zone of a list with a working weight above 0. -/
def firstWeighted (w : PerZone Nat) (l : List Zone) : Option Zone := l.find? fun z => decide (0 < perZoneGet w z)

/-- A slot of the current zone has ended (R149); without any weight the schedule holds (R155). -/
def nextSlot (s : State) : State :=
  match s.czs.zone with
  | none => s
  | some z =>
    if perZoneGet s.czs.weights z ≤ s.czs.slotsGiven then
      match firstWeighted s.czs.weights (zonesAfter z) with
      | some z' => beginSlot z' (onCzs (fun z => { z with slotsGiven := 0 }) s)
      | none => s
    else beginSlot z s

/-- A phase entry (R145); the working weights stand until the phase's first run request (log entry 56). -/
def circulationPhaseEntry (s : State) : State :=
  onCzs (fun z => { z with
    started := false, fixed := false, stall1 := 0, stall2 := 0, zone := none, slotsGiven := 0, slotTime := 0 }) s

/-- The pump starts; the pressure condition and the low timer follow the reading (R147, R148). -/
def startPump (s : State) : State :=
  onCzs (fun z => { z with
    pump := true
    confirmed := z.reading
    lowTimer := if z.reading then none else some 0
    episode := false }) s

/-- The first run request of a phase sets up the schedule; a fixed diverter lets no slot begin (R145, R152). -/
def startSchedule (weights : PerZone Nat) (slotLength : Nat) (s : State) : State :=
  let s := onCzs (fun z => { z with weights := weights, slotLength := slotLength, started := true }) s
  match firstWeighted weights [.z1, .z2, .z3, .z4] with
  | none => s
  | some z => if s.czs.fixed then onCzs (fun x => { x with zone := some z }) s else beginSlot z s

/-- The slot in which the schedule stood goes on; one that a stop left standing at its length ends as soon as the pump runs
again, once (R145, R146). -/
def resumeSlot (s : State) : State :=
  if slotCounts s && decide (s.czs.slotLength ≤ s.czs.slotTime) then
    let s := nextSlot s
    onCzs (fun z => { z with slotOfStall := slotCounts s }) s
  else s

/-- A run request (R145, R146). -/
def runCirculation (w : WashRecord) (s : State) : State :=
  if s.czs.pump then s
  else if s.czs.started then resumeSlot (startPump s)
  else startPump (startSchedule w.weights w.slotLength s)

/-- A stop request (R146). The mark lets the end of the slot that falls together with the stop still be counted (log entry
69). -/
def stopCirculation (s : State) : State :=
  if s.czs.pump then
    onTies (fun x => { x with slot := slotCounts s })
      (onCzs (fun z => { z with
        pump := false, confirmed := false, lowTimer := none, episode := false, arm1 := none, arm2 := none }) s)
  else s

/-- The slot stands where a stop within this second has frozen it (R146, log entry 69). -/
def slotFrozen (s : State) : Bool :=
  s.ties.slot && !s.czs.pump && slotCounts (onCzs (fun z => { z with pump := true }) s)

/-! ## Pressure (R147, R148) -/

/-- A filtered change of the pressure switch. -/
def pressureChanged (pressure : Bool) (s : State) : State :=
  if s.czs.reading = pressure then s
  else
    let s := onCzs (fun z => { z with reading := pressure }) s
    if s.czs.pump then
      if pressure then onCzs (fun z => { z with confirmed := true, lowTimer := none, episode := false }) s
      else onCzs (fun z => { z with confirmed := false, lowTimer := some 0 }) s
    else s

/-! ## Confirmation and failure of the diverter (R151, R152) -/

/-- The STARTING homing of the diverter has ended (R195). -/
def diverterHomed (s : State) : State :=
  onPart (fun p => { p with homings := { p.homings with diverter := false } }) s

/-- After a homing the move to the slot's zone follows when that zone is not Z1 (R151). -/
def afterDiverterHoming (s : State) : State :=
  match s.czs.zone with
  | some z => if z ≠ .z1 ∧ s.czs.fixed = false then commandDiverter z s else s
  | none => s

/-- The position switch reports a zone (R151, R152). -/
def diverterReported (z : Zone) (s : State) : State :=
  match s.czs.move with
  | none => if s.czs.failed = some z then onCzs (fun x => { x with position := some z }) s else s
  | some m =>
    if m.target = z then
      let s := onCzs (fun x => { x with position := some z, move := none }) s
      if s.part.homings.diverter then diverterHomed s
      else if m.homing then afterDiverterHoming s
      else s
    else s

/-- The homing or move in progress has failed (R152). -/
def diverterFailed (m : DiverterMove) (s : State) : State :=
  let s := raiseFault .diverter (.zone m.target) (.num 0) s
  let s := onCzs (fun z => { z with
    move := none, position := none, failed := some m.target, fixed := z.fixed || phaseInProgress s }) s
  if s.part.homings.diverter then
    diverterHomed (onPart (fun p => { p with homingFaults := p.homingFaults ++ [.diverter] }) s)
  else s

/-! ## The arms (R153 to R155) -/

def armTimer (z : Czs) : Arm → Option Nat
  | .z1 => z.arm1
  | .z2 => z.arm2

def setArmTimer (z : Czs) (arm : Arm) (t : Option Nat) : Czs :=
  match arm with
  | .z1 => { z with arm1 := t }
  | .z2 => { z with arm2 := t }

def armStalls (z : Czs) : Arm → Nat
  | .z1 => z.stall1
  | .z2 => z.stall2

def setArmStalls (z : Czs) (arm : Arm) (n : Nat) : Czs :=
  match arm with
  | .z1 => { z with stall1 := n }
  | .z2 => { z with stall2 := n }

/-- An arm's timer as its conditions give it: 0 when they come to hold, stopped when they do not (R153). -/
def supervise (supervised : Bool) (t : Option Nat) : Option Nat :=
  if supervised then some (t.getD 0) else none

/-- Both arm timers follow their conditions (R153); a pulse and a slot that a stall began are remembered no longer than
supervision and slot last (R156, log entry 40). -/
def refreshArms (s : State) : State :=
  onCzs (fun z => { z with
    arm1 := supervise (armSupervised s .z1) z.arm1
    arm2 := supervise (armSupervised s .z2) z.arm2
    pulsed := z.pulsed.filter (armSupervised s)
    slotOfStall := z.slotOfStall && slotCounts s }) s

/-- The first stall of a phase: the slots left of the round are lost; in the fixed condition none is (R154). -/
def firstStall (arm : Arm) (s : State) : State :=
  let s := onCzs (fun z => setArmTimer (setArmStalls z arm 1) arm (some 0)) s
  let s := raiseNotice (.armStall arm s.seq.idx 1 false) s
  if s.czs.fixed then s
  else nextSlot (onCzs (fun z => { z with slotsGiven := perZoneGet z.weights (zoneOfArm arm) }) s)

/-- The second stall: the zone is dropped from the phase (R155). -/
def secondStall (arm : Arm) (s : State) : State :=
  let s := onCzs (fun z => setArmTimer (setArmStalls z arm 2) arm none) s
  let s := onCzs (fun z => { z with weights := perZoneSet z.weights (zoneOfArm arm) 0 }) s
  let s := raiseNotice (.armStall arm s.seq.idx 2 true) s
  if s.czs.fixed then s else nextSlot s

/-- The arm has stalled (R154, R155); a slot it begins does not end with the one it ended (R156). -/
def armStalled (arm : Arm) (s : State) : State :=
  let s := if armStalls s.czs arm = 0 then firstStall arm s else secondStall arm s
  onCzs (fun z => { z with slotOfStall := slotCounts s }) s

/-- A rotation pulse of a supervised arm (R153, R156). -/
def armPulsed (arm : Arm) (s : State) : State :=
  onCzs (fun z => { setArmTimer z arm (some 0) with pulsed := some arm }) s

/-! ## SHUTDOWN ABRUPT (R157) -/

/-- The pump and the diverter drive stop at once; a move under way leaves the position UNKNOWN. -/
def abruptCirculation (s : State) : State :=
  let s := stopCirculation s
  match s.czs.move with
  | none => s
  | some _ => onCzs (fun z => { z with move := none, position := none }) s

end Sys2Proof.Machine
end

