-- ==== Sys2Proof/Machine/Dosing.lean ====
section
/-! DEFINITION. The Dosing Unit: reservoirs, the size of a dose, the dose queue and its batches, the selector, strokes and
their ends (05_detergent_and_rinse_aid_dosing.md). -/

namespace Sys2Proof.Machine

/-! ## Reservoirs (R100 to R107) -/

/-- The low test after a change of a level estimate (R104). -/
def lowTest (ch : Channel) (s : State) : State :=
  let r := reservoirOf s.dsu ch
  if r.level ≤ Config.lowMark ch then
    if r.lowNotified then s
    else
      raiseNotice (.reservoirLow ch r.level) (onDsu (fun d => setReservoir d ch { r with lowNotified := true }) s)
  else onDsu (fun d => setReservoir d ch { r with lowNotified := false }) s

/-- The level estimate takes a value, and the low test follows a change (R101). -/
def setLevel (ch : Channel) (level : Nat) (s : State) : State :=
  if (reservoirOf s.dsu ch).level = level then s
  else lowTest ch (onDsu (fun d => setReservoir d ch { reservoirOf d ch with level := level }) s)

/-- Set or clear the EMPTY mark; a change is followed by the write (R105, R101). -/
def setEmpty (ch : Channel) (empty : Bool) (s : State) : State :=
  if (reservoirOf s.dsu ch).empty = empty then s
  else askWrite .reservoirs (onDsu (fun d => setReservoir d ch { reservoirOf d ch with empty := empty }) s)

/-- The low correction: the estimate becomes the lesser of itself and the low mark (R102). -/
def lowCorrection (ch : Channel) (s : State) : State :=
  if (reservoirOf s.dsu ch).fitted then setLevel ch (min (reservoirOf s.dsu ch).level (Config.lowMark ch)) s else s

/-- A low switch reading as taken afresh: LOW makes the correction (R102). -/
def readLowSwitch (ch : Channel) (low : Bool) (s : State) : State :=
  let s := onDsu (fun d => { d with lowSw := perChannelSet d.lowSw ch low }) s
  if low then lowCorrection ch s else s

/-- A filtered change of a low switch (R102). -/
def lowSwitchChanged (ch : Channel) (low : Bool) (s : State) : State :=
  if perChannelGet s.dsu.lowSw ch = low then s else readLowSwitch ch low s

/-- The refill: level to capacity, EMPTY and low-notified cleared, the write (R103, R101). -/
def refill (ch : Channel) (s : State) : State :=
  let r := reservoirOf s.dsu ch
  let r := { r with level := Config.capacity ch, empty := false, lowNotified := false }
  askWrite .reservoirs (onDsu (fun d => setReservoir d ch r) s)

/-- A filtered change of a cap switch (R103); that of a reservoir not fitted moves the reading alone, and an opened mark
that STARTING has set stays (log entry 47). -/
def capSwitchChanged (ch : Channel) (capOpen : Bool) (s : State) : State :=
  if perChannelGet s.dsu.capSw ch = capOpen then s
  else
    let s := onDsu (fun d => { d with capSw := perChannelSet d.capSw ch capOpen }) s
    if (reservoirOf s.dsu ch).fitted then
      if capOpen then
        onDsu (fun d => setReservoir d ch { reservoirOf d ch with capOpened := true }) s
      else
        let s :=
          if (reservoirOf s.dsu ch).capOpened && !perChannelGet s.dsu.lowSw ch then refill ch s else s
        onDsu (fun d => setReservoir d ch { reservoirOf d ch with capOpened := false }) s
    else s

/-- The cap switch as read on entry to STARTING: the opened mark follows it (R103). -/
def readCapSwitch (ch : Channel) (capOpen : Bool) (s : State) : State :=
  let d := { s.dsu with capSw := perChannelSet s.dsu.capSw ch capOpen }
  onDsu (fun _ => setReservoir d ch { reservoirOf d ch with capOpened := capOpen }) s

/-! ## The size of a dose (R108 to R111) -/

/-- The hardness factor (R109). -/
def hardnessFactor (c : ConfigRec) (ch : Channel) (hFill : Nat) : Nat :=
  match ch with
  | .d1 => 1000 + c.kh1 * hFill / 100
  | .d2 => 1000 + c.kh2 * hFill / 100
  | .d3 => 1000

/-- The soil factor (R109). -/
def soilFactor (c : ConfigRec) (ch : Channel) (soil : Nat) : Nat :=
  match ch with
  | .d1 | .d3 => (c.soil[soil]?).getD 1000
  | .d2 => 1000

/-- The volume factor (R110). -/
def volumeFactor (vFill vNom : Nat) : Nat := max 700 (1000 * vFill / vNom)

/-- The drying factor (R110, R174). -/
def dryingFactor (c : ConfigRec) (ch : Channel) (actuatorFitted : Bool) : Nat :=
  match ch with
  | .d2 => if c.autoDry && actuatorFitted then 1000 - c.rDry else 1000
  | .d1 | .d3 => 1000

/-- The dose in 0.01 mL from the base dose and the four factors, limited to the maximum dose (R111). -/
def doseOf (base fh fs fv fd maximum : Nat) : Nat :=
  min ((base * fh * fs * fv * fd + 50000000000) / 100000000000) (10 * maximum)

/-- The dose of a reference now (R108). -/
def computeDose (s : State) (w : WashRecord) (ref : DoseRef) : Nat :=
  doseOf ref.base (hardnessFactor s.cfg ref.channel s.sfu.fill.hFill) (soilFactor s.cfg ref.channel s.seq.soil)
    (volumeFactor s.sfu.fill.v w.fillVolume) (dryingFactor s.cfg ref.channel s.ddu.fitted) ref.maximum

/-- The stroke target of a volume (R111). -/
def strokesFor (volume stroke : Nat) : Nat := (volume + (stroke - 1)) / stroke

/-! ## The queue (R112 to R117) -/

/-- Two requests are of the same origin (log entry 29: whatever the phase index). -/
def sameOrigin : Origin → Origin → Bool
  | .sequencer _, .sequencer _ => true
  | .hostPrime, .hostPrime => true
  | _, _ => false

/-- The whole queue: the batch, then the waiting requests (R114). -/
def doseQueue (d : Dsu) : List DoseReq := d.batch ++ d.waiting

/-- A request of this channel and origin stands in the queue. -/
def queued (d : Dsu) (ch : Channel) (o : Origin) : Bool :=
  (doseQueue d).any fun r => r.channel == ch && sameOrigin r.origin o

/-- An accepted request joins the queue and, in IDLE, opens the gather window (R112, R116). -/
def joinQueue (ch : Channel) (o : Origin) (volume target : Nat) (s : State) : State :=
  let r : DoseReq :=
    { channel := ch, origin := o, volume := volume, target := target, strokeVolume := perChannelGet s.cfg.stroke ch,
      arrival := s.dsu.next }
  let d := { s.dsu with waiting := s.dsu.waiting ++ [r], next := (s.dsu.next + 1) % 256 }
  if d.state == .idle then onDsu (fun _ => { d with state := .gathering, windowLeft := Config.gatherWindow }) s
  else onDsu (fun _ => d) s

/-- The sequencer places one request; a refused reference leaves all as it was (R112). -/
def placeDose (phase : Nat) (ch : Channel) (volume : Nat) (s : State) : State :=
  if !(reservoirOf s.dsu ch).fitted || queued s.dsu ch (.sequencer phase)
      || decide (Config.queueSize ≤ (doseQueue s.dsu).length) then s
  else
    let arrival := s.dsu.next
    let s := joinQueue ch (.sequencer phase) volume (strokesFor volume (perChannelGet s.cfg.stroke ch)) s
    onSeq (fun q => { q with placed := q.placed ++ [arrival] }) s

/-- Positions from p on, round from 3 back to 1; an UNKNOWN position counts as 1 (R117). -/
def sweepOrder : Option Channel → List Channel
  | none | some .d1 => [.d1, .d2, .d3]
  | some .d2 => [.d2, .d3, .d1]
  | some .d3 => [.d3, .d1, .d2]

/-- A batch in sweep order; requests on one position stay in order of acceptance (R117). -/
def sweep (position : Option Channel) (l : List DoseReq) : List DoseReq :=
  (sweepOrder position).flatMap fun ch => l.filter fun r => r.channel == ch

/-- All waiting requests form the batch (R116, R117). -/
def formBatch (s : State) : State :=
  onDsu (fun d => { d with batch := sweep d.selector d.waiting, waiting := [] }) s

/-! ## The end of a request (R124) -/

/-- What the notice of an end carries. -/
def doseReport (r : DoseReq) (outcome : DoseOutcome) (reason : Option DoseReason) : DoseReport :=
  { channel := r.channel, origin := r.origin, target := r.target, commanded := r.commanded, confirmed := r.confirmed,
    volume := r.confirmed * r.strokeVolume, outcome := outcome, reason := reason }

/-- The program summary's confirmed dose grows by a volume (R11, R124). -/
def addDose (ch : Channel) (volume : Nat) (q : Seq) : Seq :=
  let d := q.summary.dose
  { q with summary := { q.summary with dose := perChannelSet d ch (perChannelGet d ch + volume) } }

/-- The reports of an end: to the sequencer, whose summary counts it at once, the notice, the write (R124, R11). -/
def reportDose (r : DoseReq) (outcome : DoseOutcome) (reason : Option DoseReason) (s : State) : State :=
  let s := match r.origin with
    | .sequencer _ =>
      report (.doseEnded r.arrival) (onSeq (fun q => addDose r.channel (r.confirmed * r.strokeVolume) q) s)
    | .hostPrime => s
  let s := match outcome with
    | .underdose => raiseNotice (.underdose (doseReport r outcome reason)) s
    | .full | .cancelled => raiseNotice (.doseDone (doseReport r outcome reason)) s
  askWrite .reservoirs s

/-- The request at the head of the batch ends and leaves it. -/
def endHead (r : DoseReq) (outcome : DoseOutcome) (reason : Option DoseReason) (s : State) : State :=
  reportDose r outcome reason (onDsu (fun d => { d with batch := d.batch.tail }) s)

/-- Replace the request at the head of the batch. -/
def putHead (r : DoseReq) (s : State) : State :=
  onDsu (fun d => { d with batch := r :: d.batch.tail }) s

/-! ## Service (R118 to R120) -/

/-- The selector is homed (R118). -/
def homeSelector (s : State) : State := onDsu (fun d => { d with move := some ⟨true, .d1, 0⟩ }) s

/-- The selector is moved (R118). -/
def moveSelector (ch : Channel) (s : State) : State := onDsu (fun d => { d with move := some ⟨false, ch, 0⟩ }) s

/-- Service goes on until a move or a stroke is under way, the pause holds it, or the queue is empty (R117 to R121). The
pause bars homing, move and stroke (R120, R125); that a request which is next in line under it stays QUEUED, neither
ACTIVE nor ended CHANNEL_EMPTY, is the model's choice (DESIGN CHOICE, log entry 61). The first argument bounds the ends
and batches of one event; six requests need no more than sixteen turns. -/
def serve : Nat → State → State
  | 0, s => s
  | n + 1, s =>
    if s.dsu.stroke.isSome || s.dsu.move.isSome then s
    else
      match s.dsu.batch with
      | [] =>
        if s.dsu.waiting.isEmpty then onDsu (fun d => { d with state := .idle }) s else serve n (formBatch s)
      | r :: _ =>
        if s.dsu.pause then onDsu (fun d => { d with state := .paused }) s
        else
          let s := onDsu (fun d => { d with state := .serving }) s
          let res := reservoirOf s.dsu r.channel
          match r.origin, r.state, res.empty with
          | .sequencer _, .queued, true => serve n (endHead r .underdose (some .channelEmpty) s)
          | _, _, _ =>
            let r := { r with state := .active }
            let s := putHead r s
            match s.dsu.selector with
            | none => homeSelector s
            | some p =>
              if p ≠ r.channel then moveSelector r.channel s
              else if res.level < r.strokeVolume then
                serve n (endHead r .underdose (some .levelLow) (setEmpty r.channel true s))
              else
                putHead { r with commanded := r.commanded + 1 } (onDsu (fun d => { d with stroke := some 0 }) s)

/-- Service with room for every request that can stand. -/
def serveOn (s : State) : State := serve 16 s

/-- The gather window closes (R116). -/
def windowCloses (s : State) : State :=
  serveOn (formBatch (onDsu (fun d => { d with windowLeft := 0, state := .serving }) s))

/-! ## Strokes (R121 to R123) -/

/-- What a confirmed stroke does to the request (R121). The consecutive confirmations of a sequencer's request are counted
too, and past 3, though Table 31 gives 0 to 3 of them to a prime only (DESIGN CHOICE, log entry 63). -/
def confirmStroke (r : DoseReq) : DoseReq :=
  { r with confirmed := r.confirmed + 1, misses := 0, confirmations := r.confirmations + 1 }

/-- What a missed stroke does to the request (R121). A prime's misses are counted on past the 3 of Table 31, since R123
lets any number follow one another (DESIGN CHOICE, log entry 63). -/
def missStroke (r : DoseReq) : DoseReq := { r with misses := r.misses + 1, confirmations := 0 }

/-- A cancelled request whose stroke has ended: FULL at its target, else CANCELLED (R126). -/
def endCancelled (r : DoseReq) (s : State) : State :=
  endHead r (if r.target ≤ r.confirmed then .full else .cancelled) none s

/-- The stroke in progress ends confirmed: it is counted, the level estimate falls, and a prime's first clears the EMPTY mark
(R121, R123). -/
def countConfirmed (r : DoseReq) (s : State) : State :=
  let s := putHead (confirmStroke r) (onDsu (fun d => { d with stroke := none }) s)
  let s := setLevel r.channel ((reservoirOf s.dsu r.channel).level - r.strokeVolume) s
  match r.origin with
  | .hostPrime => if r.confirmed == 0 then setEmpty r.channel false s else s
  | .sequencer _ => s

/-- The stroke in progress ends missed: nothing but the miss is counted (R121). -/
def countMissed (r : DoseReq) (s : State) : State :=
  putHead (missStroke r) (onDsu (fun d => { d with stroke := none }) s)

/-- The stroke in progress is confirmed, and what follows (R121 to R123, R126). The next stroke is commanded in the same step, so
an expiry that falls together with the pulse and is taken after it is that of the next stroke (DESIGN CHOICE, log entry 64). -/
def strokeConfirmed (r : DoseReq) (s : State) : State :=
  let s := countConfirmed r s
  let r := confirmStroke r
  if r.cancel then serveOn (endCancelled r s)
  else
    match r.origin with
    | .sequencer _ => if r.target ≤ r.confirmed then serveOn (endHead r .full none s) else serveOn s
    | .hostPrime =>
      if 3 ≤ r.confirmations ∨ r.target ≤ r.commanded then serveOn (endHead r .full none s) else serveOn s

/-- The stroke in progress is missed, and what follows (R121 to R123, R126). The next stroke is commanded in the same step, so a
pulse that falls together with the expiry and is taken after it confirms that next stroke, where R121 calls it ignored too (DESIGN
CHOICE, log entry 64). -/
def strokeMissed (r : DoseReq) (s : State) : State :=
  let s := countMissed r s
  let r := missStroke r
  if r.cancel then serveOn (endCancelled r s)
  else
    match r.origin with
    | .sequencer _ =>
      if 3 ≤ r.misses then
        let s := raiseFault .doseLineDry (.channel r.channel) (.num r.confirmed) s
        serveOn (endHead r .underdose (some .lineDry) (setEmpty r.channel true s))
      else serveOn s
    | .hostPrime =>
      if r.target ≤ r.commanded then serveOn (endHead r .underdose (some .primeUnconfirmed) s) else serveOn s

/-! ## The selector's confirmation and failure (R118, R119) -/

/-- The STARTING homing of the selector has ended (R195). -/
def selectorHomed (s : State) : State :=
  onPart (fun p => { p with homings := { p.homings with selector := false } }) s

/-- The move in progress has been confirmed, or not: service goes on, or the request ends. -/
def afterMove (s : State) : State :=
  match s.dsu.batch with
  | [] => serveOn s
  | r :: _ => if r.cancel then serveOn (endHead r .cancelled none s) else serveOn s

/-- The position switch reports a position (R118). A report of position 1 that falls together with the limit of a move to it and
is taken after it confirms the homing which the next request has begun in the step of that limit, where R118 calls it ignored
(DESIGN CHOICE, log entry 65). -/
def selectorReported (pos : Channel) (s : State) : State :=
  match s.dsu.move with
  | none => s
  | some m =>
    if m.target = pos then
      let s := onDsu (fun d => { d with move := none, selector := some pos }) s
      if s.part.homings.selector then selectorHomed s else afterMove s
    else s

/-- The channel of the request at the head of the batch, for the second detail of SELECTOR (R119). No such request stands at
a homing of STARTING in an empty queue (R128): the detail is then absent, with a free code (DESIGN CHOICE, log entry 62). -/
def currentChannel (s : State) : Detail :=
  match s.dsu.batch with
  | [] => .absent
  | r :: _ => .channel r.channel

/-- The request whose service needed the failed move ends (R119, R126). The next request is served in the same step, which
begins a homing to position 1; a late report of position 1 meets that homing (DESIGN CHOICE, log entry 65). -/
def endUnmoved (s : State) : State :=
  match s.dsu.batch with
  | [] => serveOn s
  | r :: _ =>
    if r.cancel then serveOn (endHead r .cancelled none s)
    else serveOn (endHead r .underdose (some .selector) s)

/-- The move in progress has failed (R119, R128). -/
def selectorFailed (m : SelectorMove) (s : State) : State :=
  let s := raiseFault .selector (.channel m.target) (currentChannel s) s
  let s := onDsu (fun d => { d with move := none, selector := none }) s
  if s.part.homings.selector then
    selectorHomed (onPart (fun p => { p with homingFaults := p.homingFaults ++ [.selector] }) s)
  else endUnmoved s

/-! ## Interruptions (R125 to R127) -/

/-- The sequencer is suspended in DOSE (R125). -/
def pauseDosing (s : State) : State :=
  let s := onDsu (fun d => { d with pause := true }) s
  if s.dsu.state == .serving then serveOn s else s

/-- The sequencer resumes DOSE (R125). -/
def resumeDosing (s : State) : State :=
  let s := onDsu (fun d => { d with pause := false }) s
  if s.dsu.state == .paused then serveOn s else s

/-- A stroke, homing or move is in progress. -/
def dosingBusy (d : Dsu) : Bool := d.stroke.isSome || d.move.isSome

/-- A request is cancelled: one that is ACTIVE with a stroke or move in progress is marked and stays (R126). -/
def staysMarked (d : Dsu) (r : DoseReq) : Bool := r.state == .active && dosingBusy d

/-- Cancel the requests that `which` names, one of them at least standing (R126): those in progress are marked, the others
end in their order; the pause is cleared. One that falls together with the end of the stroke, and is taken after it, finds the
request ACTIVE with no stroke in progress, and ends it (R126, log entry 66). -/
def cancelFound (which : DoseReq → Bool) (s : State) : State :=
  let ends := (doseQueue s.dsu).filter fun r => which r && !staysMarked s.dsu r
  let keep := fun r : DoseReq => !(which r && !staysMarked s.dsu r)
  let mark := fun r : DoseReq => if which r then { r with cancel := true } else r
  let s := onDsu (fun d => { d with
    batch := (d.batch.filter keep).map mark
    waiting := (d.waiting.filter keep).map mark
    pause := false }) s
  let s := ends.foldl (fun s r => reportDose r .cancelled none s) s
  if s.dsu.state == .gathering then
    if s.dsu.waiting.isEmpty then onDsu (fun d => { d with state := .idle, windowLeft := 0 }) s else s
  else if s.dsu.state == .idle then s
  else serveOn s

/-- Cancel every request that `which` names; a cancellation that finds none changes nothing (R126). -/
def cancelWhere (which : DoseReq → Bool) (s : State) : State :=
  if (doseQueue s.dsu).any which then cancelFound which s else s

def ofSequencer (r : DoseReq) : Bool := sameOrigin r.origin (.sequencer 0)

/-- Every request of sequencer origin is cancelled (R126). -/
def cancelSequencerDoses (s : State) : State := cancelWhere ofSequencer s

/-- SHUTDOWN NORMAL: the requests of either origin are cancelled together, so that none is served in between (R128, log
entry 29). -/
def cancelAllDoses (s : State) : State := cancelWhere (fun _ => true) s

/-- The dosing reset (R127). -/
def resetDosing (s : State) : State :=
  let ends := doseQueue s.dsu
  let s := onDsu (fun d => { d with
    state := .idle, windowLeft := 0, batch := [], waiting := [], next := 0, selector := none, move := none
    stroke := none, pause := false }) s
  askWrite .reservoirs (ends.foldl (fun s r => reportDose r .cancelled none s) s)

end Sys2Proof.Machine
end

