-- ==== Sys2Proof/Machine/Drying.lean ====
section
/-! DEFINITION. The Door Drying Unit: door events, the actuator's drive and count, the stages of a drying and the ways it
ends (08_door_opening_drying.md). -/

namespace Sys2Proof.Machine

/-! ## Stages and their notices (R170) -/

/-- The content of DRY_STAGE for the stage just entered (R170). -/
def dryReport (s : State) : DryReport :=
  { stage := s.ddu.stage
    formOpen := s.ddu.formOpen
    count := s.ddu.count
    phase := s.seq.idx
    expired := if s.ddu.stage = .opening then some s.ddu.expired else none
    gap := if s.ddu.stage = .ajar then some (s.ddu.gapHeld, s.ddu.gapShort) else none
    outcome := if s.ddu.stage = .retracting ∨ s.ddu.stage = .done then some s.ddu.outcome else none }

/-- Enter a stage, with its stage time, and raise DRY_STAGE (R170). In OPENING, RETRACTING and DONE, where Table 42 gives
the stage time no meaning, it is 0 (DESIGN CHOICE, log entry 60). -/
def enterStage (st : DryStage) (time : Nat) (s : State) : State :=
  let s := onDdu (fun d => { d with stage := st, stageTime := time }) s
  raiseNotice (.dryStage (dryReport s)) s

/-! ## The end of a drying (R169) -/

/-- DONE without a look at a pending start: the report goes to a waiting sequencer. -/
def reachDone (s : State) : State :=
  let awaited := s.ddu.awaited
  let s := enterStage .done 0 (onDdu (fun d => { d with awaited := false }) s)
  if awaited then report (.dryingDone s.ddu.outcome) s else s

/-- End with an outcome, no retraction being needed. -/
def doneWith (o : DryOutcome) (s : State) : State := reachDone (onDdu (fun d => { d with outcome := o }) s)

/-! ## DWELL, WAIT_COOL, OPENING (R163 to R165) -/

/-- Drive the motor outward (R165, R166). -/
def driveOutward (s : State) : State := onDdu (fun d => { d with drive := .outward, stall := some 0 }) s

/-- Stop the motor. -/
def stopDrive (s : State) : State := onDdu (fun d => { d with drive := .stopped, stall := none }) s

/-- Enter OPENING (R165). -/
def enterOpening (s : State) : State := driveOutward (enterStage .opening 0 s)

/-- Enter WAIT_COOL and compare at once (R164). -/
def enterWaitCool (s : State) : State :=
  let s := enterStage .waitCool 0 s
  if coolEnough s then enterOpening s else s

/-- The stage time of DWELL is over (R163). -/
def dwellEnds (s : State) : State :=
  if s.ddu.formOpen then enterWaitCool s else doneWith .completedClosed s

/-- Enter DWELL (R163). -/
def enterDwell (s : State) : State :=
  let time := if s.ddu.formOpen then s.ddu.dwell else s.ddu.dwell + s.ddu.openTime
  let s := enterStage .dwell time s
  if time = 0 then dwellEnds s else s

/-- The drying form of a start (R162 step 3). -/
def opensDoor (c : ConfigRec) (d : Ddu) : Bool :=
  c.autoDry && d.fitted && d.homed && d.count == 0 && d.drive == .stopped

/-- A drying start is taken (R162). A start in the CLOSED form taken while a homing still drives INWARD lets the homing run
on through DWELL (log entry 49). -/
def takeStart (p : DryStart) (s : State) : State :=
  let s := onDdu (fun d => { d with
    awaited := true
    dwell := p.dwell
    openTime := p.openTime
    autoMode := s.cfg.autoDry
    gapTarget := s.cfg.gapTarget
    openLimit := s.cfg.openLimit
    retryUsed := false
    retryPause := none
    expired := false
    gapShort := false
    gapHeld := 0
    outcome := .none
    formOpen := opensDoor s.cfg d }) s
  if s.ddu.doorOpen then doneWith .openedByUser s else enterDwell s

/-- DONE, and then the pending start: taken up, or, after a RESET UNIT DOOR, ended as INTERRUPTED (R169, R172). -/
def enterDone (s : State) : State :=
  let s := reachDone s
  match s.ddu.pendingStart with
  | none => s
  | some p =>
    let drop := s.ddu.dropPending
    let s := onDdu (fun d => { d with pendingStart := none, dropPending := false }) s
    if drop then report (.dryingDone .interrupted) (onDdu (fun d => { d with outcome := .interrupted }) s)
    else takeStart p s

/-! ## The inward drive (R160, R161, R169) -/

/-- The STARTING homing of the actuator has ended (R195). -/
def actuatorHomed (s : State) : State :=
  onPart (fun p => { p with homings := { p.homings with actuator := false } }) s

/-- The inward drive has reached home (R159, R160, R169). -/
def homeArrived (s : State) : State :=
  let s := stopDrive (onDdu (fun d => { d with count := 0, homed := true }) s)
  let s := actuatorHomed s
  if s.ddu.stage = .retracting then enterDone s else s

/-- Command the drive INWARD; at HOME it ends at once with no motion (R160). -/
def driveInward (s : State) : State :=
  if s.pins.home then homeArrived s else onDdu (fun d => { d with drive := .inward, stall := some 0 }) s

/-- Enter RETRACTING and draw the rod home (R168, R169). -/
def retract (s : State) : State := driveInward (enterStage .retracting 0 (stopDrive s))

/-- Retract with an outcome, a retry pause being over. -/
def retractWith (o : DryOutcome) (s : State) : State :=
  retract (onDdu (fun d => { d with outcome := o, retryPause := none }) s)

/-! ## AJAR (R165, R167, R168) -/

/-- The open time is over (R168). -/
def openTimeEnds (s : State) : State := retractWith .completed s

/-- Enter AJAR at the present count (R165, R167, R168). -/
def enterAjar (short : Bool) (s : State) : State :=
  let s := stopDrive (onDdu (fun d => { d with gapHeld := d.count, gapShort := short }) s)
  let s := enterStage .ajar s.ddu.openTime s
  if s.ddu.openTime = 0 then openTimeEnds s else s

/-! ## The encoder and the home switch (R159, R165, R168) -/

/-- The count after an edge; an edge that would leave 0..1200 is not counted (R159). -/
def countAfter (outward : Bool) (c : Nat) : Nat :=
  if outward then (if c < Config.countMax then c + 1 else c) else c - 1

/-- What a count reached means for the stage (R165, R168). -/
def countReached (s : State) : State :=
  match s.ddu.stage, s.ddu.drive with
  | .opening, .outward => if s.ddu.gapTarget ≤ s.ddu.count then enterAjar false s else s
  | .ajar, .stopped =>
    if s.ddu.count + Config.pushedShut ≤ s.ddu.gapHeld then retractWith .closedByUser s else s
  | _, _ => s

/-- An encoder edge (R159, R160). -/
def encoderEdge (outward : Bool) (s : State) : State :=
  if s.ddu.fitted then
    let stall := s.ddu.stall.map fun _ => 0
    countReached (onDdu (fun d => { d with count := countAfter outward d.count, stall := stall }) s)
  else s

/-- The home switch changes to HOME (R159, R160); the count's fall to 0 is a fall like any other (R168). -/
def homeReached (s : State) : State :=
  if s.ddu.fitted then
    if s.ddu.drive = .inward then homeArrived s
    else countReached (onDdu (fun d => { d with count := 0, homed := true }) s)
  else s

/-! ## Stalls (R160, R166, R167, R169) -/

/-- A stall of an outward drive in OPENING (R166, R167). -/
def outwardStalls (s : State) : State :=
  let s := stopDrive s
  if Config.latchPoint ≤ s.ddu.count then enterAjar true s
  else if s.ddu.retryUsed then
    retractWith .actuatorFault (raiseFault .doorActuator (.stage s.ddu.stage) (.num s.ddu.count) s)
  else onDdu (fun d => { d with retryUsed := true, retryPause := some 0 }) s

/-- The STARTING homing of the actuator has failed (R161). -/
def actuatorHomingFailed (s : State) : State :=
  if s.part.homings.actuator then
    actuatorHomed (onPart (fun p => { p with homingFaults := p.homingFaults ++ [.doorActuator] }) s)
  else s

/-- A stall of an inward drive (R160, R161, R169); a drying a RESET UNIT DOOR interrupted stays so (R172, log entry
31). -/
def inwardStalls (s : State) : State :=
  let s := raiseFault .doorActuator (.stage s.ddu.stage) (.num s.ddu.count) (stopDrive s)
  let s := actuatorHomingFailed (onDdu (fun d => { d with homed := false }) s)
  if s.ddu.stage = .retracting then
    if s.ddu.outcome = .interrupted then enterDone s
    else enterDone (onDdu (fun d => { d with outcome := .actuatorFault }) s)
  else s

/-- The stall timer reaches 300 ms (R160). -/
def driveStalls (s : State) : State :=
  match s.ddu.drive with
  | .outward => outwardStalls s
  | .inward => inwardStalls s
  | .stopped => s

/-! ## The door (R158, R163 to R165) -/

/-- What a door opening does to a drying (R163, R164, R165). -/
def openingMeetsDrying (s : State) : State :=
  match s.ddu.stage with
  | .dwell | .waitCool => doneWith .openedByUser s
  | .opening =>
    if s.ddu.retryPause.isSome || decide (s.ddu.count < Config.latchPoint) then retractWith .openedByUser s else s
  | .none | .ajar | .retracting | .done => s

/-- A door event: reports, DOOR notice, the stage's own reaction (R158); the notice carries the stage before that reaction
(log entry 57). -/
def doorChanged (doorOpen : Bool) (s : State) : State :=
  if s.ddu.doorOpen = doorOpen then s
  else
    let s := onDdu (fun d => { d with doorOpen := doorOpen }) s
    let s := report (if doorOpen then .doorOpened else .doorClosed) s
    let s := raiseNotice (.door doorOpen s.ddu.count s.ddu.stage) s
    if doorOpen then openingMeetsDrying s else s

/-- The sump temperature, or its validity, has changed: a cool wait compares again (R164). -/
def coolCheck (s : State) : State :=
  if s.ddu.stage == .waitCool && coolEnough s then enterOpening s else s

/-! ## From outside (R171 to R173) -/

/-- The sequencer's end request (R171). -/
def endDrying (s : State) : State :=
  if dryingRuns s.ddu then
    let o := if s.ddu.outcome = .none then .ended else s.ddu.outcome
    let stage := s.ddu.stage
    let s := onDdu (fun d => { d with
      awaited := false, retryPause := none, outcome := o, pendingStart := none, dropPending := false }) s
    match stage with
    | .dwell | .waitCool => reachDone s
    | .opening | .ajar => retract s
    | .none | .retracting | .done => s
  else onDdu (fun d => { d with awaited := false, pendingStart := none, dropPending := false }) s

/-- The sequencer starts a drying (R162). -/
def startDrying (p : DryStart) (s : State) : State :=
  let s := if s.ddu.awaited then endDrying s else s
  if s.ddu.stage = .retracting then
    onDdu (fun d => { d with pendingStart := some p, dropPending := false }) s
  else takeStart p s

/-- RESET UNIT DOOR (R172). In RETRACTING the stage goes on without a DRY_STAGE of its own (log entry 50). -/
def resetDoor (s : State) : State :=
  let inProgress := dryingRuns s.ddu
  let retracting := s.ddu.stage == .retracting
  let s := onDdu (fun d => { d with
    retryPause := none
    outcome := if inProgress then .interrupted else d.outcome
    dropPending := d.pendingStart.isSome }) s
  if s.ddu.fitted then
    if inProgress && !retracting then retract s else driveInward (stopDrive s)
  else if inProgress then enterDone s
  else s

/-- SHUTDOWN NORMAL homes an actuator that is not at home, when no drying is in progress (R173). -/
def shutdownDoor (s : State) : State :=
  if !dryingRuns s.ddu && s.ddu.fitted && (s.ddu.count != 0 || !s.ddu.homed) then driveInward s else s

/-- SHUTDOWN ABRUPT (R173). -/
def abruptDoor (s : State) : State :=
  let s := onDdu (fun d => { d with homed := d.homed && d.drive == Drive.stopped }) s
  let s := stopDrive (onDdu (fun d => { d with
    retryPause := none, awaited := false, pendingStart := none, dropPending := false }) s)
  if dryingRuns s.ddu then doneWith .interrupted s else s

end Sys2Proof.Machine
end

