-- ==== Sys2Proof/Machine/Heating.lean ====
section
/-! DEFINITION. The Heater Controller: the reading, the heat request, the two-point control, the over-temperature
supervision and the pressure losses (06_heating_and_temperature_supervision.md). -/

namespace Sys2Proof.Machine

/-- The reading in whole °C, rounded down and limited to 0..120 (R130). -/
def readingOf (quarters : Int) : Nat := min 120 (quarters / 4).toNat

/-! ## The heat request (R132 to R134) -/

/-- The two-point control on a reading (R136). -/
def demandAfter (demand : Bool) (target t : Nat) : Bool :=
  if t + 1 < target then true else if target ≤ t then false else demand

/-- The reading is valid and at or above a target. -/
def atTarget (s : State) (target : Nat) : Bool :=
  match s.htc.temp with
  | some t => decide (target ≤ t)
  | none => false

/-- The reading is valid and below a target. -/
def belowTarget (s : State) (target : Nat) : Bool :=
  match s.htc.temp with
  | some t => decide (t < target)
  | none => false

/-- The request becomes REGULATING with the same target (R133, R134, R142). -/
def toRegulating (s : State) : State :=
  onHtc (fun h => { h with request := h.request.map fun r => { r with heating := false } }) s

/-- The heat limit has expired (R133). -/
def heatExpires (target : Nat) (s : State) : State :=
  let s := raiseNotice (.heatTimeout s.seq.idx target s.htc.temp) (onHtc (fun h => { h with limitLeft := 0 }) s)
  report .heatLimitExpired (toRegulating s)

/-- The target is reached (R134). -/
def reachTarget (s : State) : State := report .targetReached (toRegulating s)

/-- Place a REGULATING request (R132); it has no limit, and the limit left reads 0 (log entry 48). -/
def placeRegulating (target : Nat) (s : State) : State :=
  onHtc (fun h => { h with
    request := some ⟨target, false⟩, limitLeft := 0, demand := belowTarget s target }) s

/-- Place a HEATING request (R132). -/
def placeHeating (target limit : Nat) (s : State) : State :=
  let s := onHtc (fun h => { h with
    request := some ⟨target, true⟩, limitLeft := limit, demand := belowTarget s target }) s
  if !s.htc.valid then report .sensorFailed s
  else if atTarget s target then reachTarget s
  else if limit = 0 ∧ belowTarget s target then heatExpires target s
  else s

/-- The sequencer withdraws its request; a HEATING one reports the limit left (R132), which then reads 0 (log entry 48). -/
def withdrawHeat (s : State) : State :=
  match s.htc.request with
  | none => s
  | some r =>
    let left := if r.heating then s.htc.limitLeft else s.seq.heatLeft
    onSeq (fun q => { q with heatLeft := left })
      (onHtc (fun h => { h with request := none, demand := false, limitLeft := 0 }) s)

/-! ## A change of the reading (R130, R134, R136, R138 to R140) -/

/-- The warning band (R138). -/
def warningBand (t : Nat) (s : State) : State :=
  if Config.warnEntry ≤ t ∧ s.htc.half = false then
    raiseNotice (.tempWarn t (if programRuns s then some s.seq.idx else none))
      (onHtc (fun h => { h with half := true }) s)
  else if t ≤ Config.warnExit ∧ s.htc.half = true then onHtc (fun h => { h with half := false }) s
  else s

/-- The heat request's target as a detail. -/
def targetDetail (s : State) : Detail :=
  match s.htc.request with
  | some r => .num r.target
  | none => .absent

/-- The critical threshold (R139) and the release of the lockout (R140). -/
def lockoutCheck (t : Nat) (s : State) : State :=
  if Config.critical ≤ t ∧ s.htc.lockout = false then
    let s := onHtc (fun h => { h with lockout := true }) s
    report (.programFault .overheat) (raiseFault .overheat (.num t) (targetDetail s) s)
  else if t ≤ Config.release ∧ s.htc.lockout = true then onHtc (fun h => { h with lockout := false }) s
  else s

/-- The target test of a HEATING request (R134). -/
def targetTest (t : Nat) (s : State) : State :=
  match s.htc.request with
  | some ⟨target, true⟩ => if target ≤ t then reachTarget s else s
  | _ => s

/-- The two-point control's demand follows the reading (R136). -/
def followDemand (t : Nat) (s : State) : State :=
  match s.htc.request with
  | some r => onHtc (fun h => { h with demand := demandAfter h.demand r.target t }) s
  | none => s

/-- A new whole-degree value: every comparison of R130, then the cool wait's. -/
def temperatureChanged (t : Nat) (s : State) : State :=
  let s := onHtc (fun h => { h with temp := some t, lastValid := some t }) s
  coolCheck (targetTest t (lockoutCheck t (warningBand t (followDemand t s))))

/-- A measurement with the sensor-valid flag set: only a new whole degree is a change (R130). -/
def measured (t : Nat) (s : State) : State :=
  if s.htc.temp = some t then s else temperatureChanged t s

/-! ## The sensor (R131) -/

/-- The last valid reading as a detail. -/
def readingDetail : Option Nat → Detail
  | some t => .num t
  | none => .absent

/-- The sequencer's state is one of the four in which a program can still heat. -/
def programHeats (s : State) : Bool :=
  match s.seq.state with
  | .running | .holding | .suspended | .waitWater => true
  | .idle | .ending | .ended | .faulted => false

/-- An OPEN or SHORT indication is taken with the flag set (R131); the cool wait sees the reading INVALID (R164). -/
def sensorFails (kind : SensorKind) (s : State) : State :=
  let s := onHtc (fun h => { h with
    valid := false, faultKind := some kind, temp := none, demand := false }) s
  let s := raiseFault .tempSensor (.sensor kind) (readingDetail s.htc.lastValid) s
  let s :=
    if programHeats s then report .sensorFailed (onHtc (fun h => { h with programDisable := true }) s) else s
  coolCheck s

/-- An indication, as taken (R131). -/
def indicated (kind : SensorKind) (s : State) : State := if s.htc.valid then sensorFails kind s else s

/-- A measurement free of both indications is taken with the flag clear (R131). -/
def sensorRecovers (t : Nat) (s : State) : State :=
  temperatureChanged t (onHtc (fun h => { h with valid := true, faultKind := none }) s)

/-- The first reading at STARTING or at a wake (R129). -/
def firstReading (signal : SensorSignal) (s : State) : State :=
  match signal with
  | .failed kind => indicated kind s
  | .measured q =>
    if s.htc.valid then temperatureChanged (readingOf q) s else sensorRecovers (readingOf q) s

/-! ## START PROGRAM and phase entries (R131, R141) -/

/-- START PROGRAM clears the disables and the count; a failed sensor sets the program's again (R131). -/
def heatingProgramStart (s : State) : State :=
  onSeq (fun q => { q with heaterOff := !s.htc.valid })
    (onHtc (fun h => { h with programDisable := !h.valid, phaseDisable := false, lossCount := 0 }) s)

/-- A phase entry (R141, R142). -/
def heatingPhaseEntry (s : State) : State := onHtc (fun h => { h with lossCount := 0, phaseDisable := false }) s

/-! ## Pressure losses (R141, R142) -/

/-- The second counted loss of a phase (R142). -/
def secondLoss (s : State) : State :=
  let s := onHtc (fun h => { h with lossCount := 2, phaseDisable := true }) s
  let s := raiseFault .pressureLoss (readingDetail s.htc.temp) (.num 0) s
  match s.htc.request with
  | some ⟨_, true⟩ => report .heatDisabled (toRegulating s)
  | _ => s

/-- The pressure-low report reaches HTC; it counts in HEAT or CIRCULATE with a request standing (R141, R142). -/
def countLoss (s : State) : State :=
  if s.htc.request.isSome && (runningIn s .heat || runningIn s .circulate) then
    if s.htc.lossCount = 0 then onHtc (fun h => { h with lossCount := 1 }) s
    else if s.htc.lossCount = 1 then secondLoss s
    else s
  else s

/-! ## SHUTDOWN ABRUPT (R143) and the output (R137) -/

/-- The heat request goes without a report; the limit left then reads 0 (log entry 48). -/
def abruptHeating (s : State) : State :=
  onHtc (fun h => { h with request := none, demand := false, limitLeft := 0 }) s

/-- The output follows the demand, the enable conditions and the power mode (R137). -/
def refreshHeater (s : State) : State := onHtc (fun h => { h with output := heaterOutput s }) s

end Sys2Proof.Machine
end

