-- ==== Sys2Proof/Machine/Softener.lean ====
section
/-! DEFINITION. The Softener Unit: the fill record and the charge of a millilitre, the changes of the service position,
the places of the columns and the column valve (03_softener_columns_and_hardness_accounting.md). -/

namespace Sys2Proof.Machine

/-! ## The column valve (R76, R77) -/

/-- The position of the service column, or BYPASS. -/
def servicePosition (s : State) : ValvePos :=
  match s.sfu.service with
  | some col => .column col
  | none => .bypass

/-- Command the valve at a change of the service position. It replaces the target of an unconfirmed move, which stays a
homing if it was one (R76, log entry 20). -/
def commandValve (target : ValvePos) (s : State) : State :=
  let homing := match s.sfu.valveMove with
    | some m => m.homing
    | none => false
  onSfu (fun f => { f with valveMove := some ⟨target, 0, homing⟩, failedValve := none }) s

/-- Home the valve: to its reference and on to the position of the service column, or BYPASS (R76, log entry 20). -/
def homeValve (s : State) : State :=
  onSfu (fun f => { f with valveMove := some ⟨servicePosition s, 0, true⟩, failedValve := none }) s

/-! ## The service position -/

/-- The blend valve's duty: the latched b while a column serves, 1000 in bypass service (R58). -/
def setDuty (s : State) : State :=
  onSfu (fun f => { f with duty := if f.service.isSome then f.blend else 1000 }) s

/-- Where the outgoing column of a change goes (R63 step 1). -/
def joinPlace (reason : SwitchReason) (out : Option Column) (f : Sfu) : Sfu :=
  match out, reason with
  | none, _ => f
  | some col, .retire => { f with retired := f.retired ++ [col] }
  | some _, .fittedColumns => f
  | some col, .exhausted | some col, .ready | some col, .hostRegenerate | some col, .release =>
    { f with regenQ := f.regenQ ++ [col] }

/-- A change of the service position, in the order of R63. While a valve fault stands no column enters service and the
position is emptied without a move (R77), a re-homing under way keeping its target (log entry 53). Without an incoming
column COLUMN_SWITCH carries a remaining capacity of 0 (log entry 43). -/
def switchService (reason : SwitchReason) (s : State) : State :=
  let out := s.sfu.service
  let incoming := if s.sfu.valveFault then none else s.sfu.ready.head?
  let f := joinPlace reason out s.sfu
  let f := { f with
    service := incoming
    ready := if s.sfu.valveFault then f.ready else f.ready.tail
    rho := 0 }
  let s := onSfu (fun _ => f) s
  let s := if s.sfu.valveFault then s else commandValve (servicePosition s) s
  let s := setDuty s
  let remaining := match incoming with
    | some col => (columnRec s.sfu col).remaining
    | none => 0
  let v := if s.sfu.fill.isOpen then s.sfu.fill.v else 0
  askWrite .columns (raiseNotice (.columnSwitch out incoming reason remaining v) s)

/-- The serving column is absent or exhausted (R64). -/
def serviceWanted (s : State) : Bool :=
  match s.sfu.service with
  | none => true
  | some col => (columnRec s.sfu col).exhausted

/-- The test made at each admission to the ready queue and at each clearing of a valve fault (R64). -/
def readyTest (s : State) : State :=
  if !s.sfu.ready.isEmpty && serviceWanted s && !s.sfu.valveFault then switchService .ready s else s

/-- Mark a column exhausted and ask the write (R62). -/
def markExhausted (col : Column) (s : State) : State :=
  askWrite .columns (onSfu (fun f => setColumnRec f col { columnRec f col with exhausted := true }) s)

/-- The exhaustion check (R62). -/
def exhaustionCheck (s : State) : State :=
  match s.sfu.service with
  | none => s
  | some col =>
    let r := columnRec s.sfu col
    if !s.sfu.valveFault && decide (r.remaining ≤ s.cfg.reserve) && !r.exhausted then
      let s := markExhausted col s
      if s.sfu.ready.isEmpty then s else switchService .exhausted s
    else s

/-- The release rule (R66). -/
def releaseRule (s : State) : State :=
  match s.sfu.service with
  | none => s
  | some col =>
    if !s.sfu.valveFault && (columnRec s.sfu col).exhausted && s.sfu.ready.isEmpty && s.sfu.regenQ.isEmpty
        && s.rge.state == .idle then
      switchService .release s
    else s

/-- A regenerated column is admitted (R64). -/
def admitColumn (col : Column) (s : State) : State :=
  let r := columnRec s.sfu col
  let f :=
    if s.cfg.reserve < r.remaining then
      let f := setColumnRec s.sfu col { r with exhausted := false }
      { f with ready := f.ready ++ [col] }
    else
      let f := setColumnRec s.sfu col { r with exhausted := true }
      { f with regenQ := f.regenQ ++ [col] }
  askWrite .columns (onSfu (fun _ => f) s)

/-! ## The fill record -/

/-- The blend in per mille (R57). -/
def blendOf (hRaw hTgt : Nat) : Nat := if hRaw ≤ hTgt then 1000 else 1000 * hTgt / hRaw

/-- The delivered hardness of a record (R67). -/
def deliveredHardness (g v hRaw : Nat) : Nat := if v = 0 then hRaw else (g + 500 * v) / (1000 * v)

/-- The close of the fill record, if one is open (R67), with the release rule, in a shutdown too (R66, log entry 54). -/
def closeFill (s : State) : State :=
  if s.sfu.fill.isOpen then
    let fr := s.sfu.fill
    let s := onSfu (fun f => { f with
      fill := { fr with isOpen := false, hFill := deliveredHardness fr.g fr.v f.hRaw } }) s
    releaseRule (askWrite .columns s)
  else s

/-- The opening of a fill record (R57, R58); h_fill stays the last record's until the close sets it (log entry 45). -/
def openFill (s : State) : State :=
  let s := closeFill s
  setDuty (onSfu (fun f => { f with
    fill := { isOpen := true, v := 0, g := 0, hFill := f.fill.hFill, breakthrough := 0 }
    hRaw := s.cfg.hRaw
    hTgt := s.cfg.hTgt
    blend := blendOf s.cfg.hRaw s.cfg.hTgt }) s)

/-- The end of a top-up grant (R66, R68). -/
def endTopUp (s : State) : State := releaseRule (askWrite .columns s)

/-! ## The charge of a millilitre (R59 to R61) -/

/-- Append a column to the columns drawn from, unless it stands there (R59, R31). -/
def drawFrom (col : Column) (q : Seq) : Seq :=
  if col ∈ q.summary.columns then q
  else { q with summary := { q.summary with columns := q.summary.columns ++ [col] } }

/-- The charge of a softened millilitre (R59 step 2). -/
def chargeColumn (col : Column) (s : State) : State :=
  let r := columnRec s.sfu col
  let rho := s.sfu.rho + s.sfu.hRaw * (1000 - s.sfu.blend)
  let f := setColumnRec s.sfu col { r with remaining := r.remaining - rho / 100 }
  onSeq (fun q => drawFrom col q) (onSfu (fun _ => { f with rho := rho % 100 }) s)

/-- The G of a MAIN millilitre grows by h_raw × share (R59); a TOP_UP millilitre leaves it (R60). -/
def addG (kind : FillKind) (share : Nat) (s : State) : State :=
  match kind with
  | .main => onSfu (fun f => { f with fill := { f.fill with g := f.fill.g + f.hRaw * share } }) s
  | .topUp => s

/-- A breakthrough millilitre: the counts, and the notice of the first one (R61). -/
def breakthroughMl (kind : FillKind) (col : Column) (s : State) : State :=
  let s := onSeq (fun q => { q with
    summary := { q.summary with breakthrough := q.summary.breakthrough + 1 } }) s
  match kind with
  | .main =>
    let first := s.sfu.fill.breakthrough == 0
    let s := onSfu (fun f => { f with fill := { f.fill with breakthrough := f.fill.breakthrough + 1 } }) s
    if first then raiseNotice (.breakthrough col .main s.sfu.fill.v) s else s
  | .topUp =>
    if s.sfu.topUpMark then s
    else raiseNotice (.breakthrough col .topUp s.sfu.topUpCount) (onSfu (fun f => { f with topUpMark := true }) s)

/-- Steps 2 and 3 of R59 for a millilitre of either kind. -/
def softenMl (kind : FillKind) (s : State) : State :=
  match s.sfu.service with
  | none => addG kind 1000 s
  | some col =>
    if s.sfu.valveFault then addG kind 1000 s
    else if (columnRec s.sfu col).remaining = 0 then breakthroughMl kind col (addG kind 1000 s)
    else if s.sfu.blend < 1000 then addG kind s.sfu.blend (chargeColumn col s)
    else addG kind 1000 s

/-- A millilitre of a FILL grant, handed over by WPC; `first` marks the first of the grant (R59, R60). A MAIN millilitre
counts to the open record. -/
def accountMl (kind : FillKind) (first : Bool) (s : State) : State :=
  let s := match kind with
    | .main => onSfu (fun f => { f with fill := { f.fill with v := f.fill.v + 1 } }) s
    | .topUp =>
      if first then onSfu (fun f => { f with topUpCount := 1, topUpMark := false }) s
      else onSfu (fun f => { f with topUpCount := f.topUpCount + 1 }) s
  exhaustionCheck (softenMl kind s)

/-! ## Configuration changes (R73 to R75) -/

/-- A column's remaining capacity limited to a nominal one. -/
def clampRec (nominal : Nat) (r : ColRec) : ColRec := { r with remaining := min r.remaining nominal }

/-- Every remaining capacity limited to the nominal capacity in force (R73, R56). -/
def clampColumns (s : State) : State :=
  let n := nominalCapacity s
  onSfu (fun f => { f with
    colA := clampRec n f.colA
    colB := clampRec n f.colB
    colC := f.colC.map (clampRec n) }) s

/-- Some column lies above the nominal capacity in force. -/
def aboveNominal (s : State) : Bool :=
  let n := nominalCapacity s
  decide (n < s.sfu.colA.remaining) || decide (n < s.sfu.colB.remaining)
    || (match s.sfu.colC with
        | some r => decide (n < r.remaining)
        | none => false)

/-- A changed nominal capacity (R73); the write is asked only when some capacity lies above it (log entry 44). -/
def nominalChanged (s : State) : State :=
  if aboveNominal s then askWrite .columns (clampColumns s) else s

/-- The ready columns at or below the reserve, taken from head to tail, go to the regeneration queue exhausted (R74,
R56). -/
def sweepReady : List Column → State → State
  | [], s => s
  | col :: rest, s =>
    let s :=
      if (columnRec s.sfu col).remaining ≤ s.cfg.reserve then
        let f := setColumnRec s.sfu col { columnRec s.sfu col with exhausted := true }
        askWrite .columns (onSfu (fun _ => { f with ready := dropColumn col f.ready, regenQ := f.regenQ ++ [col] }) s)
      else s
    sweepReady rest s

/-- A raised switch reserve (R74). -/
def reserveRaised (s : State) : State := exhaustionCheck (sweepReady s.sfu.ready s)

/-- Column C leaves every place and its record is discarded (R75). -/
def removeColumnC (s : State) : State :=
  let s := if s.sfu.service = some .c then switchService .fittedColumns s else s
  askWrite .columns (onSfu (fun f => { f with
    colC := none
    ready := dropColumn .c f.ready
    regenQ := dropColumn .c f.regenQ
    retired := dropColumn .c f.retired
    faulted := dropColumn .c f.faulted }) s)

/-- Column C is created at the tail of the regeneration queue (R75). -/
def createColumnC (s : State) : State :=
  askWrite .columns (onSfu (fun f => { f with
    colC := some { remaining := 0, exhausted := true, regens := 0, degraded := false }
    regenQ := f.regenQ ++ [.c] }) s)

/-! ## Host requests (R70 to R72) -/

/-- Move a column from its queue or set to the tail of the regeneration queue, with the write (R68). -/
def toRegenQueue (col : Column) (s : State) : State :=
  askWrite .columns (onSfu (fun f => { f with
    ready := dropColumn col f.ready
    retired := dropColumn col f.retired
    faulted := dropColumn col f.faulted
    regenQ := f.regenQ ++ [col] }) s)

/-- Move a column from its queue or from the faulted set to the retired set, with the write (R71, R68). -/
def toRetiredSet (col : Column) (s : State) : State :=
  askWrite .columns (onSfu (fun f => { f with
    ready := dropColumn col f.ready
    regenQ := dropColumn col f.regenQ
    faulted := dropColumn col f.faulted
    retired := f.retired ++ [col] }) s)

end Sys2Proof.Machine
end

