-- ==== Sys2Proof/Machine/Water.lean ====
section
/-! DEFINITION. The Water Path Controller and the Regeneration Engine, which share the inlet: grants, their ends and
revocations, drain requests, the flood, the stages of a regeneration and its ends
(02_water_path_inlet_metering_sump_and_drain.md, 04_column_regeneration.md). -/

namespace Sys2Proof.Machine

/-! ## Grants (R37) -/

/-- A party becomes the holder: outputs of Table 13, counts to 0, K latched (R37, R34). -/
def beginGrant (h : Holder) (s : State) : State :=
  onWpc (fun w => { w with
    holder := h
    inletValve := h != .none
    brineValve := h == .brine
    residue := 0
    grantCount := 0
    strayResidue := 0
    strayCount := 0
    latchedK := s.cfg.k }) s

/-- The inlet at the end of a grant: both valves closed, no holder (R37). -/
def closeInlet (s : State) : State :=
  onWpc (fun w => { w with holder := .none, inletValve := false, brineValve := false, fillTimer := none }) s

/-- A waiting burst runs once no FILL grant is held (R49). -/
def startBurst (s : State) : State :=
  match s.wpc.burst with
  | some .waiting => onWpc (fun w => { w with burst := some (.running 0) }) s
  | _ => s

/-- The end of a FILL grant: the request goes, the sequencer hears the reason and the count, SFU the end of a top-up,
and a waiting burst begins (R37, R41, R42, R66). -/
def endFill (reason : FillEnd) (s : State) : State :=
  match s.wpc.fill with
  | none => s
  | some r =>
    let s := report (.fillEnded r.kind reason s.wpc.grantCount) s
    let s := closeInlet (onWpc (fun w => { w with fill := none }) s)
    let s := startBurst s
    match r.kind with
    | .main => s
    | .topUp => endTopUp s

/-- The FILL request is granted; a switch that reads HIGH ends the grant at once with a count of 0 (R41). -/
def grantFill (r : FillReq) (s : State) : State :=
  let s := beginGrant .fill s
  let s := onWpc (fun w => { w with fill := some { r with held := true }, fillTimer := some 0 }) s
  if s.wpc.highLevel then endFill .highLevel s else s

/-- WPC revokes a held regeneration grant: the request waits again and the engine returns to its WAIT state (R38, R39,
R83, R87). -/
def revokeRegen (s : State) : State :=
  match s.wpc.holder with
  | .brine =>
    let s := closeInlet (onWpc (fun w => { w with regen := some ⟨.brine, false⟩, residue := 0 }) s)
    onRge (fun e => { e with state := .brineWait }) s
  | .rinse =>
    let s := closeInlet (onWpc (fun w => { w with regen := some ⟨.rinse, false⟩, residue := 0 }) s)
    onRge (fun e => { e with state := .rinseWait }) s
  | .none | .fill => s

/-- The sequencer withdraws its FILL request (R43). -/
def withdrawFill (s : State) : State :=
  match s.wpc.fill with
  | none => s
  | some r => if r.held then endFill .withdrawn s else onWpc (fun w => { w with fill := none }) s

/-- A FILL request meets the inlet: the flood inhibit refuses it, a drain burst defers it, a regeneration grant gives way
to it (R38). -/
def offerFill (r : FillReq) (s : State) : State :=
  if s.wpc.inhibit then report .fillRefused (onWpc (fun w => { w with fill := none }) s)
  else if s.wpc.burst.isSome then onWpc (fun w => { w with fill := some { r with held := false } }) s
  else grantFill r (revokeRegen s)

/-- The sequencer places a FILL request, which replaces one standing (R38). -/
def placeFill (target : Nat) (kind : FillKind) (s : State) : State :=
  offerFill ⟨target, kind, false⟩ (withdrawFill s)

/-- A FILL request deferred by a burst is taken up when the burst is gone (R49). -/
def grantDeferred (s : State) : State :=
  match s.wpc.fill with
  | some ⟨t, k, false⟩ => if s.wpc.burst.isNone then offerFill ⟨t, k, false⟩ s else s
  | _ => s

/-! ## SEQ drain requests (R47, R50) -/

/-- Place a SEQ drain request; a switch that reads EMPTY starts the run-on at once (R47). One that still stands is replaced
(log entry 52). -/
def placeDrain (s : State) : State :=
  onWpc (fun w => { w with
    seqDrain := some ⟨if w.sumpEmpty then .runOn 0 else .pumping 0, false⟩ }) s

/-- The request is released or withdrawn, in whatever state it stands (R47, R50). -/
def dropDrain (s : State) : State := onWpc (fun w => { w with seqDrain := none }) s

/-! ## The engine and its requests -/

/-- The engine releases or withdraws its request; a held grant ends (R40). -/
def withdrawRegen (s : State) : State :=
  match s.wpc.regen with
  | none => s
  | some r =>
    let s := onWpc (fun w => { w with regen := none }) s
    if r.held then closeInlet s else s

/-- The engine withdraws its drain burst (R49). -/
def withdrawBurst (s : State) : State := onWpc (fun w => { w with burst := none }) s

/-- The engine places a request, WAITING (R81, R86). -/
def placeRegen (k : RegenKind) (s : State) : State := onWpc (fun w => { w with regen := some ⟨k, false⟩ }) s

/-- The engine sets its salt-low mark and raises SALT_LOW, once in a regeneration (R85). -/
def markSaltLow (s : State) : State :=
  match s.rge.column with
  | some col =>
    if s.rge.saltMark then s
    else raiseNotice (.saltLow col s.rge.brineDrawn) (onRge (fun e => { e with saltMark := true }) s)
  | none => s

/-- A waiting regeneration request is granted under R39, and the engine draws or rinses (R81, R85, R87). -/
def grantRegen (s : State) : State :=
  match s.wpc.regen with
  | some ⟨.brine, false⟩ =>
    if regenGrantable s then
      let s := beginGrant .brine (onWpc (fun w => { w with regen := some ⟨.brine, true⟩ }) s)
      let s := onRge (fun e => { e with state := .brineDraw }) s
      if s.rge.saltLow then markSaltLow s else s
    else s
  | some ⟨.rinse, false⟩ =>
    if regenGrantable s then
      let s := beginGrant .rinse (onWpc (fun w => { w with regen := some ⟨.rinse, true⟩ }) s)
      onRge (fun e => { e with state := .rinse }) s
    else s
  | _ => s

/-- Ceiling division. -/
def ceilDiv (a b : Nat) : Nat := (a + (b - 1)) / b

/-- Brine target in mL (R80). -/
def brineTargetOf (deficit qb : Nat) : Nat := max 40 (ceilDiv (deficit * qb) 10000000)

/-- Dwell time in s (R80). -/
def dwellTimeOf (deficit : Nat) : Nat := min 300 (60 + ceilDiv deficit 1000000)

/-- Rinse target in mL (R80). -/
def rinseTargetOf (deficit : Nat) : Nat := max 150 (ceilDiv (4 * deficit) 1000000)

/-- The engine takes a column (R80, R81). -/
def takeColumn (col : Column) (s : State) : State :=
  let deficit := nominalCapacity s - (columnRec s.sfu col).remaining
  let s := onRge (fun e => { e with
    state := .brineWait
    column := some col
    routing := some col
    qb := s.cfg.qb
    deficit := deficit
    brineTarget := brineTargetOf deficit s.cfg.qb
    brineDrawn := 0
    dwellTime := dwellTimeOf deficit
    dwellLeft := 0
    rinseTarget := rinseTargetOf deficit
    rinseDelivered := 0
    stageTime := 0
    saltMark := false
    timeout := .none
    result := none }) s
  if s.rge.lidOpen then s else placeRegen .brine s

/-- SFU hands the head of the regeneration queue to an idle engine (R65, R80). -/
def handOver (s : State) : State :=
  match s.sfu.regenQ with
  | [] => s
  | col :: rest =>
    if handsOver s && s.rge.state == .idle && !s.sfu.valveFault then
      askWrite .columns (takeColumn col (onSfu (fun f => { f with regenQ := rest }) s))
    else s

/-- The engine's fields in IDLE after a finish: no column, no counts; the two marks stand until the next take (R91, R85,
R80, log entry 37). -/
def engineIdle (e : Rge) : Rge :=
  { saltMark := e.saltMark, timeout := e.timeout, lidOpen := e.lidOpen, saltLow := e.saltLow }

/-- The engine's reset values, the switch readings kept (R92). -/
def engineReset (e : Rge) : Rge := { lidOpen := e.lidOpen, saltLow := e.saltLow }

/-- Raise REGEN_DONE for a column that has joined a place (R99). -/
def regenDone (col : Column) (outcome : RegenOutcome) (place : ColPlace) (s : State) : State :=
  raiseNotice (.regenDone
    { column := col, outcome := outcome, remaining := (columnRec s.sfu col).remaining, place := place,
      regens := (columnRec s.sfu col).regens, brineDrawn := s.rge.brineDrawn, rinseDelivered := s.rge.rinseDelivered,
      timeout := s.rge.timeout }) s

/-- Enter the completion result into the column's record (R91). -/
def enterResult (col : Column) (s : State) : State :=
  let r := columnRec s.sfu col
  let res := s.rge.result.getD ⟨r.remaining, r.degraded⟩
  onSfu (fun f => setColumnRec f col { r with
    remaining := min res.remaining (nominalCapacity s)
    degraded := res.degraded
    regens := min 65535 (r.regens + 1) }) s

/-- The column joins the faulted set (R91, R92). -/
def joinFaulted (col : Column) (s : State) : State :=
  onSfu (fun f => { f with faulted := f.faulted ++ [col] }) s

/-- The engine finishes: hand-back, REGEN_DONE, IDLE, the write, the report; then SFU's test (R91, R64). -/
def finishRegen (s : State) : State :=
  match s.rge.column with
  | none => s
  | some col =>
    let s :=
      if s.rge.timeout = .none then
        let s := admitColumn col (enterResult col s)
        regenDone col (if s.rge.saltMark then .degraded else .completed)
          (if s.cfg.reserve < (columnRec s.sfu col).remaining then .readyQueue else .regenQueue) s
      else regenDone col .faulted .faultedSet (joinFaulted col s)
    let s := onRge (fun e => engineIdle e) s
    readyTest (report .engineLeft (askWrite .columns s))

/-- The engine enters EFFLUENT_DRAIN: it finishes at once in a program drain, else places a burst (R90, R49). -/
def enterEffluent (s : State) : State :=
  let s := report .engineLeft (onRge (fun e => { e with state := .effluentDrain }) s)
  if runningIn s .drain then finishRegen s
  else
    let b : Burst := if s.wpc.holder == .fill then .waiting else .running 0
    onWpc (fun w => { w with burst := some b }) s

/-- The engine abandons its regeneration (R92); from IDLE nothing changes. Its notice carries the counts and the mark as they
stood (R99, log entry 55). -/
def abandonRegen (s : State) : State :=
  match s.rge.column with
  | none => s
  | some col =>
    let s := withdrawBurst (withdrawRegen s)
    let s :=
      if s.rge.timeout = .none then
        regenDone col .abandoned .regenQueue (onSfu (fun f => { f with regenQ := col :: f.regenQ }) s)
      else regenDone col .faulted .faultedSet (joinFaulted col s)
    report .engineLeft (askWrite .columns (onRge (fun e => engineReset e) s))

/-- RETIRE COLUMN drops the engine's column (R94); its notice carries the counts and the mark as they stood (R99, log entry
55). -/
def dropRegen (col : Column) (s : State) : State :=
  let s := withdrawBurst (withdrawRegen s)
  let s := regenDone col .retired .retiredSet (onSfu (fun f => { f with retired := f.retired ++ [col] }) s)
  report .engineLeft (askWrite .columns (onRge (fun e => engineReset e) s))

/-- The completion result (R89). -/
def completionResult (s : State) (col : Column) : RegenResult :=
  let n := nominalCapacity s
  if s.rge.saltMark then ⟨min n ((columnRec s.sfu col).remaining + s.rge.deficit / 2), true⟩ else ⟨n, false⟩

/-- A millilitre of brine drawn (R82). -/
def brineMl (s : State) : State :=
  let s := onRge (fun e => { e with brineDrawn := e.brineDrawn + 1 }) s
  if s.rge.brineTarget ≤ s.rge.brineDrawn then
    let s := withdrawRegen s
    report .engineLeft (onRge (fun e => { e with state := .dwell, dwellLeft := e.dwellTime }) s)
  else s

/-- A millilitre of rinse delivered (R87). -/
def rinseMl (s : State) : State :=
  let s := onRge (fun e => { e with rinseDelivered := e.rinseDelivered + 1 }) s
  if s.rge.rinseTarget ≤ s.rge.rinseDelivered then
    let s := withdrawRegen s
    let s := onRge (fun e => { e with result := e.column.map (completionResult s) }) s
    enterEffluent s
  else s

/-- The brine stage has used its 90 s (R84). -/
def brineTimedOut (col : Column) (s : State) : State :=
  let s := raiseFault .brineTimeout (.column col) (.num s.rge.brineDrawn) s
  enterEffluent (withdrawRegen (onRge (fun e => { e with timeout := .brine, stageTime := Config.brineStage }) s))

/-- The rinse stage has used its 120 s (R88). -/
def rinseTimedOut (col : Column) (s : State) : State :=
  let s := raiseFault .rinseTimeout (.column col) (.num s.rge.rinseDelivered) s
  enterEffluent (withdrawRegen (onRge (fun e => { e with timeout := .rinse, stageTime := Config.rinseStage }) s))

/-- The dwell is over: the rinse is asked, or, in a shutdown, the regeneration is abandoned (R86, R95). -/
def dwellOver (s : State) : State :=
  if s.part.state == .shuttingDown then abandonRegen (onRge (fun e => { e with dwellLeft := 0 }) s)
  else placeRegen .rinse (onRge (fun e => { e with dwellLeft := 0, stageTime := 0, state := .rinseWait }) s)

/-- The salt lid changes (R81, R83). -/
def lidChanged (lidOpen : Bool) (s : State) : State :=
  if s.rge.lidOpen = lidOpen then s
  else
    let s := onRge (fun e => { e with lidOpen := lidOpen }) s
    match s.rge.state with
    | .brineWait => if lidOpen then withdrawRegen s else placeRegen .brine s
    | .brineDraw =>
      if lidOpen then withdrawRegen (onRge (fun e => { e with state := .brineWait }) s) else s
    | .idle | .dwell | .rinseWait | .rinse | .effluentDrain => s

/-- The salt-low switch changes (R85). -/
def saltLowChanged (low : Bool) (s : State) : State :=
  let s := onRge (fun e => { e with saltLow := low }) s
  if low && s.rge.state == .brineDraw then markSaltLow s else s

/-! ## The flood (R51, R52) -/

/-- The flood switch reads ACTIVE with no flood request present, or during its run-on (R51). -/
def floodBegins (s : State) : State :=
  let s := onWpc (fun w => { w with inhibit := true }) s
  let s := match s.wpc.fill with
    | some ⟨_, _, true⟩ => endFill .revoked s
    | _ => revokeRegen s
  let s := closeInlet (onWpc (fun w => { w with floodReq := some .active }) s)
  report (.programFault .flood) (raiseFault .flood (.num 0) (.num 0) s)

/-- The filtered flood switch changes (R51, R52). -/
def floodChanged (active : Bool) (s : State) : State :=
  if s.wpc.flood = active then s
  else
    let s := onWpc (fun w => { w with flood := active }) s
    if active then floodBegins s
    else
      match s.wpc.floodReq with
      | some .active => onWpc (fun w => { w with floodReq := some (.runOn Config.floodRunOn) }) s
      | _ => s

/-! ## The three sump switches (R44) -/

/-- The sump-empty switch changes: EMPTY in PUMPING starts the run-on (R47). -/
def sumpEmptyChanged (empty : Bool) (s : State) : State :=
  if s.wpc.sumpEmpty = empty then s
  else
    let s := onWpc (fun w => { w with sumpEmpty := empty }) s
    match s.wpc.seqDrain with
    | some ⟨.pumping _, second⟩ =>
      if empty then onWpc (fun w => { w with seqDrain := some ⟨.runOn 0, second⟩ }) s else s
    | _ => s

/-- The heater-cover level switch changes; the heater reads it (R44, R135). -/
def heaterCoverChanged (reached : Bool) (s : State) : State :=
  onWpc (fun w => { w with heaterCover := reached }) s

/-- The high-level switch changes: HIGH ends a FILL grant and revokes a regeneration's (R41, R39). -/
def highLevelChanged (high : Bool) (s : State) : State :=
  if s.wpc.highLevel = high then s
  else
    let s := onWpc (fun w => { w with highLevel := high }) s
    if high then
      match s.wpc.fill with
      | some ⟨_, _, true⟩ => endFill .highLevel s
      | _ => revokeRegen s
    else s

/-! ## Metering (R34 to R36) -/

/-- The stray flow has reached 200 mL (R36). -/
def inletLeaks (s : State) : State :=
  let s := raiseFault .inletLeak (.num s.wpc.strayCount) (.num 0) s
  report (.programFault .inletLeak)
    (onWpc (fun w => { w with leak := some Config.leakDrain, strayCount := 0, strayResidue := 0 }) s)

/-- A millilitre with no holder (R36). -/
def strayMl (s : State) : State :=
  let s := onWpc (fun w => { w with strayCount := w.strayCount + 1 }) s
  if Config.strayLimit ≤ s.wpc.strayCount then inletLeaks s else s

/-- A millilitre of a FILL grant: the summary's water, the softener's account, the target (R35, R41). -/
def fillMl (r : FillReq) (s : State) : State :=
  let s := onSeq (fun q => { q with summary := { q.summary with water := q.summary.water + 1 } }) s
  let s := accountMl r.kind (s.wpc.grantCount == 1) s
  if r.target ≤ s.wpc.grantCount then endFill .volumeReached s else s

/-- A millilitre emitted during a grant goes to the holder (R35). -/
def grantMl (s : State) : State :=
  let s := onWpc (fun w => { w with grantCount := min 65535 (w.grantCount + 1) }) s
  match s.wpc.holder with
  | .none => s
  | .fill =>
    match s.wpc.fill with
    | some r => fillMl r s
    | none => s
  | .brine => brineMl s
  | .rinse => rinseMl s

/-- Emit the millilitres of a pulse of the grant in progress, one by one while the grant goes on (R34, log entry 28). -/
def emitGrant : Nat → Holder → State → State
  | 0, _, s => s
  | n + 1, h, s =>
    if s.wpc.holder = h ∧ s.wpc.latchedK ≤ s.wpc.residue then
      emitGrant n h (grantMl (onWpc (fun w => { w with residue := w.residue - w.latchedK }) s))
    else s

/-- Emit the stray millilitres of a pulse (R34, R36). -/
def emitStray : Nat → State → State
  | 0, s => s
  | n + 1, s =>
    if s.cfg.k ≤ s.wpc.strayResidue then
      emitStray n (strayMl (onWpc (fun w => { w with strayResidue := w.strayResidue - s.cfg.k }) s))
    else s

/-- One pulse of the flow meter (R34). A pulse emits at most five millilitres; ten are allowed for a residue carried. It counts
to the holder it finds, also where that grant began in the step that ended the one before (DEDUCED, log entry 68). -/
def meterPulse (s : State) : State :=
  if s.wpc.holder = .none then
    emitStray 10 (onWpc (fun w => { w with strayResidue := w.strayResidue + 1000 }) s)
  else
    emitGrant 10 s.wpc.holder (onWpc (fun w => { w with residue := w.residue + 1000 }) s)

/-! ## The water settles: pump, permit, grants (R29, R39, R46) -/

/-- The pump's output and the permit as their conditions now give them (R46, R29). -/
def refreshPump (s : State) : State :=
  let s := onWpc (fun w => { w with drainPump := pumpAsked w }) s
  onSeq (fun q => { q with permit := permitCondition s }) s

/-- The sequencer drains while the engine drains its effluent: the burst goes and the engine finishes (R90). -/
def effluentMeetsDrain (s : State) : State :=
  if s.rge.state == .effluentDrain && runningIn s .drain then finishRegen (withdrawBurst s) else s

/-- A held regeneration grant whose conditions have failed is revoked (R39). -/
def revokeUnlessFlows (s : State) : State := if regenMayFlow s then s else revokeRegen s

/-- What follows from a change of a request, a switch or the sequencer's state on the water path. -/
def waterSettle (s : State) : State :=
  grantRegen (handOver (refreshPump (revokeUnlessFlows (refreshPump (effluentMeetsDrain (refreshPump (grantDeferred s)))))))

end Sys2Proof.Machine
end

