-- ==== Sys2Proof/Machine/Sequencer.lean ====
section
/-! DEFINITION. The Phase Sequencer: how a phase begins, runs through its sub-stages and ends, how a program is stopped,
and how the sequencer takes the reports of the other blocks (01_wash_programs_and_the_phase_sequencer.md). -/

namespace Sys2Proof.Machine

/-- The sequencer's state and sub-stage; the sub-stage is NONE outside RUNNING (R7). -/
def seqTo (st : SeqState) (sub : SubStage) (s : State) : State :=
  onSeq (fun q => { q with state := st, sub := sub }) s

def setOutcome (o : Outcome) (s : State) : State :=
  onSeq (fun q => { q with summary := { q.summary with outcome := o } }) s

/-- PROGRAM_END with the whole summary (R31). -/
def programEnd (s : State) : State := raiseNotice (.programEnd s.seq.summary) s

/-! ## FILL (R9, R10) -/

/-- The phase begins its main fill (R9). -/
def beginFill (w : WashRecord) (s : State) : State :=
  placeFill w.fillVolume .main (openFill (onSeq (fun q => { q with fillBegun := true }) s))

/-- The fill goes on with the remaining volume (R10, R25). -/
def continueFill (w : WashRecord) (s : State) : State := placeFill (w.fillVolume - s.sfu.fill.v) .main s

/-! ## The entry of a phase (R8, R17, R6) -/

/-- What each phase entry sets. -/
def phaseMarks (q : Seq) : Seq :=
  { q with
    summary := { q.summary with phasesRun := q.summary.phasesRun + 1 }
    topUpMark := false
    fillTimeouts := 0
    fillBegun := false
    holdTimer := 0
    settling := none
    waterWait := none
    extension := none
    remembered := .none
    placed := [] }

/-- SEQ enters the current phase (R8); a phase that is not DRY waits in SUSPENDED for an open door (R6, R18). -/
def enterPhase (s : State) : State :=
  match currentPhase s with
  | none => s
  | some p =>
    let s := raiseNotice (.phaseBegin s.seq.idx (phaseKind p)) (onSeq (fun q => phaseMarks q) s)
    let s := circulationPhaseEntry (heatingPhaseEntry s)
    match p with
    | .dry dwell openTime => startDrying ⟨dwell, openTime⟩ (seqTo .running .dry s)
    | .wash _ w =>
      if s.ddu.doorOpen then
        let s := seqTo .suspended .none s
        onSeq (fun q => { q with remembered := .sub .fill }) s
      else beginFill w (seqTo .running .fill s)

/-- The next phase (R18, R20). -/
def enterNext (s : State) : State := enterPhase (onSeq (fun q => { q with idx := q.idx + 1 }) s)

/-! ## The boundary of a phase (R18) -/

/-- The program has completed. -/
def completeProgram (s : State) : State :=
  programEnd (setOutcome .completed
    (onSeq (fun q => { q with state := .ended, sub := .none, holdPending := false }) s))

/-- The phase stops at its boundary for a hold. -/
def holdAtBoundary (s : State) : State :=
  raiseNotice (.holdReached s.seq.idx)
    (onSeq (fun q => { q with state := .holding, sub := .none, holdPending := false }) s)

/-- The end of a phase (R18). -/
def endPhase (s : State) : State :=
  let s := match currentPhase s with
    | some p => raiseNotice (.phaseEnd s.seq.idx (phaseKind p)) s
    | none => s
  if s.seq.count ≤ s.seq.idx + 1 then completeProgram s
  else if s.seq.holdPending then holdAtBoundary s
  else enterNext s

/-! ## DRAIN (R15, R30) -/

def enterDrain (s : State) : State := placeDrain (seqTo .running .drain s)

/-- DRAIN ends: the request is released and the phase reaches its boundary (R15, R30). -/
def endDrain (s : State) : State :=
  endPhase (dropDrain (onSeq (fun q => { q with extension := none }) s))

/-- The natural end of a program drain: extension or boundary (R15, R30). -/
def drainNaturalEnd (s : State) : State :=
  if extensionHolds s then onSeq (fun q => { q with extension := some 0 }) s else endDrain s

/-! ## CIRCULATE and the soil sample (R13, R14) -/

/-- The transmission WPC reports (R45). -/
def transmission (turbidity : Int) : Nat := min 1000 turbidity.toNat

/-- The soil index of a transmission (R14). -/
def soilOf (t : Nat) : Nat := min 7 ((1000 - t) / 100)

/-- The end of CIRCULATE (R13, R14). -/
def endCirculate (w : WashRecord) (s : State) : State :=
  let s := stopCirculation (withdrawFill (withdrawHeat s))
  let s :=
    if w.sample then onSeq (fun q => { q with soil := soilOf (transmission s.pins.turbidity) }) s else s
  if w.drain then enterDrain s else endPhase s

/-- Enter CIRCULATE (R13). -/
def enterCirculate (w : WashRecord) (s : State) : State :=
  let s := seqTo .running .circulate s
  let s := onSeq (fun q => { q with holdTimer := 0 }) s
  if w.holdTime = 0 then endCirculate w s else runCirculation w s

/-! ## HEAT and DOSE (R11, R12) -/

/-- HEAT, or what follows it where it is passed over (R8, R12). -/
def enterHeat (w : WashRecord) (s : State) : State :=
  if 0 < w.target ∧ s.seq.heaterOff = false then
    placeHeating w.target w.heatLimit (runCirculation w (seqTo .running .heat s))
  else enterCirculate w s

/-- Place the request of one dose reference; a reference whose computed dose is nothing places none (R11, R111, R112). -/
def placeRef (w : WashRecord) (s : State) (ref : DoseRef) : State :=
  if computeDose s w ref = 0 then s else placeDose s.seq.idx ref.channel (computeDose s w ref) s

/-- Place the requests of the references in their order (R11, R111, R112). -/
def placeDoses (w : WashRecord) (refs : List DoseRef) (s : State) : State := refs.foldl (placeRef w) s

/-- DOSE, or what follows it where it is passed over (R8, R11). -/
def enterDose (w : WashRecord) (s : State) : State :=
  if w.refs.isEmpty then enterHeat w s
  else
    let s := placeDoses w w.refs (runCirculation w (seqTo .running .dose s))
    if s.seq.placed.isEmpty then enterHeat w s else s

/-! ## Stopping a program (R21, R22, R26, R32) -/

/-- The stopping actions of R21. -/
def stopProgram (s : State) : State :=
  let s := withdrawHeat s
  let s := closeFill (withdrawFill s)
  let s := stopCirculation (cancelSequencerDoses s)
  let s := if runningIn s .drain then dropDrain s else s
  onSeq (fun q => { q with
    holdTimer := 0, waterWait := none, settling := none, extension := none, remembered := .none
    holdPending := false }) s

/-- Enter ENDING with the abort drain (R21, R26). -/
def enterEnding (s : State) : State := placeDrain (seqTo .ending .none s)

/-- Enter FAULTED with PROGRAM_END (R26). -/
def enterFaulted (s : State) : State := programEnd (seqTo .faulted .none s)

/-- The codes after which the abort drain runs (R26). -/
def drainsAfter : FaultCode → Bool
  | .waterSupply | .overheat => true
  | _ => false

/-- The sequencer holds the first program-ending code (R26). -/
def holdCode (code : FaultCode) (s : State) : State :=
  onSeq (fun q => { q with fault := q.fault.orElse fun _ => some code }) s

/-- A program-ending fault reaches the sequencer (R26). -/
def programFault (code : FaultCode) (s : State) : State :=
  match s.seq.state with
  | .idle | .ended => holdCode code (seqTo .faulted .none s)
  | .running | .holding | .suspended | .waitWater =>
    if runningIn s .dry then
      let s := endDrying s
      enterFaulted (setOutcome .faulted (holdCode code (onSeq (fun q => { q with holdPending := false }) s)))
    else
      let s := setOutcome .faulted (holdCode code (stopProgram s))
      if drainsAfter code then enterEnding s else enterFaulted s
  | .ending =>
    let s := setOutcome .faulted (holdCode code s)
    if drainsAfter code then s else enterFaulted (dropDrain s)
  | .faulted => s

/-- ABORT PROGRAM where it is accepted (R21, R22). -/
def abortProgram (s : State) : State :=
  if runningIn s .dry then
    let s := endDrying s
    programEnd (setOutcome .aborted (onSeq (fun q => { q with
      state := .ended, sub := .none, holdPending := false }) s))
  else enterEnding (stopProgram s)

/-- RESET UNIT SEQUENCER (R32); the held code goes with a program (log entry 18). A drain request that stands in ENDED or
FAULTED is withdrawn (R50); what R32 leaves to choose in FAULTED and in IDLE is log entry 41. -/
def resetSequencer (s : State) : State :=
  match s.seq.state with
  | .running | .holding | .suspended | .waitWater | .ending =>
    let s := if runningIn s .dry then endDrying s else stopProgram s
    let s := programEnd (setOutcome .aborted (dropDrain s))
    onSeq (fun q => { q with state := .idle, sub := .none, idx := 0, holdPending := false, fault := none }) s
  | .ended => dropDrain (onSeq (fun q => { q with state := .idle, idx := 0 }) s)
  | .faulted => dropDrain s
  | .idle => s

/-! ## Host control (R5, R6, R20, R23, R28) -/

/-- The accepted START PROGRAM (R6, R131). -/
def startProgram (s : State) : State :=
  let s := onSeq (fun q => { q with
    summary := {}, holdPending := false, soil := s.cfg.defaultSoil, idx := 0, fault := none }) s
  enterPhase (heatingProgramStart s)

/-- The link is lost: the hold goes, and HOLDING goes on as on CONTINUE (R23). -/
def linkLostToSeq (s : State) : State :=
  let s := onSeq (fun q => { q with holdPending := false }) s
  if s.seq.state = .holding then enterNext s else s

/-! ## The door (R24, R25) -/

/-- SUSPENDED with what it remembers; every standing request of the sub-stage is stopped (R24). -/
def suspend (s : State) : State :=
  let sub := s.seq.sub
  let s := onSeq (fun q => { q with
    state := .suspended, sub := .none, remembered := .sub sub, settling := none }) s
  let s := stopCirculation (withdrawHeat (withdrawFill s))
  match sub with
  | .dose => pauseDosing s
  | .drain => dropDrain (onSeq (fun q => { q with extension := none }) s)
  | .none | .fill | .heat | .circulate | .dry => s

/-- A door opening reaches the sequencer (R24). -/
def doorOpenedToSeq (s : State) : State :=
  match s.seq.state with
  | .running => if s.seq.sub = .dry then s else suspend s
  | .waitWater =>
    onSeq (fun q => { q with
      state := .suspended, sub := .none, remembered := .waitWater, settling := none }) s
  | .suspended => onSeq (fun q => { q with settling := none }) s
  | .idle | .holding | .ending | .ended | .faulted => s

/-- A door closing reaches the sequencer (R25). -/
def doorClosedToSeq (s : State) : State :=
  if s.seq.state = .suspended then onSeq (fun q => { q with settling := some 0 }) s else s

/-- HEAT is re-evaluated at the resumption (R25). -/
def resumeHeat (w : WashRecord) (s : State) : State :=
  if s.seq.heaterOff then enterCirculate w s
  else if atTarget s w.target then enterCirculate w (placeRegulating w.target s)
  else placeHeating w.target s.seq.heatLeft (runCirculation w (seqTo .running .heat s))

/-- CIRCULATE is resumed; the hold timer keeps its value (R25). A phase whose heater was disabled for the rest of the
program counts as not heated: no heat request is re-placed (log entry 42). -/
def resumeCirculate (w : WashRecord) (s : State) : State :=
  let s := seqTo .running .circulate s
  let s := if 0 < w.target ∧ s.seq.heaterOff = false then placeRegulating w.target s else s
  runCirculation w s

/-- DOSE is resumed; it ends when nothing is left to continue (R25, R127). -/
def resumeDose (w : WashRecord) (s : State) : State :=
  let s := resumeDosing (runCirculation w (seqTo .running .dose s))
  if s.seq.placed.isEmpty then enterHeat w s else s

/-- The sub-stage remembered is resumed (R25). -/
def resumeSub (sub : SubStage) (w : WashRecord) (s : State) : State :=
  match sub with
  | .fill =>
    let s := seqTo .running .fill s
    if s.seq.fillBegun then continueFill w s else beginFill w s
  | .dose => resumeDose w s
  | .heat => resumeHeat w s
  | .circulate => resumeCirculate w s
  | .drain => enterDrain s
  | .none | .dry => s

/-- The settling time has run out with the door closed (R25). -/
def resumeProgram (s : State) : State :=
  let what := s.seq.remembered
  let s := onSeq (fun q => { q with settling := none, remembered := .none }) s
  match what, currentWash s with
  | .waitWater, _ => seqTo .waitWater .none s
  | .sub sub, some w => resumeSub sub w s
  | _, _ => s

/-! ## The reports of the blocks -/

/-- WATER_SUPPLY: the second expiry in a fill (R10). -/
def waterSupplyFails (s : State) : State :=
  programFault .waterSupply (raiseFault .waterSupply (.num s.sfu.fill.v) (.num 0) s)

/-- A fill limit expires under the main fill (R9, R10). -/
def fillLimitReached (s : State) : State :=
  let s := onSeq (fun q => { q with fillTimeouts := q.fillTimeouts + 1 }) s
  if s.seq.fillTimeouts ≤ 1 then
    raiseNotice (.waterWait s.seq.idx)
      (onSeq (fun q => { q with state := .waitWater, sub := .none, waterWait := some Config.waterWait }) s)
  else waterSupplyFails s

/-- WPC reports the end of a FILL grant (R9, R16). -/
def fillEnded (kind : FillKind) (reason : FillEnd) (s : State) : State :=
  match kind, currentWash s with
  | .main, some w =>
    if runningIn s .fill then
      match reason with
      | .volumeReached | .highLevel => enterDose w (closeFill s)
      | .limitExpired => fillLimitReached s
      | .withdrawn | .revoked => s
    else s
  | _, _ => s

/-- WPC reports the natural end of a SEQ drain (R15, R22, R26, R28). -/
def drainEnded (s : State) : State :=
  if runningIn s .drain then drainNaturalEnd s
  else if s.seq.state = .ending then
    let s := dropDrain s
    if s.seq.fault.isSome then enterFaulted s
    else programEnd (setOutcome .aborted (seqTo .ended .none s))
  else dropDrain s

/-- DSU reports the end of a request of sequencer origin: DOSE ends with the last of the phase's (R11). -/
def doseEnded (arrival : Nat) (s : State) : State :=
  let s := onSeq (fun q => { q with placed := q.placed.erase arrival }) s
  match currentWash s with
  | some w => if runningIn s .dose && s.seq.placed.isEmpty then enterHeat w s else s
  | none => s

/-- HTC reports that HEAT is over, whichever way (R12, R27). -/
def heatEnded (s : State) : State :=
  match currentWash s with
  | some w => if runningIn s .heat then enterCirculate w s else s
  | none => s

/-- HTC reports TEMP_SENSOR (R12). -/
def sensorFailedToSeq (s : State) : State :=
  let s := onSeq (fun q => { q with heaterOff := true }) s
  match currentWash s with
  | some w => if runningIn s .heat then enterCirculate w (withdrawHeat s) else s
  | none => s

/-- CZS reports low pressure: the top-up of the phase (R16). -/
def pressureLowToSeq (s : State) : State :=
  if (runningIn s .dose || runningIn s .heat || runningIn s .circulate) && !s.seq.topUpMark then
    placeFill Config.topUp .topUp (onSeq (fun q => { q with topUpMark := true }) s)
  else s

/-- DDU reports drying done (R17). -/
def dryingDone (s : State) : State := if runningIn s .dry then endPhase s else s

/-- The engine has left the states for which a drain is extended (R30). -/
def engineLeft (s : State) : State :=
  if runningIn s .drain && s.seq.extension.isSome then endDrain s else s

/-- A FILL request was refused for flood: a running program ends by the flood (R38). -/
def fillRefusedToSeq (s : State) : State := if programRuns s then programFault .flood s else s

/-- The sequencer takes one report. -/
def takeReport (r : Report) (s : State) : State :=
  match r with
  | .fillEnded kind reason _ => fillEnded kind reason s
  | .fillRefused => fillRefusedToSeq s
  | .drainEnded => drainEnded s
  | .programFault code => programFault code s
  | .targetReached => heatEnded s
  | .heatLimitExpired => heatEnded s
  | .heatDisabled => heatEnded s
  | .sensorFailed => sensorFailedToSeq s
  | .doseEnded arrival => doseEnded arrival s
  | .pressureLow => pressureLowToSeq s
  | .doorOpened => doorOpenedToSeq s
  | .doorClosed => doorClosedToSeq s
  | .dryingDone _ => dryingDone s
  | .engineLeft => engineLeft s
  | .linkLost => linkLostToSeq s

end Sys2Proof.Machine
end

