-- ==== Sys2Proof/Machine/Settle.lean ====
section
/-! DEFINITION. What follows inside one step from what a command did: the reports taken one by one, the water path, the
end of STARTING, the shutdown, the outputs; the entries to STARTING, READY, SHUT and STANDBY; the blocks' fresh reads; the
loss of the link (log entry 8, 10_standby_shutdown_and_retained_records.md). -/

namespace Sys2Proof.Machine

/-! ## The silence timer and the loss of the link (R181, R182) -/

/-- The silence timer is set to 0 and runs where it counts (R182). -/
def restartSilence (s : State) : State :=
  onLnk (fun l => { l with silence := if silenceCounts s then some 0 else none }) s

/-- The entry to LOST (R182). -/
def loseLink (cause : LostCause) (s : State) : State :=
  let s := onLnk (fun l => { l with
    state := .lost, silence := none, lostCause := cause, lostStamp := l.stamp }) s
  report .linkLost (raiseFault .linkLost (.lost cause) (.num s.lnk.errors) s)

/-- The link state follows the receive error count in UP and DEGRADED (R181). -/
def followErrors (s : State) : State :=
  if linkSends s then
    if Config.lostCount ≤ s.lnk.errors then loseLink .count s
    else onLnk (fun l => { l with
      state := if Config.degradedCount ≤ l.errors then .degraded else .up }) s
  else s

/-! ## Reports (log entry 8) -/

/-- Take the reports in the order made, the water path settling after each. The first argument bounds their number: a
command leads to far fewer than 64, and none stands after the step (log entry 8). -/
def takeReports : Nat → State → State
  | 0, s => onReports (fun _ => []) s
  | n + 1, s =>
    match s.reports with
    | [] => s
    | r :: rest => takeReports n (waterSettle (takeReport r (onReports (fun _ => rest) s)))

/-! ## The ends of STARTING and of a shutdown (R195, R198, R199) -/

/-- The part enters READY when the last homing has ended (R195, R182). -/
def reachReady (s : State) : State :=
  if s.part.state == .starting && homingsEnded s then
    let faults := s.part.homingFaults
    let s := onPart (fun p => { p with state := .ready, homingFaults := [] }) s
    restartSilence (raiseNotice (.ready s.part.startedFrom faults) s)
  else s

/-- The entry to SHUT: the outputs stand, the sensors rest (R198, R199, R129, R46; log entry 13). -/
def enterShut (s : State) : State :=
  let s := stopCirculation s
  let s := onSfu (fun f => { f with
      valvePos := if f.valveMove.isSome then none else f.valvePos
      valveMove := none })
    (onHtc (fun h => { h with temp := none, demand := false })
      (onWpc (fun w => { w with leak := none })
        (onLnk (fun l => { l with silence := none })
          (onPart (fun p => { p with state := .shut, shutdown := .complete, writesAsked := false }) s))))
  raiseNotice (.shutdownDone s.part.abrupt) s

/-- The shutdown's progress: the work, then the four writes and the end of a diverter move, then SHUT (R198, R199,
R157). The order in which the four are asked is the model's (DESIGN CHOICE, log entry 67). -/
def advanceShutdown (s : State) : State :=
  if s.part.state == .shuttingDown then
    let s :=
      if !s.part.writesAsked && shutdownWorkDone s then
        askAllWrites (onPart (fun p => { p with writesAsked := true }) s)
      else s
    if s.part.writesAsked && s.rst.pendingWrites.isEmpty && s.rst.writing.isNone && s.czs.move.isNone then enterShut s
    else s
  else s

/-- What follows from a command inside its step. -/
def settle (s : State) : State :=
  let s := takeReports 64 (waterSettle s)
  let s := advanceShutdown (reachReady s)
  refreshArms (refreshHeater (revokeUnlessFlows (refreshPump s)))

/-- The end of a step whose command acted on the machine. -/
def conclude (s : State) : State := finish (settle s)

/-! ## Fresh reads (R195, R197) -/

/-- The water path's three switches, a difference reported as a change (R33; log entry 21). -/
def readWater (p : Pins) (s : State) : State :=
  highLevelChanged p.highLevel (heaterCoverChanged p.heaterCover (sumpEmptyChanged p.sumpEmpty s))

/-- The salt switches; a difference is a change (R79; log entry 21). -/
def readSalt (p : Pins) (s : State) : State := saltLowChanged p.saltLow (lidChanged p.lidOpen s)

/-- The low switches (R102). -/
def readLowSwitches (p : Pins) (s : State) : State :=
  readLowSwitch .d3 p.low.d3 (readLowSwitch .d2 p.low.d2 (readLowSwitch .d1 p.low.d1 s))

/-- The cap switches on entry to STARTING (R103). -/
def readCapSwitches (p : Pins) (s : State) : State :=
  readCapSwitch .d3 p.capOpen.d3 (readCapSwitch .d2 p.capOpen.d2 (readCapSwitch .d1 p.capOpen.d1 s))

/-- The booster presence switch (R100). -/
def readBooster (p : Pins) (s : State) : State :=
  onDsu (fun d => { d with r3 := { d.r3 with fitted := p.booster } }) s

/-- The actuator presence input: without an actuator the count stays 0 and the homed flag clear (R159). -/
def readActuator (p : Pins) (s : State) : State :=
  onDdu (fun d => { d with
    fitted := p.actuator
    count := if p.actuator then d.count else 0
    homed := d.homed && p.actuator }) s

/-- The pressure switch, with no change reported; the pressure condition is what pump and reading give (R157, R147). -/
def readPressure (p : Pins) (s : State) : State :=
  onCzs (fun z => { z with reading := p.pressure, confirmed := z.pump && p.pressure }) s

/-! ## Entries (R195 to R197) -/

/-- The entry to STARTING: fresh reads and the four homings (R195). With an empty queue DSU stays IDLE while its selector
is homed (log entry 46). -/
def enterStarting (s : State) : State :=
  let p := s.pins
  let s := onPart (fun x => { x with
    state := .starting
    shutdown := .none
    startedFrom := x.state
    homings := ⟨true, true, true, p.actuator⟩
    homingFaults := [] }) s
  let s := restartSilence s
  let s := readCapSwitches p (readLowSwitches p (readBooster p s))
  let s := doorChanged p.doorOpen (readActuator p s)
  let s := readSalt p (readWater p (readPressure p s))
  let s := firstReading p.sensor s
  let s := homeSelector (homeDiverter (homeValve s))
  if p.actuator then driveInward s else s

/-- The part enters STANDBY: everything is kept, the silence timer stops, the temperature is no longer read (R196, R129).
-/
def enterStandby (s : State) : State :=
  onHtc (fun h => { h with temp := none, output := .off })
    (onLnk (fun l => { l with silence := none }) (onPart (fun p => { p with state := .standby }) s))

/-- The wake from STANDBY (R197): READY, the notice, the silence timer, the fresh reads. The change that woke the part is
taken by the caller. -/
def wake (source : WakeSource) (s : State) : State :=
  let s := raiseNotice (.wake source) (onPart (fun p => { p with state := .ready }) s)
  let s := restartSilence s
  let p := s.pins
  let s := saltLowChanged p.saltLow (readWater p (readPressure p (readLowSwitches p s)))
  firstReading p.sensor s

/-- Wake the part if it is in STANDBY. -/
def wakeIf (source : WakeSource) (s : State) : State :=
  if s.part.state == .standby then wake source s else s

end Sys2Proof.Machine
end

