-- ==== Sys2Proof/Machine/Requests.lean ====
section
/-! DEFINITION. The owners' answers to the 26 requests: each examines its fields and its state, acts, and gives a status
and what follows it (R178 step 5). An answer that acted comes with the state settled; one that did not leaves the state
as it was. -/

namespace Sys2Proof.Machine

/-- An owner's answer with the state it leaves. -/
structure Served where
  state : State
  answer : Answer

/-- A refusal: the reply ends at the status (R178). -/
def refuse (status : Status) (s : State) : Served := ⟨s, ⟨status, .empty⟩⟩

/-- An answer that changed nothing. -/
def reply (body : ReplyBody) (s : State) : Served := ⟨s, ⟨.ok, body⟩⟩

/-- An answer after an action. -/
def acted (status : Status) (body : ReplyBody) (s : State) : Served := ⟨settle s, ⟨status, body⟩⟩

/-! ## LNK: identity and status (R185, R186) -/

/-- The seven ASCII bytes AF-2460. -/
def designation : List Byte := [0x41#8, 0x46#8, 0x2D#8, 0x32#8, 0x34#8, 0x36#8, 0x30#8]

def identityOf (s : State) : Identity where
  designation := designation
  revision := Config.siliconRevision
  requestKinds := 26
  noticeKinds := 22
  largestPayload := 198
  fittedColumns := s.cfg.fitted
  d3Fitted := s.dsu.r3.fitted
  actuatorFitted := s.ddu.fitted
  stamp := s.lnk.stamp

/-- A dose request as the snapshot shows it (R114). -/
def doseView (r : DoseReq) : DoseView := ⟨r.channel, r.origin, r.state, r.target, r.confirmed⟩

/-- The current request: the ACTIVE one (R114). -/
def currentRequest (d : Dsu) : Option DoseReq :=
  match d.batch with
  | [] => none
  | r :: _ => if r.state = .active then some r else none

/-- The current zone as reported: in the fixed condition the zone at which the diverter stands (R152). -/
def reportedZone (z : Czs) : Option Zone := if z.fixed then z.position else z.zone

/-- The engine's group, its column with the capacity as taken (R89); in IDLE no column and every count 0 (R79). -/
def regenView (f : Sfu) (e : Rge) : RegenView where
  state := e.state
  column := e.column
  remaining := e.column.map fun col => (columnRec f col).remaining
  brineDrawn := if e.state = .idle then 0 else e.brineDrawn
  brineTarget := if e.state = .idle then 0 else e.brineTarget
  rinseDelivered := if e.state = .idle then 0 else e.rinseDelivered
  rinseTarget := if e.state = .idle then 0 else e.rinseTarget
  stageTime := if e.state = .idle then 0 else e.stageTime
  dwellLeft := if e.state = .idle then 0 else e.dwellLeft
  saltMark := e.saltMark
  timeout := e.timeout
  result := e.result

/-- The status snapshot (R185, Table 50). -/
def snapshotOf (s : State) : Snapshot where
  part := ⟨s.part.state, s.part.shutdown, s.lnk.stamp⟩
  seq := ⟨s.seq.state, s.seq.idx, s.seq.sub, s.seq.remembered, s.seq.holdPending, s.seq.fault, s.seq.permit,
    s.seq.extension.isSome⟩
  water := ⟨s.wpc.holder, s.wpc.grantCount, s.wpc.fill, s.wpc.regen, s.wpc.drainPump, s.wpc.seqDrain, s.wpc.burst,
    s.wpc.leak, s.wpc.floodReq, s.wpc.strayCount, s.wpc.sumpEmpty, s.wpc.heaterCover, s.wpc.highLevel, s.wpc.flood⟩
  softener := ⟨s.sfu.service, s.sfu.service.map fun col => (columnRec s.sfu col).remaining, s.sfu.ready, s.sfu.regenQ,
    s.sfu.retired, s.sfu.faulted, s.sfu.valvePos, s.sfu.valveMove.map fun m => m.target, s.sfu.valveFault⟩
  regen := regenView s.sfu s.rge
  dosing := ⟨s.dsu.state, s.dsu.pause, s.dsu.selector, s.dsu.move.map fun m => m.target,
    (currentRequest s.dsu).map doseView, s.dsu.batch.map doseView, s.dsu.waiting.map doseView,
    ⟨s.dsu.r1.empty, s.dsu.r2.empty, s.dsu.r3.empty⟩⟩
  heating := ⟨s.htc.temp, s.htc.output, s.htc.half, s.htc.lockout, s.htc.valid, s.htc.faultKind, s.htc.request,
    s.htc.limitLeft, s.htc.lossCount, s.htc.phaseDisable, s.htc.programDisable⟩
  circulation := ⟨s.czs.pump, s.czs.confirmed, s.czs.position, s.czs.move.map fun m => m.target, s.czs.fixed,
    reportedZone s.czs, s.czs.slotsGiven, s.czs.slotTime, s.czs.slotLength, s.czs.weights, s.czs.stall1, s.czs.stall2⟩
  drying := ⟨s.ddu.doorOpen, s.ddu.count, s.ddu.drive, s.ddu.homed, s.ddu.stage, s.ddu.outcome⟩
  link := ⟨s.lnk.state, s.lnk.errors, s.lnk.lostCause, s.lnk.notices.length⟩
  latest := s.lnk.latest

def serveIdentify (s : State) : Served := reply (.identity (identityOf s)) s

def serveGetStatus (s : State) : Served := reply (.snapshot (snapshotOf s)) s

/-! ## LNK: enabling the link (R183, R195) -/

/-- LINK_RECOVERED of a link that was LOST, with the notices pending at the recovery (R183). -/
def recoverNotice (s : State) : State :=
  if s.lnk.state = .lost then
    raiseNotice (.linkRecovered s.lnk.lostCause s.lnk.lostStamp s.lnk.notices.length) s
  else s

/-- The link effects of LINK ENABLE (R183). -/
def enableLink (s : State) : State :=
  let s := recoverNotice s
  restartSilence (onLnk (fun l => { l with errors := 0, state := .up }) s)

/-- LINK ENABLE in an admitting part state (R183, R195). -/
def serveLinkEnable (s : State) : Served :=
  let s := enableLink s
  if s.part.state = .down ∨ s.part.state = .shut then
    let s := settle (enterStarting s)
    reply (.partState s.part.state) s
  else reply (.partState s.part.state) s

/-! ## LNK: the notice mask (R189) -/

/-- The mask as stored: the two top bits ignored, FAULT set. -/
def storedMask (m : Triple) : BitVec 22 := m.setWidth 22 ||| 0x200000#22

def serveSetMask (m : Triple) (s : State) : Served :=
  let mask := storedMask m
  let kept := s.lnk.notices.filter fun n => noticeEnabled mask (noticeCode n.content)
  reply (.mask mask) (onLnk (fun l => { l with mask := mask, notices := kept }) s)

/-! ## LNK: the configuration (R184, R73 to R75, R182) -/

/-- A SET CONFIG of the number of fitted columns, a new one or the one in force, is accepted in this condition (R75). -/
def fittedChangeAllowed (s : State) : Bool :=
  (s.seq.state == .idle || s.seq.state == .ended) && s.rge.state == .idle

/-- What the owner of a parameter does at once when its value changes from `old`. -/
def paramChanged (id old : Nat) (s : State) : State :=
  match id with
  | 4 => nominalChanged s
  | 5 => if old < s.cfg.reserve then reserveRaised s else s
  | 6 => if s.cfg.fitted = 2 then removeColumnC s else createColumnC s
  | 27 =>
    match s.lnk.silence with
    | some t => if s.cfg.silenceLimit ≤ t then loseLink .silence s else s
    | none => s
  | _ => s

/-- The parameters on whose change an owner acts at once (R73 to R75, R182). -/
def paramActs (id : Nat) : Bool := id == 4 || id == 5 || id == 6 || id == 27

/-- A value is stored: the owner's effect, then the write of the configuration (R184, R75). -/
def storeParam (id v : Nat) (s : State) : State :=
  let old := paramGet s.cfg id
  askWrite .config (paramChanged id old (onCfg (fun c => paramSet c id v) s))

def serveSetConfig (idByte : Byte) (value : Word) (s : State) : Served :=
  let id := idByte.toNat
  match paramRange id with
  | none => refuse .badField s
  | some range =>
    let v := limitTo range value.toNat
    if id = 22 ∧ 1 < value.toNat then refuse .badField s
    else if id = 6 ∧ fittedChangeAllowed s = false then refuse .wrongState s
    else
      let status : Status := if v = value.toNat then .ok else .clamped
      if v = paramGet s.cfg id then ⟨s, ⟨status, .config idByte v⟩⟩
      else if paramActs id then acted status (.config idByte v) (storeParam id v s)
      else ⟨storeParam id v s, ⟨status, .config idByte v⟩⟩

def serveGetConfig (idByte : Byte) (s : State) : Served :=
  match paramRange idByte.toNat with
  | none => refuse .badField s
  | some _ => reply (.config idByte (paramGet s.cfg idByte.toNat)) s

/-! ## The part: STANDBY, SHUTDOWN (R196, R198, R199) -/

def serveStandby (s : State) : Served :=
  if standbyAllowed s then ⟨enterStandby s, ⟨.ok, .empty⟩⟩ else refuse .busy s

/-- The sequencer's part in SHUTDOWN NORMAL (R198). -/
def shutdownSequencer (s : State) : State :=
  match s.seq.state with
  | .running | .holding | .suspended | .waitWater => abortProgram s
  | .idle | .ending | .ended | .faulted => s

/-- The engine's part in SHUTDOWN NORMAL (R95). -/
def shutdownEngine (s : State) : State :=
  match s.rge.state with
  | .brineWait | .brineDraw | .rinseWait | .rinse => abandonRegen s
  | .idle | .dwell | .effluentDrain => s

/-- SHUTDOWN NORMAL in READY (R198). -/
def shutdownNormal (s : State) : State :=
  let s := onPart (fun p => { p with
    state := .shuttingDown, shutdown := .inProgress, abrupt := false, writesAsked := false }) s
  shutdownDoor (shutdownEngine (shutdownSequencer (cancelAllDoses s)))

/-- WPC's part in SHUTDOWN ABRUPT: every grant and every drain request but the flood's goes (R53). -/
def abruptWater (s : State) : State :=
  let s := withdrawRegen (withdrawFill s)
  onWpc (fun w => { w with seqDrain := none, burst := none, leak := none }) s

/-- SHUTDOWN ABRUPT in READY or SHUTTING_DOWN (R199). -/
def shutdownAbrupt (s : State) : State :=
  let s := onPart (fun p => { p with
    state := .shuttingDown, shutdown := .inProgress, abrupt := true, writesAsked := false }) s
  resetSequencer (abruptDoor (abruptCirculation (abruptHeating (resetDosing (abandonRegen (abruptWater s))))))

def serveShutdown (mode : Byte) (s : State) : Served :=
  match mode.toNat with
  | 0 =>
    if s.part.state = .shuttingDown then reply .empty s else acted .ok .empty (shutdownNormal s)
  | 1 => acted .ok .empty (shutdownAbrupt s)
  | _ => refuse .badField s

/-! ## Unit resets (R200, R78, R191) -/

/-- RESET UNIT SOFTENER (R78, R93). -/
def resetSoftener (s : State) : State := homeValve (abandonRegen s)

/-- RESET UNIT LINK (R191). -/
def resetLink (s : State) : State :=
  restartSilence (onLnk (fun l => { l with
    errors := 0
    notices := []
    assembling := false
    assembly := []
    state := match l.state with
      | .up | .degraded => .up
      | .down => .down
      | .lost => .lost }) s)

def serveResetUnit (unit : Byte) (s : State) : Served :=
  match unitOfCode unit with
  | none => refuse .badField s
  | some .sequencer => acted .ok (.unit unit) (resetSequencer s)
  | some .softener => acted .ok (.unit unit) (resetSoftener s)
  | some .dosing => acted .ok (.unit unit) (resetDosing s)
  | some .door => acted .ok (.unit unit) (resetDoor s)
  | some .link => reply (.unit unit) (resetLink s)

/-! ## RST and SEQ: faults (R204, R28) -/

def serveReadHistory (s : State) : Served := reply (.history s.rst.history) s

def serveAcknowledge (s : State) : Served :=
  if s.seq.state = .faulted then
    if s.wpc.flood then refuse .busy s
    else if s.wpc.sumpEmpty then
      acted .ok .empty (onSeq (fun q => { q with state := .idle, sub := .none, idx := 0, fault := none }) s)
    else if s.wpc.seqDrain.isSome then refuse .busy s
    else acted .busy .empty (placeDrain s)
  else refuse .wrongState s

/-! ## SEQ: the program table (R2 to R4) -/

/-- A program is being run, for the edits of R4. -/
def editing (s : State) : Bool :=
  match s.seq.state with
  | .running | .holding | .suspended | .waitWater => true
  | .idle | .ending | .ended | .faulted => false

/-- An accepted edit that leaves no later non-DRY phase ends a drain extension (R30). -/
def afterEdit (s : State) : State :=
  if runningIn s .drain && s.seq.extension.isSome && !laterWash s.seq then settle (endDrain s) else s

/-- Write a record into a slot. -/
def writeSlot (i : Nat) (p : Phase) (s : State) : State :=
  onSeq (fun q => { q with table := q.table.setIfInBounds i (some p) }) s

/-- A DRY record below the last phase of a running program (R4). -/
def dryMisplaced (s : State) (i : Nat) : Phase → Bool
  | .dry .. => decide (i + 1 < s.seq.count)
  | .wash .. => false

/-- The state's part of LOAD PHASE: the request may write this index (R2 step 1, R4). -/
def loadAllowed (s : State) (i : Nat) : Bool :=
  match s.seq.state with
  | .idle | .ended | .faulted => true
  | .running | .holding | .suspended | .waitWater => decide (s.seq.idx < i)
  | .ending => false

def serveLoadPhase (index : Byte) (p : PhasePayload) (s : State) : Served :=
  let i := index.toNat
  if !loadAllowed s i then refuse .wrongState s
  else if 11 < i then refuse .badField s
  else
    match examinePhase s.dsu.r3.fitted p with
    | .badField => refuse .badField s
    | .notFitted => refuse .notFitted s
    | .stored phase changed =>
      if editing s && dryMisplaced s i phase then ⟨s, ⟨.badProgram, .offending i⟩⟩
      else ⟨afterEdit (writeSlot i phase s), ⟨if changed then .clamped else .ok, .index index⟩⟩

def serveReadPhase (index : Byte) (s : State) : Served :=
  if 11 < index.toNat then refuse .badField s else reply (.phaseRecord index (phaseAt s.seq index.toNat)) s

/-- Store the phase count. -/
def writeCount (n : Nat) (s : State) : State := onSeq (fun q => { q with count := n }) s

def serveSetCount (count : Byte) (s : State) : Served :=
  let n := count.toNat
  if 12 < n then refuse .badField s
  else if s.seq.state = .ending then refuse .wrongState s
  else if editing s then
    if n ≤ s.seq.idx + 1 then refuse .wrongState s
    else
      match firstBadSlot s.dsu.r3.fitted s.seq (s.seq.idx + 1) n with
      | some i => ⟨s, ⟨.badProgram, .offending i⟩⟩
      | none => reply (.count count) (afterEdit (writeCount n s))
  else reply (.count count) (writeCount n s)

/-- The sequencer is IDLE, ENDED or FAULTED. -/
def seqRests (s : State) : Bool :=
  s.seq.state == .idle || s.seq.state == .ended || s.seq.state == .faulted

def serveClearProgram (s : State) : Served :=
  if seqRests s then
    reply .empty (onSeq (fun q => { q with table := Vector.replicate 12 none, count := 0 }) s)
  else refuse .wrongState s

/-! ## SEQ: running a program (R5, R6, R19 to R22) -/

def serveStart (s : State) : Served :=
  if s.seq.state = .idle ∨ s.seq.state = .ended then
    match startOffends s.dsu.r3.fitted s.seq with
    | some i => ⟨s, ⟨.badProgram, .offending i⟩⟩
    | none => acted .ok .empty (startProgram s)
  else refuse .wrongState s

def serveHold (s : State) : Served :=
  match s.seq.state with
  | .running | .suspended | .waitWater => reply .empty (onSeq (fun q => { q with holdPending := true }) s)
  | .holding => reply .empty s
  | .idle | .ending | .ended | .faulted => refuse .wrongState s

def serveContinue (s : State) : Served :=
  match s.seq.state with
  | .holding => acted .ok .empty (enterNext s)
  | .running | .suspended | .waitWater =>
    if s.seq.holdPending then reply .empty (onSeq (fun q => { q with holdPending := false }) s)
    else refuse .wrongState s
  | .idle | .ending | .ended | .faulted => refuse .wrongState s

def serveAbort (s : State) : Served :=
  if editing s then acted .ok .empty (abortProgram s) else refuse .wrongState s

/-! ## SFU: columns (R69 to R72) -/

/-- A column id: its column, or the refusal (section 3.6). -/
def columnField (code : Byte) (s : State) : Except Status Column :=
  match columnOfCode code with
  | none => .error .badField
  | some col => if columnFitted s col then .ok col else .error .notFitted

/-- The place in a queue, counted from 1 at the head; 0 outside (R69). -/
def placeIn (col : Column) (l : List Column) : Nat := if col ∈ l then l.idxOf col + 1 else 0

/-- The column record of READ COLUMN (R69, Table 54). -/
def columnReply (s : State) (col : Column) : ColumnReply :=
  let r := columnRec s.sfu col
  { column := col
    state := columnState s col
    remaining := r.remaining
    exhausted := r.exhausted
    degraded := r.degraded
    regens := r.regens
    place := placeIn col s.sfu.ready + placeIn col s.sfu.regenQ
    residue := if s.sfu.service = some col then s.sfu.rho else 0 }

def serveReadColumn (code : Byte) (s : State) : Served :=
  match columnField code s with
  | .error e => refuse e s
  | .ok col => reply (.column (columnReply s col)) s

def serveRegenerate (code : Byte) (s : State) : Served :=
  match columnField code s with
  | .error e => refuse e s
  | .ok col =>
    match columnState s col with
    | .ready => acted .ok .empty (toRegenQueue col s)
    | .service =>
      if s.sfu.ready.isEmpty || s.sfu.valveFault then refuse .busy s
      else acted .ok .empty (switchService .hostRegenerate s)
    | .waiting | .regenerating => reply .empty s
    | .retired | .faulted => refuse .wrongState s

def serveRetire (code : Byte) (s : State) : Served :=
  match columnField code s with
  | .error e => refuse e s
  | .ok col =>
    match columnState s col with
    | .service => acted .ok .empty (switchService .retire s)
    | .ready | .waiting | .faulted => acted .ok .empty (toRetiredSet col s)
    | .regenerating => acted .ok .empty (dropRegen col s)
    | .retired => reply .empty s

def serveRestore (code : Byte) (s : State) : Served :=
  match columnField code s with
  | .error e => refuse e s
  | .ok col =>
    match columnState s col with
    | .retired | .faulted => acted .ok .empty (toRegenQueue col s)
    | .service | .ready | .waiting | .regenerating => refuse .wrongState s

/-! ## DSU: reservoirs and primes (R106, R107, R113) -/

/-- The reservoir record of READ RESERVOIR (R107, Table 27). -/
def reservoirReply (s : State) (ch : Channel) : ReservoirReply :=
  let r := reservoirOf s.dsu ch
  { channel := ch
    fitted := r.fitted
    capacity := Config.capacity ch
    level := r.level
    lowMark := Config.lowMark ch
    empty := r.empty
    lowNotified := r.lowNotified
    capOpened := r.capOpened
    strokeVolume := perChannelGet s.cfg.stroke ch
    lowSwitch := perChannelGet s.dsu.lowSw ch
    capSwitch := perChannelGet s.dsu.capSw ch }

def serveReadReservoir (code : Byte) (s : State) : Served :=
  match channelOfCode code with
  | none => refuse .badField s
  | some ch => reply (.reservoir (reservoirReply s ch)) s

def serveSetLevel (code : Byte) (level : Half) (s : State) : Served :=
  match channelOfCode code with
  | none => refuse .badField s
  | some ch =>
    if (reservoirOf s.dsu ch).fitted then
      let v := min (Config.capacity ch) level.toNat
      ⟨askWrite .reservoirs (setLevel ch v s), ⟨if v = level.toNat then .ok else .clamped, .level ch v⟩⟩
    else refuse .notFitted s

def servePrime (code strokes : Byte) (s : State) : Served :=
  match channelOfCode code with
  | none => refuse .badField s
  | some ch =>
    if strokes.toNat = 0 ∨ 40 < strokes.toNat then refuse .badField s
    else if !(reservoirOf s.dsu ch).fitted then refuse .notFitted s
    else if !seqRests s then refuse .wrongState s
    else if queued s.dsu ch .hostPrime then refuse .busy s
    else reply .empty (joinQueue ch .hostPrime 0 strokes.toNat s)

/-! ## The dispatch to the owners -/

/-- The part state admits a request (R194, Table 57). -/
def admits (part : PartState) (r : Request) : Bool :=
  match part, r with
  | .ready, _ => true
  | _, .identify | _, .getStatus => true
  | .starting, .linkEnable => false
  | _, .linkEnable => true
  | .shuttingDown, .getConfig _ | .shuttingDown, .readPhase _ | .shuttingDown, .readColumn _
  | .shuttingDown, .readReservoir _ | .shuttingDown, .readFaultHistory | .shuttingDown, .shutdown _ => true
  | _, _ => false

/-- The owner takes the request (R178 step 5). -/
def serveOwner (r : Request) (s : State) : Served :=
  match r with
  | .identify => serveIdentify s
  | .linkEnable => serveLinkEnable s
  | .getStatus => serveGetStatus s
  | .setConfig id v => serveSetConfig id v s
  | .getConfig id => serveGetConfig id s
  | .setNoticeMask m => serveSetMask m s
  | .standby => serveStandby s
  | .shutdown m => serveShutdown m s
  | .resetUnit u => serveResetUnit u s
  | .readFaultHistory => serveReadHistory s
  | .acknowledgeFault => serveAcknowledge s
  | .loadPhase i p => serveLoadPhase i p s
  | .readPhase i => serveReadPhase i s
  | .setPhaseCount n => serveSetCount n s
  | .clearProgram => serveClearProgram s
  | .startProgram => serveStart s
  | .hold => serveHold s
  | .continueProgram => serveContinue s
  | .abortProgram => serveAbort s
  | .readColumn c => serveReadColumn c s
  | .regenerate c => serveRegenerate c s
  | .retireColumn c => serveRetire c s
  | .restoreColumn c => serveRestore c s
  | .readReservoir c => serveReadReservoir c s
  | .setReservoirLevel c l => serveSetLevel c l s
  | .primeChannel c n => servePrime c n s

/-- Link state DOWN lets these go on (R178 step 3). -/
def servedInDown : Request → Bool
  | .identify | .linkEnable | .getStatus => true
  | _ => false

/-- Steps 3 to 5 of R178. -/
def serveRequest (r : Request) (s : State) : Served :=
  if s.lnk.state = .down ∧ servedInDown r = false then refuse .notReady s
  else if !admits s.part.state r then refuse .notReady s
  else serveOwner r s

/-- The examination of the awaiting request (R178). -/
def examine (p : Parsed) (s : State) : Served :=
  match p with
  | .unknownKind => refuse .unknownKind s
  | .badLength => refuse .badLength s
  | .request r => serveRequest r s

end Sys2Proof.Machine
end

