-- ==== Sys2Proof/Machine/Link.lean ====
section
/-! DEFINITION. The Link Interface's receiver: bytes, frames good and bad, the awaiting request and the busy answer, and
the end of a transmission (09_host_link_requests_and_notices.md). -/

namespace Sys2Proof.Machine

/-- Reports left by an action are taken at once; without any, nothing follows. -/
def settleReports (s : State) : State := if s.reports.isEmpty then s else settle s

/-! ## The receive error count (R180, R181) -/

/-- A bad frame adds 8, stopping at 255. -/
def countBad (s : State) : State :=
  settleReports (followErrors (onLnk (fun l => { l with errors := min 255 (l.errors + Config.badFrame) }) s))

/-- A good frame subtracts 1, stopping at 0. -/
def countGood (s : State) : State :=
  settleReports (followErrors (onLnk (fun l => { l with errors := l.errors - 1 }) s))

/-! ## Frames (R176 to R178, R181) -/

/-- The receiver hunts for a marker. -/
def hunt (s : State) : State := onLnk (fun l => { l with assembling := false, assembly := [] }) s

/-- A bad frame: discarded, counted (R176, R180). -/
def badFrame (s : State) : State := countBad (hunt s)

/-- The frame becomes the awaiting request and is answered (R177, R178). -/
def takeRequest (kind tag : Byte) (p : Parsed) (s : State) : State :=
  let served := examine p s
  { served.state with lnk := { served.state.lnk with awaiting := some ⟨kind, tag, served.answer⟩ } }

/-- A good frame while a request awaits its reply: the busy answer, or an overrun (R177). -/
def refuseBusy (kind tag : Byte) (s : State) : State :=
  match s.lnk.busy with
  | none => restartSilence (countGood (onLnk (fun l => { l with busy := some ⟨kind, tag⟩ }) s))
  | some _ => restartSilence (countBad s)

/-- A good frame has ended: the receiver hunts, and an expiry of the silence time that the frame is about to end is void (R176,
R182, log entry 69). -/
def frameEnds (s : State) : State := onTies (fun x => { x with silence := s.lnk.silence.isSome }) (hunt s)

/-- A good frame (R177, R181, R182): LOST discards every kind but LINK ENABLE's. The silence timer is restarted once the
request has been handled, so that a lowered silence limit meets the time counted before its frame (log entry 39). -/
def goodFrame (kind tag : Byte) (p : Parsed) (s : State) : State :=
  let s := frameEnds s
  if s.lnk.state = .lost ∧ kind ≠ 0x02#8 then restartSilence (countGood s)
  else if s.lnk.awaiting.isSome then refuseBusy kind tag s
  else restartSilence (takeRequest kind tag p (countGood s))

/-- A frame sent by the host as a request row spells it: its first byte wakes a part in STANDBY (R197). -/
def receiveRequest (tag : Byte) (r : Request) (s : State) : State :=
  let s := if s.part.state = .standby then settle (wake .link s) else s
  goodFrame r.kind tag (.request r) s

/-! ## Bytes (R176) -/

/-- The marker of a frame arrives (R176, R197). -/
def markerByte (s : State) : State :=
  let s := if s.part.state = .standby then settle (wake .link s) else s
  onLnk (fun l => { l with assembling := true, assembly := [frameMarker] }) s

/-- A byte with a good stop bit (R176). -/
def receiveByte (b : Byte) (s : State) : State :=
  if s.lnk.assembling then
    let bytes := s.lnk.assembly ++ [b]
    match assemblyVerdict bytes with
    | .more => onLnk (fun l => { l with assembly := bytes }) s
    | .bad => badFrame s
    | .good f => goodFrame f.kind f.tag (parseRequest f.kind f.payload) s
  else if b = frameMarker then markerByte s
  else s

/-- A run of bytes without a gap. -/
def receiveBytes (bytes : List Byte) (s : State) : State := bytes.foldl (fun s b => receiveByte b s) s

/-- The frame in assembly, if there is one, ends bad: a byte with a framing error, or a gap of more than 20 ms (R176). -/
def breakFrame (s : State) : State := if s.lnk.assembling then badFrame s else s

/-! ## The end of a transmission (R177, R179) -/

/-- The frame on the transmit line has been sent. -/
def transmitEnds (s : State) : State :=
  match s.lnk.tx with
  | none => s
  | some (.reply _) => onLnk (fun l => { l with tx := none, awaiting := none }) s
  | some (.busy _) => onLnk (fun l => { l with tx := none, busy := none }) s
  | some (.notice _) => onLnk (fun l => { l with tx := none }) s

/-- The silence timer reaches the silence limit (R182); the expiry of a time that a good frame has ended within this second is
void (log entry 69). -/
def silenceExpires (s : State) : State :=
  match s.lnk.silence with
  | some _ =>
    if silenceCounts s && !s.ties.silence then settleReports (loseLink .silence s) else s
  | none => s

end Sys2Proof.Machine
end

