-- ==== Sys2Proof/Machine/Supply.lean ====
section
/-! DEFINITION. Power, reset and retention: the restoration of the retained records, the reset of every block, the loss of
power, the power-fail warning, the end of a retained write, and the seconds
(10_standby_shutdown_and_retained_records.md, R188). -/

namespace Sys2Proof.Machine

/-! ## The stored copies (R201, R202) -/

/-- The record being written when power or reset cuts it off is only partly written (R202). -/
def spoilWrite (r : Rst) : Rst :=
  match r.writing with
  | none => r
  | some (.config _) => { r with config := none }
  | some (.faults _) => { r with faults := none }
  | some (.columns _) => { r with columns := none }
  | some (.reservoirs _) => { r with reservoirs := none }

/-- What outlives the power: the four copies. -/
def keptCopies (r : Rst) : Rst :=
  let r := spoilWrite r
  { config := r.config, faults := r.faults, columns := r.columns, reservoirs := r.reservoirs }

/-- The write in progress ends with its contents in place (R201). -/
def completeWrite (r : Rst) : Rst :=
  match r.writing with
  | none => r
  | some (.config c) => { r with config := some c, writing := none }
  | some (.faults c) => { r with faults := some c, writing := none }
  | some (.columns c) => { r with columns := some c, writing := none }
  | some (.reservoirs c) => { r with reservoirs := some c, writing := none }

/-! ## The restoration (R203, R56, R100) -/

/-- The configuration: a valid copy with each value limited to its range, or the defaults. -/
def restoredConfig (r : Rst) : ConfigRec :=
  match r.config with
  | some c => limitConfig c
  | none => {}

/-- The columns of a valid copy: their records and places; what is not fitted is discarded, what is missing created, and
the engine's column waits at the head. No write is asked for a column created here (log entry 58). -/
def restoredColumns (fitted : Nat) (c : RetainedColumns) : Sfu :=
  let three := fitted == 3
  let kept := fun col : Column => col != .c || three
  let queue := (c.engine.toList ++ c.regenQ).filter kept
  { colA := c.colA
    colB := c.colB
    colC := if three then some (c.colC.getD {}) else none
    service := c.service.filter kept
    ready := c.ready.filter kept
    regenQ := if three && c.colC.isNone then queue ++ [.c] else queue
    retired := c.retired.filter kept
    faulted := c.faulted.filter kept }

/-- The default column records (Table 58). -/
def defaultColumns (fitted : Nat) : Sfu :=
  { colC := if fitted == 3 then some {} else none
    regenQ := if fitted == 3 then [.a, .b, .c] else [.a, .b] }

/-- A reservoir record as restored (R203, R100). -/
def restoredReservoir (ch : Channel) (fitted : Bool) (copy : Option RetainedReservoirs) : Reservoir :=
  match copy with
  | some c =>
    let level := min (Config.capacity ch) (perChannelGet c.level ch)
    { fitted := fitted, level := level, empty := perChannelGet c.empty ch,
      lowNotified := decide (level ≤ Config.lowMark ch) }
  | none => { fitted := fitted, level := 0, empty := true, lowNotified := true }

/-- Every block at its reset value, with the inputs as read and the records as restored, before the tests of R56 and the
faults of R203. A frame on the transmit line is cut off, and nothing awaits (log entry 51). -/
def freshPart (pins : Pins) (r : Rst) (pending : List Instr) : State :=
  let cfg := restoredConfig r
  { part := {}
    pins := pins
    cfg := cfg
    lnk := {}
    seq := { soil := cfg.defaultSoil }
    wpc := { latchedK := cfg.k, sumpEmpty := pins.sumpEmpty, heaterCover := pins.heaterCover,
             highLevel := pins.highLevel, flood := pins.flood }
    sfu := match r.columns with
      | some c => restoredColumns cfg.fitted c
      | none => defaultColumns cfg.fitted
    rge := { lidOpen := pins.lidOpen, saltLow := pins.saltLow }
    dsu := { r1 := restoredReservoir .d1 true r.reservoirs
             r2 := restoredReservoir .d2 true r.reservoirs
             r3 := restoredReservoir .d3 pins.booster r.reservoirs
             lowSw := pins.low
             capSw := pins.capOpen }
    htc := {}
    czs := { reading := pins.pressure }
    ddu := { doorOpen := pins.doorOpen, fitted := pins.actuator }
    rst := { r with history := r.faults.getD [] }
    ties := {}
    reports := []
    pending := pending }

/-- SFU's tests of the restored contents (R56). -/
def testRestored (s : State) : State :=
  let s := clampColumns s
  sweepReady s.sfu.ready s

/-- RETAINED_INVALID for an invalid record (R203). -/
def raiseInvalid (record : Nat) (valid : Bool) (s : State) : State :=
  if valid then s else raiseFault .retainedInvalid (.num record) (.num 0) s

/-- The write of a record restored with its defaults (R203). -/
def askDefault (id : RecordId) (valid : Bool) (s : State) : State := if valid then s else askWrite id s

/-- The faults of the invalid records, in the order of restoration, and then their writes (R203, log entry 34). -/
def reportRestoration (r : Rst) (s : State) : State :=
  let s := raiseInvalid 1 r.config.isSome s
  let s := raiseInvalid 2 r.faults.isSome s
  let s := raiseInvalid 3 r.columns.isSome s
  let s := raiseInvalid 4 r.reservoirs.isSome s
  let s := askDefault .config r.config.isSome s
  let s := askDefault .faults r.faults.isSome s
  let s := askDefault .columns r.columns.isSome s
  askDefault .reservoirs r.reservoirs.isSome s

/-- The power-fail warning asks the four writes (R202). -/
def warnPower (s : State) : State :=
  askAllWrites { s with part := { s.part with pfw := true }, pins := { s.pins with pfw := true } }

/-- Power-on and a RESET-line reset (R193): the blocks' reset values, the restoration, a flood found at reset (R33), a
warning that stands (R202). -/
def resetPart (pins : Pins) (s : State) : State :=
  let r := keptCopies s.rst
  let s := reportRestoration r (testRestored (freshPart pins r s.pending))
  let s := if pins.flood then floodBegins s else s
  conclude (if pins.pfw then warnPower s else s)

/-- The part without power: the copies stay, nothing else is kept (R202, log entry 32). -/
def losePower (s : State) : State :=
  let r := keptCopies s.rst
  let blank := freshPart s.pins {} s.pending
  { blank with part := { powered := false }, rst := r }

/-! ## The seconds (R188, log entry 4) -/

def countUp (limit n : Nat) : Nat := min limit (n + 1)

def tickSeq (s : State) : Seq :=
  let q := s.seq
  { q with
    holdTimer := match currentWash s with
      | some w => if runningIn s .circulate then countUp w.holdTime q.holdTimer else q.holdTimer
      | none => q.holdTimer
    settling := q.settling.map (countUp Config.settling)
    waterWait := if q.state = .waitWater then q.waterWait.map (· - 1) else q.waterWait
    extension := q.extension.map (countUp Config.extension) }

def tickDrain : SeqDrain → SeqDrain
  | ⟨.pumping t, b⟩ => ⟨.pumping (countUp Config.drainAttempt t), b⟩
  | ⟨.paused t, b⟩ => ⟨.paused (countUp Config.drainPause t), b⟩
  | ⟨.runOn t, b⟩ => ⟨.runOn (countUp Config.drainRunOn t), b⟩
  | ⟨.kept, b⟩ => ⟨.kept, b⟩

def tickBurst : Burst → Burst
  | .waiting => .waiting
  | .running t => .running (countUp Config.burst t)

def tickFlood : FloodReq → FloodReq
  | .active => .active
  | .runOn t => .runOn (t - 1)

/-- The water path's timers. A fill limit lowered to or below the time counted ends nothing at once: the timer stands at
the new limit from the next second on (DESIGN CHOICE, log entry 59). -/
def tickWpc (c : ConfigRec) (w : Wpc) : Wpc :=
  { w with
    fillTimer := w.fillTimer.map (countUp c.fillLimit)
    seqDrain := w.seqDrain.map tickDrain
    burst := w.burst.map tickBurst
    leak := w.leak.map (· - 1)
    floodReq := w.floodReq.map tickFlood }

def tickSfu (f : Sfu) : Sfu :=
  { f with valveMove := f.valveMove.map fun m => { m with used := countUp Config.valveMove m.used } }

def tickRge (e : Rge) : Rge :=
  match e.state with
  | .brineDraw => { e with stageTime := countUp Config.brineStage e.stageTime }
  | .rinse => { e with stageTime := countUp Config.rinseStage e.stageTime }
  | .dwell => { e with dwellLeft := e.dwellLeft - 1 }
  | .idle | .brineWait | .rinseWait | .effluentDrain => e

def tickDsu (d : Dsu) : Dsu :=
  { d with
    windowLeft := d.windowLeft - 1
    move := d.move.map fun m => { m with used := countUp Config.selectorMove m.used } }

def tickHtc (h : Htc) : Htc :=
  match h.request with
  | some ⟨_, true⟩ => if h.valid then { h with limitLeft := h.limitLeft - 1 } else h
  | _ => h

def tickCzs (s : State) : Czs :=
  let z := s.czs
  { z with
    lowTimer := z.lowTimer.map (countUp Config.lowTime)
    slotTime := if slotCounts s then countUp z.slotLength z.slotTime else z.slotTime
    move := z.move.map fun m => { m with used := countUp Config.diverterMove m.used }
    arm1 := z.arm1.map (countUp Config.armTime)
    arm2 := z.arm2.map (countUp Config.armTime)
    pulsed := none
    slotOfStall := false }

def tickDdu (d : Ddu) : Ddu :=
  { d with
    stageTime := match d.stage with
      | .dwell | .ajar => d.stageTime - 1
      | .waitCool => countUp Config.coolWait d.stageTime
      | .none | .opening | .retracting | .done => d.stageTime
    retryPause := d.retryPause.map (countUp Config.retryPause) }

/-- One second: the time stamp, every timer that counts, and the inputs that have no row (R188, log entries 4 and 5). Events
before and after it do not fall together (log entries 69, 70). -/
def tick (a : Ambient) (s : State) : State :=
  { s with
    pins := { s.pins with turbidity := a.turbidity, booster := a.booster, actuator := a.actuator }
    lnk := { s.lnk with stamp := s.lnk.stamp + 1#32, silence := s.lnk.silence.map (countUp s.cfg.silenceLimit) }
    seq := tickSeq s
    wpc := tickWpc s.cfg s.wpc
    sfu := tickSfu s.sfu
    rge := tickRge s.rge
    dsu := tickDsu s.dsu
    htc := tickHtc s.htc
    czs := tickCzs s
    ddu := tickDdu s.ddu
    ties := {} }

end Sys2Proof.Machine
end

