-- ==== Sys2Proof/Machine/HostRequests.lean ====
section
/-! DEFINITION. The meanings of the host requests, one for each row: the request arrives as a good frame (log entry 1) and
is examined, answered and carried out as R177, R178 and the owner's rules state (Machine/Link.lean,
Machine/Requests.lean). -/

namespace Sys2Proof.Machine

/-- A good frame with this request ends, under this tag. -/
def hostRequest (tag : Byte) (r : Request) (s : State) : Step :=
  whenPowered (fun s => finish (receiveRequest tag r s)) s

/-- IDENTIFY (R186). -/
def execIdentify (tag : Byte) (s : State) : Step :=
  hostRequest tag .identify s

/-- LINK ENABLE (R183, R195). -/
def execLinkEnable (tag : Byte) (s : State) : Step :=
  hostRequest tag .linkEnable s

/-- GET STATUS (R185). -/
def execGetStatus (tag : Byte) (s : State) : Step :=
  hostRequest tag .getStatus s

/-- SET CONFIG (R184). -/
def execSetConfig (tag : Byte) (id : Byte) (value : Word) (s : State) : Step :=
  hostRequest tag (.setConfig id value) s

/-- SET CONFIG of the nominal capacity, id 4 (R184, R73). -/
def execSetConfigNominalCapacity (tag : Byte) (value : Word) (s : State) : Step :=
  hostRequest tag (.setConfig 4#8 value) s

/-- SET CONFIG of the switch reserve, id 5 (R184, R74). -/
def execSetConfigSwitchReserve (tag : Byte) (value : Word) (s : State) : Step :=
  hostRequest tag (.setConfig 5#8 value) s

/-- SET CONFIG of the fitted columns, id 6 (R184, R75). -/
def execSetConfigFittedColumns (tag : Byte) (value : Word) (s : State) : Step :=
  hostRequest tag (.setConfig 6#8 value) s

/-- SET CONFIG of the silence limit, id 27 (R184, R182). -/
def execSetConfigSilenceLimit (tag : Byte) (value : Word) (s : State) : Step :=
  hostRequest tag (.setConfig 27#8 value) s

/-- GET CONFIG (R184). -/
def execGetConfig (tag : Byte) (id : Byte) (s : State) : Step :=
  hostRequest tag (.getConfig id) s

/-- SET NOTICE MASK (R189). -/
def execSetNoticeMask (tag : Byte) (mask : Triple) (s : State) : Step :=
  hostRequest tag (.setNoticeMask mask) s

/-- STANDBY (R196). -/
def execStandby (tag : Byte) (s : State) : Step :=
  hostRequest tag .standby s

/-- SHUTDOWN with mode NORMAL (R198). -/
def execShutdownNormal (tag : Byte) (s : State) : Step :=
  hostRequest tag (.shutdown 0#8) s

/-- SHUTDOWN with mode ABRUPT (R199). -/
def execShutdownAbrupt (tag : Byte) (s : State) : Step :=
  hostRequest tag (.shutdown 1#8) s

/-- RESET UNIT SEQUENCER (R32, R200). -/
def execResetUnitSequencer (tag : Byte) (s : State) : Step :=
  hostRequest tag (.resetUnit 1#8) s

/-- RESET UNIT SOFTENER (R78, R93, R200). -/
def execResetUnitSoftener (tag : Byte) (s : State) : Step :=
  hostRequest tag (.resetUnit 2#8) s

/-- RESET UNIT DOSING (R127, R200). -/
def execResetUnitDosing (tag : Byte) (s : State) : Step :=
  hostRequest tag (.resetUnit 3#8) s

/-- RESET UNIT DOOR (R172, R200). -/
def execResetUnitDoor (tag : Byte) (s : State) : Step :=
  hostRequest tag (.resetUnit 4#8) s

/-- RESET UNIT LINK (R191, R200). -/
def execResetUnitLink (tag : Byte) (s : State) : Step :=
  hostRequest tag (.resetUnit 5#8) s

/-- READ FAULT HISTORY (R204). -/
def execReadFaultHistory (tag : Byte) (s : State) : Step :=
  hostRequest tag .readFaultHistory s

/-- ACKNOWLEDGE FAULT (R28). -/
def execAcknowledgeFault (tag : Byte) (s : State) : Step :=
  hostRequest tag .acknowledgeFault s

/-- LOAD PHASE (R2, R4). -/
def execLoadPhase (tag : Byte) (index : Byte) (record : PhasePayload) (s : State) : Step :=
  hostRequest tag (.loadPhase index record) s

/-- READ PHASE (R3). -/
def execReadPhase (tag : Byte) (index : Byte) (s : State) : Step :=
  hostRequest tag (.readPhase index) s

/-- SET PHASE COUNT (R3, R4). -/
def execSetPhaseCount (tag : Byte) (count : Byte) (s : State) : Step :=
  hostRequest tag (.setPhaseCount count) s

/-- CLEAR PROGRAM (R3). -/
def execClearProgram (tag : Byte) (s : State) : Step :=
  hostRequest tag .clearProgram s

/-- START PROGRAM (R5, R6). -/
def execStartProgram (tag : Byte) (s : State) : Step :=
  hostRequest tag .startProgram s

/-- HOLD (R19). -/
def execHold (tag : Byte) (s : State) : Step :=
  hostRequest tag .hold s

/-- CONTINUE (R20). -/
def execContinueProgram (tag : Byte) (s : State) : Step :=
  hostRequest tag .continueProgram s

/-- ABORT PROGRAM (R21, R22). -/
def execAbortProgram (tag : Byte) (s : State) : Step :=
  hostRequest tag .abortProgram s

/-- READ COLUMN (R69). -/
def execReadColumn (tag : Byte) (column : Byte) (s : State) : Step :=
  hostRequest tag (.readColumn column) s

/-- REGENERATE (R70). -/
def execRegenerate (tag : Byte) (column : Byte) (s : State) : Step :=
  hostRequest tag (.regenerate column) s

/-- RETIRE COLUMN (R71, R94). -/
def execRetireColumn (tag : Byte) (column : Byte) (s : State) : Step :=
  hostRequest tag (.retireColumn column) s

/-- RESTORE COLUMN (R72). -/
def execRestoreColumn (tag : Byte) (column : Byte) (s : State) : Step :=
  hostRequest tag (.restoreColumn column) s

/-- READ RESERVOIR (R107). -/
def execReadReservoir (tag : Byte) (channel : Byte) (s : State) : Step :=
  hostRequest tag (.readReservoir channel) s

/-- SET RESERVOIR LEVEL (R106). -/
def execSetReservoirLevel (tag : Byte) (channel : Byte) (level : Half) (s : State) : Step :=
  hostRequest tag (.setReservoirLevel channel level) s

/-- PRIME CHANNEL (R113). -/
def execPrimeChannel (tag : Byte) (channel strokes : Byte) (s : State) : Step :=
  hostRequest tag (.primeChannel channel strokes) s

end Sys2Proof.Machine
end

