-- ==== Sys2Proof/Machine/LinkEvents.lean ====
section
/-! DEFINITION. The meanings of the line's events, of the supply's events and of the seconds. -/

namespace Sys2Proof.Machine

/-! ## The line (R176, R177, R179, R182, R197) -/

/-- FRAME_GOOD: the bytes arrive without a gap; a frame that ends in them good is taken (R175 to R178). -/
def execFrameGood (bytes : List Byte) (s : State) : Step :=
  whenPowered (fun s => finish (receiveBytes bytes s)) s

/-- FRAME_BAD: the bytes arrive, and a frame that ends in them bad is discarded and counted; `stopLow` adds a byte with a
framing error (R176, R180). -/
def execFrameBad (bytes : List Byte) (stopLow : Bool) (s : State) : Step :=
  whenPowered (fun s =>
    let s := receiveBytes bytes s
    finish (if stopLow then breakFrame s else s)) s

/-- BYTE_GAP_TIMEOUT: the bytes arrive and then nothing for more than 20 ms (R176, R180). -/
def execByteGapTimeout (bytes : List Byte) (s : State) : Step :=
  whenPowered (fun s => finish (breakFrame (receiveBytes bytes s))) s

/-- FRAME_TRANSMIT_END: the last byte of the frame on the transmit line has been sent (R177, R179). -/
def execFrameTransmitEnd (s : State) : Step := whenPowered (fun s => finish (transmitEnds s)) s

/-- SILENCE_TIMEOUT: the silence timer reaches the silence limit (R182). -/
def execSilenceTimeout (s : State) : Step := whenPowered (fun s => finish (silenceExpires s)) s

/-- TIME_STAMP_TICK: one second passes (R188; log entries 4 and 5). -/
def execTimeStampTick (ambient : Ambient) (s : State) : Step := whenPowered (tick ambient) s

/-- STANDBY_LINK_WAKE: the first byte of a frame, its marker, arrives (R197, R176). -/
def execStandbyLinkWake (s : State) : Step :=
  whenPowered (fun s => finish (receiveByte frameMarker s)) s

/-! ## The supply (R193, R202) -/

/-- POWER_ON: the part is reset and restored, with these inputs as read (R193, R203). -/
def execPowerOn (pins : Pins) (s : State) : Step := .next (resetPart pins s)

/-- RESET_LINE_ASSERTION: as power-on, on a part that has power (R193). -/
def execResetLineAssertion (pins : Pins) (s : State) : Step := whenPowered (resetPart pins) s

/-- POWER_LOSS: a write in progress is left partly written (R202, log entry 32). -/
def execPowerLoss (s : State) : Step := whenPowered losePower s

/-- PFW_ASSERTION: the warning is taken, and the four writes are asked (R202). -/
def execPfwAssertion (s : State) : Step :=
  whenPowered (fun s => if s.part.pfw then s else finish (warnPower s)) s

/-- PFW_RELEASE: the power holds, the part goes on (R202). -/
def execPfwRelease (s : State) : Step :=
  whenPowered (fun s => onPins (fun p => { p with pfw := false }) (onPart (fun p => { p with pfw := false }) s)) s

/-- RETAINED_WRITE_END: the record being written is valid with its new contents; the next one begins, or a shutdown ends
(R201, R198, R199). -/
def execRetainedWriteEnd (s : State) : Step :=
  whenPowered (fun s =>
    let s := onRst (fun r => completeWrite r) s
    if s.part.state = .shuttingDown then conclude s else finish s) s

end Sys2Proof.Machine
end

