-- ==== Sys2Proof/Machine/MachineEvents.lean ====
section
/-! DEFINITION. The meanings of the events of dosing, heating, circulation, the door and drying. An expiry of a timer that
does not run has no effect (log entries 2 and 4). -/

namespace Sys2Proof.Machine

/-! ## Dosing (R102, R103, R116, R118) -/

/-- GATHER_WINDOW_EXPIRY (R116). -/
def execGatherWindowExpiry (s : State) : Step :=
  whenPowered (fun s => if s.dsu.state = .gathering then conclude (windowCloses s) else s) s

/-- The step of a position report; a move that follows a confirmation in it is marked (R118, log entry 69). -/
def concludeSelector (position : Channel) (s : State) : State :=
  let t := conclude (selectorReported position s)
  if s.dsu.move.any fun m => m.target == position then onTies (fun x => { x with selector := t.dsu.move.isSome }) t else t

/-- SELECTOR_POSITION_REPORT (R118); one that does not name the target of a move is ignored. -/
def execSelectorPositionReport (position : Channel) (s : State) : Step :=
  whenPowered (fun s => if s.dsu.move.isSome then concludeSelector position s else s) s

/-- SELECTOR_MOVE_TIMEOUT: 5 s without confirmation; with the confirmation taken first the move has succeeded, also where the
next one is already under way (R118, R119, R128, log entry 69). -/
def execSelectorMoveTimeout (s : State) : Step :=
  whenPowered (fun s =>
    match s.dsu.move with
    | some m => if s.ties.selector then s else conclude (selectorFailed m s)
    | none => s) s

/-- LOW_SWITCH_CHANGE: a filtered change (R102). -/
def execLowSwitchChange (channel : Channel) (low : Bool) (s : State) : Step :=
  whenPowered (fun s =>
    let s := onPins (fun p => { p with low := perChannelSet p.low channel low }) s
    if senses s then finish (lowSwitchChanged channel low s) else s) s

/-- CAP_SWITCH_CHANGE: a filtered change, and a wake source (R103, R197). -/
def execCapSwitchChange (channel : Channel) (capOpen : Bool) (s : State) : Step :=
  whenPowered (fun s =>
    let s := onPins (fun p => { p with capOpen := perChannelSet p.capOpen channel capOpen }) s
    if s.part.state = .standby ∧ perChannelGet s.dsu.capSw channel ≠ capOpen then
      conclude (capSwitchChanged channel capOpen (wake (.cap channel) s))
    else if senses s then finish (capSwitchChanged channel capOpen s)
    else s) s

/-! ## Heating (R130 to R133) -/

/-- SUMP_TEMPERATURE_CHANGE: a new measurement (R130). -/
def execSumpTemperatureChange (quarters : Int) (s : State) : Step :=
  whenPowered (fun s =>
    let s := onPins (fun p => { p with sensor := .measured quarters }) s
    if senses s && s.htc.valid && s.htc.temp != some (readingOf quarters) then
      conclude (temperatureChanged (readingOf quarters) s)
    else s) s

/-- SENSOR_INDICATION: OPEN or SHORT has held for 1 s (R131). -/
def execSensorIndication (kind : SensorKind) (s : State) : Step :=
  whenPowered (fun s =>
    let s := onPins (fun p => { p with sensor := .failed kind }) s
    if senses s && s.htc.valid then conclude (sensorFails kind s) else s) s

/-- SENSOR_RECOVERY: a measurement free of both indications has held for 1 s (R131). -/
def execSensorRecovery (quarters : Int) (s : State) : Step :=
  whenPowered (fun s =>
    let s := onPins (fun p => { p with sensor := .measured quarters }) s
    if senses s && !s.htc.valid then conclude (sensorRecovers (readingOf quarters) s) else s) s

/-- HEAT_LIMIT_EXPIRY: the limit left of a HEATING request reaches 0 (R133). -/
def execHeatLimitExpiry (s : State) : Step :=
  whenPowered (fun s =>
    match s.htc.request with
    | some ⟨target, true⟩ => if s.htc.valid then conclude (heatExpires target s) else s
    | _ => s) s

/-! ## Circulation (R147 to R155) -/

/-- PRESSURE_SWITCH_CHANGE: a filtered change (R147). -/
def execPressureSwitchChange (pressure : Bool) (s : State) : Step :=
  whenPowered (fun s =>
    let s := onPins (fun p => { p with pressure := pressure }) s
    if senses s then conclude (pressureChanged pressure s) else s) s

/-- LOW_TIMER_EXPIRY: 5 s without pressure; the report goes to the sequencer and to the heater (R148, R16, R141). -/
def execLowTimerExpiry (s : State) : Step :=
  whenPowered (fun s =>
    if s.czs.lowTimer.isSome && !s.czs.episode then
      let s := onCzs (fun z => { z with lowTimer := some Config.lowTime, episode := true }) s
      conclude (countLoss (report .pressureLow s))
    else s) s

/-- SLOT_TIME_EXPIRY: the slot time used reaches the slot length (R149, R150); a slot that a stall has just ended is found
ended (R156, log entry 40). With the stop that it falls together with taken first, the slot time stands at the slot length until
the pump runs again (R146, log entry 69). -/
def execSlotTimeExpiry (s : State) : Step :=
  whenPowered (fun s =>
    if slotCounts s && !s.czs.slotOfStall then
      conclude (nextSlot (onCzs (fun z => { z with slotTime := z.slotLength }) s))
    else if slotFrozen s then onCzs (fun z => { z with slotTime := z.slotLength }) s
    else s) s

/-- The step of a position report; a move that follows a confirmation in it is marked (R151, log entry 69). -/
def concludeDiverter (zone : Zone) (s : State) : State :=
  let t := conclude (diverterReported zone s)
  if s.czs.move.any fun m => m.target == zone then onTies (fun x => { x with diverter := t.czs.move.isSome }) t else t

/-- DIVERTER_POSITION_REPORT: the position switch reports a zone (R151, R152). -/
def execDiverterPositionReport (zone : Zone) (s : State) : Step :=
  whenPowered (fun s => if senses s then concludeDiverter zone s else s) s

/-- DIVERTER_MOVE_TIMEOUT: 6 s without confirmation; with the confirmation taken first the homing or move has succeeded, also
where the move to the slot's zone is already under way (R151, R152, log entry 69). -/
def execDiverterMoveTimeout (s : State) : Step :=
  whenPowered (fun s =>
    match s.czs.move with
    | some m => if s.ties.diverter then s else conclude (diverterFailed m s)
    | none => s) s

/-- ARM_ROTATION_PULSE: the timer of a supervised arm goes back to 0 (R153). -/
def execArmRotationPulse (arm : Arm) (s : State) : Step :=
  whenPowered (fun s =>
    if armSupervised s arm then armPulsed arm s else s) s

/-- ARM_TIMER_EXPIRY: 8 s without a pulse (R153 to R155); a pulse taken first leaves no stall (R156, log entry 40). -/
def execArmTimerExpiry (arm : Arm) (s : State) : Step :=
  whenPowered (fun s =>
    if armSupervised s arm && (armTimer s.czs arm).isSome && s.czs.pulsed != some arm then conclude (armStalled arm s)
    else s) s

/-! ## The door and the actuator (R158 to R160) -/

/-- DOOR_SWITCH_CHANGE: a filtered change, and a wake source (R158, R197). -/
def execDoorSwitchChange (doorOpen : Bool) (s : State) : Step :=
  whenPowered (fun s =>
    let s := onPins (fun p => { p with doorOpen := doorOpen }) s
    if sensesOutside s && s.ddu.doorOpen != doorOpen then conclude (doorChanged doorOpen (wakeIf .door s)) else s) s

/-- The 300 ms fall together with the edge taken now: the stall timer runs, and its expiry waits right behind the edge (R160, log
entry 70). -/
def stallTies (s : State) : Bool :=
  s.ddu.fitted && s.ddu.stall.isSome && s.pending.head? == some .stallTimerExpiry

/-- ACTUATOR_ENCODER_EDGE: one count outward or inward (R159, R160, R165, R168). -/
def execActuatorEncoderEdge (outward : Bool) (s : State) : Step :=
  whenPowered (fun s =>
    if senses s then onTies (fun x => { x with stall := stallTies s }) (conclude (encoderEdge outward s)) else s) s

/-- HOME_SWITCH_CHANGE (R159, R160, R169). -/
def execHomeSwitchChange (home : Bool) (s : State) : Step :=
  whenPowered (fun s =>
    let s := onPins (fun p => { p with home := home }) s
    if senses s && home then conclude (homeReached s) else s) s

/-- STALL_TIMER_EXPIRY: 300 ms without an edge (R160, R166, R167, R169); with the edge that it falls together with taken first,
there is no stall (R160, log entry 70). -/
def execStallTimerExpiry (s : State) : Step :=
  whenPowered (fun s =>
    if s.ties.stall then onTies (fun x => { x with stall := false }) s
    else if s.ddu.stall.isSome then conclude (driveStalls s)
    else s) s

/-! ## Drying (R163, R164, R166, R168) -/

/-- DRYING_DWELL_EXPIRY: the stage time of DWELL is over (R163). -/
def execDryingDwellExpiry (s : State) : Step :=
  whenPowered (fun s =>
    if s.ddu.stage = .dwell then conclude (dwellEnds (onDdu (fun d => { d with stageTime := 0 }) s)) else s) s

/-- COOL_WAIT_EXPIRY: 900 s of cool wait (R164). -/
def execCoolWaitExpiry (s : State) : Step :=
  whenPowered (fun s =>
    if s.ddu.stage = .waitCool then
      conclude (enterOpening (onDdu (fun d => { d with expired := true, stageTime := Config.coolWait }) s))
    else s) s

/-- RETRY_PAUSE_EXPIRY: the drive goes outward again (R166). -/
def execRetryPauseExpiry (s : State) : Step :=
  whenPowered (fun s =>
    if s.ddu.retryPause.isSome then conclude (driveOutward (onDdu (fun d => { d with retryPause := none }) s))
    else s) s

/-- OPEN_TIME_EXPIRY: the open time is over (R168). -/
def execOpenTimeExpiry (s : State) : Step :=
  whenPowered (fun s => if s.ddu.stage = .ajar then conclude (openTimeEnds s) else s) s

end Sys2Proof.Machine
end

