-- ==== Sys2Proof/Machine/WaterEvents.lean ====
section
/-! DEFINITION. The meanings of the events of the water path, of the regeneration, of the column valve and of the
sequencer's timers. An expiry of a timer that does not run has no effect (log entries 2 and 4). -/

namespace Sys2Proof.Machine

/-! ## The flow meter and the sump switches (R34, R44, R51) -/

/-- A FILL grant is held. -/
def fillHeld (s : State) : Bool := s.wpc.fill.any fun q => q.held

/-- The step of an event that has led from `s` to `u`; where it has ended a FILL grant, one that the step makes anew is marked
(R41, log entry 69). -/
def concludeFill (s u : State) : State :=
  let t := conclude u
  if fillHeld s && !fillHeld u then onTies (fun x => { x with fill := fillHeld t }) t else t

/-- FLOW_METER_PULSE (R34 to R36); pulses are counted in STARTING, READY and SHUTTING_DOWN. -/
def execFlowMeterPulse (s : State) : Step :=
  whenPowered (fun s => if senses s then concludeFill s (meterPulse s) else s) s

/-- SUMP_EMPTY_SWITCH_CHANGE: a filtered change (R44, R47). -/
def execSumpEmptySwitchChange (empty : Bool) (s : State) : Step :=
  whenPowered (fun s =>
    let s := onPins (fun p => { p with sumpEmpty := empty }) s
    if senses s then conclude (sumpEmptyChanged empty s) else s) s

/-- HEATER_COVER_LEVEL_CHANGE: a filtered change (R44, R135). -/
def execHeaterCoverLevelChange (reached : Bool) (s : State) : Step :=
  whenPowered (fun s =>
    let s := onPins (fun p => { p with heaterCover := reached }) s
    if senses s then conclude (heaterCoverChanged reached s) else s) s

/-- HIGH_LEVEL_SWITCH_CHANGE: a filtered change (R44, R41, R39). -/
def execHighLevelSwitchChange (high : Bool) (s : State) : Step :=
  whenPowered (fun s =>
    let s := onPins (fun p => { p with highLevel := high }) s
    if senses s then concludeFill s (highLevelChanged high s) else s) s

/-- FLOOD_SWITCH_CHANGE: a filtered change, sensed in every part state and a wake source (R51 to R53, R197). -/
def execFloodSwitchChange (active : Bool) (s : State) : Step :=
  whenPowered (fun s =>
    let s := onPins (fun p => { p with flood := active }) s
    if s.wpc.flood = active then s else conclude (floodChanged active (wakeIf .flood s))) s

/-- FLOOD_RUN_ON_EXPIRY: the 60 s after the flood are over (R52). -/
def execFloodRunOnExpiry (s : State) : Step :=
  whenPowered (fun s =>
    match s.wpc.floodReq with
    | some (.runOn _) => conclude (onWpc (fun w => { w with floodReq := none, inhibit := false }) s)
    | _ => s) s

/-- LEAK_DRAIN_EXPIRY: the 60 s of the leak drain are over (R36, R46). -/
def execLeakDrainExpiry (s : State) : Step :=
  whenPowered (fun s =>
    match s.wpc.leak with
    | some _ => conclude (onWpc (fun w => { w with leak := none }) s)
    | none => s) s

/-- DRAIN_BURST_EXPIRY: the 20 s of the burst are over and the engine finishes (R49, R90). -/
def execDrainBurstExpiry (s : State) : Step :=
  whenPowered (fun s =>
    match s.wpc.burst with
    | some (.running _) =>
      let s := withdrawBurst s
      conclude (if s.rge.state = .effluentDrain then finishRegen s else s)
    | _ => s) s

/-! ## The limits of fills and drains (R41, R47, R48) -/

/-- FILL_LIMIT_EXPIRY: the grant has been held for the fill limit; with another end taken first it is void, also where the next
grant already stands (R41, log entry 69). -/
def execFillLimitExpiry (s : State) : Step :=
  whenPowered (fun s =>
    match s.wpc.fill with
    | some ⟨_, _, true⟩ => if s.ties.fill then s else conclude (endFill .limitExpired s)
    | _ => s) s

/-- DRAIN_RUN_ON_EXPIRY: the natural end of a SEQ drain (R47). -/
def execDrainRunOnExpiry (s : State) : Step :=
  whenPowered (fun s =>
    match s.wpc.seqDrain with
    | some ⟨.runOn _, second⟩ =>
      conclude (report .drainEnded (onWpc (fun w => { w with seqDrain := some ⟨.kept, second⟩ }) s))
    | _ => s) s

/-- Attempt 2 has failed: DRAIN_BLOCKED (R48). -/
def drainBlocked (s : State) : State :=
  report (.programFault .drainBlocked) (raiseFault .drainBlocked (.num 0) (.num 0) (dropDrain s))

/-- DRAIN_ATTEMPT_LIMIT: the attempt has run 120 s without an empty sump (R47, R48). -/
def execDrainAttemptLimit (s : State) : Step :=
  whenPowered (fun s =>
    match s.wpc.seqDrain with
    | some ⟨.pumping _, false⟩ =>
      conclude (onWpc (fun w => { w with seqDrain := some ⟨.paused 0, false⟩ }) s)
    | some ⟨.pumping _, true⟩ => conclude (drainBlocked s)
    | _ => s) s

/-- DRAIN_PAUSE_EXPIRY: attempt 2 begins; a switch that reads EMPTY starts its run-on at once (R48). -/
def execDrainPauseExpiry (s : State) : Step :=
  whenPowered (fun s =>
    match s.wpc.seqDrain with
    | some ⟨.paused _, _⟩ =>
      let stage : DrainStage := if s.wpc.sumpEmpty then .runOn 0 else .pumping 0
      conclude (onWpc (fun w => { w with seqDrain := some ⟨stage, true⟩ }) s)
    | _ => s) s

/-! ## The sequencer's timers (R10, R13, R25, R30) -/

/-- HOLD_TIMER_EXPIRY: the hold timer reaches the hold time (R13). -/
def execHoldTimerExpiry (s : State) : Step :=
  whenPowered (fun s =>
    match currentWash s with
    | some w =>
      if runningIn s .circulate then
        conclude (endCirculate w (onSeq (fun q => { q with holdTimer := w.holdTime }) s))
      else s
    | none => s) s

/-- SETTLING_TIMER_EXPIRY: the door has been closed for 2 s (R25). -/
def execSettlingTimerExpiry (s : State) : Step :=
  whenPowered (fun s =>
    if s.seq.state = .suspended ∧ s.seq.settling.isSome ∧ s.ddu.doorOpen = false then conclude (resumeProgram s)
    else s) s

/-- WATER_WAIT_EXPIRY: the fill is asked again for the remaining volume (R10). -/
def execWaterWaitExpiry (s : State) : Step :=
  whenPowered (fun s =>
    match currentWash s with
    | some w =>
      if s.seq.state = .waitWater then
        conclude (continueFill w (seqTo .running .fill (onSeq (fun q => { q with waterWait := none }) s)))
      else s
    | none => s) s

/-- DRAIN_EXTENSION_EXPIRY: 90 s have passed since the natural end (R30). -/
def execDrainExtensionExpiry (s : State) : Step :=
  whenPowered (fun s =>
    if runningIn s .drain && s.seq.extension.isSome then conclude (endDrain s) else s) s

/-! ## The regeneration (R81, R84 to R88) -/

/-- SALT_LID_SWITCH_CHANGE: a filtered change, and a wake source (R81, R83, R197). -/
def execSaltLidSwitchChange (lidOpen : Bool) (s : State) : Step :=
  whenPowered (fun s =>
    let s := onPins (fun p => { p with lidOpen := lidOpen }) s
    if sensesOutside s && s.rge.lidOpen != lidOpen then conclude (lidChanged lidOpen (wakeIf .saltLid s)) else s) s

/-- SALT_LOW_SWITCH_CHANGE: a filtered change (R85). -/
def execSaltLowSwitchChange (low : Bool) (s : State) : Step :=
  whenPowered (fun s =>
    let s := onPins (fun p => { p with saltLow := low }) s
    if senses s then finish (saltLowChanged low s) else s) s

/-- BRINE_STAGE_TIME_LIMIT: 90 s of draw have been used (R84). -/
def execBrineStageTimeLimit (s : State) : Step :=
  whenPowered (fun s =>
    match s.rge.state, s.rge.column with
    | .brineDraw, some col => conclude (brineTimedOut col s)
    | _, _ => s) s

/-- RINSE_STAGE_TIME_LIMIT: 120 s of rinse have been used (R88). -/
def execRinseStageTimeLimit (s : State) : Step :=
  whenPowered (fun s =>
    match s.rge.state, s.rge.column with
    | .rinse, some col => conclude (rinseTimedOut col s)
    | _, _ => s) s

/-- REGEN_DWELL_EXPIRY: dwell left reaches 0 (R86, R95). -/
def execRegenDwellExpiry (s : State) : Step :=
  whenPowered (fun s => if s.rge.state = .dwell then conclude (dwellOver s) else s) s

/-! ## The column valve (R76, R77) -/

/-- The move in progress is confirmed; a homing's confirmation clears the valve fault and SFU tests (R76, R77, log entry
22). -/
def valveConfirmed (m : ValveMove) (s : State) : State :=
  let s := onSfu (fun f => { f with valvePos := some m.target, valveMove := none }) s
  if m.homing then
    readyTest (onPart (fun p => { p with homings := { p.homings with valve := false } })
      (onSfu (fun f => { f with valveFault := false }) s))
  else s

/-- The move in progress has failed (R77). -/
def valveFailed (m : ValveMove) (s : State) : State :=
  let s := raiseFault .columnValve (.valve m.target) (.num 0) s
  let s := onSfu (fun f => { f with
    valveFault := true, valvePos := none, valveMove := none, failedValve := some m.target }) s
  if m.homing && s.part.homings.valve then
    onPart (fun p => { p with
      homings := { p.homings with valve := false }
      homingFaults := p.homingFaults ++ [.columnValve] }) s
  else s

/-- A move that follows in the step of a confirmation is marked (R76, log entry 69). -/
def noteValve (t : State) : State := onTies (fun x => { x with valve := t.sfu.valveMove.isSome }) t

/-- COLUMN_VALVE_CONFIRMATION: the position switch reports a position (R76, R77). -/
def execColumnValveConfirmation (position : ValvePos) (s : State) : Step :=
  whenPowered (fun s =>
    if senses s then
      match s.sfu.valveMove with
      | some m => if m.target = position then noteValve (conclude (valveConfirmed m s)) else s
      | none =>
        if s.sfu.failedValve = some position then onSfu (fun f => { f with valvePos := some position }) s else s
    else s) s

/-- COLUMN_VALVE_MOVE_TIMEOUT: 8 s without confirmation; with the confirmation taken first the move has succeeded, also where
the next one is already under way (R76, R77, log entry 69). -/
def execColumnValveMoveTimeout (s : State) : Step :=
  whenPowered (fun s =>
    match s.sfu.valveMove with
    | some m => if s.ties.valve then s else conclude (valveFailed m s)
    | none => s) s

end Sys2Proof.Machine
end

