-- ==== Sys2Proof/Machine/StrokeEvents.lean ====
section
/-! DEFINITION. The meanings of the two ends of a stroke (R121), and the cancellation that falls together with one (R126). -/

namespace Sys2Proof.Machine

/-! ## The cancellation right behind (R126, log entry 66) -/

/-- What a command that can cancel doses makes of a state: one that aborts, resets or faults a program (R21, R26, R32), that
shuts the part down (R128), or whose bytes can end the frame of such a request. Every other command cancels none. -/
def cancelling (c : Instr) (s : State) : Step :=
  match c with
  | .abortProgram tag => execAbortProgram tag s
  | .resetUnitSequencer tag => execResetUnitSequencer tag s
  | .shutdownNormal tag => execShutdownNormal tag s
  | .frameGood bytes => execFrameGood bytes s
  | .frameBad bytes stopLow => execFrameBad bytes stopLow s
  | .byteGapTimeout bytes => execByteGapTimeout bytes s
  | .standbyLinkWake => execStandbyLinkWake s
  | .floodSwitchChange active => execFloodSwitchChange active s
  | .flowMeterPulse => execFlowMeterPulse s
  | .sumpTemperatureChange quarters => execSumpTemperatureChange quarters s
  | .sensorRecovery quarters => execSensorRecovery quarters s
  | _ => .next s

/-- The current request stands marked as cancelled. -/
def headCancelled (o : Step) : Bool :=
  match o with
  | .next t => t.dsu.batch.head?.any fun r => r.cancel
  | .fault _ | .refused _ => false

/-- The command that waits right behind the one taken now cancels the current request: it falls together with the end of the
stroke in progress (R126, log entry 66). -/
def cancelledBehind (s : State) : Bool :=
  match s.pending with
  | [] => false
  | c :: rest => headCancelled (cancelling c { s with pending := rest })

/-! ## The ends of a stroke (R121) -/

/-- STROKE_CONFIRMATION_PULSE (R121); with no stroke in progress it is ignored. A pulse taken after the expiry it falls together
with finds the next stroke in progress, where one follows, and confirms it (DESIGN CHOICE, log entry 64). With a cancellation
that falls together with the pulse the stroke is counted, and short of the target no further stroke is commanded: the request
waits for the cancellation to end it (R126, log entry 66). -/
def execStrokeConfirmationPulse (s : State) : Step :=
  whenPowered (fun s =>
    match s.dsu.stroke, s.dsu.batch with
    | some _, r :: _ =>
      conclude (if !r.cancel && decide (r.confirmed + 1 < r.target) && cancelledBehind s then countConfirmed r s
        else strokeConfirmed r s)
    | _, _ => s) s

/-- STROKE_TIMEOUT: 400 ms without a pulse (R121); log entry 64 says what a pulse meets that falls together with it. With a
cancellation that falls together with the expiry the miss raises no fault and no further stroke is commanded: the request waits
for the cancellation to end it (R126, log entry 66). -/
def execStrokeTimeout (s : State) : Step :=
  whenPowered (fun s =>
    match s.dsu.stroke, s.dsu.batch with
    | some _, r :: _ =>
      conclude (if !r.cancel && cancelledBehind s then countMissed r s else strokeMissed r s)
    | _, _ => s) s

end Sys2Proof.Machine
end

