-- ==== Sys2Proof/Machine/Dispatch.lean ====
section
/-! DEFINITION. The dispatch: one arm for each command, a direct call of its meaning. -/

namespace Sys2Proof.Machine

def exec (i : Instr) (s : State) : Host.Outcome State Fault Refusal :=
  match i with
  | .identify tag => Sys2Proof.Machine.execIdentify tag s
  | .linkEnable tag => Sys2Proof.Machine.execLinkEnable tag s
  | .getStatus tag => Sys2Proof.Machine.execGetStatus tag s
  | .setConfig tag id value => Sys2Proof.Machine.execSetConfig tag id value s
  | .setConfigNominalCapacity tag value => Sys2Proof.Machine.execSetConfigNominalCapacity tag value s
  | .setConfigSwitchReserve tag value => Sys2Proof.Machine.execSetConfigSwitchReserve tag value s
  | .setConfigFittedColumns tag value => Sys2Proof.Machine.execSetConfigFittedColumns tag value s
  | .setConfigSilenceLimit tag value => Sys2Proof.Machine.execSetConfigSilenceLimit tag value s
  | .getConfig tag id => Sys2Proof.Machine.execGetConfig tag id s
  | .setNoticeMask tag mask => Sys2Proof.Machine.execSetNoticeMask tag mask s
  | .standby tag => Sys2Proof.Machine.execStandby tag s
  | .shutdownNormal tag => Sys2Proof.Machine.execShutdownNormal tag s
  | .shutdownAbrupt tag => Sys2Proof.Machine.execShutdownAbrupt tag s
  | .resetUnitSequencer tag => Sys2Proof.Machine.execResetUnitSequencer tag s
  | .resetUnitSoftener tag => Sys2Proof.Machine.execResetUnitSoftener tag s
  | .resetUnitDosing tag => Sys2Proof.Machine.execResetUnitDosing tag s
  | .resetUnitDoor tag => Sys2Proof.Machine.execResetUnitDoor tag s
  | .resetUnitLink tag => Sys2Proof.Machine.execResetUnitLink tag s
  | .readFaultHistory tag => Sys2Proof.Machine.execReadFaultHistory tag s
  | .acknowledgeFault tag => Sys2Proof.Machine.execAcknowledgeFault tag s
  | .loadPhase tag index record => Sys2Proof.Machine.execLoadPhase tag index record s
  | .readPhase tag index => Sys2Proof.Machine.execReadPhase tag index s
  | .setPhaseCount tag count => Sys2Proof.Machine.execSetPhaseCount tag count s
  | .clearProgram tag => Sys2Proof.Machine.execClearProgram tag s
  | .startProgram tag => Sys2Proof.Machine.execStartProgram tag s
  | .hold tag => Sys2Proof.Machine.execHold tag s
  | .continueProgram tag => Sys2Proof.Machine.execContinueProgram tag s
  | .abortProgram tag => Sys2Proof.Machine.execAbortProgram tag s
  | .readColumn tag column => Sys2Proof.Machine.execReadColumn tag column s
  | .regenerate tag column => Sys2Proof.Machine.execRegenerate tag column s
  | .retireColumn tag column => Sys2Proof.Machine.execRetireColumn tag column s
  | .restoreColumn tag column => Sys2Proof.Machine.execRestoreColumn tag column s
  | .readReservoir tag channel => Sys2Proof.Machine.execReadReservoir tag channel s
  | .setReservoirLevel tag channel level => Sys2Proof.Machine.execSetReservoirLevel tag channel level s
  | .primeChannel tag channel strokes => Sys2Proof.Machine.execPrimeChannel tag channel strokes s
  | .frameGood bytes => Sys2Proof.Machine.execFrameGood bytes s
  | .frameBad bytes stopLow => Sys2Proof.Machine.execFrameBad bytes stopLow s
  | .byteGapTimeout bytes => Sys2Proof.Machine.execByteGapTimeout bytes s
  | .frameTransmitEnd => Sys2Proof.Machine.execFrameTransmitEnd s
  | .silenceTimeout => Sys2Proof.Machine.execSilenceTimeout s
  | .timeStampTick ambient => Sys2Proof.Machine.execTimeStampTick ambient s
  | .standbyLinkWake => Sys2Proof.Machine.execStandbyLinkWake s
  | .powerOn pins => Sys2Proof.Machine.execPowerOn pins s
  | .resetLineAssertion pins => Sys2Proof.Machine.execResetLineAssertion pins s
  | .powerLoss => Sys2Proof.Machine.execPowerLoss s
  | .pfwAssertion => Sys2Proof.Machine.execPfwAssertion s
  | .pfwRelease => Sys2Proof.Machine.execPfwRelease s
  | .retainedWriteEnd => Sys2Proof.Machine.execRetainedWriteEnd s
  | .flowMeterPulse => Sys2Proof.Machine.execFlowMeterPulse s
  | .sumpEmptySwitchChange empty => Sys2Proof.Machine.execSumpEmptySwitchChange empty s
  | .heaterCoverLevelChange reached => Sys2Proof.Machine.execHeaterCoverLevelChange reached s
  | .highLevelSwitchChange high => Sys2Proof.Machine.execHighLevelSwitchChange high s
  | .floodSwitchChange active => Sys2Proof.Machine.execFloodSwitchChange active s
  | .floodRunOnExpiry => Sys2Proof.Machine.execFloodRunOnExpiry s
  | .leakDrainExpiry => Sys2Proof.Machine.execLeakDrainExpiry s
  | .drainBurstExpiry => Sys2Proof.Machine.execDrainBurstExpiry s
  | .fillLimitExpiry => Sys2Proof.Machine.execFillLimitExpiry s
  | .drainRunOnExpiry => Sys2Proof.Machine.execDrainRunOnExpiry s
  | .drainAttemptLimit => Sys2Proof.Machine.execDrainAttemptLimit s
  | .drainPauseExpiry => Sys2Proof.Machine.execDrainPauseExpiry s
  | .holdTimerExpiry => Sys2Proof.Machine.execHoldTimerExpiry s
  | .settlingTimerExpiry => Sys2Proof.Machine.execSettlingTimerExpiry s
  | .waterWaitExpiry => Sys2Proof.Machine.execWaterWaitExpiry s
  | .drainExtensionExpiry => Sys2Proof.Machine.execDrainExtensionExpiry s
  | .saltLidSwitchChange lidOpen => Sys2Proof.Machine.execSaltLidSwitchChange lidOpen s
  | .saltLowSwitchChange low => Sys2Proof.Machine.execSaltLowSwitchChange low s
  | .brineStageTimeLimit => Sys2Proof.Machine.execBrineStageTimeLimit s
  | .rinseStageTimeLimit => Sys2Proof.Machine.execRinseStageTimeLimit s
  | .regenDwellExpiry => Sys2Proof.Machine.execRegenDwellExpiry s
  | .columnValveConfirmation position => Sys2Proof.Machine.execColumnValveConfirmation position s
  | .columnValveMoveTimeout => Sys2Proof.Machine.execColumnValveMoveTimeout s
  | .gatherWindowExpiry => Sys2Proof.Machine.execGatherWindowExpiry s
  | .selectorPositionReport position => Sys2Proof.Machine.execSelectorPositionReport position s
  | .selectorMoveTimeout => Sys2Proof.Machine.execSelectorMoveTimeout s
  | .strokeConfirmationPulse => Sys2Proof.Machine.execStrokeConfirmationPulse s
  | .strokeTimeout => Sys2Proof.Machine.execStrokeTimeout s
  | .lowSwitchChange channel low => Sys2Proof.Machine.execLowSwitchChange channel low s
  | .capSwitchChange channel capOpen => Sys2Proof.Machine.execCapSwitchChange channel capOpen s
  | .sumpTemperatureChange quarters => Sys2Proof.Machine.execSumpTemperatureChange quarters s
  | .sensorIndication kind => Sys2Proof.Machine.execSensorIndication kind s
  | .sensorRecovery quarters => Sys2Proof.Machine.execSensorRecovery quarters s
  | .heatLimitExpiry => Sys2Proof.Machine.execHeatLimitExpiry s
  | .pressureSwitchChange pressure => Sys2Proof.Machine.execPressureSwitchChange pressure s
  | .lowTimerExpiry => Sys2Proof.Machine.execLowTimerExpiry s
  | .slotTimeExpiry => Sys2Proof.Machine.execSlotTimeExpiry s
  | .diverterPositionReport zone => Sys2Proof.Machine.execDiverterPositionReport zone s
  | .diverterMoveTimeout => Sys2Proof.Machine.execDiverterMoveTimeout s
  | .armRotationPulse arm => Sys2Proof.Machine.execArmRotationPulse arm s
  | .armTimerExpiry arm => Sys2Proof.Machine.execArmTimerExpiry arm s
  | .doorSwitchChange doorOpen => Sys2Proof.Machine.execDoorSwitchChange doorOpen s
  | .actuatorEncoderEdge outward => Sys2Proof.Machine.execActuatorEncoderEdge outward s
  | .homeSwitchChange home => Sys2Proof.Machine.execHomeSwitchChange home s
  | .stallTimerExpiry => Sys2Proof.Machine.execStallTimerExpiry s
  | .dryingDwellExpiry => Sys2Proof.Machine.execDryingDwellExpiry s
  | .coolWaitExpiry => Sys2Proof.Machine.execCoolWaitExpiry s
  | .retryPauseExpiry => Sys2Proof.Machine.execRetryPauseExpiry s
  | .openTimeExpiry => Sys2Proof.Machine.execOpenTimeExpiry s

end Sys2Proof.Machine
end

