-- ==== Sys2Proof/Machine/Wire.lean ====
section
/-! DEFINITION. The bytes of the frames that the part sends: replies (Tables 44 to 46, 53 to 55) and notices (Table 55).
The payload layouts that the manual does not give are free values (log entry 10). -/

namespace Sys2Proof

/-! ## Layouts the manual leaves open -/

/-- FREE VALUE: the payload of the status snapshot (R185 gives its groups and no layout). -/
opaque Config.snapshotBytes : Machine.Snapshot → List Byte

/-- FREE VALUE: the payload of the identity after its designation and revision (R186 gives its fields and no sizes). -/
opaque Config.identityBytes : Machine.Identity → List Byte

/-- FREE VALUE: the content of a notice other than FAULT (Table 51 names it and gives no layout). -/
opaque Config.contentBytes : Machine.Content → List Byte

/-- FREE VALUE: the two bytes of a fault detail that is neither a number, a column nor a channel (R190). -/
opaque Config.detailCode : Machine.Detail → Half

namespace Machine

/-! ## Codes -/

/-- The reply statuses' codes (Table 45). -/
def statusCode : Status → Nat
  | .ok => 0
  | .clamped => 1
  | .unknownKind => 2
  | .badLength => 3
  | .badField => 4
  | .wrongState => 5
  | .busy => 6
  | .notReady => 7
  | .notFitted => 8
  | .badProgram => 9

/-- The fault codes (Table 52). -/
def faultNumber : FaultCode → Nat
  | .flood => 1
  | .inletLeak => 2
  | .waterSupply => 3
  | .drainBlocked => 4
  | .overheat => 5
  | .tempSensor => 6
  | .pressureLoss => 7
  | .diverter => 8
  | .columnValve => 9
  | .brineTimeout => 10
  | .rinseTimeout => 11
  | .selector => 12
  | .doseLineDry => 13
  | .doorActuator => 14
  | .retainedInvalid => 15
  | .linkLost => 16

/-- The part states' codes (Table 56, R183). -/
def partCode : PartState → Nat
  | .down => 0
  | .starting => 1
  | .ready => 2
  | .standby => 3
  | .shuttingDown => 4
  | .shut => 5

/-- The column ids of Table 46. -/
def columnCode : Column → Nat
  | .a => 1
  | .b => 2
  | .c => 3

/-- The channel codes of Table 46. -/
def channelCode : Channel → Nat
  | .d1 => 1
  | .d2 => 2
  | .d3 => 3

/-- The column states' codes (Table 54). -/
def columnStateCode : ColState → Nat
  | .service => 1
  | .ready => 2
  | .waiting => 3
  | .regenerating => 4
  | .retired => 5
  | .faulted => 6

/-! ## Fields -/

def byteOf (n : Nat) : Byte := BitVec.ofNat 8 n
def half (n : Nat) : List Byte := halfBytes (BitVec.ofNat 16 n)
def word (n : Nat) : List Byte := wordBytes (BitVec.ofNat 32 n)
def flag (b : Bool) : Byte := if b then 1#8 else 0#8

/-- The bits of a byte by their weights 1, 2, 4. -/
def flags (w1 w2 w4 : Bool) : Byte := byteOf (w1.toNat + 2 * w2.toNat + 4 * w4.toNat)

/-! ## Fault entries and records -/

def detailBytes : Detail → List Byte
  | .num n => half n
  | .column col => half (columnCode col)
  | .channel ch => half (channelCode ch)
  | .zone z => halfBytes (Config.detailCode (.zone z))
  | .valve p => halfBytes (Config.detailCode (.valve p))
  | .sensor k => halfBytes (Config.detailCode (.sensor k))
  | .stage st => halfBytes (Config.detailCode (.stage st))
  | .lost cause => halfBytes (Config.detailCode (.lost cause))
  | .absent => halfBytes (Config.detailCode .absent)

/-- The ten bytes of a fault entry (Table 55). -/
def faultBytes (e : FaultEntry) : List Byte :=
  byteOf (faultNumber e.code) :: wordBytes e.stamp ++ byteOf e.phase :: detailBytes e.detail1 ++ detailBytes e.detail2

/-- The column record (Table 54). -/
def columnBytes (r : ColumnReply) : List Byte :=
  byteOf (columnCode r.column) :: byteOf (columnStateCode r.state) :: word r.remaining
    ++ flags r.exhausted r.degraded false :: half r.regens ++ [byteOf r.place, byteOf r.residue]

/-- The reservoir record (note of Table 46); its marks take the weights 1, 2, 4 in the order named, and its switch bytes
read 1 for LOW and for OPEN, else 0 (log entry 10). -/
def reservoirBytes (r : ReservoirReply) : List Byte :=
  byteOf (channelCode r.channel) :: flag r.fitted :: half r.capacity ++ half r.level ++ half r.lowMark
    ++ [flags r.empty r.lowNotified r.capOpened, byteOf r.strokeVolume, flag r.lowSwitch, flag r.capSwitch,
        0#8, 0#8, 0#8, 0#8]

/-- The code of a phase kind (Table 53). -/
def washCode : WashKind → Nat
  | .prewash => 0
  | .main => 1
  | .rinse => 2
  | .finalRinse => 3

/-- A stored reference as it travels; one that is absent reads 0 (note of Table 53). -/
def refPayload : Option DoseRef → RefPayload
  | some r => ⟨byteOf (channelCode r.channel), BitVec.ofNat 16 r.base, BitVec.ofNat 16 r.maximum⟩
  | none => ⟨0#8, 0#16, 0#16⟩

/-- A stored phase record as it travels (Table 53). -/
def phasePayload : Phase → PhasePayload
  | .wash k w =>
    { kind := byteOf (washCode k), fillVolume := BitVec.ofNat 16 w.fillVolume, target := byteOf w.target,
      heatLimit := BitVec.ofNat 16 w.heatLimit, holdTime := BitVec.ofNat 16 w.holdTime, weight1 := byteOf w.weights.z1,
      weight2 := byteOf w.weights.z2, weight3 := byteOf w.weights.z3, weight4 := byteOf w.weights.z4,
      slotLength := byteOf w.slotLength, refCount := byteOf w.refs.length, ref1 := refPayload w.refs[0]?,
      ref2 := refPayload w.refs[1]?, flags := flags w.drain w.sample false, dwell := 0#16, openTime := 0#16 }
  | .dry dwell openTime =>
    { kind := 4#8, fillVolume := 0#16, target := 0#8, heatLimit := 0#16, holdTime := 0#16, weight1 := 0#8,
      weight2 := 0#8, weight3 := 0#8, weight4 := 0#8, slotLength := 0#8, refCount := 0#8, ref1 := refPayload none,
      ref2 := refPayload none, flags := 0#8, dwell := BitVec.ofNat 16 dwell, openTime := BitVec.ofNat 16 openTime }

/-- Occupied and record, as READ PHASE returns them. -/
def slotBytes : Option Phase → List Byte
  | some p => 1#8 :: (phasePayload p).bytes
  | none => 0#8 :: List.replicate 29 0#8

/-! ## Replies (Table 46, R178)

A payload whose layout is open holds at most what Table 44 leaves it of 198 bytes (R175, R188). -/

/-- The largest payload of a frame (Table 44). -/
def largestPayload : Nat := 198

/-- The rest of an IDENTIFY reply after its status, designation and revision (R186). -/
def identityBytes (i : Identity) : List Byte := (Config.identityBytes i).take (largestPayload - 9)

/-- The rest of a GET STATUS reply after its status (R185). -/
def snapshotBytes (s : Snapshot) : List Byte := (Config.snapshotBytes s).take (largestPayload - 1)

def bodyBytes : ReplyBody → List Byte
  | .empty => []
  | .partState st => [byteOf (partCode st)]
  | .config id value => id :: word value
  | .mask mask => tripleBytes (mask.setWidth 24)
  | .unit unit => [unit]
  | .history entries => byteOf entries.length :: entries.flatMap faultBytes
  | .index index => [index]
  | .phaseRecord index record => index :: slotBytes record
  | .count count => [count]
  | .column record => columnBytes record
  | .reservoir record => reservoirBytes record
  | .level ch level => byteOf (channelCode ch) :: half level
  | .identity identity => identity.designation.take 7 ++ identity.revision :: identityBytes identity
  | .snapshot snapshot => snapshotBytes snapshot
  | .offending index => [byteOf index]

/-- The kind of a reply: the request's with the bit of weight 0x80 set (R178). -/
def replyKind (kind : Byte) : Byte := kind ||| 0x80#8

/-- The reply to a request (R178). -/
def replyFrame (a : Awaiting) : Frame :=
  ⟨replyKind a.kind, a.tag, byteOf (statusCode a.answer.status) :: bodyBytes a.answer.body⟩

/-- The BUSY reply of a busy answer (R177). -/
def busyFrame (b : BusyAnswer) : Frame := ⟨replyKind b.kind, b.tag, [byteOf (statusCode .busy)]⟩

/-! ## Notices (Table 55, R188) -/

/-- The content of a notice, at most the 192 bytes of Table 55. -/
def contentBytes : Content → List Byte
  | .fault e => faultBytes e
  | c => (Config.contentBytes c).take (largestPayload - 6)

/-- A notice: kind 0x40, tag 0 (R188). -/
def noticeFrame (n : Notice) : Frame :=
  ⟨0x40#8, 0#8, byteOf (noticeCode n.content) :: byteOf n.repeats :: wordBytes n.stamp ++ contentBytes n.content⟩

/-- A frame on the transmit line without its envelope. -/
def txFrame : TxFrame → Frame
  | .reply a => replyFrame a
  | .busy b => busyFrame b
  | .notice n => noticeFrame n

/-- The bytes on the transmit line (R175). -/
def txBytes (f : TxFrame) : List Byte := (txFrame f).wire

end Machine

end Sys2Proof
end

