-- ==== Sys2Proof/Safety.lean ====
section
/-! DEFINITION. The terms in which statements about the part are made: what stands outside a block's own course, what a
request leaves of the link, and the invariants of a sound part. -/

namespace Sys2Proof.Safety

open Sys2Proof.Machine

/-! ## What no block changes on its own course -/

/-- The part's state that no settling changes: it changes only where a command names it. -/
structure Standing where
  powered : Bool
  pfw : Bool
  startedFrom : PartState
  abrupt : Bool
  pins : Pins
  cfg : ConfigRec
  linkState : LinkState
  errors : Nat
  lostCause : LostCause
  lostStamp : Word
  mask : BitVec 22
  stamp : Word
  assembling : Bool
  assembly : List Byte
  awaiting : Option Awaiting
  busy : Option BusyAnswer
  table : Vector (Option Phase) 12
  count : Nat
  sumpEmpty : Bool
  heaterCover : Bool
  highLevel : Bool
  flood : Bool
  floodReq : Option FloodReq
  inhibit : Bool
  retired : List Column
  valveFault : Bool
  lidOpen : Bool
  saltLow : Bool
  level : PerChannel Nat
  fitted : PerChannel Bool
  lowNotified : PerChannel Bool
  capOpened : PerChannel Bool
  lowSw : PerChannel Bool
  capSw : PerChannel Bool
  selector : Option Channel
  valid : Bool
  faultKind : Option SensorKind
  lastValid : Option Nat
  half : Bool
  lockout : Bool
  reading : Bool
  doorOpen : Bool
  actuator : Bool
  config : Option ConfigRec
  faults : Option (List FaultEntry)
  columns : Option RetainedColumns
  reservoirs : Option RetainedReservoirs
  pending : List Instr
  deriving DecidableEq, Repr

/-- What stands of a state. -/
def standing (s : State) : Standing where
  powered := s.part.powered
  pfw := s.part.pfw
  startedFrom := s.part.startedFrom
  abrupt := s.part.abrupt
  pins := s.pins
  cfg := s.cfg
  linkState := s.lnk.state
  errors := s.lnk.errors
  lostCause := s.lnk.lostCause
  lostStamp := s.lnk.lostStamp
  mask := s.lnk.mask
  stamp := s.lnk.stamp
  assembling := s.lnk.assembling
  assembly := s.lnk.assembly
  awaiting := s.lnk.awaiting
  busy := s.lnk.busy
  table := s.seq.table
  count := s.seq.count
  sumpEmpty := s.wpc.sumpEmpty
  heaterCover := s.wpc.heaterCover
  highLevel := s.wpc.highLevel
  flood := s.wpc.flood
  floodReq := s.wpc.floodReq
  inhibit := s.wpc.inhibit
  retired := s.sfu.retired
  valveFault := s.sfu.valveFault
  lidOpen := s.rge.lidOpen
  saltLow := s.rge.saltLow
  level := ⟨s.dsu.r1.level, s.dsu.r2.level, s.dsu.r3.level⟩
  fitted := ⟨s.dsu.r1.fitted, s.dsu.r2.fitted, s.dsu.r3.fitted⟩
  lowNotified := ⟨s.dsu.r1.lowNotified, s.dsu.r2.lowNotified, s.dsu.r3.lowNotified⟩
  capOpened := ⟨s.dsu.r1.capOpened, s.dsu.r2.capOpened, s.dsu.r3.capOpened⟩
  lowSw := s.dsu.lowSw
  capSw := s.dsu.capSw
  selector := s.dsu.selector
  valid := s.htc.valid
  faultKind := s.htc.faultKind
  lastValid := s.htc.lastValid
  half := s.htc.half
  lockout := s.htc.lockout
  reading := s.czs.reading
  doorOpen := s.ddu.doorOpen
  actuator := s.ddu.fitted
  config := s.rst.config
  faults := s.rst.faults
  columns := s.rst.columns
  reservoirs := s.rst.reservoirs
  pending := s.pending

/-! ## States in which a command's effect is stated

Each is a premise on the state alone. A state between steps holds no report (log entry 8). -/

/-- The part has power and is READY. -/
abbrev Awake (s : State) : Prop := s.part.powered = true ∧ s.part.state = .ready ∧ s.reports = []

/-- The link hears a request: the part has power and is not in STANDBY, the link is not LOST, no request awaits its reply,
and in UP and DEGRADED the receive error count lies below the count that loses the link. -/
abbrev Hears (s : State) : Prop :=
  s.part.powered = true ∧ s.part.state ≠ .standby ∧ s.reports = [] ∧ s.lnk.state ≠ .lost
    ∧ (linkSends s = true → s.lnk.errors < Config.lostCount) ∧ s.lnk.awaiting = none

/-- The link hears a request and hands it to its owner: the part is READY and the link UP or DEGRADED. -/
abbrev Listens (s : State) : Prop :=
  Awake s ∧ (s.lnk.state = .up ∨ s.lnk.state = .degraded) ∧ s.lnk.errors < Config.lostCount ∧ s.lnk.awaiting = none

/-- No fill stands and the engine drains no effluent, so that the water path has nothing to report. -/
abbrev Calm (s : State) : Prop :=
  Awake s ∧ s.wpc.fill = none ∧ s.wpc.holder ≠ .fill ∧ s.rge.state ≠ .effluentDrain

/-- The inlet has no holder and no request, the engine is IDLE and no column waits for it. -/
abbrev Still (s : State) : Prop :=
  Awake s ∧ s.wpc.holder = .none ∧ s.wpc.fill = none ∧ s.wpc.regen = none ∧ s.rge.state = .idle ∧ s.sfu.regenQ = []

/-- Brine and rinse water may flow: the permit as R29 gives it, no flood, the high-level switch NOT_HIGH (R39). -/
def waterFlows (s : State) : Bool :=
  permitCondition { s with wpc := { s.wpc with drainPump := pumpAsked s.wpc } } && !s.wpc.flood && !s.wpc.inhibit
    && !s.wpc.highLevel

/-- The party that holds the inlet, by the requests that are HELD (R37). -/
def holderOf (w : Wpc) : Holder :=
  match w.fill, w.regen with
  | some ⟨_, _, true⟩, _ => .fill
  | _, some ⟨.brine, true⟩ => .brine
  | _, some ⟨.rinse, true⟩ => .rinse
  | _, _ => .none

/-- The water path has nothing left to do, whatever stands: a FILL request stands only in RUNNING, from FILL to CIRCULATE,
and waits only behind a drain burst (R9, R16, R38), a held BRINE or RINSE grant has its conditions and a waiting request has
not (R39), an idle engine has no request and no column to take (R39, R65), the holder is the party whose request is HELD,
and no effluent is drained beside a program's DRAIN (R90). -/
abbrev WaterRests (s : State) : Prop :=
  (∀ q ∈ s.wpc.fill, q.held = true ∨ s.wpc.burst.isSome = true)
    ∧ (s.wpc.fill.isSome = true → s.seq.state = .running ∧ s.seq.sub ≠ .none ∧ s.seq.sub ≠ .drain ∧ s.seq.sub ≠ .dry)
    ∧ (s.wpc.holder = .brine ∨ s.wpc.holder = .rinse → waterFlows s = true)
    ∧ (∀ g ∈ s.wpc.regen, g.held = true ∨ s.wpc.fill.isSome = true ∨ waterFlows s = false
        ∨ s.wpc.burst = some .waiting ∨ s.wpc.holder ≠ .none)
    ∧ (s.rge.state = .idle → s.sfu.regenQ = [] ∨ s.sfu.valveFault = true)
    ∧ (s.rge.state = .effluentDrain → runningIn s .drain = false)
    ∧ (s.rge.state = .idle → s.wpc.regen = none) ∧ s.wpc.holder = holderOf s.wpc
    ∧ (∀ g ∈ s.wpc.regen, g.held = true → s.wpc.fill = none ∧ s.wpc.burst = none)

/-- The part is READY and its water path rests. -/
abbrev Rests (s : State) : Prop := Awake s ∧ WaterRests s

/-! ## What a frame leaves of the link -/

/-- The link after a good frame: the receiver HUNTING, the receive error count down by 1, the link state that the count
gives, the silence timer at 0 where it counts, and an expiry of the time counted before void (R176, R180 to R182, log entry 69).
-/
def heard (s : State) : State :=
  onTies (fun x => { x with silence := s.lnk.silence.isSome }) <| onLnk (fun l => { l with
    assembling := false
    assembly := []
    errors := l.errors - 1
    state := if linkSends s then (if Config.degradedCount ≤ l.errors - 1 then .degraded else .up) else l.state
    silence := if silenceCounts s then some 0 else none }) s

/-- The frame of this kind and tag awaits its reply, which carries this status and body (R177, R178). -/
def answering (kind tag : Byte) (status : Status) (body : ReplyBody) (s : State) : State :=
  onLnk (fun l => { l with awaiting := some ⟨kind, tag, ⟨status, body⟩⟩ }) s

/-- The link after a bad frame that does not lose it: the receiver HUNTING, 8 errors more, stopping at 255, and in UP and
DEGRADED the link state that the count gives (R176, R180, R181). -/
def discarded (s : State) : State :=
  onLnk (fun l => { l with
    assembling := false
    assembly := []
    errors := min 255 (l.errors + 8)
    state := if linkSends s then (if 96 ≤ l.errors + 8 then .degraded else .up) else l.state }) s

/-- The frame that the transmitter begins on a free line: the reply, else the BUSY answer, else, where notices are sent,
the notice at the head (R179, R188). -/
def nextFrame (sends : Bool) (awaiting : Option Awaiting) (busy : Option BusyAnswer) (notices : List Notice) :
    Option TxFrame :=
  match awaiting, busy, notices with
  | some a, _, _ => some (.reply a)
  | none, some b, _ => some (.busy b)
  | none, none, n :: _ => if sends then some (.notice n) else none
  | none, none, [] => none

/-- A notice with this content stands in the set or on the line. -/
def notified (c : Content) (s : State) : Bool :=
  s.lnk.notices.any (fun n => n.content == c)
    || (match s.lnk.tx with
        | some (.notice n) => n.content == c
        | _ => false)

/-! ## Retention -/

/-- The write of a record is asked or under way: it stands in the list of pending writes or is being written (R201). -/
def writeAsked (id : RecordId) (s : State) : Bool :=
  s.rst.pendingWrites.contains id
    || (match id, s.rst.writing with
        | .config, some (.config _) => true
        | .faults, some (.faults _) => true
        | .columns, some (.columns _) => true
        | .reservoirs, some (.reservoirs _) => true
        | _, _ => false)

/-- The numbers of the records whose copies are invalid, in the order of restoration (R203). -/
def invalidRecords (r : Rst) : List Nat :=
  (if r.config.isSome then [] else [1]) ++ (if r.faults.isSome then [] else [2])
    ++ (if r.columns.isSome then [] else [3]) ++ (if r.reservoirs.isSome then [] else [4])

/-- A column stays in its restored place: every one with three columns fitted, all but C with two (R203). -/
def keptIn (fitted : Nat) (col : Column) : Bool := col != .c || fitted == 3

/-- A restored remaining capacity in nmol, limited to the nominal capacity in litre-mmol (R56). -/
def restoredRemaining (nominal : Nat) (c : RetainedColumns) : Column → Nat
  | .a => min c.colA.remaining (nominal * 1000000)
  | .b => min c.colB.remaining (nominal * 1000000)
  | .c => min (c.colC.getD {}).remaining (nominal * 1000000)

/-! ## What follows a command inside its step -/

/-- The outputs as their conditions give them: drain pump, permit, heater, arm timers (R46, R29, R137, R153). -/
def outputs (s : State) : State := refreshArms (refreshHeater (refreshPump s))

/-- Nothing of `a` has changed in `t` but what the water path and the engine make of it, the outputs, the notices and what
the transmitter and the retained store take up. -/
def WaterFollows (a t : State) : Prop :=
  standing t = standing a ∧ t.part = a.part ∧ t.dsu = a.dsu ∧ t.ddu = a.ddu ∧ t.rst.history = a.rst.history
    ∧ t.lnk.latest = a.lnk.latest ∧ t.lnk.silence = a.lnk.silence
    ∧ t.seq = { a.seq with permit := t.seq.permit } ∧ t.htc = { a.htc with output := t.htc.output }
    ∧ t.czs = { a.czs with
        arm1 := t.czs.arm1, arm2 := t.czs.arm2, pulsed := t.czs.pulsed, slotOfStall := t.czs.slotOfStall }
    ∧ t.ties = a.ties ∧ t.reports = []

/-- The phase `i` has been entered from `s`: it is the current one, counts as run and has raised PHASE_BEGIN (R8, R9). -/
def PhaseBegun (i : Nat) (kind : PhaseKind) (s t : State) : Prop :=
  t.seq.idx = i ∧ t.seq.summary = { s.seq.summary with phasesRun := s.seq.summary.phasesRun + 1 }
    ∧ (noticeEnabled s.lnk.mask 4 = true → notified (.phaseBegin i kind) t = true)

/-- A phase's main fill has been asked (R9, R38): granted with its counts from 0 and the record open; behind a drain burst
WAITING (R49); with the high-level switch HIGH over at once with a count of 0 (R41, R67), what follows FILL beginning; under
the inlet inhibit refused, the program FAULTED by the flood (R38, R26). -/
def MainFillAsked (w : WashRecord) (s t : State) : Prop :=
  (s.wpc.inhibit = false → s.wpc.burst = none → s.wpc.highLevel = false →
      t.seq.state = .running ∧ t.seq.sub = .fill ∧ t.wpc.fill = some ⟨w.fillVolume, .main, true⟩
        ∧ t.wpc.holder = .fill ∧ t.wpc.inletValve = true ∧ t.wpc.brineValve = false ∧ t.wpc.grantCount = 0
        ∧ t.wpc.residue = 0 ∧ t.wpc.latchedK = s.cfg.k ∧ t.wpc.fillTimer = some 0
        ∧ t.sfu.fill = { t.sfu.fill with isOpen := true, v := 0, g := 0, breakthrough := 0 }
        ∧ t.sfu.hRaw = s.cfg.hRaw ∧ t.sfu.hTgt = s.cfg.hTgt ∧ t.sfu.blend = blendOf s.cfg.hRaw s.cfg.hTgt)
    ∧ (s.wpc.inhibit = false → s.wpc.burst.isSome = true →
      t.seq.state = .running ∧ t.seq.sub = .fill ∧ t.wpc.fill = some ⟨w.fillVolume, .main, false⟩
        ∧ t.wpc.holder = .none ∧ t.wpc.inletValve = false ∧ t.wpc.burst = s.wpc.burst
        ∧ t.sfu.fill = { t.sfu.fill with isOpen := true, v := 0, g := 0, breakthrough := 0 })
    ∧ (s.wpc.inhibit = false → s.wpc.burst = none → s.wpc.highLevel = true → 0 < w.holdTime →
      t.seq.state = .running ∧ (t.seq.sub = .dose ∨ t.seq.sub = .heat ∨ t.seq.sub = .circulate)
        ∧ t.wpc.fill = none ∧ t.wpc.holder = .none ∧ t.wpc.inletValve = false ∧ t.wpc.grantCount = 0
        ∧ t.sfu.fill = ⟨false, 0, 0, s.cfg.hRaw, 0⟩)
    ∧ (s.wpc.inhibit = true →
      t.seq.state = .faulted ∧ t.seq.sub = .none ∧ t.seq.fault = some (s.seq.fault.getD .flood)
        ∧ t.seq.summary.outcome = .faulted ∧ t.wpc.fill = none ∧ t.wpc.holder = .none ∧ t.wpc.inletValve = false
        ∧ t.sfu.fill.isOpen = false)

/-- A regeneration gives way to a fill or to a withdrawn permit: a BRINE or RINSE grant that is held is revoked, its request
WAITING again and the engine in its WAIT state with its counts kept; every other stage goes on as it was (R38, R39, R83,
R87). -/
def EngineGivesWay (s t : State) : Prop :=
  t.rge = { s.rge with
      state := match s.rge.state with
        | .brineDraw => .brineWait
        | .rinse => .rinseWait
        | st => st }
    ∧ t.wpc.regen = s.wpc.regen.map (fun r => { r with held := false }) ∧ t.wpc.brineValve = false

/-- The conditions of R39 hold: a BRINE or RINSE request that waits has been granted with the residue and the count of the
grant at 0, K latched and the engine drawing or rinsing on with its own counts kept, a salt-low switch that reads LOW setting
the mark of a draw (R37, R81, R85, R87); every other stage goes on as it was. -/
def EngineGranted (s t : State) : Prop :=
  (s.rge.state = .brineWait → s.rge.lidOpen = false →
      t.rge = { s.rge with state := .brineDraw, saltMark := s.rge.saltMark || s.rge.saltLow }
        ∧ t.wpc.regen = some ⟨.brine, true⟩ ∧ t.wpc.holder = .brine ∧ t.wpc.inletValve = true ∧ t.wpc.brineValve = true
        ∧ t.wpc.grantCount = 0 ∧ t.wpc.residue = 0 ∧ t.wpc.latchedK = s.cfg.k
        ∧ (s.rge.saltMark = false → s.rge.saltLow = true → noticeEnabled s.lnk.mask 15 = true →
          ∀ col, s.rge.column = some col → notified (.saltLow col s.rge.brineDrawn) t = true))
    ∧ (s.rge.state = .rinseWait →
      t.rge = { s.rge with state := .rinse }
        ∧ t.wpc.regen = some ⟨.rinse, true⟩ ∧ t.wpc.holder = .rinse ∧ t.wpc.inletValve = true ∧ t.wpc.brineValve = false
        ∧ t.wpc.grantCount = 0 ∧ t.wpc.residue = 0 ∧ t.wpc.latchedK = s.cfg.k)
    ∧ ((s.rge.state = .brineWait ∧ s.rge.lidOpen = true) ∨ s.rge.state = .brineDraw ∨ s.rge.state = .dwell
        ∨ s.rge.state = .rinse ∨ s.rge.state = .effluentDrain →
      t.rge = s.rge ∧ t.wpc.regen = s.wpc.regen)

/-- The phase after that of `s` has been entered (R8, R9, R17, R18, R20). A phase other than DRY asks its main fill, or
before an open door stands SUSPENDED (log entry 14); a DRY phase behind a closed door, with the part's drying at rest,
starts its drying. -/
def NextPhaseEntered (s t : State) : Prop :=
  (∀ k w, phaseAt s.seq (s.seq.idx + 1) = some (.wash k w) →
      (s.ddu.doorOpen = true →
        PhaseBegun (s.seq.idx + 1) (.wash k) s t
          ∧ t.seq.state = .suspended ∧ t.seq.remembered = .sub .fill ∧ t.seq.fillBegun = false ∧ t.wpc.fill = none)
      ∧ (s.ddu.doorOpen = false → s.wpc.inhibit = false → s.wpc.highLevel = false ∨ 0 < w.holdTime →
        PhaseBegun (s.seq.idx + 1) (.wash k) s t ∧ MainFillAsked w s t))
    ∧ (∀ d o, phaseAt s.seq (s.seq.idx + 1) = some (.dry d o) →
      s.ddu.doorOpen = false → 0 < d → s.ddu.awaited = false → s.ddu.stage ≠ .retracting →
      PhaseBegun (s.seq.idx + 1) .dry s t
        ∧ t.seq.state = .running ∧ t.seq.sub = .dry ∧ t.ddu.stage = .dwell ∧ t.ddu.awaited = true ∧ t.ddu.dwell = d
        ∧ t.ddu.openTime = o)

/-- The phase after that of `s` does not end in the step that enters it: a DRY phase behind a closed door, with a dwell
and the drying at rest; another phase before an open door, or with the inlet free and the level low. -/
def nextPhaseStays (s : State) : Bool :=
  match phaseAt s.seq (s.seq.idx + 1) with
  | some (.wash ..) => s.ddu.doorOpen || !(s.wpc.inhibit || s.wpc.highLevel)
  | some (.dry dwell _) => !s.ddu.doorOpen && decide (0 < dwell) && !s.ddu.awaited && s.ddu.stage != .retracting
  | none => false

/-- The boundary of the phase of `s` ends in this step's event: after the last phase, with a hold pending, or in a next
phase that stays. -/
abbrev BoundaryRests (s : State) : Prop :=
  s.seq.count ≤ s.seq.idx + 1 ∨ s.seq.holdPending = true ∨ nextPhaseStays s = true

/-- The phase of `s` has reached its boundary (R18): PHASE_END; after the last phase the program is ENDED, COMPLETED, with
PROGRAM_END; a pending hold leaves it HOLDING with HOLD_REACHED; else the next phase is entered. PHASE_END is looked for
where no later one, of a next phase that ends at once, has merged with it (R187). -/
def PhaseEnded (s t : State) : Prop :=
  (BoundaryRests s → noticeEnabled s.lnk.mask 5 = true →
      ∀ p, currentPhase s = some p → notified (.phaseEnd s.seq.idx (phaseKind p)) t = true)
    ∧ (s.seq.count ≤ s.seq.idx + 1 →
      t.seq.state = .ended ∧ t.seq.sub = .none ∧ t.seq.holdPending = false
        ∧ t.seq.summary = { s.seq.summary with outcome := .completed }
        ∧ (noticeEnabled s.lnk.mask 7 = true → notified (.programEnd t.seq.summary) t = true))
    ∧ (s.seq.idx + 1 < s.seq.count → s.seq.holdPending = true →
      t.seq.state = .holding ∧ t.seq.sub = .none ∧ t.seq.idx = s.seq.idx ∧ t.seq.holdPending = false
        ∧ t.seq.summary = s.seq.summary
        ∧ (noticeEnabled s.lnk.mask 6 = true → notified (.holdReached s.seq.idx) t = true))
    ∧ (s.seq.idx + 1 < s.seq.count → s.seq.holdPending = false → NextPhaseEntered s t)

/-- A program's drain is being extended (R30). -/
abbrev Extending (s : State) : Prop := runningIn s .drain = true ∧ s.seq.extension.isSome = true

/-- A phase other than DRY stands above the current index and below the count: one for whose fill a drain is extended
(R30). -/
abbrev washLater (q : Seq) : Prop :=
  ∃ j : Fin 12, q.idx < j.val ∧ j.val < q.count ∧ ∃ p ∈ q.table[j], phaseKind p ≠ .dry

/-- An edit that leaves the sequencer's fields q has ended the extended drain of `s`, and with it the phase, whose boundary
reads the program as edited (R30, R18). -/
def DrainEndedByEdit (q : Seq) (s t : State) : Prop :=
  t.seq.table = q.table ∧ t.seq.count = q.count ∧ t.seq.extension = none ∧ PhaseEnded { s with seq := q } t
    ∧ (BoundaryRests { s with seq := q } → t.wpc.seqDrain = none ∧ t.seq.soil = s.seq.soil)
    ∧ t.cfg = s.cfg ∧ t.part = s.part

/-- The doses that a phase asks on its entry to DOSE after a fill of v mL at a delivered hardness hFill: in the order of
its references, the channels fitted whose dose is not nothing, with the dose in 0.01 mL (R11, R108 to R112). -/
def dosesAsked (s : State) (w : WashRecord) (v hFill : Nat) : List (Channel × Nat) :=
  w.refs.filterMap fun r =>
    let dose := doseOf r.base (hardnessFactor s.cfg r.channel hFill) (soilFactor s.cfg r.channel s.seq.soil)
      (volumeFactor v w.fillVolume) (dryingFactor s.cfg r.channel s.ddu.fitted) r.maximum
    if dose = 0 ∨ (reservoirOf s.dsu r.channel).fitted = false then none else some (r.channel, dose)

/-- The requests of these doses: QUEUED, of the sequencer's origin, each with the strokes that deliver its dose and the
next arrival number (R111, R112, Table 31). -/
def doseRequests (s : State) (asked : List (Channel × Nat)) : List DoseReq :=
  asked.zipIdx.map fun p =>
    { channel := p.1.1, origin := .sequencer s.seq.idx, volume := p.1.2
      target := strokesFor p.1.2 (perChannelGet s.cfg.stroke p.1.1)
      strokeVolume := perChannelGet s.cfg.stroke p.1.1, arrival := (s.dsu.next + p.2) % 256 }

/-- What follows DOSE, or a further stay in it, once the requests placed are those of `t` (R11 to R13): outside RUNNING in
DOSE, and while a request of the phase stands, the sub-stage stays; else HEAT begins with the phase's request, or, without a
target or with the heater disabled, CIRCULATE. Said of a phase with a hold time and, for HEAT, of a reading below the target.
-/
def DoseWentOn (s t : State) : Prop :=
  (runningIn s .dose = false ∨ t.seq.placed ≠ [] → t.seq.state = s.seq.state ∧ t.seq.sub = s.seq.sub)
    ∧ (runningIn s .dose = true → t.seq.placed = [] → ∀ w, currentWash s = some w → 0 < w.holdTime →
      t.seq.state = .running ∧ t.seq.idx = s.seq.idx ∧ t.czs.pump = true
        ∧ (w.target = 0 ∨ s.seq.heaterOff = true → t.seq.sub = .circulate ∧ t.seq.holdTimer = 0)
        ∧ (0 < w.target → s.seq.heaterOff = false → s.htc.valid = true → 0 < w.heatLimit →
          ∀ n, s.htc.temp = some n → n < w.target →
          t.seq.sub = .heat ∧ t.htc.request = some ⟨w.target, true⟩ ∧ t.htc.limitLeft = w.heatLimit
            ∧ t.htc.demand = true))

/-- A request has ended with the counts of r and this outcome and reason (R124, R11): the notice, the write, and for a
request of the sequencer the summary's dose, the end of its place in the phase and what follows in DOSE. -/
def DoseReported (r : DoseReq) (outcome : DoseOutcome) (reason : Option DoseReason) (s t : State) : Prop :=
  (outcome = .underdose → noticeEnabled s.lnk.mask 17 = true →
      notified (.underdose (doseReport r outcome reason)) t = true)
    ∧ (outcome ≠ .underdose → noticeEnabled s.lnk.mask 16 = true →
      notified (.doseDone (doseReport r outcome reason)) t = true)
    ∧ writeAsked .reservoirs t = true
    ∧ (r.origin = .hostPrime → t.seq = { s.seq with permit := t.seq.permit })
    ∧ (∀ ph, r.origin = .sequencer ph →
      t.seq.summary = { s.seq.summary with
          dose := perChannelSet s.seq.summary.dose r.channel
            (perChannelGet s.seq.summary.dose r.channel + r.confirmed * r.strokeVolume) }
        ∧ t.seq.placed = s.seq.placed.erase r.arrival ∧ DoseWentOn s t)

/-- The sequencer's requests that a cancellation ends at once: those QUEUED, and an ACTIVE one with no stroke, homing or move
in progress (R126). -/
def cancelEnds (d : Dsu) : List DoseReq :=
  (d.batch ++ d.waiting).filter fun r =>
    sameOrigin r.origin (.sequencer 0) && !(r.state == .active && (d.stroke.isSome || d.move.isSome))

/-- What a cancellation leaves of a part of the queue: the host's primes as they are, and an ACTIVE request of the sequencer
whose stroke, homing or move goes on to its end, marked (R126). -/
def cancelLeft (d : Dsu) (l : List DoseReq) : List DoseReq :=
  (l.filter fun r => r.origin == .hostPrime || (r.state == .active && (d.stroke.isSome || d.move.isSome))).map fun r =>
    if r.origin = .hostPrime then r else { r with cancel := true }

/-- The batch after a cancellation: what is left of it, or, with nothing left, the next batch of what is left of the waiting
requests (R126, R117). -/
def batchLeft (d : Dsu) : List DoseReq :=
  if cancelLeft d d.batch = [] then sweep d.selector (cancelLeft d d.waiting) else cancelLeft d d.batch

/-- The requests that wait behind that batch. -/
def waitingLeft (d : Dsu) : List DoseReq :=
  if cancelLeft d d.batch = [] then [] else cancelLeft d d.waiting

/-- The sequencer's dose requests have been cancelled (R126): those that end at once are reported CANCELLED, the last of them
in the notice, with their confirmed doses in the summary and the write asked; one in progress stays marked; the pause is
cleared; the window closes with the last of its requests; the host's primes stay and are served on. A cancellation that finds
no request of the sequencer changes nothing. -/
def DosesCancelled (s t : State) : Prop :=
  ((s.dsu.batch ++ s.dsu.waiting).all (fun r => r.origin == .hostPrime) = true →
      t.dsu = s.dsu ∧ t.seq.summary.dose = s.seq.summary.dose)
    ∧ ((s.dsu.batch ++ s.dsu.waiting).all (fun r => r.origin == .hostPrime) = false →
      t.dsu.pause = false
      ∧ (∀ ch, perChannelGet t.seq.summary.dose ch = perChannelGet s.seq.summary.dose ch
          + (((cancelEnds s.dsu).filter fun r => r.channel = ch).map fun r => r.confirmed * r.strokeVolume).sum)
      ∧ (∀ r, (cancelEnds s.dsu).getLast? = some r → writeAsked .reservoirs t = true
          ∧ (noticeEnabled s.lnk.mask 16 = true → notified (.doseDone (doseReport r .cancelled none)) t = true))
      ∧ (s.dsu.state = .gathering →
        t.dsu = { s.dsu with
          batch := cancelLeft s.dsu s.dsu.batch, waiting := cancelLeft s.dsu s.dsu.waiting, pause := false
          state := if cancelLeft s.dsu s.dsu.waiting = [] then .idle else .gathering
          windowLeft := if cancelLeft s.dsu s.dsu.waiting = [] then 0 else s.dsu.windowLeft })
      ∧ (s.dsu.state = .serving ∨ s.dsu.state = .paused →
        (s.dsu.stroke.isSome = true ∨ s.dsu.move.isSome = true →
          t.dsu = { s.dsu with
            batch := cancelLeft s.dsu s.dsu.batch, waiting := cancelLeft s.dsu s.dsu.waiting, pause := false })
        ∧ (s.dsu.stroke = none → s.dsu.move = none →
          (batchLeft s.dsu = [] → t.dsu = { s.dsu with batch := [], waiting := [], pause := false, state := .idle })
          ∧ (∀ p, (batchLeft s.dsu).head? = some p →
            (s.dsu.selector ≠ some p.channel →
              t.dsu = { s.dsu with
                batch := { p with state := .active } :: (batchLeft s.dsu).tail, waiting := waitingLeft s.dsu
                pause := false, state := .serving
                move := some (if s.dsu.selector = none then ⟨true, .d1, 0⟩ else ⟨false, p.channel, 0⟩) })
            ∧ (s.dsu.selector = some p.channel → p.strokeVolume ≤ (reservoirOf s.dsu p.channel).level →
              t.dsu = { s.dsu with
                batch := { p with state := .active, commanded := p.commanded + 1 } :: (batchLeft s.dsu).tail
                waiting := waitingLeft s.dsu, pause := false, state := .serving, stroke := some 0 })))))

/-- One of the homings of STARTING is over (R195): those of h are left, the homing faults are now those given. When none is
left the part is READY, with the READY notice and the silence timer from 0 (R182). -/
def HomingOver (h : Homings) (faults : List FaultCode) (s t : State) : Prop :=
  (h ≠ {} → t.part = { s.part with homings := h, homingFaults := faults } ∧ t.lnk.silence = s.lnk.silence)
    ∧ (h = {} →
      t.part = { s.part with state := .ready, homings := {}, homingFaults := [] }
        ∧ (noticeEnabled s.lnk.mask 1 = true → notified (.ready s.part.startedFrom faults) t = true)
        ∧ t.lnk.silence = (if linkSends s then some 0 else none))

/-- Every remaining capacity above n nmol lowered to it, in every place (R73). -/
def loweredTo (n : Nat) (f : Sfu) : Sfu :=
  { f with
    colA := { f.colA with remaining := min f.colA.remaining n }
    colB := { f.colB with remaining := min f.colB.remaining n }
    colC := f.colC.map fun r => { r with remaining := min r.remaining n } }

/-- The engine has taken a column that `s` held: its fields latched and computed from the column's deficit (R80), a brine
request standing while the lid is closed, granted or not (R81). -/
def Taken (col : Column) (s t : State) : Prop :=
  t.rge.column = some col ∧ t.rge.routing = some col ∧ t.rge.qb = s.cfg.qb
    ∧ t.rge.deficit = s.cfg.nominal * 1000000 - (columnRec s.sfu col).remaining
    ∧ t.rge.brineTarget = max 40 ((t.rge.deficit * s.cfg.qb + 9999999) / 10000000)
    ∧ t.rge.dwellTime = min 300 (60 + (t.rge.deficit + 999999) / 1000000)
    ∧ t.rge.rinseTarget = max 150 ((4 * t.rge.deficit + 999999) / 1000000)
    ∧ t.rge.brineDrawn = 0 ∧ t.rge.rinseDelivered = 0 ∧ t.rge.stageTime = 0 ∧ t.rge.timeout = .none
    ∧ t.rge.result = none
    ∧ (s.rge.lidOpen = true → t.rge.state = .brineWait ∧ t.wpc.regen = none)
    ∧ (s.rge.lidOpen = false →
        (t.rge.state = .brineWait ∧ t.wpc.regen = some ⟨.brine, false⟩)
        ∨ (t.rge.state = .brineDraw ∧ t.wpc.regen = some ⟨.brine, true⟩ ∧ t.wpc.holder = .brine))

/-- Requests in the order of a sweep: the selector's position first, then on from it, round from 3 back to 1, an UNKNOWN
position as position 1; those on one position in their order (R117). -/
def inSweep (position : Option Channel) (l : List DoseReq) : List DoseReq :=
  let on := fun ch => l.filter fun r => r.channel == ch
  match position with
  | none | some .d1 => on .d1 ++ on .d2 ++ on .d3
  | some .d2 => on .d2 ++ on .d3 ++ on .d1
  | some .d3 => on .d3 ++ on .d1 ++ on .d2

/-- A reservoir whose level has fallen by a volume, not below 0, with the low test made (R101, R104). -/
def loweredBy (v : Nat) (ch : Channel) (r : Reservoir) : Reservoir :=
  { r with level := r.level - v, lowNotified := decide (r.level - v ≤ Config.lowMark ch) }

/-! ## Invariants

Each holds at State.reset and is kept by every step. -/

/-- What the engine asks of the inlet in each of its states (R81, R83, R86, R87, R39). -/
def engineRequest (s : State) : Option RegenReq :=
  match s.rge.state with
  | .brineWait => if s.rge.lidOpen then none else some ⟨.brine, false⟩
  | .brineDraw => some ⟨.brine, true⟩
  | .rinseWait => some ⟨.rinse, false⟩
  | .rinse => some ⟨.rinse, true⟩
  | .idle | .dwell | .effluentDrain => none

/-- The inlet's holder, the requests, the valves and the engine's state agree (Table 11, Table 13, Table 23). -/
abbrev GrantsAgree (s : State) : Prop :=
  s.wpc.regen = engineRequest s ∧ s.wpc.holder = holderOf s.wpc
    ∧ s.wpc.inletValve = (s.wpc.holder != .none) ∧ s.wpc.brineValve = (s.wpc.holder == .brine)
    ∧ s.wpc.fillTimer.isSome = (s.wpc.holder == .fill) ∧ s.wpc.burst.isSome = (s.rge.state == .effluentDrain)
    ∧ s.rge.column.isSome = (s.rge.state != .idle) ∧ (s.rge.state = .brineDraw → s.rge.lidOpen = false)

/-- Each level lies within its capacity, and the low-notified mark says whether it lies at or below the low mark (R101,
R104). -/
def LevelsKept (s : State) : Prop :=
  ∀ ch, (reservoirOf s.dsu ch).level ≤ Config.capacity ch
    ∧ (reservoirOf s.dsu ch).lowNotified = decide ((reservoirOf s.dsu ch).level ≤ Config.lowMark ch)

/-- The dose queue holds at most 6 requests, and at most one of each pair of channel and origin (R114). -/
abbrev DosesKept (s : State) : Prop :=
  (s.dsu.batch ++ s.dsu.waiting).length ≤ 6
    ∧ ((s.dsu.batch ++ s.dsu.waiting).map fun r => (r.channel, decide (r.origin = .hostPrime))).Nodup

/-! ### The link and its queues -/

/-- The receive error count and the link state agree, and the silence timer runs just where it counts, up to its limit
(R176, R180 to R182). -/
def LinkCounts (s : State) : Prop :=
  s.lnk.errors ≤ 255 ∧ (s.lnk.state = .up → s.lnk.errors < 96)
    ∧ (s.lnk.state = .degraded → 96 ≤ s.lnk.errors ∧ s.lnk.errors < 128)
    ∧ s.lnk.silence.isSome = silenceCounts s ∧ (∀ n, s.lnk.silence = some n → n ≤ s.cfg.silenceLimit)

/-- The notice set holds one notice of a kind and none that the mask excludes, and the transmitter is not idle while
something may be sent (R187 to R189, R179). -/
def NoticesKept (s : State) : Prop :=
  (s.lnk.notices.map fun n => noticeCode n.content).Nodup
    ∧ (∀ n, n ∈ s.lnk.notices → noticeEnabled s.lnk.mask (noticeCode n.content) = true)
    ∧ (s.lnk.tx = none → s.lnk.awaiting = none ∧ s.lnk.busy = none ∧ (linkSends s = true → s.lnk.notices = []))

/-! ### The records -/

/-- Every parameter lies in its range (Table 49). -/
def ConfigInRange (s : State) : Prop :=
  ∀ (id : Fin 28) (r : Nat × Nat), paramRange id.val = some r →
    r.1 ≤ paramGet s.cfg id.val ∧ paramGet s.cfg id.val ≤ r.2

/-- A phase record lies in the ranges of Table 6. -/
def phaseInRange : Phase → Bool
  | .dry dwell openTime => decide (dwell ≤ 3600) && decide (openTime ≤ 3600)
  | .wash _ w =>
    decide (1500 ≤ w.fillVolume ∧ w.fillVolume ≤ 6000) && decide (w.target = 0 ∨ 30 ≤ w.target ∧ w.target ≤ 75)
      && decide (60 ≤ w.heatLimit ∧ w.heatLimit ≤ 3600) && decide (w.holdTime ≤ 3600)
      && decide (w.weights.z1 ≤ 7 ∧ w.weights.z2 ≤ 7 ∧ w.weights.z3 ≤ 7 ∧ w.weights.z4 ≤ 7) && anyWeight w.weights
      && decide (10 ≤ w.slotLength ∧ w.slotLength ≤ 60) && decide (w.refs.length ≤ 2)
      && w.refs.all fun r => decide (r.base ≤ 400 ∧ 10 ≤ r.maximum ∧ r.maximum ≤ 600)

/-- Every stored phase lies in the ranges of Table 6, and the count in 0..12 (R1, R2). -/
def TableInRange (s : State) : Prop :=
  s.seq.count ≤ 12 ∧ ∀ (i : Fin 12) (p : Phase), s.seq.table[i] = some p → phaseInRange p = true

/-- A running program has its current phase in the table, below the count, with a further phase while it is HOLDING, and
every later slot below the count holds a phase, DRY at most as the last (R4, R5). The fit of the references is not part of
it, since a booster may go (R100). -/
def ProgramKept (s : State) : Prop :=
  programRuns s = true →
    (currentPhase s).isSome = true ∧ s.seq.idx < s.seq.count ∧ (s.seq.state = .holding → s.seq.idx + 1 < s.seq.count)
      ∧ ∀ i : Fin 12, s.seq.idx < i.val → i.val < s.seq.count → slotBad true s.seq s.seq.count i.val = false

/-- The fault history and its copies hold at most 16 entries, no record is asked twice, and a pending write waits only
while another is in progress (R201, R204). -/
def StoreKept (s : State) : Prop :=
  s.rst.history.length ≤ 16 ∧ (∀ h, s.rst.faults = some h → h.length ≤ 16)
    ∧ (∀ h, s.rst.writing = some (.faults h) → h.length ≤ 16)
    ∧ s.rst.pendingWrites.Nodup ∧ (s.part.powered = true → s.rst.writing = none → s.rst.pendingWrites = [])
    ∧ s.reports = []

/-! ### Columns and flood -/

/-- The columns of every place, in one list (R55). -/
def placesOf (s : State) : List Column :=
  s.sfu.service.toList ++ s.sfu.ready ++ s.sfu.regenQ ++ s.rge.column.toList ++ s.sfu.retired ++ s.sfu.faulted

/-- A copy of the column records holds A and B in one place each, and C in one just where it has a record. -/
def copyPlaced (c : RetainedColumns) : Prop :=
  (c.service.toList ++ c.ready ++ c.regenQ ++ c.engine.toList ++ c.retired ++ c.faulted).count .a = 1
    ∧ (c.service.toList ++ c.ready ++ c.regenQ ++ c.engine.toList ++ c.retired ++ c.faulted).count .b = 1
    ∧ (c.service.toList ++ c.ready ++ c.regenQ ++ c.engine.toList ++ c.retired ++ c.faulted).count .c
        = (if c.colC.isSome then 1 else 0)

/-- Each fitted column is in exactly one place, a column not fitted in none, in the part and in its copies (R54, R55). -/
def ColumnsPlaced (s : State) : Prop :=
  (placesOf s).count .a = 1 ∧ (placesOf s).count .b = 1 ∧ (placesOf s).count .c = (if s.cfg.fitted = 3 then 1 else 0)
    ∧ s.sfu.colC.isSome = (s.cfg.fitted == 3) ∧ (s.cfg.fitted = 2 ∨ s.cfg.fitted = 3)
    ∧ (∀ c, s.rst.columns = some c → copyPlaced c) ∧ (∀ c, s.rst.writing = some (.columns c) → copyPlaced c)

/-- The inlet is inhibited while a flood request is present, a flood has its request ACTIVE, and an inhibited inlet has
neither holder nor fill (R38, R51, R52). -/
def FloodHeld (s : State) : Prop :=
  s.wpc.inhibit = s.wpc.floodReq.isSome
    ∧ (s.wpc.flood = true → s.part.powered = true → s.wpc.floodReq = some .active)
    ∧ (s.wpc.inhibit = true → s.wpc.holder = .none ∧ s.wpc.fill = none)

/-! ### Outputs -/

/-- With power the outputs are what their conditions give: the drain pump (R46), the heater (R137), the permit (R29), the
pressure condition (R147) and the arm timers (R153). -/
def OutputsFollow (s : State) : Prop :=
  s.reports = [] ∧ (s.part.powered = true →
    s.wpc.drainPump = pumpAsked s.wpc ∧ s.htc.output = heaterOutput s ∧ s.seq.permit = permitCondition s
      ∧ s.czs.confirmed = (s.czs.pump && s.czs.reading)
      ∧ s.czs.arm1.isSome = armSupervised s .z1 ∧ s.czs.arm2.isSome = armSupervised s .z2)

/-- The actuator and the drying agree: the count lies in 0..1200, nothing is driven or counted without an actuator,
the stall timer runs just while the motor is driven, outward only in OPENING, inward all through RETRACTING (R159,
R160, R165, R169). The stages before RETRACTING belong to a program RUNNING in DRY, the pending start to a RETRACTING
under one (R162, R171); a program that can still go on runs in READY alone (R194, R198), and where nothing is sensed,
or a shutdown is ABRUPT or has asked its writes, the motor stands (R173, R198, R199). An end that is awaited belongs
to a drying under a program RUNNING in DRY, and excludes a pending start (R162, R169, R171). Between steps no report
stands. -/
def DryingKept (s : State) : Prop :=
  s.ddu.count ≤ 1200 ∧ (s.ddu.fitted = false → s.ddu.count = 0 ∧ s.ddu.homed = false ∧ s.ddu.drive = .stopped)
    ∧ s.ddu.stall.isSome = (s.ddu.drive != .stopped)
    ∧ (s.ddu.drive = .outward → s.ddu.stage = .opening) ∧ (s.ddu.stage = .retracting → s.ddu.drive = .inward)
    ∧ (s.ddu.retryPause.isSome = true → s.ddu.stage = .opening ∧ s.ddu.drive = .stopped)
    ∧ (s.ddu.stage = .opening ∨ s.ddu.stage = .waitCool → s.ddu.formOpen = true)
    ∧ (s.ddu.stage = .opening ∨ s.ddu.stage = .waitCool ∨ s.ddu.stage = .ajar
        ∨ (s.ddu.stage = .dwell ∧ s.ddu.formOpen = true) → s.ddu.fitted = true)
    ∧ (s.ddu.stage = .dwell ∨ s.ddu.stage = .waitCool ∨ s.ddu.stage = .opening ∨ s.ddu.stage = .ajar →
        runningIn s .dry = true)
    ∧ (s.ddu.pendingStart.isSome = true → runningIn s .dry = true ∧ s.ddu.stage = .retracting ∧ s.ddu.awaited = false)
    ∧ (s.ddu.awaited = true → runningIn s .dry = true ∧ dryingRuns s.ddu = true)
    ∧ (programHeats s = true → s.part.state = .ready)
    ∧ (s.part.state = .shuttingDown → s.part.writesAsked = true ∨ s.part.abrupt = true → s.ddu.drive = .stopped)
    ∧ (senses s = false → s.ddu.drive = .stopped) ∧ s.reports = []

/-! ### The water and the sequencer -/

/-- A FILL request stands only in a program RUNNING in FILL, where it is the main fill, or in DOSE, HEAT or CIRCULATE,
where it is the top-up (R9, R16, R43); one not held waits behind a drain burst, and one held excludes a held
regeneration request (R37, R38). A regeneration holds the inlet only while its conditions hold (R39), and no effluent
is drained beside a program's DRAIN (R90). Since a flood faults a program and a refused FILL does too (R38, R51, R53),
an inhibited inlet leaves none RUNNING but in DRY, none in WAIT_WATER, and SUSPENDED only one that has its fill before
it. The fill record is open only during a main fill, its water wait or its suspension (R57, R67). -/
def WaterKept (s : State) : Prop :=
  (s.wpc.fill.isSome = true → runningIn s .fill = true ∨ runningIn s .dose = true ∨ runningIn s .heat = true
      ∨ runningIn s .circulate = true)
    ∧ (∀ q ∈ s.wpc.fill, (q.kind = .main ↔ s.seq.sub = .fill) ∧ (q.held = false → s.wpc.burst.isSome = true)
        ∧ (q.held = true → ∀ g ∈ s.wpc.regen, g.held = false))
    ∧ (s.wpc.holder = .brine ∨ s.wpc.holder = .rinse → regenMayFlow s = true)
    ∧ (s.rge.state = .effluentDrain → runningIn s .drain = false)
    ∧ (s.wpc.inhibit = true → s.seq.state ≠ .waitWater ∧ (s.seq.state = .running → s.seq.sub = .dry)
        ∧ (s.seq.state = .suspended → s.seq.remembered = .sub .fill))
    ∧ (s.sfu.fill.isOpen = true → runningIn s .fill = true ∨ s.seq.state = .waitWater
        ∨ (s.seq.state = .suspended ∧ (s.seq.remembered = .sub .fill ∨ s.seq.remembered = .waitWater)))

/-- The sequencer's fields agree: a sub-stage just in RUNNING, DRY just in a DRY phase (R7, R8); a drain extension only in
DRAIN (R30); a settling time and a remembered sub-stage only in SUSPENDED, which always remembers one (R24, R25); SUSPENDED and
WAIT_WATER not in a DRY phase (R10, R24); the count in 0..12 (R1). Homings are under way only in STARTING (R195). -/
def SequencerKept (s : State) : Prop :=
  (s.seq.sub = .none ↔ s.seq.state ≠ .running)
    ∧ (s.seq.state = .running → (s.seq.sub = .dry ↔ currentWash s = none))
    ∧ (s.seq.extension.isSome = true → runningIn s .drain = true)
    ∧ (s.seq.settling.isSome = true ∨ s.seq.remembered ≠ .none → s.seq.state = .suspended)
    ∧ (s.seq.state = .suspended → s.seq.remembered ∉ ([.none, .sub .none, .sub .dry] : List Remembered))
    ∧ (s.seq.state = .suspended ∨ s.seq.state = .waitWater → (currentWash s).isSome = true)
    ∧ s.seq.count ≤ 12 ∧ (s.part.state ≠ .starting → s.part.homings = {})

/-- The pulses per litre that a grant has latched lie in their range, and the charge residue below 100 (Table 49, R34,
R59). -/
def MeterKept (s : State) : Prop := 200 ≤ s.wpc.latchedK ∧ s.wpc.latchedK ≤ 1000 ∧ s.sfu.rho < 100

/-- The invariants of the sequencer, the water and the drying together: what statements about a running program take as
their premise. -/
def Sound (s : State) : Prop :=
  GrantsAgree s ∧ WaterKept s ∧ FloodHeld s ∧ ProgramKept s ∧ SequencerKept s ∧ DryingKept s

/-! ## Which commands may change what the host has set -/

/-- Power, reset, the requests that may write the configuration, the phase table, its count or the notice mask, and every
row that brings bytes, since its bytes may end a frame that carries such a request (R2 to R4, R176, R184, R189). -/
def writesSettings : Instr → Bool
  | .setConfig .. | .setConfigNominalCapacity .. | .setConfigSwitchReserve .. | .setConfigFittedColumns ..
  | .setConfigSilenceLimit .. | .setNoticeMask .. | .loadPhase .. | .setPhaseCount .. | .clearProgram .. | .frameGood ..
  | .frameBad .. | .byteGapTimeout .. | .standbyLinkWake | .powerOn .. | .resetLineAssertion .. | .powerLoss => true
  | _ => false

/-- ACKNOWLEDGE FAULT, every row that brings bytes, which may end a frame that carries it, and power and reset: what may
lead out of FAULTED (R28, R32, R176). -/
def mayLeaveFaulted : Instr → Bool
  | .acknowledgeFault .. | .frameGood .. | .frameBad .. | .byteGapTimeout .. | .standbyLinkWake | .powerOn ..
  | .resetLineAssertion .. | .powerLoss => true
  | _ => false

end Sys2Proof.Safety
end

