-- ==== Sys2Proof/Certificates/Slice0/Obligations.lean ====
section
/-! DEFINITION. The statements for the provers. Each names in its docstring the rules of the manual that it follows; where
it rests on a choice of the model its docstring or title names the log entry. -/

open Sys2Proof Sys2Proof.Machine Sys2Proof.Safety

/-! ## The step, power and reset -/

/-- A step carries out the command at the front of the queue with the queue's rest. The queue is the model's own form
of what arrives at the part (log entry 7). -/
def Obligations.StepRunsTheFrontCommand : Prop :=
  ∀ (c : Instr) (rest : List Instr) (s : State),
    step { s with pending := c :: rest } = exec c { s with pending := rest }

/-- Every command leads to a next state and leaves the queue as it stands; a part without power receives and senses
nothing until its power-on; on an empty queue the part idles (model's choices, log entries 2, 3 and 32). -/
def Obligations.EveryCommandLeadsToANextState : Prop :=
  ∀ (c : Instr) (s : State),
    (∃ t, exec c s = .next t ∧ t.pending = s.pending)
    ∧ (s.part.powered = false → (∀ pins, c ≠ .powerOn pins) → exec c s = .next s)
    ∧ (s.pending = [] → step s = .next s)

/-- The first power-on of a part whose retained records were never written gives State.reset (R193, R203), with the
inputs of log entry 6 and the writes in the order of log entry 34. Power-on and a RESET-line assertion alike leave
every block at its reset values, with the inputs as read, the sensor-valid flag set with the temperature INVALID (log
entry 23) and a frame on the line cut off (log entry 51); a flood found at reset is handled at once, so that the pump
runs, the inlet is inhibited and the sequencer stands FAULTED (R1, R7, R33, R115, R129, R144, R176, R181, R189, R193).
-/
def Obligations.ResetLeavesTheResetValues : Prop :=
  (∀ (s : State), s.rst.config = none → s.rst.faults = none → s.rst.columns = none → s.rst.reservoirs = none →
      s.rst.writing = none → s.pending = [] → exec (.powerOn Pins.quiet) s = .next State.reset)
  ∧ (∀ (c : Instr) (pins : Pins) (s : State),
      (c = .powerOn pins ∨ (c = .resetLineAssertion pins ∧ s.part.powered = true)) →
      ∃ t, exec c s = .next t
        ∧ t.part = { pfw := pins.pfw } ∧ t.pins = pins
        ∧ t.lnk.state = .down ∧ t.lnk.errors = 0 ∧ t.lnk.silence = none ∧ t.lnk.assembling = false
        ∧ t.lnk.awaiting = none ∧ t.lnk.busy = none ∧ t.lnk.tx = none ∧ t.lnk.mask = BitVec.allOnes 22
        ∧ t.lnk.stamp = 0#32 ∧ t.lnk.lostCause = .none
        ∧ t.seq = { soil := t.cfg.defaultSoil, permit := pins.sumpEmpty,
                    state := if pins.flood then .faulted else .idle,
                    fault := if pins.flood then some .flood else none }
        ∧ t.wpc = { latchedK := t.cfg.k, sumpEmpty := pins.sumpEmpty, heaterCover := pins.heaterCover,
                    highLevel := pins.highLevel, flood := pins.flood, drainPump := pins.flood,
                    inhibit := pins.flood, floodReq := if pins.flood then some .active else none }
        ∧ t.rge = { lidOpen := pins.lidOpen, saltLow := pins.saltLow }
        ∧ t.htc = {} ∧ t.czs = { reading := pins.pressure }
        ∧ t.ddu = { doorOpen := pins.doorOpen, fitted := pins.actuator }
        ∧ t.dsu.state = .idle ∧ t.dsu.batch = [] ∧ t.dsu.waiting = [] ∧ t.dsu.next = 0 ∧ t.dsu.selector = none
        ∧ t.dsu.move = none ∧ t.dsu.stroke = none ∧ t.dsu.pause = false
        ∧ t.dsu.lowSw = pins.low ∧ t.dsu.capSw = pins.capOpen ∧ t.dsu.r3.fitted = pins.booster
        ∧ t.sfu.rho = 0 ∧ t.sfu.blend = 1000 ∧ t.sfu.duty = 1000 ∧ t.sfu.fill = {} ∧ t.sfu.valvePos = none
        ∧ t.sfu.valveMove = none ∧ t.sfu.failedValve = none ∧ t.sfu.valveFault = false
        ∧ t.ties = {} ∧ t.reports = [])

/-- What power-on and the RESET line restore (R203, R100, R204): a valid configuration limited to its ranges or the
defaults; a valid fault history or an empty one, with RETAINED_INVALID entered once for each invalid record in the
order of restoration; each level limited to its capacity; column C just where three columns are fitted. The columns as
restored and tested (R203, R56): each remaining capacity limited to the nominal one; the ready columns at or below the
switch reserve, from head to tail, behind the waiting ones with the exhausted flag; the column under regeneration
ahead of them all; with two columns fitted C is in no place, with three it is created empty where the copy lacks it.
-/
def Obligations.RetainedRecordsAreRestored : Prop :=
  (∀ (pins : Pins) (s : State), pins.flood = false →
      ∃ t, exec (.powerOn pins) s = .next t
        ∧ (∀ c, (keptCopies s.rst).config = some c → t.cfg = limitConfig c)
        ∧ ((keptCopies s.rst).config = none → t.cfg = {})
        ∧ t.rst.history =
            (invalidRecords (keptCopies s.rst)).foldl
              (fun h n => appendHistory ⟨.retainedInvalid, 0#32, 255, .num n, .num 0⟩ h)
              ((keptCopies s.rst).faults.getD [])
        ∧ (∀ c, (keptCopies s.rst).reservoirs = some c →
            t.dsu.r1.level = min 45000 c.level.d1 ∧ t.dsu.r2.level = min 30000 c.level.d2
              ∧ t.dsu.r3.level = min 20000 c.level.d3 ∧ t.dsu.r1.empty = c.empty.d1
              ∧ t.dsu.r2.empty = c.empty.d2 ∧ t.dsu.r3.empty = c.empty.d3)
        ∧ ((keptCopies s.rst).reservoirs = none →
            t.dsu.r1 = ⟨true, 0, true, true, false⟩ ∧ t.dsu.r2 = ⟨true, 0, true, true, false⟩
              ∧ t.dsu.r3 = ⟨pins.booster, 0, true, true, false⟩)
        ∧ t.sfu.colC.isSome = (t.cfg.fitted == 3)
        ∧ ((keptCopies s.rst).columns = none →
            t.sfu.service = none ∧ t.sfu.ready = []
              ∧ t.sfu.regenQ = if t.cfg.fitted = 3 then [.a, .b, .c] else [.a, .b])
        ∧ (∀ c, (keptCopies s.rst).columns = some c → t.cfg.fitted = 3 → c.colC.isSome = true → c.ready = [] →
            t.sfu.service = c.service ∧ t.sfu.regenQ = c.engine.toList ++ c.regenQ ∧ t.sfu.retired = c.retired
              ∧ t.sfu.faulted = c.faulted))
  ∧ (∀ (pins : Pins) (s : State), pins.flood = false → ∀ c, (keptCopies s.rst).columns = some c →
      ∃ t, exec (.powerOn pins) s = .next t
        ∧ t.sfu.service = c.service.filter (keptIn t.cfg.fitted)
        ∧ t.sfu.retired = c.retired.filter (keptIn t.cfg.fitted) ∧ t.sfu.faulted = c.faulted.filter (keptIn t.cfg.fitted)
        ∧ (∀ x, keptIn t.cfg.fitted x = true → (columnRec t.sfu x).remaining = restoredRemaining t.cfg.nominal c x)
        ∧ t.sfu.colA.regens = c.colA.regens ∧ t.sfu.colA.degraded = c.colA.degraded
        ∧ t.sfu.colB.regens = c.colB.regens ∧ t.sfu.colB.degraded = c.colB.degraded
        ∧ (∀ l, l = c.ready.filter (keptIn t.cfg.fitted) → l.Nodup →
          t.sfu.ready = l.filter (fun x => decide (t.cfg.reserve < restoredRemaining t.cfg.nominal c x))
            ∧ t.sfu.regenQ = (c.engine.toList ++ c.regenQ).filter (keptIn t.cfg.fitted)
                ++ (if t.cfg.fitted = 3 ∧ c.colC = none then [.c] else [])
                ++ l.filter (fun x => decide (restoredRemaining t.cfg.nominal c x ≤ t.cfg.reserve))
            ∧ (∀ x, (columnRec t.sfu x).exhausted = ((match x with
                  | .a => c.colA
                  | .b => c.colB
                  | .c => if t.cfg.fitted = 3 then c.colC.getD {} else {}).exhausted
                || (l.contains x && decide (restoredRemaining t.cfg.nominal c x ≤ t.cfg.reserve))))
            ∧ (l.any (fun x => decide (restoredRemaining t.cfg.nominal c x ≤ t.cfg.reserve)) = true →
              writeAsked .columns t = true)))

/-- A power loss spoils the copy of the record being written and keeps the others whole; the work not yet written, the
fault history among it, is gone, and the inputs stay as they stand (log entry 32). A RESET-line assertion acts as a
power loss followed by power-on (R202, R193). The power-fail warning asks the writes of the records not already
pending, in their order, and changes nothing else; its release lets the part go on as before (R202). The end of a
retained write puts the captured contents in their place, valid, and begins the next pending write with its contents
as they are then; nothing else changes (R201). A shutdown whose writes are done enters SHUT (R198, R199), where an
unconfirmed move of the column valve is dropped (log entry 13), and stays SHUTTING_DOWN while a diverter move runs to
its end (R157). A retained write that ends in SHUTTING_DOWN before the four writes are asked ends as in any other part
state: the part stays SHUTTING_DOWN while one of R198's five conditions fails, and asks the four writes, in the order
that log entry 67 has chosen, where none does (R198, R201). At the entry to SHUT the SHUTDOWN_DONE notice carries the
mode (R198, R199). -/
def Obligations.RecordsOutliveThePower : Prop :=
  (∀ (pins : Pins) (s : State), s.part.powered = true →
      ∃ t, exec .powerLoss s = .next t
        ∧ t.part.powered = false ∧ t.pins = s.pins ∧ t.pending = s.pending
        ∧ t.rst.writing = none ∧ t.rst.pendingWrites = [] ∧ t.rst.history = []
        ∧ t.rst.config = (match s.rst.writing with | some (.config _) => none | _ => s.rst.config)
        ∧ t.rst.faults = (match s.rst.writing with | some (.faults _) => none | _ => s.rst.faults)
        ∧ t.rst.columns = (match s.rst.writing with | some (.columns _) => none | _ => s.rst.columns)
        ∧ t.rst.reservoirs = (match s.rst.writing with | some (.reservoirs _) => none | _ => s.rst.reservoirs)
        ∧ exec (.powerOn pins) t = exec (.resetLineAssertion pins) s)
  ∧ (∀ (s : State), s.part.powered = true →
      (s.part.pfw = false →
        exec .pfwAssertion s = .next (finish { s with
          part := { s.part with pfw := true }
          pins := { s.pins with pfw := true }
          rst := { s.rst with
            pendingWrites := s.rst.pendingWrites ++
              ([.config, .faults, .columns, .reservoirs] : List RecordId).filter
                fun id => decide (id ∉ s.rst.pendingWrites) } }))
      ∧ exec .pfwRelease s = .next { s with part := { s.part with pfw := false }, pins := { s.pins with pfw := false } })
  ∧ (∀ (s : State), s.part.powered = true → ∀ w, s.rst.writing = some w →
      (s.part.state ≠ .shuttingDown →
        exec .retainedWriteEnd s = .next (finish { s with
          rst := match w with
            | .config c => { s.rst with config := some c, writing := none }
            | .faults c => { s.rst with faults := some c, writing := none }
            | .columns c => { s.rst with columns := some c, writing := none }
            | .reservoirs c => { s.rst with reservoirs := some c, writing := none } }))
      ∧ (s.part.state = .shuttingDown → s.part.writesAsked = true → s.rst.pendingWrites = [] → s.reports = [] →
          s.czs.move = none →
          s.wpc.holder = .none → s.wpc.fill = none → s.wpc.regen = none → s.rge.state = .idle →
          ∃ t, exec .retainedWriteEnd s = .next t
            ∧ t.part.state = .shut ∧ t.part.shutdown = .complete ∧ t.lnk.silence = none ∧ t.htc.output = .off
            ∧ t.htc.temp = none ∧ t.czs.pump = false ∧ t.wpc.leak = none ∧ t.sfu.valveMove = none
            ∧ t.czs.move = none ∧ t.seq.state = s.seq.state ∧ t.rst.history = s.rst.history)
      ∧ (s.part.state = .shuttingDown → s.part.writesAsked = true → s.part.abrupt = false → s.rst.pendingWrites = [] →
          s.reports = [] → ∀ m, s.czs.move = some m →
          s.wpc.holder = .none → s.wpc.fill = none → s.wpc.regen = none → s.rge.state = .idle →
          ∃ t, exec .retainedWriteEnd s = .next t
            ∧ t.part = s.part ∧ t.czs.move = some m ∧ t.rst.writing = none ∧ t.sfu = s.sfu ∧ t.seq.state = s.seq.state))
  ∧ (∀ (s : State), s.part.powered = true → ∀ w, s.rst.writing = some w → s.part.state = .shuttingDown → s.reports = [] →
      WaterRests s →
      (s.part.writesAsked = false → s.part.abrupt = false →
        s.seq.state = .ending ∨ s.wpc.seqDrain.isSome = true ∨ s.wpc.leak.isSome = true ∨ s.dsu.state ≠ .idle
          ∨ s.ddu.drive ≠ .stopped ∨ s.rge.state ≠ .idle →
        exec .retainedWriteEnd s = .next (finish (outputs { s with
          rst := match w with
            | .config c => { s.rst with config := some c, writing := none }
            | .faults c => { s.rst with faults := some c, writing := none }
            | .columns c => { s.rst with columns := some c, writing := none }
            | .reservoirs c => { s.rst with reservoirs := some c, writing := none } })))
      ∧ (s.part.writesAsked = false → s.part.abrupt = false → s.wpc.seqDrain = none → s.wpc.leak = none →
        s.seq.state = .idle ∨ s.seq.state = .ended ∨ s.seq.state = .faulted → s.dsu.state = .idle → s.ddu.drive = .stopped →
        s.rge.state = .idle →
        ∃ t, exec .retainedWriteEnd s = .next t
          ∧ t.part = { s.part with writesAsked := true } ∧ writeAsked .config t = true ∧ writeAsked .faults t = true
          ∧ writeAsked .columns t = true ∧ writeAsked .reservoirs t = true ∧ t.rst.writing.isSome = true
          ∧ t.rst.pendingWrites = (s.rst.pendingWrites ++
              ([.config, .faults, .columns, .reservoirs] : List RecordId).filter
                fun id => decide (id ∉ s.rst.pendingWrites)).tail)
      ∧ (s.part.writesAsked = true → s.rst.pendingWrites = [] → s.czs.move = none →
        noticeEnabled s.lnk.mask 20 = true →
        ∃ t, exec .retainedWriteEnd s = .next t
          ∧ t.part.state = .shut ∧ notified (.shutdownDone s.part.abrupt) t = true))

/-! ## The line: requests, frames, transmission, wake, seconds -/

/-- Table 44, Table 46 and R175 read back what they write: the frame of every request is a good frame to its last byte
and unfinished at every byte before, and its kind and payload spell the request. -/
def Obligations.RequestsReadBackAsWritten : Prop :=
  ∀ (r : Request) (tag : Byte),
    assemblyVerdict (r.frame tag).wire = .good (r.frame tag)
      ∧ (∀ n, n < (r.frame tag).wire.length → assemblyVerdict ((r.frame tag).wire.take n) = .more)
      ∧ parseRequest (r.frame tag).kind (r.frame tag).payload = .request r

/-- A request row stands for its frame: the frame's bytes, arriving at a hunting receiver, do what the row does, in
every part state and link state (R175 to R178, R197; log entry 1). -/
def Obligations.AFrameDoesWhatItsRequestRowDoes : Prop :=
  ∀ (i : Instr) (s : State), s.lnk.assembling = false → ∀ q, i.request? = some q →
    exec (.frameGood (q.2.frame q.1).wire) s = exec i s

/-- What a good frame does (R177, R178, R180 to R182): it counts the errors down, restarts the silence timer, and is
answered UNKNOWN_KIND or BAD_LENGTH where its kind or its length is not Table 46's; while a request awaits its reply
it is noted for a BUSY answer, or, one being noted, counted as a bad frame and discarded, a good frame to the silence
timer all the same (log entry 24); in LOST every kind but LINK ENABLE is discarded. -/
def Obligations.GoodFramesAreAnsweredBusyOrDiscarded : Prop :=
  ∀ (f : Frame) (s : State), f.payload.length ≤ 198 → s.lnk.assembling = false →
    (Hears s →
      (parseRequest f.kind f.payload = .unknownKind →
        exec (.frameGood f.wire) s = .next (finish (answering f.kind f.tag .unknownKind .empty (heard s))))
      ∧ (parseRequest f.kind f.payload = .badLength →
        exec (.frameGood f.wire) s = .next (finish (answering f.kind f.tag .badLength .empty (heard s)))))
    ∧ (Hears { s with lnk := { s.lnk with awaiting := none } } → s.lnk.awaiting.isSome = true →
      (s.lnk.busy = none →
        exec (.frameGood f.wire) s = .next (finish (onLnk (fun l => { l with busy := some ⟨f.kind, f.tag⟩ }) (heard s))))
      ∧ (s.lnk.busy.isSome = true → s.lnk.errors < 120 →
        exec (.frameGood f.wire) s = .next (finish (onLnk (fun l => { l with
          errors := s.lnk.errors + 8
          state := if linkSends s then (if 96 ≤ s.lnk.errors + 8 then .degraded else .up) else s.lnk.state })
          (heard s)))))
    ∧ (s.part.powered = true → s.part.state ≠ .standby → s.reports = [] → s.lnk.state = .lost → f.kind ≠ 0x02#8 →
      exec (.frameGood f.wire) s = .next (finish (onLnk (fun l => { l with
        assembling := false, assembly := [], errors := l.errors - 1, silence := none }) s)))

/-- A bad frame, by its length, its CRC, a framing error or a gap, is discarded without an answer and adds 8 to the
receive error count, stopping at 255; the link state follows in UP and DEGRADED, and the silence timer is not
restarted (R176, R180 to R182). The receive error count at 128, or the silence timer at its limit, loses the link
(R181, R182): LOST with its cause and time, the silence timer stopped, LINK_LOST entered, the hold given up. Stated
for a part whose water path rests and whose sequencer is not HOLDING. LINK_LOST in HOLDING releases the hold as
CONTINUE does: the next phase is entered (R23, R20), SUSPENDED before an open door (log entry 14), whether the silence
or the count loses the link (R181, R182). A good frame that restarts the running silence timer voids the expiry it
falls together with, one that comes before a second has passed (R182, log entry 69). -/
def Obligations.BadFramesAreCountedAndLoseTheLink : Prop :=
  (∀ (r : Request) (tag len : Byte) (crc : Half) (n : Nat) (s : State),
      s.part.powered = true → s.part.state ≠ .standby → s.reports = [] → s.lnk.assembling = false →
      (linkSends s = true → s.lnk.errors < 120) →
      (crc ≠ crc16 (r.frame tag).body →
        exec (.frameBad (frameMarker :: (r.frame tag).body ++ halfBytes crc) false) s = .next (finish (discarded s)))
      ∧ (len.toNat < 2 ∨ 200 < len.toNat → exec (.frameBad [frameMarker, len] false) s = .next (finish (discarded s)))
      ∧ (1 ≤ n → n < (r.frame tag).wire.length →
        exec (.frameBad ((r.frame tag).wire.take n) true) s = .next (finish (discarded s))
        ∧ exec (.byteGapTimeout ((r.frame tag).wire.take n)) s = .next (finish (discarded s))))
  ∧ (∀ (s : State), Rests s → s.lnk.assembling = false → linkSends s = true → s.seq.state ≠ .holding →
      (120 ≤ s.lnk.errors → s.lnk.errors ≤ 247 →
        ∃ t, exec (.frameBad [frameMarker, 0#8] false) s = .next t
          ∧ t.lnk.state = .lost ∧ t.lnk.lostCause = .count ∧ t.lnk.lostStamp = s.lnk.stamp ∧ t.lnk.silence = none
          ∧ t.lnk.errors = s.lnk.errors + 8 ∧ t.seq.holdPending = false ∧ t.seq.state = s.seq.state
          ∧ t.rst.history = appendHistory ⟨.linkLost, s.lnk.stamp, faultPhase s, .lost .count, .num (s.lnk.errors + 8)⟩
              s.rst.history)
      ∧ (s.lnk.silence.isSome = true → s.ties.silence = false →
        exec .silenceTimeout s = .next (finish (outputs { enterFault
          ⟨.linkLost, s.lnk.stamp, faultPhase s, .lost .silence, .num s.lnk.errors⟩ s with
            lnk := { (enterFault ⟨.linkLost, s.lnk.stamp, faultPhase s, .lost .silence, .num s.lnk.errors⟩ s).lnk with
              state := .lost, silence := none, lostCause := .silence, lostStamp := s.lnk.stamp }
            seq := { s.seq with holdPending := false } }))))
  ∧ (∀ (s : State), Rests s ∨ (Awake s ∧ Sound s) → s.lnk.assembling = false → linkSends s = true → s.seq.state = .holding →
      (s.lnk.silence.isSome = true → s.ties.silence = false →
        ∃ t, exec .silenceTimeout s = .next t
          ∧ t.lnk.state = .lost ∧ t.lnk.lostCause = .silence ∧ t.lnk.silence = none ∧ t.seq.holdPending = false
          ∧ NextPhaseEntered s t
          ∧ t.rst.history = appendHistory ⟨.linkLost, s.lnk.stamp, s.seq.idx, .lost .silence, .num s.lnk.errors⟩
              s.rst.history)
      ∧ (120 ≤ s.lnk.errors → s.lnk.errors ≤ 247 →
        ∃ t, exec (.frameBad [frameMarker, 0#8] false) s = .next t
          ∧ t.lnk.state = .lost ∧ t.lnk.lostCause = .count ∧ t.lnk.silence = none ∧ t.seq.holdPending = false
          ∧ NextPhaseEntered s t
          ∧ t.rst.history = appendHistory ⟨.linkLost, s.lnk.stamp, s.seq.idx, .lost .count, .num (s.lnk.errors + 8)⟩
              s.rst.history))
  ∧ (∀ (tag : Byte) (r : Request) (s : State), Hears s → s.lnk.assembling = false → s.lnk.silence.isSome = true →
      ∃ t, exec (.frameGood (r.frame tag).wire) s = .next t ∧ t.ties.silence = true ∧ exec .silenceTimeout t = .next t)

/-- The end of a transmission frees the line and what it answered; the next frame is the reply, else the BUSY answer,
else, in UP and DEGRADED, the notice at the head of the set, which leaves it (R177, R179, R188). -/
def Obligations.TheTransmitterTakesReplyBusyNotice : Prop :=
  ∀ (s : State), s.part.powered = true → ∃ t, exec .frameTransmitEnd s = .next t
    ∧ t.lnk.awaiting = (match s.lnk.tx with | some (.reply _) => none | _ => s.lnk.awaiting)
    ∧ t.lnk.busy = (match s.lnk.tx with | some (.busy _) => none | _ => s.lnk.busy)
    ∧ t.lnk.tx = nextFrame (linkSends s) t.lnk.awaiting t.lnk.busy s.lnk.notices
    ∧ t.lnk.notices = (match t.lnk.tx with | some (.notice _) => s.lnk.notices.tail | _ => s.lnk.notices)
    ∧ t.lnk = { s.lnk with awaiting := t.lnk.awaiting, busy := t.lnk.busy, tx := t.lnk.tx, notices := t.lnk.notices }
    ∧ t = { s with lnk := t.lnk, rst := t.rst }
    ∧ t.rst = (beginWrite s).rst

/-- In STANDBY the first byte of a frame wakes the part (R197): READY, WAKE raised, the silence timer counting from 0
in UP and DEGRADED, the switches read afresh (log entry 21), the byte taken as the frame's marker. Otherwise the
marker only starts the assembly (R176). Stated for a part whose water path rests. -/
def Obligations.TheFirstByteWakesThePart : Prop :=
  ∀ (s : State), s.part.powered = true → s.lnk.assembling = false →
    (s.part.state ≠ .standby →
      exec .standbyLinkWake s = .next (finish (onLnk (fun l => { l with assembling := true, assembly := [0xA5#8] }) s)))
    ∧ (s.part.state = .standby → Rests { s with part := { s.part with state := .ready } } →
      s.seq.state = .idle ∨ s.seq.state = .ended →
      ∃ t, exec .standbyLinkWake s = .next t
        ∧ t.part = { s.part with state := .ready }
        ∧ t.lnk.assembling = true ∧ t.lnk.assembly = [0xA5#8]
        ∧ t.lnk.silence = (if linkSends s then some 0 else none)
        ∧ (noticeEnabled s.lnk.mask 2 = true → notified (.wake .link) t = true)
        ∧ t.wpc.sumpEmpty = s.pins.sumpEmpty ∧ t.wpc.heaterCover = s.pins.heaterCover
        ∧ t.wpc.highLevel = s.pins.highLevel ∧ t.rge.saltLow = s.pins.saltLow ∧ t.dsu.lowSw = s.pins.low
        ∧ t.czs.reading = s.pins.pressure ∧ t.cfg = s.cfg ∧ t.sfu = s.sfu ∧ t.dsu.state = s.dsu.state)

/-- A second passes (R188, log entry 4): the time stamp grows by 1, wrapping, and every timer that counts moves by 1
and stops at its limit, up or down as its table has it; nothing else changes but the inputs that no row reports (log
entry 5), and what a pulse or a stall of the same second leaves is forgotten (R156, log entry 40), as are the marks of
what falls together with a limit (log entries 69, 70). -/
def Obligations.ASecondCounts : Prop :=
  ∀ (a : Ambient) (s : State), s.part.powered = true → ∃ t, exec (.timeStampTick a) s = .next t
    ∧ t.lnk = { s.lnk with stamp := s.lnk.stamp + 1#32, silence := s.lnk.silence.map (fun n => min s.cfg.silenceLimit (n + 1)) }
    ∧ t.seq = { s.seq with
        holdTimer := (match currentWash s with
          | some w => if runningIn s .circulate then min w.holdTime (s.seq.holdTimer + 1) else s.seq.holdTimer
          | none => s.seq.holdTimer)
        settling := s.seq.settling.map (fun n => min 2 (n + 1))
        waterWait := if s.seq.state = .waitWater then s.seq.waterWait.map (· - 1) else s.seq.waterWait
        extension := s.seq.extension.map (fun n => min 90 (n + 1)) }
    ∧ t.wpc = { s.wpc with
        fillTimer := s.wpc.fillTimer.map (fun n => min s.cfg.fillLimit (n + 1))
        seqDrain := s.wpc.seqDrain.map tickDrain
        burst := s.wpc.burst.map tickBurst
        leak := s.wpc.leak.map (· - 1)
        floodReq := s.wpc.floodReq.map tickFlood }
    ∧ (∀ (n : Nat) (second : Bool),
        tickDrain ⟨.pumping n, second⟩ = ⟨.pumping (min 120 (n + 1)), second⟩
        ∧ tickDrain ⟨.paused n, second⟩ = ⟨.paused (min 30 (n + 1)), second⟩
        ∧ tickDrain ⟨.runOn n, second⟩ = ⟨.runOn (min 15 (n + 1)), second⟩
        ∧ tickDrain ⟨.kept, second⟩ = ⟨.kept, second⟩
        ∧ tickBurst (.running n) = .running (min 20 (n + 1)) ∧ tickBurst .waiting = .waiting
        ∧ tickFlood (.runOn n) = .runOn (n - 1) ∧ tickFlood .active = .active)
    ∧ t.sfu = { s.sfu with valveMove := s.sfu.valveMove.map fun m => { m with used := min 8 (m.used + 1) } }
    ∧ t.rge = { s.rge with
        stageTime := (match s.rge.state with
          | .brineDraw => min 90 (s.rge.stageTime + 1)
          | .rinse => min 120 (s.rge.stageTime + 1)
          | _ => s.rge.stageTime)
        dwellLeft := if s.rge.state = .dwell then s.rge.dwellLeft - 1 else s.rge.dwellLeft }
    ∧ t.dsu = { s.dsu with
        windowLeft := s.dsu.windowLeft - 1
        move := s.dsu.move.map fun m => { m with used := min 5 (m.used + 1) } }
    ∧ t.htc = { s.htc with
        limitLeft := (match s.htc.request with
          | some q => if q.heating = true ∧ s.htc.valid = true then s.htc.limitLeft - 1 else s.htc.limitLeft
          | none => s.htc.limitLeft) }
    ∧ t.czs = { s.czs with
        lowTimer := s.czs.lowTimer.map (fun n => min 5 (n + 1))
        slotTime := if slotCounts s then min s.czs.slotLength (s.czs.slotTime + 1) else s.czs.slotTime
        move := s.czs.move.map fun m => { m with used := min 6 (m.used + 1) }
        arm1 := s.czs.arm1.map (fun n => min 8 (n + 1))
        arm2 := s.czs.arm2.map (fun n => min 8 (n + 1))
        pulsed := none
        slotOfStall := false }
    ∧ t.ddu = { s.ddu with
        stageTime := (match s.ddu.stage with
          | .dwell | .ajar => s.ddu.stageTime - 1
          | .waitCool => min 900 (s.ddu.stageTime + 1)
          | _ => s.ddu.stageTime)
        retryPause := s.ddu.retryPause.map (fun n => min 2 (n + 1)) }
    ∧ t.ties = {}
    ∧ t = { s with ties := t.ties, lnk := t.lnk, seq := t.seq, wpc := t.wpc, sfu := t.sfu, rge := t.rge, dsu := t.dsu, htc := t.htc,
                   czs := t.czs, ddu := t.ddu,
                   pins := { s.pins with turbidity := a.turbidity, booster := a.booster, actuator := a.actuator } }

/-! ## Requests: reads, refusals, link, configuration, standby -/

/-- The requests that only read are answered OK with what stands, and leave everything but their frame's effect on the
link (R3, R69, R184 to R186, R204); an index, an id or a column code outside its set is refused with BAD_FIELD, column
C while it is not fitted with NOT_FITTED. The silicon revision is a free value (log entry 10). IDENTIFY and GET STATUS
are answered in link state DOWN and every part state too. -/
def Obligations.ReadsAnswerWhatStands : Prop :=
  ∀ (tag b : Byte) (s : State),
    (Hears s →
      exec (.identify tag) s = .next (finish (answering 0x01#8 tag .ok (.identity {
          designation := [0x41#8, 0x46#8, 0x2D#8, 0x32#8, 0x34#8, 0x36#8, 0x30#8]
          revision := Config.siliconRevision
          requestKinds := 26
          noticeKinds := 22
          largestPayload := 198
          fittedColumns := s.cfg.fitted
          d3Fitted := s.dsu.r3.fitted
          actuatorFitted := s.ddu.fitted
          stamp := s.lnk.stamp }) (heard s)))
      ∧ exec (.getStatus tag) s = .next (finish (answering 0x03#8 tag .ok (.snapshot (snapshotOf (heard s))) (heard s)))
      ∧ (snapshotOf s).part = ⟨s.part.state, s.part.shutdown, s.lnk.stamp⟩
      ∧ (snapshotOf s).link = ⟨s.lnk.state, s.lnk.errors, s.lnk.lostCause, s.lnk.notices.length⟩
      ∧ (snapshotOf s).latest = s.lnk.latest)
    ∧ (Listens s →
      exec (.getConfig tag b) s = .next (finish (
        if 1 ≤ b.toNat ∧ b.toNat ≤ 27 then answering 0x05#8 tag .ok (.config b (paramGet s.cfg b.toNat)) (heard s)
        else answering 0x05#8 tag .badField .empty (heard s)))
      ∧ exec (.readFaultHistory tag) s = .next (finish (answering 0x0A#8 tag .ok (.history s.rst.history) (heard s)))
      ∧ exec (.readPhase tag b) s = .next (finish (
        if h : b.toNat < 12 then answering 0x11#8 tag .ok (.phaseRecord b s.seq.table[b.toNat]) (heard s)
        else answering 0x11#8 tag .badField .empty (heard s)))
      ∧ (∀ col, columnOfCode b = some col →
        exec (.readColumn tag b) s = .next (finish (
          if col = .c ∧ s.cfg.fitted ≠ 3 then answering 0x20#8 tag .notFitted .empty (heard s)
          else answering 0x20#8 tag .ok (.column {
            column := col
            state := columnState s col
            remaining := (columnRec s.sfu col).remaining
            exhausted := (columnRec s.sfu col).exhausted
            degraded := (columnRec s.sfu col).degraded
            regens := (columnRec s.sfu col).regens
            place := placeIn col s.sfu.ready + placeIn col s.sfu.regenQ
            residue := if s.sfu.service = some col then s.sfu.rho else 0 }) (heard s))))
      ∧ (columnOfCode b = none →
        exec (.readColumn tag b) s = .next (finish (answering 0x20#8 tag .badField .empty (heard s)))))

/-- READ RESERVOIR (R107). -/
def Obligations.ReadReservoirGivesTheRecord : Prop :=
  ∀ (tag b : Byte) (s : State), Listens s →
    (b ≠ 1#8 → b ≠ 2#8 → b ≠ 3#8 →
      exec (.readReservoir tag b) s = .next (finish (answering 0x28#8 tag .badField .empty (heard s))))
    ∧ (∀ ch, channelOfCode b = some ch →
      exec (.readReservoir tag b) s = .next (finish (answering 0x28#8 tag .ok (.reservoir {
        channel := ch
        fitted := (reservoirOf s.dsu ch).fitted
        capacity := (match ch with | .d1 => 45000 | .d2 => 30000 | .d3 => 20000)
        level := (reservoirOf s.dsu ch).level
        lowMark := (match ch with | .d1 => 4000 | .d2 => 3000 | .d3 => 2000)
        empty := (reservoirOf s.dsu ch).empty
        lowNotified := (reservoirOf s.dsu ch).lowNotified
        capOpened := (reservoirOf s.dsu ch).capOpened
        strokeVolume := perChannelGet s.cfg.stroke ch
        lowSwitch := perChannelGet s.dsu.lowSw ch
        capSwitch := perChannelGet s.dsu.capSw ch }) (heard s))))
    ∧ channelOfCode 1#8 = some .d1 ∧ channelOfCode 2#8 = some .d2 ∧ channelOfCode 3#8 = some .d3

/-- A request refused at any step changes nothing but the error count and the silence supervision of its frame (R178),
an ACKNOWLEDGE FAULT that places a recovery drain apart (R28). In link state DOWN every kind but three, and in
STARTING, SHUTTING_DOWN, SHUT and DOWN every kind that Table 57 does not admit, is refused with NOT_READY (R178,
R194). -/
def Obligations.RefusalsChangeNothing : Prop :=
  ∀ (i : Instr) (s : State), Hears s → ∀ q, i.request? = some q →
    ((∀ t, exec i s = .next t → ∀ a, t.lnk.awaiting = some a →
      a.kind = q.2.kind ∧ a.tag = q.1
        ∧ (a.answer.status ≠ .ok → a.answer.status ≠ .clamped → q.2 ≠ .acknowledgeFault →
          t = finish (answering a.kind a.tag a.answer.status a.answer.body (heard s)))))
    ∧ (s.lnk.state = .down → q.2.kind ≠ 1#8 → q.2.kind ≠ 2#8 → q.2.kind ≠ 3#8 →
      exec i s = .next (finish (answering q.2.kind q.1 .notReady .empty (heard s))))
    ∧ (s.part.state = .starting → q.2.kind ≠ 1#8 → q.2.kind ≠ 3#8 →
      exec i s = .next (finish (answering q.2.kind q.1 .notReady .empty (heard s))))
    ∧ (s.part.state = .shut ∨ s.part.state = .down → q.2.kind ≠ 1#8 → q.2.kind ≠ 2#8 → q.2.kind ≠ 3#8 →
      exec i s = .next (finish (answering q.2.kind q.1 .notReady .empty (heard s))))
    ∧ (s.part.state = .shuttingDown → q.2.kind ∉ [1#8, 2#8, 3#8, 5#8, 8#8, 0x0A#8, 0x11#8, 0x20#8, 0x28#8] →
      exec i s = .next (finish (answering q.2.kind q.1 .notReady .empty (heard s))))

/-- LINK ENABLE (R183, R195): the errors to 0, the link UP, the silence timer from 0; LINK_RECOVERED of a LOST link;
from DOWN and SHUT a sound part enters STARTING with fresh reads (log entry 21) and the homings of the valve (one move
to the service column, log entry 20), the diverter, the selector (toward position 1, log entry 19) and a fitted
actuator that is not home. SET NOTICE MASK stores the mask with FAULT set and removes what it excludes (R189); RESET
UNIT LINK empties the notice set and clears the error count (R191). -/
def Obligations.LinkRequestsOpenMaskAndReset : Prop :=
  (∀ (tag : Byte) (s : State), s.part.powered = true → s.reports = [] → s.lnk.awaiting = none →
      (s.part.state = .ready ∨ s.part.state = .shuttingDown →
        (s.lnk.state ≠ .lost → (linkSends s = true → s.lnk.errors < 128) →
          exec (.linkEnable tag) s = .next (finish (answering 0x02#8 tag .ok (.partState s.part.state) (onLnk (fun l => { l with
            assembling := false, assembly := [], errors := 0, state := .up, silence := some 0 }) s))))
        ∧ (s.lnk.state = .lost →
          exec (.linkEnable tag) s = .next (finish (answering 0x02#8 tag .ok (.partState s.part.state) (onLnk (fun l => { l with
            assembling := false, assembly := [], errors := 0, state := .up, silence := some 0
            notices := (if noticeEnabled l.mask 21 then
              enterNotice (.linkRecovered l.lostCause l.lostStamp l.notices.length) l.stamp l.notices else l.notices) })
            s)))))
      ∧ (Sound s → s.part.state = .down ∨ s.part.state = .shut → (linkSends s = true → s.lnk.errors < 128) →
        s.wpc.holder = .none → s.wpc.fill = none → s.wpc.regen = none → s.rge.state = .idle →
        ∃ t, exec (.linkEnable tag) s = .next t
          ∧ t.part = { s.part with
              state := .starting, shutdown := .none, startedFrom := s.part.state
              homings := ⟨true, true, true, s.pins.actuator && !s.pins.home⟩, homingFaults := [] }
          ∧ t.lnk.awaiting = some ⟨0x02#8, tag, .ok, .partState .starting⟩
          ∧ t.lnk.state = .up ∧ t.lnk.errors = 0 ∧ t.lnk.silence = some 0
          ∧ t.sfu.valveMove = some ⟨(match t.sfu.service with | some col => .column col | none => .bypass), 0, true⟩
          ∧ (programRuns s = false ∨ s.pins.sensor = .measured 80 → t.sfu.service = s.sfu.service)
          ∧ t.czs.move = some ⟨true, .z1, 0⟩ ∧ t.dsu.move = some ⟨true, .d1, 0⟩
          ∧ (s.pins.actuator = true → t.ddu.drive = if s.pins.home then .stopped else .inward)
          ∧ t.wpc.sumpEmpty = s.pins.sumpEmpty ∧ t.wpc.heaterCover = s.pins.heaterCover
          ∧ t.wpc.highLevel = s.pins.highLevel ∧ t.rge.lidOpen = s.pins.lidOpen ∧ t.rge.saltLow = s.pins.saltLow
          ∧ t.dsu.lowSw = s.pins.low ∧ t.dsu.capSw = s.pins.capOpen ∧ t.dsu.r3.fitted = s.pins.booster
          ∧ t.ddu.fitted = s.pins.actuator ∧ t.ddu.doorOpen = s.pins.doorOpen ∧ t.czs.reading = s.pins.pressure
          ∧ (∀ q, s.pins.sensor = .measured q → t.htc.temp = some (min 120 (q / 4).toNat) ∧ t.htc.valid = true
              ∧ (min 120 (q / 4).toNat < 88 → t.rst.history = s.rst.history))
          ∧ t.cfg = s.cfg ∧ t.seq.table = s.seq.table))
  ∧ (∀ (tag : Byte) (m : Triple) (s : State), Listens s →
      (∃ t, exec (.setNoticeMask tag m) s = .next t
        ∧ (∀ c : Fin 22, t.lnk.mask[c] = (c.val == 21 || m.getLsbD c.val))
        ∧ exec (.setNoticeMask tag m) s = .next (finish (answering 0x06#8 tag .ok (.mask t.lnk.mask) (onLnk (fun l => { l with
            mask := t.lnk.mask
            notices := l.notices.filter fun n => noticeCode n.content == 22 || m.getLsbD (noticeCode n.content - 1) })
            (heard s)))))
      ∧ exec (.resetUnitLink tag) s = .next (finish (answering 0x09#8 tag .ok (.unit 5#8) (onLnk (fun l => { l with
            errors := 0, notices := [], state := .up }) (heard s)))))

/-- SET CONFIG of a parameter whose owner takes it up later (R184): an id outside 1 to 27 and a drying mode above 1
are refused with BAD_FIELD; another value is limited to the range of Table 49, stored, answered OK or CLAMPED, and the
configuration's write asked; the value already held is answered and changes nothing (log entry 16). A fill limit (id
26) lowered under a held FILL grant ends nothing at once, whatever the timer has counted: the model's choice (log
entry 59). -/
def Obligations.SetConfigStoresTheLimitedValue : Prop :=
  ∀ (tag id : Byte) (value : Word) (s : State), Listens s →
    (id.toNat = 0 ∨ 27 < id.toNat →
      exec (.setConfig tag id value) s = .next (finish (answering 0x04#8 tag .badField .empty (heard s))))
    ∧ (id = 22#8 → 1 < value.toNat →
      exec (.setConfig tag id value) s = .next (finish (answering 0x04#8 tag .badField .empty (heard s))))
    ∧ (id ∉ [4#8, 5#8, 6#8, 27#8] → (id = 22#8 → value.toNat ≤ 1) → ∀ range, paramRange id.toNat = some range →
      (∃ t, exec (.setConfig tag id value) s = .next t
        ∧ paramGet t.cfg id.toNat = max range.1 (min range.2 value.toNat)
        ∧ (∀ j : Fin 28, j.val ≠ id.toNat → paramGet t.cfg j.val = paramGet s.cfg j.val)
        ∧ (paramGet t.cfg id.toNat = paramGet s.cfg id.toNat → t.cfg = s.cfg)
        ∧ exec (.setConfig tag id value) s = .next (finish (answering 0x04#8 tag
            (if range.1 ≤ value.toNat ∧ value.toNat ≤ range.2 then .ok else .clamped)
            (.config id (paramGet t.cfg id.toNat))
            (if t.cfg = s.cfg then heard s else askWrite .config { heard s with cfg := t.cfg })))))

/-- The four parameters whose owners act at once. Nominal capacity: every capacity above it is lowered to it, with the
columns' write just where one is lowered (R73, log entry 44). Switch reserve: raised over the serving column it marks
that column exhausted, which with no ready column stays in service (R74, R62). Silence limit: at or below the time
counted when the request came it loses the link (R182, log entry 39). The named rows are SET CONFIG of ids 4, 5, 6 and
27. A raised switch reserve beside ready columns (R74, R62 to R65): those at or below it, from head to tail, leave the
ready queue exhausted for the tail of the regeneration queue; the serving column at or below it is marked exhausted
and, with a ready column left, gives way to it, with COLUMN_SWITCH and a valve move that stays a homing where it takes
the place of one (log entry 20); the idle engine takes the head of the regeneration queue unless a valve fault stands.
-/
def Obligations.CapacityReserveAndSilenceAct : Prop :=
  (∀ (tag : Byte) (value : Word) (s : State), Listens s → Rests s →
      exec (.setConfigNominalCapacity tag value) s = exec (.setConfig tag 4#8 value) s
      ∧ exec (.setConfigSwitchReserve tag value) s = exec (.setConfig tag 5#8 value) s
      ∧ exec (.setConfigFittedColumns tag value) s = exec (.setConfig tag 6#8 value) s
      ∧ exec (.setConfigSilenceLimit tag value) s = exec (.setConfig tag 27#8 value) s
      ∧ (20 ≤ value.toNat → value.toNat ≤ 200 → value.toNat ≠ s.cfg.nominal →
        exec (.setConfigNominalCapacity tag value) s = .next (finish (answering 0x04#8 tag .ok (.config 4#8 value.toNat)
          (outputs (askWrite .config
            { (if loweredTo (value.toNat * 1000000) s.sfu = s.sfu then heard s else askWrite .columns (heard s)) with
              cfg := { s.cfg with nominal := value.toNat }, sfu := loweredTo (value.toNat * 1000000) s.sfu })))))
      ∧ (value.toNat ≤ 10000000 → value.toNat ≠ s.cfg.reserve → s.sfu.ready = [] → ∀ col, s.sfu.service = some col →
        exec (.setConfigSwitchReserve tag value) s = .next (finish (answering 0x04#8 tag .ok (.config 5#8 value.toNat)
          (outputs (askWrite .config
            (if s.cfg.reserve < value.toNat ∧ (columnRec s.sfu col).remaining ≤ value.toNat ∧ s.sfu.valveFault = false
                ∧ (columnRec s.sfu col).exhausted = false
              then askWrite .columns { heard s with
                cfg := { s.cfg with reserve := value.toNat }
                sfu := setColumnRec s.sfu col { columnRec s.sfu col with exhausted := true } }
              else { heard s with cfg := { s.cfg with reserve := value.toNat } }))))))
      ∧ (5 ≤ value.toNat → value.toNat ≤ 120 → value.toNat ≠ s.cfg.silenceLimit → ∀ n, s.lnk.silence = some n →
        (n < value.toNat →
          exec (.setConfigSilenceLimit tag value) s = .next (finish (answering 0x04#8 tag .ok (.config 27#8 value.toNat)
            (outputs (askWrite .config { heard s with cfg := { s.cfg with silenceLimit := value.toNat } })))))
        ∧ (value.toNat ≤ n → s.seq.state ≠ .holding →
          ∃ t, exec (.setConfigSilenceLimit tag value) s = .next t
            ∧ t.cfg = { s.cfg with silenceLimit := value.toNat }
            ∧ t.lnk.state = .lost ∧ t.lnk.lostCause = .silence ∧ t.lnk.lostStamp = s.lnk.stamp ∧ t.lnk.silence = none
            ∧ t.lnk.awaiting = some ⟨0x04#8, tag, .ok, .config 27#8 value.toNat⟩
            ∧ t.rst.history = appendHistory
                ⟨.linkLost, s.lnk.stamp, faultPhase s, .lost .silence, .num (s.lnk.errors - 1)⟩ s.rst.history
            ∧ t.seq.holdPending = false ∧ t.seq.state = s.seq.state ∧ t.part = s.part ∧ t.sfu = s.sfu ∧ t.rge = s.rge
            ∧ t.dsu = s.dsu ∧ t.ddu = s.ddu)))
  ∧ (∀ (tag : Byte) (value : Word) (s : State), Listens s → Rests s → Sound s → ColumnsPlaced s →
      value.toNat ≤ 10000000 → s.cfg.reserve < value.toNat →
      ∀ stay, stay = s.sfu.ready.filter (fun x => decide (value.toNat < (columnRec s.sfu x).remaining)) →
      ∀ moved, moved = s.sfu.ready.filter (fun x => decide ((columnRec s.sfu x).remaining ≤ value.toNat)) →
      ∃ t, exec (.setConfigSwitchReserve tag value) s = .next t
        ∧ t.cfg = { s.cfg with reserve := value.toNat } ∧ writeAsked .config t = true
        ∧ t.lnk.awaiting = some ⟨0x04#8, tag, .ok, .config 5#8 value.toNat⟩
        ∧ (∀ x, columnRec t.sfu x = { columnRec s.sfu x with
            exhausted := (columnRec s.sfu x).exhausted || decide (x ∈ moved)
              || (s.sfu.service == some x && !s.sfu.valveFault && decide ((columnRec s.sfu x).remaining ≤ value.toNat)) })
        ∧ (moved ≠ [] → writeAsked .columns t = true)
        ∧ ((∀ col, s.sfu.service = some col → stay = [] ∨ s.sfu.valveFault = true
              ∨ value.toNat < (columnRec s.sfu col).remaining ∨ (columnRec s.sfu col).exhausted = true) →
          t.sfu.service = s.sfu.service ∧ t.sfu.ready = stay ∧ t.sfu.valveMove = s.sfu.valveMove ∧ t.sfu.rho = s.sfu.rho
            ∧ t.sfu.regenQ = (if s.rge.state = .idle ∧ s.sfu.valveFault = false then (s.sfu.regenQ ++ moved).tail
                else s.sfu.regenQ ++ moved)
            ∧ (s.rge.state = .idle → s.sfu.valveFault = false → ∀ x, (s.sfu.regenQ ++ moved).head? = some x → Taken x s t))
        ∧ (∀ col next, s.sfu.service = some col → stay.head? = some next → s.sfu.valveFault = false →
          (columnRec s.sfu col).remaining ≤ value.toNat → (columnRec s.sfu col).exhausted = false →
          t.sfu.service = some next ∧ t.sfu.ready = stay.tail ∧ t.sfu.rho = 0 ∧ t.sfu.duty = s.sfu.blend
            ∧ t.sfu.valveMove = some ⟨.column next, 0, (match s.sfu.valveMove with | some m => m.homing | none => false)⟩
            ∧ t.sfu.regenQ = (if s.rge.state = .idle then (s.sfu.regenQ ++ moved ++ [col]).tail
                else s.sfu.regenQ ++ moved ++ [col])
            ∧ (s.rge.state = .idle → ∀ x, (s.sfu.regenQ ++ moved ++ [col]).head? = some x → Taken x s t)
            ∧ writeAsked .columns t = true
            ∧ (noticeEnabled s.lnk.mask 12 = true → notified (.columnSwitch (some col) (some next) .exhausted
                (columnRec s.sfu next).remaining (if s.sfu.fill.isOpen then s.sfu.fill.v else 0)) t = true))
        ∧ (s.rge.state ≠ .idle → t.rge = s.rge)
        ∧ t.seq = { s.seq with permit := t.seq.permit } ∧ t.dsu = s.dsu ∧ t.ddu = s.ddu ∧ t.part = s.part
        ∧ t.rst.history = s.rst.history)

/-- A number of fitted columns, a new one or the one in force (log entry 16), is refused with WRONG_STATE unless the
sequencer is IDLE or ENDED and the engine IDLE; from 3 to 2 column C leaves its place and its record goes; from 2 to 3
it is created empty and exhausted and waits, where an idle engine takes it at once unless the valve is faulted (R75,
R80). Column C in service is removed with the reason FITTED_COLUMNS (R75, R63): the head of the ready queue enters
service unless a valve fault stands; otherwise the position is left empty, COLUMN_SWITCH carrying a remaining capacity
of 0 (log entry 43). A valve homing under way stays a homing (log entry 20); under a valve fault no move is commanded
and it keeps its target (log entry 53). -/
def Obligations.FittedColumnsCreateOrRemoveC : Prop :=
  (∀ (tag : Byte) (s : State), Listens s →
      ((s.seq.state ≠ .idle ∧ s.seq.state ≠ .ended) ∨ s.rge.state ≠ .idle → ∀ value,
        exec (.setConfigFittedColumns tag value) s = .next (finish (answering 0x04#8 tag .wrongState .empty (heard s))))
      ∧ (Sound s ∨ Rests s → s.rge.state = .idle → s.sfu.regenQ = [] ∨ s.sfu.valveFault = true →
        s.seq.state = .idle ∨ s.seq.state = .ended →
        (s.cfg.fitted = 3 → s.sfu.service ≠ some .c →
          exec (.setConfigFittedColumns tag 2#32) s = .next (finish (answering 0x04#8 tag .ok (.config 6#8 2)
            (outputs (askWrite .config (askWrite .columns { heard s with
              cfg := { s.cfg with fitted := 2 }
              sfu := { s.sfu with
                colC := none
                ready := s.sfu.ready.filter (· ≠ .c)
                regenQ := s.sfu.regenQ.filter (· ≠ .c)
                retired := s.sfu.retired.filter (· ≠ .c)
                faulted := s.sfu.faulted.filter (· ≠ .c) } }))))))
        ∧ (s.cfg.fitted = 2 →
          ∃ t, exec (.setConfigFittedColumns tag 3#32) s = .next t
            ∧ t.cfg = { s.cfg with fitted := 3 }
            ∧ t.sfu.colC = some ⟨0, true, 0, false⟩
            ∧ (s.sfu.valveFault = true → t.sfu.regenQ = s.sfu.regenQ ++ [.c] ∧ t.rge = s.rge)
            ∧ (s.sfu.valveFault = false → t.sfu.regenQ = [] ∧ t.rge.column = some .c)
            ∧ t.sfu.service = s.sfu.service ∧ t.sfu.ready = s.sfu.ready
            ∧ writeAsked .config t = true ∧ writeAsked .columns t = true
            ∧ WaterFollows (answering 0x04#8 tag .ok (.config 6#8 3) { heard s with cfg := { s.cfg with fitted := 3 } }) t)))
  ∧ (∀ (tag : Byte) (s : State), Listens s → Sound s → ColumnsPlaced s → s.seq.state = .idle ∨ s.seq.state = .ended →
      s.rge.state = .idle → s.sfu.regenQ = [] ∨ s.sfu.valveFault = true → s.cfg.fitted = 3 → s.sfu.service = some .c →
      ∃ t, exec (.setConfigFittedColumns tag 2#32) s = .next t
        ∧ t.cfg = { s.cfg with fitted := 2 }
        ∧ t.sfu = { s.sfu with
            colC := none, service := if s.sfu.valveFault then none else s.sfu.ready.head?
            ready := if s.sfu.valveFault then s.sfu.ready else s.sfu.ready.tail
            rho := 0
            duty := (match (if s.sfu.valveFault then none else s.sfu.ready.head?) with
              | some _ => s.sfu.blend
              | none => 1000)
            valveMove := if s.sfu.valveFault then s.sfu.valveMove else
              some ⟨(match s.sfu.ready.head? with | some x => .column x | none => .bypass), 0,
                (match s.sfu.valveMove with | some m => m.homing | none => false)⟩
            failedValve := if s.sfu.valveFault then s.sfu.failedValve else none }
        ∧ (noticeEnabled s.lnk.mask 12 = true → notified (.columnSwitch (some .c) t.sfu.service .fittedColumns
            (match t.sfu.service with | some x => (columnRec s.sfu x).remaining | none => 0)
            (if s.sfu.fill.isOpen then s.sfu.fill.v else 0)) t = true)
        ∧ writeAsked .config t = true ∧ writeAsked .columns t = true
        ∧ t.lnk.awaiting = some ⟨0x04#8, tag, .ok, .config 6#8 2⟩
        ∧ t.rge = s.rge ∧ t.seq = { s.seq with permit := t.seq.permit } ∧ t.dsu = s.dsu ∧ t.ddu = s.ddu
        ∧ t.part = s.part ∧ t.rst.history = s.rst.history)

/-- STANDBY is accepted when every condition of R196 holds, and refused with BUSY when one fails; accepted, the part
enters STANDBY with all else kept, the silence timer stopped and the temperature no longer read. -/
def Obligations.StandbyNeedsThePartAtRest : Prop :=
  ∀ (tag : Byte) (s : State), Listens s →
    ((s.seq.state = .idle ∨ s.seq.state = .ended) ∧ s.rge.state = .idle ∧ s.sfu.regenQ = [] ∧ s.dsu.state = .idle
        ∧ (s.ddu.fitted = false ∨ (s.ddu.count = 0 ∧ s.ddu.homed = true ∧ s.ddu.drive = .stopped))
        ∧ s.wpc.holder = .none ∧ s.wpc.seqDrain = none ∧ s.wpc.burst = none ∧ s.wpc.leak = none
        ∧ s.sfu.valveMove = none ∧ s.czs.move = none ∧ s.dsu.move = none →
      ∃ t, exec (.standby tag) s = .next t
        ∧ t.part = { s.part with state := .standby } ∧ t.lnk.silence = none ∧ t.htc.temp = none ∧ t.htc.output = .off
        ∧ t.lnk.awaiting = some ⟨0x07#8, tag, .ok, .empty⟩
        ∧ t = { s with part := t.part, lnk := t.lnk, htc := t.htc, rst := t.rst, ties := (heard s).ties }
        ∧ t.htc = { s.htc with temp := none, output := .off } ∧ t.rst.history = s.rst.history
        ∧ t.lnk.state = (heard s).lnk.state)
    ∧ (¬ ((s.seq.state = .idle ∨ s.seq.state = .ended) ∧ s.rge.state = .idle ∧ s.sfu.regenQ = [] ∧ s.dsu.state = .idle
        ∧ (s.ddu.fitted = false ∨ (s.ddu.count = 0 ∧ s.ddu.homed = true ∧ s.ddu.drive = .stopped))
        ∧ s.wpc.holder = .none ∧ s.wpc.seqDrain = none ∧ s.wpc.burst = none ∧ s.wpc.leak = none
        ∧ s.sfu.valveMove = none ∧ s.czs.move = none ∧ s.dsu.move = none) →
      exec (.standby tag) s = .next (finish (answering 0x07#8 tag .busy .empty (heard s))))

/-- SHUTDOWN NORMAL (R198): in SHUTTING_DOWN answered OK with no change; in READY it enters SHUTTING_DOWN, aborts a
program that runs, its drain in the place of one that still stands (log entry 52), ends every dose request that is
neither moving nor stroking CANCELLED together, the primes among them (R126, R128), and, with no work to be done, asks
the four writes at once (log entry 12), in the order that log entry 67 has chosen. SHUTDOWN ABRUPT in READY and in
SHUTTING_DOWN (R199, R53): every grant and drain but the flood's goes, heater, pump, diverter and actuator stop, the
dose queue is emptied, a program ends ABORTED without a drain, a FAULTED sequencer stays so, and the four writes are
asked. SHUTDOWN NORMAL beside a regeneration, a dose in progress, a DRY phase and an actuator out of its home (R198).
A brine or rinse stage is abandoned, its column at the head of the regeneration queue; a dwell and an effluent drain
run on (R95). A dose request of either origin with its stroke, homing or move in progress is marked to end with it,
and every other one ends CANCELLED (R126, R128). A program in DRY ends ABORTED at once, hold-pending cleared (log
entry 36), its drying with a retraction or at once (R21, R171). With no drying in progress the actuator is homed
(R173). The engine's ends in the SHUTTING_DOWN of a NORMAL shutdown (R95, R198): the dwell over, the regeneration is
abandoned, its column at the head of the regeneration queue; the effluent drain over, the engine hands its column back
as it does in READY. The engine stays IDLE, no column is handed to it, and with no other work left the four writes are
asked. -/
def Obligations.ShutdownsEndTheWork : Prop :=
  (∀ (tag : Byte) (s : State),
      (Hears s → s.part.state = .shuttingDown → linkSends s = true →
        exec (.shutdownNormal tag) s = .next (finish (answering 0x08#8 tag .ok .empty (heard s))))
      ∧ (Listens s → Rests s →
        (s.seq.state = .idle ∨ s.seq.state = .ended ∨ s.seq.state = .faulted →
          s.dsu.state = .idle → s.dsu.batch = [] → s.dsu.waiting = [] →
          (s.ddu.stage = .none ∨ s.ddu.stage = .done) → s.ddu.drive = .stopped →
          (s.ddu.fitted = false ∨ (s.ddu.count = 0 ∧ s.ddu.homed = true)) → s.wpc.seqDrain = none → s.wpc.leak = none →
          s.rge.state = .idle →
          exec (.shutdownNormal tag) s = .next (finish (answering 0x08#8 tag .ok .empty (outputs (askAllWrites { heard s with
            part := { s.part with state := .shuttingDown, shutdown := .inProgress, abrupt := false, writesAsked := true } })))))
        ∧ (s.seq.state = .idle ∨ s.seq.state = .ended ∨ s.seq.state = .faulted → s.dsu.stroke = none → s.dsu.move = none →
          s.dsu.state ≠ .idle → s.dsu.batch ++ s.dsu.waiting ≠ [] →
          ∃ t, exec (.shutdownNormal tag) s = .next t
            ∧ t.part.state = .shuttingDown ∧ t.dsu.state = .idle ∧ t.dsu.batch = [] ∧ t.dsu.waiting = []
            ∧ t.dsu.stroke = none ∧ t.dsu.move = none ∧ t.dsu.pause = false
            ∧ t.dsu.r1 = s.dsu.r1 ∧ t.dsu.r2 = s.dsu.r2 ∧ t.dsu.r3 = s.dsu.r3 ∧ writeAsked .reservoirs t = true
            ∧ (∀ r, (s.dsu.batch ++ s.dsu.waiting).getLast? = some r →
              noticeEnabled s.lnk.mask 16 = true → notified (.doseDone {
                  channel := r.channel, origin := r.origin, target := r.target, commanded := r.commanded
                  confirmed := r.confirmed, volume := r.confirmed * r.strokeVolume, outcome := .cancelled
                  reason := none }) t = true)
            ∧ t.lnk.awaiting = some ⟨0x08#8, tag, .ok, .empty⟩)
        ∧ (s.seq.state = .holding ∨ s.seq.state = .waitWater ∨ s.seq.state = .suspended
            ∨ (s.seq.state = .running ∧ s.seq.sub ≠ .dry) →
          ∃ t, exec (.shutdownNormal tag) s = .next t
            ∧ t.part.state = .shuttingDown ∧ t.part.shutdown = .inProgress ∧ t.part.abrupt = false
            ∧ t.part.writesAsked = false ∧ t.seq.state = .ending ∧ t.seq.sub = .none ∧ t.seq.holdPending = false
            ∧ t.wpc.seqDrain = some ⟨if s.wpc.sumpEmpty then .runOn 0 else .pumping 0, false⟩
            ∧ t.wpc.drainPump = true ∧ t.htc.request = none ∧ t.htc.output = .off ∧ t.czs.pump = false
            ∧ t.lnk.awaiting = some ⟨0x08#8, tag, .ok, .empty⟩)))
  ∧ (∀ (tag : Byte) (s : State), Hears s → GrantsAgree s → linkSends s = true →
      s.part.state = .ready ∨ s.part.state = .shuttingDown →
      ∃ t, exec (.shutdownAbrupt tag) s = .next t
        ∧ t.part.state = .shuttingDown ∧ t.part.shutdown = .inProgress ∧ t.part.abrupt = true ∧ t.part.writesAsked = true
        ∧ writeAsked .config t = true ∧ writeAsked .faults t = true ∧ writeAsked .columns t = true
        ∧ writeAsked .reservoirs t = true
        ∧ t.wpc.fill = none ∧ t.wpc.regen = none ∧ t.wpc.seqDrain = none ∧ t.wpc.burst = none ∧ t.wpc.leak = none
        ∧ t.wpc.holder = .none ∧ t.wpc.inletValve = false ∧ t.wpc.brineValve = false ∧ t.rge.state = .idle
        ∧ t.wpc.floodReq = s.wpc.floodReq ∧ t.wpc.drainPump = s.wpc.floodReq.isSome
        ∧ t.htc.request = none ∧ t.htc.output = .off ∧ t.czs.pump = false ∧ t.czs.move = none ∧ t.ddu.drive = .stopped
        ∧ t.dsu.state = .idle ∧ t.dsu.batch = [] ∧ t.dsu.waiting = [] ∧ t.dsu.stroke = none ∧ t.dsu.selector = none
        ∧ t.seq.table = s.seq.table ∧ t.seq.count = s.seq.count
        ∧ (s.seq.state = .faulted → t.seq.state = .faulted ∧ t.seq.fault = s.seq.fault)
        ∧ (s.seq.state ≠ .faulted → t.seq.state = .idle)
        ∧ ((programRuns s = true) → t.seq.summary.outcome = .aborted)
        ∧ t.lnk.awaiting = some ⟨0x08#8, tag, .ok, .empty⟩)
  ∧ (∀ (tag : Byte) (s : State), Listens s → Sound s →
      ∃ t, exec (.shutdownNormal tag) s = .next t
        ∧ t.part.state = .shuttingDown ∧ t.part.shutdown = .inProgress ∧ t.part.abrupt = false
        ∧ t.lnk.awaiting = some ⟨0x08#8, tag, .ok, .empty⟩ ∧ t.cfg = s.cfg ∧ t.rst.history = s.rst.history
        ∧ (s.seq.extension = none →
          (s.rge.state = .brineWait ∨ s.rge.state = .brineDraw ∨ s.rge.state = .rinseWait ∨ s.rge.state = .rinse →
            s.rge.timeout = .none → ∀ col, s.rge.column = some col →
            t.rge = { lidOpen := s.rge.lidOpen, saltLow := s.rge.saltLow } ∧ t.sfu.regenQ = col :: s.sfu.regenQ
              ∧ t.wpc.regen = none ∧ t.wpc.burst = s.wpc.burst ∧ t.wpc.brineValve = false ∧ t.wpc.inletValve = false
              ∧ writeAsked .columns t = true
              ∧ (noticeEnabled s.lnk.mask 14 = true → notified (.regenDone {
                    column := col, outcome := .abandoned, remaining := (columnRec s.sfu col).remaining
                    place := .regenQueue, regens := (columnRec s.sfu col).regens, brineDrawn := s.rge.brineDrawn
                    rinseDelivered := s.rge.rinseDelivered, timeout := .none }) t = true))
          ∧ (s.rge.state = .dwell ∨ s.rge.state = .effluentDrain →
            t.rge = s.rge ∧ t.sfu.regenQ = s.sfu.regenQ ∧ t.wpc.regen = none ∧ t.part.writesAsked = false
              ∧ t.wpc.burst = (if s.wpc.holder = .fill
                  then s.wpc.burst.map (fun b => if b = .waiting then .running 0 else b) else s.wpc.burst))
          ∧ (s.rge.state = .idle → s.sfu.fill.isOpen = false → (∀ q, s.wpc.fill = some q → q.kind = .main) →
            t.rge = s.rge ∧ t.sfu.regenQ = s.sfu.regenQ))
        ∧ (s.dsu.stroke.isSome = true ∨ s.dsu.move.isSome = true → s.dsu.state = .serving ∨ s.dsu.state = .paused →
          t.dsu = { s.dsu with
              batch := (s.dsu.batch.filter (fun r => r.state == .active)).map (fun r => { r with cancel := true })
              waiting := (s.dsu.waiting.filter (fun r => r.state == .active)).map (fun r => { r with cancel := true })
              pause := s.dsu.pause && (s.dsu.batch ++ s.dsu.waiting).isEmpty }
            ∧ t.part.writesAsked = false
            ∧ (∀ r, ((s.dsu.batch ++ s.dsu.waiting).filter (fun r => r.state != .active)).getLast? = some r →
              writeAsked .reservoirs t = true
                ∧ (noticeEnabled s.lnk.mask 16 = true → notified (.doseDone (doseReport r .cancelled none)) t = true)))
        ∧ (runningIn s .dry = true →
          t.seq = { s.seq with
              state := .ended, sub := .none, holdPending := false
              summary := { s.seq.summary with outcome := .aborted, dose := t.seq.summary.dose }
              placed := t.seq.placed, permit := t.seq.permit }
            ∧ (noticeEnabled s.lnk.mask 7 = true → notified (.programEnd t.seq.summary) t = true)
            ∧ t.wpc.seqDrain = s.wpc.seqDrain
            ∧ (s.ddu.stage = .dwell ∨ s.ddu.stage = .waitCool →
              t.ddu.stage = .done ∧ t.ddu.awaited = false
                ∧ t.ddu.outcome = (if s.ddu.outcome = .none then .ended else s.ddu.outcome))
            ∧ (s.ddu.stage = .opening ∨ s.ddu.stage = .ajar → s.pins.home = false →
              t.ddu = { s.ddu with
                  stage := .retracting, stageTime := 0, awaited := false, retryPause := none, pendingStart := none
                  dropPending := false, drive := .inward, stall := some 0
                  outcome := if s.ddu.outcome = .none then .ended else s.ddu.outcome }
                ∧ t.part.writesAsked = false)
            ∧ (s.ddu.stage = .retracting → t.ddu.stage = .retracting ∧ t.ddu.drive = s.ddu.drive ∧ t.ddu.awaited = false
              ∧ t.ddu.pendingStart = none))
        ∧ (s.seq.state = .idle ∨ s.seq.state = .ended ∨ s.seq.state = .faulted ∨ s.seq.state = .ending →
          t.seq = { s.seq with summary := t.seq.summary, placed := t.seq.placed, permit := t.seq.permit }
            ∧ t.wpc.seqDrain = s.wpc.seqDrain)
        ∧ (runningIn s .dry = false → s.ddu.stage = .none ∨ s.ddu.stage = .done → s.ddu.fitted = true →
          s.ddu.count ≠ 0 ∨ s.ddu.homed = false →
          (s.pins.home = false → t.ddu = { s.ddu with drive := .inward, stall := some 0 } ∧ t.part.writesAsked = false)
          ∧ (s.pins.home = true → t.ddu = { s.ddu with count := 0, homed := true, drive := .stopped, stall := none })))
  ∧ (∀ (s : State), s.part.powered = true → s.part.state = .shuttingDown → s.part.abrupt = false → s.reports = [] →
      s.part.writesAsked = false → GrantsAgree s → WaterKept s → FloodHeld s → DryingKept s → s.wpc.fill = none →
      ∀ col, s.rge.column = some col → (col = .c → s.sfu.colC.isSome = true) → s.seq.state ≠ .running →
      (s.rge.state = .dwell → s.rge.timeout = .none →
        ∃ t, exec .regenDwellExpiry s = .next t
          ∧ t.rge = { lidOpen := s.rge.lidOpen, saltLow := s.rge.saltLow } ∧ t.sfu = { s.sfu with regenQ := col :: s.sfu.regenQ }
          ∧ t.wpc.regen = none ∧ writeAsked .columns t = true ∧ t.part = { s.part with writesAsked := t.part.writesAsked }
          ∧ (noticeEnabled s.lnk.mask 14 = true → notified (.regenDone {
                column := col, outcome := .abandoned, remaining := (columnRec s.sfu col).remaining, place := .regenQueue
                regens := (columnRec s.sfu col).regens, brineDrawn := s.rge.brineDrawn
                rinseDelivered := s.rge.rinseDelivered, timeout := .none }) t = true)
          ∧ ((s.seq.state = .idle ∨ s.seq.state = .ended ∨ s.seq.state = .faulted) ∧ s.wpc.seqDrain = none
              ∧ s.dsu.state = .idle ∧ s.ddu.drive = .stopped ∧ s.wpc.leak = none →
            t.part.writesAsked = true ∧ writeAsked .config t = true ∧ writeAsked .faults t = true
              ∧ writeAsked .reservoirs t = true)
          ∧ (s.seq.state = .ending ∨ s.wpc.seqDrain.isSome = true ∨ s.dsu.state ≠ .idle ∨ s.ddu.drive ≠ .stopped
              ∨ s.wpc.leak.isSome = true → t.part.writesAsked = false)
          ∧ t.dsu = s.dsu ∧ t.ddu = s.ddu ∧ t.seq = { s.seq with permit := t.seq.permit })
      ∧ (s.rge.state = .effluentDrain → (∃ n, s.wpc.burst = some (.running n)) →
        ∃ t, exec .drainBurstExpiry s = .next t
          ∧ t.rge.state = .idle ∧ t.rge.column = none ∧ t.wpc.burst = none ∧ writeAsked .columns t = true
          ∧ (s.rge.timeout = .none → s.sfu.valveFault = true ∨ (∃ x, s.sfu.service = some x ∧ x ≠ col
                ∧ (columnRec s.sfu x).exhausted = false) → ∀ res, s.rge.result = some res →
            s.cfg.reserve < min res.remaining (s.cfg.nominal * 1000000) →
            t.sfu = { setColumnRec s.sfu col {
                  remaining := min res.remaining (s.cfg.nominal * 1000000), exhausted := false
                  regens := min 65535 ((columnRec s.sfu col).regens + 1), degraded := res.degraded } with
                ready := s.sfu.ready ++ [col] })
          ∧ (s.rge.timeout ≠ .none → s.sfu.ready = [] → t.sfu = { s.sfu with faulted := s.sfu.faulted ++ [col] })
          ∧ ((s.seq.state = .idle ∨ s.seq.state = .ended ∨ s.seq.state = .faulted) ∧ s.wpc.seqDrain = none
              ∧ s.dsu.state = .idle ∧ s.ddu.drive = .stopped ∧ s.wpc.leak = none →
            t.part.writesAsked = true ∧ writeAsked .config t = true ∧ writeAsked .faults t = true
              ∧ writeAsked .reservoirs t = true)
          ∧ t.part = { s.part with writesAsked := t.part.writesAsked }
          ∧ t.dsu = s.dsu ∧ t.ddu = s.ddu ∧ t.seq = { s.seq with permit := t.seq.permit }))

/-! ## Requests: programs -/

/-- LOAD PHASE (R2, R4): refused with WRONG_STATE in ENDING and at or below the current index of a running program,
with BAD_FIELD or NOT_FITTED for what the form and the fit tests find, with BAD_PROGRAM for a DRY record below the
last phase of a running program; otherwise the slot holds the record with each field limited to its range, all else is
left, and the reply is CLAMPED when a field was limited. SET PHASE COUNT and CLEAR PROGRAM (R3, R4): at rest any count
up to 12 is stored; in a running program the count must leave the current phase inside and every later phase valid,
and in ENDING it is refused with WRONG_STATE; CLEAR PROGRAM empties the table at rest only. In a drain extension (R30)
an accepted edit that leaves a later phase other than DRY leaves the extension as it stands; one that leaves none ends
it, and with it the drain and the phase, whose boundary reads the program as edited (R18), a next phase before an open
door as log entry 14 has it. The end of an extension is stated for a sound part. -/
def Obligations.TheProgramTableIsEdited : Prop :=
  (∀ (tag i : Byte) (p : PhasePayload) (s : State), Listens s →
      (s.seq.state = .ending ∨ (editing s = true ∧ i.toNat ≤ s.seq.idx) →
        exec (.loadPhase tag i p) s = .next (finish (answering 0x10#8 tag .wrongState .empty (heard s))))
      ∧ (s.seq.state = .idle ∨ s.seq.state = .ended ∨ s.seq.state = .faulted
          ∨ (editing s = true ∧ s.seq.idx < i.toNat) →
        (11 < i.toNat ∨ 4 < p.kind.toNat
            ∨ (p.kind.toNat < 4 ∧ (2 < p.refCount.toNat
              ∨ (1 ≤ p.refCount.toNat ∧ channelOfCode p.ref1.channel = none)
              ∨ (p.refCount.toNat = 2 ∧ (channelOfCode p.ref2.channel = none ∨ p.ref1.channel = p.ref2.channel))
              ∨ (p.weight1 = 0#8 ∧ p.weight2 = 0#8 ∧ p.weight3 = 0#8 ∧ p.weight4 = 0#8))) →
          exec (.loadPhase tag i p) s = .next (finish (answering 0x10#8 tag .badField .empty (heard s))))
        ∧ (i.toNat ≤ 11 → p.kind = 4#8 →
          (editing s = true ∧ i.toNat + 1 < s.seq.count →
            exec (.loadPhase tag i p) s = .next (finish (answering 0x10#8 tag .badProgram (.offending i.toNat) (heard s))))
          ∧ (¬ (editing s = true ∧ i.toNat + 1 < s.seq.count) →
            ∀ q, q = { s.seq with
                table := (s.seq.table.setIfInBounds i.toNat
                  (some (.dry (min 3600 p.dwell.toNat) (min 3600 p.openTime.toNat)))) } →
            ∀ status, status = (if 3600 < p.dwell.toNat ∨ 3600 < p.openTime.toNat then Status.clamped else .ok) →
            ((Extending s → washLater q) →
              exec (.loadPhase tag i p) s = .next (finish (answering 0x10#8 tag status (.index i)
                (onSeq (fun _ => q) (heard s)))))
            ∧ (Sound s → Extending s → ¬ washLater q →
              ∃ t, exec (.loadPhase tag i p) s = .next t
                ∧ t.lnk.awaiting = some ⟨0x10#8, tag, status, .index i⟩ ∧ DrainEndedByEdit q s t)))
        ∧ (i.toNat ≤ 11 → ∀ k, kindOfCode p.kind = some (.wash k) → ∀ refs, refsOf p = some refs →
          ¬ (p.weight1 = 0#8 ∧ p.weight2 = 0#8 ∧ p.weight3 = 0#8 ∧ p.weight4 = 0#8) →
          (s.dsu.r3.fitted = false ∧ refs.any (fun r => r.1 == .d3) = true →
            exec (.loadPhase tag i p) s = .next (finish (answering 0x10#8 tag .notFitted .empty (heard s))))
          ∧ (¬ (s.dsu.r3.fitted = false ∧ refs.any (fun r => r.1 == .d3) = true) → (Extending s → washLater s.seq) →
            ∃ t, exec (.loadPhase tag i p) s = .next t
              ∧ t.seq.table[i.toNat]? = some (some (.wash k {
                  fillVolume := max 1500 (min 6000 p.fillVolume.toNat)
                  target := if p.target = 0#8 then 0 else max 30 (min 75 p.target.toNat)
                  heatLimit := max 60 (min 3600 p.heatLimit.toNat)
                  holdTime := min 3600 p.holdTime.toNat
                  weights := ⟨min 7 p.weight1.toNat, min 7 p.weight2.toNat, min 7 p.weight3.toNat, min 7 p.weight4.toNat⟩
                  slotLength := max 10 (min 60 p.slotLength.toNat)
                  refs := refs.map fun r => ⟨r.1, min 400 r.2.1, max 10 (min 600 r.2.2)⟩
                  drain := p.flags.getLsbD 0
                  sample := p.flags.getLsbD 1 }))
              ∧ (∀ j : Fin 12, j.val ≠ i.toNat → t.seq.table[j] = s.seq.table[j])
              ∧ t = finish (answering 0x10#8 tag
                  (if t.seq.table[i.toNat]? = some (some (.wash k (rawWash p refs))) then .ok else .clamped) (.index i)
                  { heard s with seq := { s.seq with table := t.seq.table } })))))
  ∧ (∀ (tag n : Byte) (s : State), Listens s →
      (12 < n.toNat → exec (.setPhaseCount tag n) s = .next (finish (answering 0x12#8 tag .badField .empty (heard s))))
      ∧ (n.toNat ≤ 12 → s.seq.state = .idle ∨ s.seq.state = .ended ∨ s.seq.state = .faulted →
        exec (.setPhaseCount tag n) s = .next (finish (answering 0x12#8 tag .ok (.count n)
          (onSeq (fun q => { q with count := n.toNat }) (heard s)))))
      ∧ (n.toNat ≤ 12 → s.seq.state = .ending →
        exec (.setPhaseCount tag n) s = .next (finish (answering 0x12#8 tag .wrongState .empty (heard s))))
      ∧ (n.toNat ≤ 12 → editing s = true →
        (n.toNat ≤ s.seq.idx + 1 →
          exec (.setPhaseCount tag n) s = .next (finish (answering 0x12#8 tag .wrongState .empty (heard s))))
        ∧ (s.seq.idx + 1 < n.toNat →
          (∀ j : Fin 12, s.seq.idx < j.val → j.val < n.toNat → slotBad s.dsu.r3.fitted s.seq n.toNat j.val = false) →
          ∀ q, q = { s.seq with count := n.toNat } →
          ((Extending s → washLater q) →
            exec (.setPhaseCount tag n) s = .next (finish (answering 0x12#8 tag .ok (.count n)
              (onSeq (fun _ => q) (heard s)))))
          ∧ (Sound s → Extending s → ¬ washLater q →
            ∃ t, exec (.setPhaseCount tag n) s = .next t
              ∧ t.lnk.awaiting = some ⟨0x12#8, tag, .ok, .count n⟩ ∧ DrainEndedByEdit q s t))
        ∧ (s.seq.idx + 1 < n.toNat → ∀ j : Fin 12, s.seq.idx < j.val → j.val < n.toNat →
          slotBad s.dsu.r3.fitted s.seq n.toNat j.val = true →
          (∀ k : Fin 12, s.seq.idx < k.val → k.val < j.val → slotBad s.dsu.r3.fitted s.seq n.toNat k.val = false) →
          exec (.setPhaseCount tag n) s = .next (finish (answering 0x12#8 tag .badProgram (.offending j.val) (heard s)))))
      ∧ (s.seq.state = .idle ∨ s.seq.state = .ended ∨ s.seq.state = .faulted →
        exec (.clearProgram tag) s = .next (finish (answering 0x13#8 tag .ok .empty
          (onSeq (fun q => { q with table := Vector.replicate 12 none, count := 0 }) (heard s)))))
      ∧ (s.seq.state ≠ .idle → s.seq.state ≠ .ended → s.seq.state ≠ .faulted →
        exec (.clearProgram tag) s = .next (finish (answering 0x13#8 tag .wrongState .empty (heard s)))))

/-- START PROGRAM (R5, R6, R8, R9): refused with WRONG_STATE while a program runs or a fault is held, with BAD_PROGRAM
and the first offending index for a program that is not valid; accepted, the run begins with phase 0: a cleared
summary, the default soil index, PHASE_BEGIN, and the main fill granted with its counts from 0, or SUSPENDED before an
open door, where PHASE_BEGIN and the phase's count come at the entry (log entry 14), or the drying of a DRY phase:
DWELL, or, with no dwell, WAIT_COOL and OPENING (R162 to R165); a program over at once before an open door or with no
time to dry; a start that waits for the end of a retraction (R169). The accepted start is stated for a sound part.
START PROGRAM meets the inlet as it stands (R6, R9): the main fill of a wash phase 0 is granted with a held BRINE or
RINSE grant pre-empted (R38), waits behind a drain burst (R49), ends at once under the high-level switch (R41), or,
while the inlet is inhibited by a flood's run-on, is refused, which faults the program with FLOOD (R38, R26, log entry
15). An engine's request that holds the inlet gives way to an open door too, since SUSPENDED withdraws the permit
(R29, R39). -/
def Obligations.StartProgramBeginsPhaseZero : Prop :=
  (∀ (tag : Byte) (s : State), Listens s →
      (s.seq.state ≠ .idle → s.seq.state ≠ .ended →
        exec (.startProgram tag) s = .next (finish (answering 0x14#8 tag .wrongState .empty (heard s))))
      ∧ (s.seq.state = .idle ∨ s.seq.state = .ended →
        (s.seq.count = 0 →
          exec (.startProgram tag) s = .next (finish (answering 0x14#8 tag .badProgram (.offending 0) (heard s))))
        ∧ (∀ j : Fin 12, j.val < s.seq.count → slotBad s.dsu.r3.fitted s.seq s.seq.count j.val = true →
          (∀ k : Fin 12, k.val < j.val → slotBad s.dsu.r3.fitted s.seq s.seq.count k.val = false) →
          exec (.startProgram tag) s = .next (finish (answering 0x14#8 tag .badProgram (.offending j.val) (heard s))))
        ∧ (Rests s → Sound s → 0 < s.seq.count → s.wpc.inhibit = false → s.wpc.burst = none → s.wpc.highLevel = false →
          (∀ k : Fin 12, k.val < s.seq.count → slotBad s.dsu.r3.fitted s.seq s.seq.count k.val = false) →
          ∃ t, exec (.startProgram tag) s = .next t
            ∧ t.seq.idx = 0 ∧ t.seq.fault = none ∧ t.seq.holdPending = false ∧ t.seq.soil = s.cfg.defaultSoil
            ∧ t.seq.table = s.seq.table ∧ t.seq.count = s.seq.count
            ∧ t.lnk.awaiting = some ⟨0x14#8, tag, .ok, .empty⟩
            ∧ t.part = s.part ∧ t.cfg = s.cfg ∧ t.dsu = s.dsu
            ∧ (∀ k w, phaseAt s.seq 0 = some (.wash k w) →
              (noticeEnabled s.lnk.mask 4 = true → notified (.phaseBegin 0 (.wash k)) t = true)
              ∧ (s.ddu.doorOpen = true →
                t.seq.state = .suspended ∧ t.seq.remembered = .sub .fill ∧ t.seq.fillBegun = false ∧ t.wpc.fill = none
                  ∧ t.seq.summary = { phasesRun := 1 })
              ∧ (s.ddu.doorOpen = false →
                t.seq.state = .running ∧ t.seq.sub = .fill ∧ t.seq.summary = { phasesRun := 1 }
                  ∧ t.wpc.holder = .fill ∧ t.wpc.fill = some ⟨w.fillVolume, .main, true⟩ ∧ t.wpc.inletValve = true
                  ∧ t.wpc.brineValve = false ∧ t.wpc.grantCount = 0 ∧ t.wpc.residue = 0 ∧ t.wpc.latchedK = s.cfg.k
                  ∧ t.wpc.fillTimer = some 0 ∧ t.sfu.fill.isOpen = true ∧ t.sfu.fill.v = 0 ∧ t.sfu.fill.g = 0
                  ∧ t.sfu.hRaw = s.cfg.hRaw ∧ t.sfu.blend = blendOf s.cfg.hRaw s.cfg.hTgt))
            ∧ (∀ d o, phaseAt s.seq 0 = some (.dry d o) →
              (noticeEnabled s.lnk.mask 4 = true → notified (.phaseBegin 0 .dry) t = true)
              ∧ (s.ddu.stage = .retracting →
                t.seq.state = .running ∧ t.seq.sub = .dry ∧ t.seq.summary = { phasesRun := 1 }
                  ∧ t.ddu = { s.ddu with pendingStart := some ⟨d, o⟩, dropPending := false })
              ∧ (s.ddu.stage ≠ .retracting → t.ddu.dwell = d ∧ t.ddu.openTime = o ∧ t.ddu.pendingStart = none
                ∧ t.ddu.formOpen = opensDoor s.cfg s.ddu ∧ t.ddu.count = s.ddu.count)
              ∧ (s.ddu.stage ≠ .retracting → s.ddu.doorOpen = true ∨ (d = 0 ∧ o = 0 ∧ opensDoor s.cfg s.ddu = false) →
                t.seq.state = .ended ∧ t.seq.sub = .none ∧ t.seq.summary = { phasesRun := 1, outcome := .completed }
                  ∧ t.ddu.stage = .done ∧ t.ddu.awaited = false
                  ∧ t.ddu.outcome = (if s.ddu.doorOpen then .openedByUser else .completedClosed)
                  ∧ (noticeEnabled s.lnk.mask 5 = true → notified (.phaseEnd 0 .dry) t = true)
                  ∧ (noticeEnabled s.lnk.mask 7 = true → notified (.programEnd t.seq.summary) t = true))
              ∧ (s.ddu.stage ≠ .retracting → s.ddu.doorOpen = false → ¬ (d = 0 ∧ o = 0 ∧ opensDoor s.cfg s.ddu = false) →
                t.seq.state = .running ∧ t.seq.sub = .dry ∧ t.seq.summary = { phasesRun := 1 } ∧ t.ddu.awaited = true
                  ∧ t.ddu.outcome = .none
                  ∧ (0 < d ∨ opensDoor s.cfg s.ddu = false →
                    t.ddu.stage = .dwell ∧ t.ddu.stageTime = (if opensDoor s.cfg s.ddu then d else d + o))
                  ∧ (d = 0 → opensDoor s.cfg s.ddu = true →
                    (coolEnough t = true → t.ddu.stage = .opening ∧ t.ddu.drive = .outward)
                    ∧ (coolEnough t = false → t.ddu.stage = .waitCool ∧ t.ddu.drive = .stopped)))))))
  ∧ (∀ (tag : Byte) (s : State), Listens s → Sound s → s.seq.state = .idle ∨ s.seq.state = .ended → 0 < s.seq.count →
      (∀ k : Fin 12, k.val < s.seq.count → slotBad s.dsu.r3.fitted s.seq s.seq.count k.val = false) →
      ∀ k w, phaseAt s.seq 0 = some (.wash k w) →
      s.ddu.doorOpen = true ∨ s.wpc.inhibit = true ∨ s.wpc.highLevel = false ∨ 0 < w.holdTime →
      ∃ t, exec (.startProgram tag) s = .next t
        ∧ t.seq.idx = 0 ∧ t.seq.holdPending = false ∧ t.seq.soil = s.cfg.defaultSoil
        ∧ t.seq.summary.phasesRun = 1 ∧ t.seq.table = s.seq.table ∧ t.seq.count = s.seq.count
        ∧ (noticeEnabled s.lnk.mask 4 = true → notified (.phaseBegin 0 (.wash k)) t = true)
        ∧ (s.ddu.doorOpen = true → t.seq.state = .suspended ∧ t.seq.remembered = .sub .fill ∧ t.seq.fillBegun = false
          ∧ t.wpc.fill = none)
        ∧ (s.ddu.doorOpen = false → MainFillAsked w { s with seq := { s.seq with fault := none } } t)
        ∧ (s.rge.state ≠ .idle → EngineGivesWay s t) ∧ t.lnk.awaiting = some ⟨0x14#8, tag, .ok, .empty⟩
        ∧ t.rst.history = s.rst.history ∧ t.part = s.part ∧ t.cfg = s.cfg ∧ t.ddu = s.ddu)

/-- HOLD and CONTINUE (R19, R20): HOLD sets hold-pending in a running program; CONTINUE clears it, and from HOLDING
enters the next phase, or SUSPENDED before an open door, where PHASE_BEGIN and the phase's count come at the entry
(log entry 14); in every other state both are refused with WRONG_STATE. CONTINUE from HOLDING (R20) beside a
regeneration, a drain burst, a high-level switch that reads HIGH or an inhibited inlet (which faults the program, log
entry 15), into a wash phase or a DRY phase (R8, R9, R17, R38, R39, R41, R49). -/
def Obligations.HoldAndContinue : Prop :=
  (∀ (tag : Byte) (s : State), Listens s →
      (s.seq.state = .running ∨ s.seq.state = .suspended ∨ s.seq.state = .waitWater →
        exec (.hold tag) s = .next (finish (answering 0x15#8 tag .ok .empty
          (onSeq (fun q => { q with holdPending := true }) (heard s))))
        ∧ exec (.continueProgram tag) s = .next (finish (
            if s.seq.holdPending then answering 0x16#8 tag .ok .empty (onSeq (fun q => { q with holdPending := false }) (heard s))
            else answering 0x16#8 tag .wrongState .empty (heard s))))
      ∧ (s.seq.state = .idle ∨ s.seq.state = .ended ∨ s.seq.state = .ending ∨ s.seq.state = .faulted →
        exec (.hold tag) s = .next (finish (answering 0x15#8 tag .wrongState .empty (heard s)))
        ∧ exec (.continueProgram tag) s = .next (finish (answering 0x16#8 tag .wrongState .empty (heard s))))
      ∧ (s.seq.state = .holding →
        exec (.hold tag) s = .next (finish (answering 0x15#8 tag .ok .empty (heard s)))
        ∧ (Rests s → s.wpc.inhibit = false → s.wpc.burst = none → s.wpc.highLevel = false →
          ∀ k w, phaseAt s.seq (s.seq.idx + 1) = some (.wash k w) →
          ∃ t, exec (.continueProgram tag) s = .next t
            ∧ t.seq.idx = s.seq.idx + 1 ∧ t.seq.summary.phasesRun = s.seq.summary.phasesRun + 1
            ∧ t.seq.table = s.seq.table ∧ t.seq.count = s.seq.count ∧ t.seq.soil = s.seq.soil
            ∧ t.part = s.part ∧ t.cfg = s.cfg ∧ t.dsu = s.dsu ∧ t.ddu = s.ddu
            ∧ (noticeEnabled s.lnk.mask 4 = true → notified (.phaseBegin (s.seq.idx + 1) (.wash k)) t = true)
            ∧ (s.ddu.doorOpen = true → t.seq.state = .suspended ∧ t.seq.remembered = .sub .fill ∧ t.wpc.fill = none)
            ∧ (s.ddu.doorOpen = false →
              t.seq.state = .running ∧ t.seq.sub = .fill ∧ t.wpc.holder = .fill
                ∧ t.wpc.fill = some ⟨w.fillVolume, .main, true⟩ ∧ t.wpc.grantCount = 0 ∧ t.wpc.latchedK = s.cfg.k)
            ∧ t.lnk.awaiting = some ⟨0x16#8, tag, .ok, .empty⟩)))
  ∧ (∀ (tag : Byte) (s : State), Listens s → Sound s → s.seq.state = .holding →
      (∀ k w, phaseAt s.seq (s.seq.idx + 1) = some (.wash k w) →
        s.ddu.doorOpen = true ∨ s.wpc.inhibit = true ∨ s.wpc.highLevel = false ∨ 0 < w.holdTime →
        ∃ t, exec (.continueProgram tag) s = .next t
          ∧ t.seq.idx = s.seq.idx + 1 ∧ t.seq.summary.phasesRun = s.seq.summary.phasesRun + 1
          ∧ (noticeEnabled s.lnk.mask 4 = true → notified (.phaseBegin (s.seq.idx + 1) (.wash k)) t = true)
          ∧ (s.ddu.doorOpen = true → t.seq.state = .suspended ∧ t.seq.remembered = .sub .fill ∧ t.seq.fillBegun = false
            ∧ t.wpc.fill = none)
          ∧ (s.ddu.doorOpen = false → MainFillAsked w s t)
          ∧ (s.rge.state ≠ .idle → EngineGivesWay s t) ∧ t.lnk.awaiting = some ⟨0x16#8, tag, .ok, .empty⟩
          ∧ t.rst.history = s.rst.history ∧ t.part = s.part ∧ t.cfg = s.cfg ∧ t.ddu = s.ddu)
      ∧ (∀ d o, phaseAt s.seq (s.seq.idx + 1) = some (.dry d o) → s.ddu.stage ≠ .retracting →
        ∃ t, exec (.continueProgram tag) s = .next t
          ∧ t.seq.idx = s.seq.idx + 1 ∧ t.seq.summary.phasesRun = s.seq.summary.phasesRun + 1
          ∧ (noticeEnabled s.lnk.mask 4 = true → notified (.phaseBegin (s.seq.idx + 1) .dry) t = true)
          ∧ t.ddu.dwell = d ∧ t.ddu.openTime = o ∧ t.ddu.formOpen = opensDoor s.cfg s.ddu
          ∧ (s.ddu.doorOpen = false → 0 < d →
            t.seq.state = .running ∧ t.seq.sub = .dry ∧ t.ddu.stage = .dwell ∧ t.ddu.awaited = true
              ∧ t.ddu.stageTime = (if opensDoor s.cfg s.ddu then d else d + o))
          ∧ (s.ddu.doorOpen = true →
            t.seq.state = .ended ∧ t.seq.summary.outcome = .completed ∧ t.ddu.stage = .done ∧ t.ddu.outcome = .openedByUser
              ∧ (noticeEnabled s.lnk.mask 7 = true → notified (.programEnd t.seq.summary) t = true))
          ∧ t.lnk.awaiting = some ⟨0x16#8, tag, .ok, .empty⟩ ∧ t.wpc.fill = none ∧ t.dsu = s.dsu
          ∧ t.rst.history = s.rst.history ∧ t.part = s.part))

/-- ABORT PROGRAM (R21, R22): outside DRY the heat request, the fill, the circulation and the timers go, hold-pending
is cleared, the pause of the dosing with a request of the sequencer that is cancelled (R126), and the abort drain is
placed in ENDING, in the place of one that still stands (log entry 52); in DRY the program ENDS ABORTED at once with
PROGRAM_END; with no program to abort it is refused with WRONG_STATE. RESET UNIT SEQUENCER (R32): a program ends
without a drain, ABORTED, with PROGRAM_END, in IDLE at index 0; from ENDED the state becomes IDLE, the summary is kept
and a standing recovery drain is withdrawn (R50); IDLE stays, with a standing drain request (log entry 41); FAULTED
stays with its code and loses a standing recovery drain (R50, log entry 41). The cancellation of R126 in ABORT PROGRAM
(R21), RESET UNIT SEQUENCER (R32) and, for a program-ending fault, in a flood (R26): QUEUED requests of the sequencer
end CANCELLED, an ACTIVE one with a stroke, homing or move in progress is marked to end with it, the host's primes
stay and are served on, and the pause is cleared. -/
def Obligations.AbortAndResetEndTheProgram : Prop :=
  (∀ (tag : Byte) (s : State), Listens s → GrantsAgree s →
      (s.seq.state = .idle ∨ s.seq.state = .ended ∨ s.seq.state = .ending ∨ s.seq.state = .faulted →
        exec (.abortProgram tag) s = .next (finish (answering 0x17#8 tag .wrongState .empty (heard s))))
      ∧ (s.seq.state = .holding ∨ s.seq.state = .suspended ∨ s.seq.state = .waitWater
          ∨ (s.seq.state = .running ∧ s.seq.sub ≠ .dry) →
        ∃ t, exec (.abortProgram tag) s = .next t
          ∧ t.seq.state = .ending ∧ t.seq.sub = .none ∧ t.seq.holdPending = false ∧ t.seq.waterWait = none
          ∧ t.seq.settling = none ∧ t.seq.extension = none ∧ t.seq.remembered = .none ∧ t.seq.idx = s.seq.idx
          ∧ t.seq.summary = { s.seq.summary with dose := t.seq.summary.dose } ∧ t.seq.permit = false
          ∧ t.seq.table = s.seq.table ∧ t.seq.count = s.seq.count ∧ t.seq.soil = s.seq.soil ∧ t.seq.fault = s.seq.fault
          ∧ t.wpc.seqDrain = some ⟨if s.wpc.sumpEmpty then .runOn 0 else .pumping 0, false⟩ ∧ t.wpc.drainPump = true
          ∧ t.wpc.fill = none ∧ t.wpc.holder = .none ∧ t.sfu.fill.isOpen = false
          ∧ (s.sfu.fill.isOpen = true → t.sfu.fill.hFill = deliveredHardness s.sfu.fill.g s.sfu.fill.v s.sfu.hRaw)
          ∧ t.htc.request = none ∧ t.htc.output = .off ∧ t.czs.pump = false
            ∧ t.dsu.pause = (s.dsu.pause && !(s.dsu.batch ++ s.dsu.waiting).any ofSequencer)
          ∧ t.lnk.awaiting = some ⟨0x17#8, tag, .ok, .empty⟩
          ∧ t.part = s.part ∧ t.cfg = s.cfg ∧ t.ddu = s.ddu ∧ t.rst.history = s.rst.history)
      ∧ (s.seq.state = .running → s.seq.sub = .dry → Rests s →
        ∃ t, exec (.abortProgram tag) s = .next t
          ∧ t.seq = { s.seq with
              state := .ended, sub := .none, holdPending := false
              summary := { s.seq.summary with outcome := .aborted }, permit := t.seq.permit }
          ∧ (noticeEnabled s.lnk.mask 7 = true → notified (.programEnd t.seq.summary) t = true)
          ∧ (t.ddu.stage = .none ∨ t.ddu.stage = .done ∨ t.ddu.stage = .retracting) ∧ t.ddu.awaited = false
          ∧ t.wpc.seqDrain = s.wpc.seqDrain ∧ t.lnk.awaiting = some ⟨0x17#8, tag, .ok, .empty⟩
          ∧ t.cfg = s.cfg ∧ t.dsu = s.dsu ∧ t.sfu = s.sfu ∧ t.rge = s.rge))
  ∧ (∀ (tag : Byte) (s : State), Listens s →
      (programRuns s = true →
        ∃ t, exec (.resetUnitSequencer tag) s = .next t
          ∧ t.seq.state = .idle ∧ t.seq.sub = .none ∧ t.seq.idx = 0 ∧ t.seq.holdPending = false
          ∧ t.seq.summary = { s.seq.summary with outcome := .aborted, dose := t.seq.summary.dose }
          ∧ t.seq.table = s.seq.table ∧ t.seq.count = s.seq.count ∧ t.seq.soil = s.seq.soil
          ∧ t.seq.permit = s.wpc.sumpEmpty ∧ t.wpc.seqDrain = none
          ∧ (runningIn s .dry = false →
            t.wpc.fill = none ∧ t.htc.request = none ∧ t.htc.output = .off ∧ t.czs.pump = false)
          ∧ (noticeEnabled s.lnk.mask 7 = true → notified (.programEnd t.seq.summary) t = true)
          ∧ t.lnk.awaiting = some ⟨0x09#8, tag, .ok, .unit 1#8⟩ ∧ t.part.state = s.part.state ∧ t.cfg = s.cfg)
      ∧ (Rests s →
        (s.seq.state = .ended → exec (.resetUnitSequencer tag) s = .next (finish (answering 0x09#8 tag .ok (.unit 1#8)
          (outputs (onSeq (fun q => { q with state := .idle, idx := 0 })
            (onWpc (fun w => { w with seqDrain := none }) (heard s)))))))
        ∧ (s.seq.state = .idle →
          exec (.resetUnitSequencer tag) s = .next (finish (answering 0x09#8 tag .ok (.unit 1#8) (outputs (heard s)))))
        ∧ (s.seq.state = .faulted →
          exec (.resetUnitSequencer tag) s = .next (finish (answering 0x09#8 tag .ok (.unit 1#8)
            (outputs (onWpc (fun w => { w with seqDrain := none }) (heard s))))))))
  ∧ (∀ (tag : Byte) (s : State),
      (Listens s → GrantsAgree s → s.seq.state = .holding ∨ s.seq.state = .suspended ∨ s.seq.state = .waitWater
          ∨ (s.seq.state = .running ∧ s.seq.sub ≠ .dry) →
        ∃ t, exec (.abortProgram tag) s = .next t ∧ DosesCancelled s t)
      ∧ (Listens s → GrantsAgree s → programRuns s = true → runningIn s .dry = false →
        ∃ t, exec (.resetUnitSequencer tag) s = .next t ∧ DosesCancelled s t)
      ∧ (Awake s → GrantsAgree s → s.wpc.flood = false → s.seq.state = .holding ∨ s.seq.state = .suspended
          ∨ s.seq.state = .waitWater ∨ (s.seq.state = .running ∧ s.seq.sub ≠ .dry) →
        ∃ t, exec (.floodSwitchChange true) s = .next t ∧ DosesCancelled s t))

/-- ACKNOWLEDGE FAULT (R28): with the flood gone and the sump empty the code is cleared and the sequencer enters IDLE
at index 0; else BUSY, and a recovery drain is placed where the flood is gone and no drain request stands; outside
FAULTED WRONG_STATE. -/
def Obligations.AcknowledgeReleasesFromFaulted : Prop :=
  ∀ (tag : Byte) (s : State), Listens s →
    (s.seq.state ≠ .faulted →
      exec (.acknowledgeFault tag) s = .next (finish (answering 0x0B#8 tag .wrongState .empty (heard s))))
    ∧ (s.seq.state = .faulted →
      (s.wpc.flood = true ∨ (s.wpc.sumpEmpty = false ∧ s.wpc.seqDrain.isSome = true) →
        exec (.acknowledgeFault tag) s = .next (finish (answering 0x0B#8 tag .busy .empty (heard s))))
      ∧ (Rests s → s.wpc.flood = false → s.wpc.sumpEmpty = false → s.wpc.seqDrain = none →
        exec (.acknowledgeFault tag) s = .next (finish (answering 0x0B#8 tag .busy .empty
          (outputs (onWpc (fun w => { w with seqDrain := some ⟨.pumping 0, false⟩ }) (heard s))))))
      ∧ (Rests s → s.wpc.flood = false → s.wpc.sumpEmpty = true →
        exec (.acknowledgeFault tag) s = .next (finish (answering 0x0B#8 tag .ok .empty
          (outputs (onSeq (fun q => { q with state := .idle, sub := .none, idx := 0, fault := none }) (heard s)))))))

/-! ## The water path and the sequencer's timers -/

/-- CIRCULATE ends with the hold time: heat, top-up and circulation go, the soil sample is taken where the record asks
it (R13, R14), and DRAIN follows, its request in the place of one that still stands (log entry 52), or the phase ends
with PHASE_END (R15, R18): COMPLETED after the last phase, HOLDING where a hold pends, else the next phase is entered,
SUSPENDED before an open door (log entry 14). A drain extension of 90 s ends in the same boundary (R30). Stated for a
sound part. -/
def Obligations.CirculateAndExtensionEnd : Prop :=
  ∀ (s : State), Awake s → Sound s → s.seq.state = .running → ∀ w, currentWash s = some w →
    (s.seq.sub = .circulate →
      ∃ t, exec .holdTimerExpiry s = .next t
        ∧ t.cfg = s.cfg ∧ t.part = s.part ∧ t.seq.table = s.seq.table
        ∧ (w.sample = true → t.seq.soil = min 7 ((1000 - min 1000 s.pins.turbidity.toNat) / 100))
        ∧ (w.drain = true ∨ BoundaryRests s → t.htc.request = none ∧ (w.sample = false → t.seq.soil = s.seq.soil))
        ∧ (w.drain = true →
          t.seq.state = .running ∧ t.seq.sub = .drain ∧ t.seq.idx = s.seq.idx ∧ t.czs.pump = false ∧ t.wpc.fill = none
            ∧ t.wpc.seqDrain = some ⟨if s.wpc.sumpEmpty then .runOn 0 else .pumping 0, false⟩ ∧ t.wpc.drainPump = true
            ∧ t.seq.permit = true)
        ∧ (w.drain = false → s.seq.count ≤ s.seq.idx + 1 →
          t.seq.state = .ended ∧ t.seq.summary = { s.seq.summary with outcome := .completed } ∧ t.seq.holdPending = false
            ∧ (noticeEnabled s.lnk.mask 7 = true → notified (.programEnd t.seq.summary) t = true))
        ∧ (w.drain = false → s.seq.idx + 1 < s.seq.count → s.seq.holdPending = true →
          t.seq.state = .holding ∧ t.seq.idx = s.seq.idx ∧ t.seq.holdPending = false
            ∧ (noticeEnabled s.lnk.mask 6 = true → notified (.holdReached s.seq.idx) t = true))
        ∧ (w.drain = false → PhaseEnded s t))
    ∧ (s.seq.sub = .drain → s.seq.extension.isSome = true →
      ∃ t, exec .drainExtensionExpiry s = .next t
        ∧ t.cfg = s.cfg ∧ t.part = s.part ∧ t.seq.table = s.seq.table ∧ t.seq.extension = none
        ∧ (BoundaryRests s → t.seq.soil = s.seq.soil ∧ t.wpc.seqDrain = none)
        ∧ (s.seq.count ≤ s.seq.idx + 1 →
          t.seq.state = .ended ∧ t.seq.summary = { s.seq.summary with outcome := .completed } ∧ t.wpc.seqDrain = none)
        ∧ (s.seq.idx + 1 < s.seq.count → s.seq.holdPending = true →
          t.seq.state = .holding ∧ t.seq.idx = s.seq.idx ∧ t.wpc.seqDrain = none)
        ∧ PhaseEnded s t)

/-- The door closed for the settling time resumes the program by what it remembers (R25): the rest of the wait, a
drain begun anew, in the place of one that still stands (log entry 52), the circulation with its hold timer, the
heating re-evaluated, or the rest of the fill. Stated for a sound part. A fill not yet begun is begun at the
resumption; a DOSE resumed goes on with the paused request, or, where none is left, with what follows it; a HEAT that
is over goes, with a hold time of 0, through CIRCULATE to DRAIN or to the boundary (R25, R127, R13, R18). Stated for a
sound part. A suspended FILL resumes beside a drain burst, a high-level switch that reads HIGH or an inhibited inlet,
which faults the program (log entry 15) (R25, R38, R41, R49), an idle engine having no column to take (R65): a fill
not yet begun is asked in full, the phase beginning with it; one begun is asked for the rest of its volume, its record
and its fill-timeout count kept. -/
def Obligations.SettlingResumesTheProgram : Prop :=
  (∀ (s : State), Rests s → Sound s → s.seq.state = .suspended → s.seq.settling.isSome = true → s.ddu.doorOpen = false →
      (s.seq.remembered = .waitWater →
        exec .settlingTimerExpiry s = .next (finish (outputs (onSeq (fun q => { q with
          state := .waitWater, sub := .none, settling := none, remembered := .none }) s))))
      ∧ (∀ w, currentWash s = some w →
        (s.seq.remembered = .sub .drain → s.rge.state ≠ .effluentDrain → s.wpc.regen = none →
          exec .settlingTimerExpiry s = .next (finish (outputs { s with
            seq := { s.seq with state := .running, sub := .drain, settling := none, remembered := .none }
            wpc := { s.wpc with seqDrain := some ⟨if s.wpc.sumpEmpty then .runOn 0 else .pumping 0, false⟩ } })))
        ∧ (s.seq.remembered = .sub .circulate →
          ∃ t, exec .settlingTimerExpiry s = .next t
            ∧ t.seq = { s.seq with state := .running, sub := .circulate, settling := none, remembered := .none,
                                   permit := false }
            ∧ t.czs.pump = true
            ∧ (0 < w.target → s.seq.heaterOff = false → t.htc.request = some ⟨w.target, false⟩)
            ∧ t.dsu = s.dsu ∧ t.ddu = s.ddu ∧ t.sfu = s.sfu ∧ t.rge = s.rge ∧ t.rst.history = s.rst.history)
        ∧ (s.seq.remembered = .sub .heat → 0 < w.holdTime → s.htc.valid = true → 0 < s.seq.heatLeft →
          ∃ t, exec .settlingTimerExpiry s = .next t
            ∧ t.seq.state = .running ∧ t.czs.pump = true ∧ t.seq.idx = s.seq.idx
            ∧ (s.seq.heaterOff = true → t.seq.sub = .circulate ∧ t.htc.request = s.htc.request)
            ∧ (s.seq.heaterOff = false → ∀ temp, s.htc.temp = some temp →
              (w.target ≤ temp → t.seq.sub = .circulate ∧ t.htc.request = some ⟨w.target, false⟩)
              ∧ (temp < w.target → t.seq.sub = .heat ∧ t.htc.request = some ⟨w.target, true⟩
                  ∧ t.htc.limitLeft = s.seq.heatLeft))
            ∧ t.dsu = s.dsu ∧ t.ddu = s.ddu ∧ t.sfu = s.sfu ∧ t.rge = s.rge ∧ t.rst.history = s.rst.history)
        ∧ (s.seq.remembered = .sub .fill → s.seq.fillBegun = true → s.wpc.inhibit = false → s.wpc.burst = none →
          s.wpc.highLevel = false →
          ∃ t, exec .settlingTimerExpiry s = .next t
            ∧ t.seq.state = .running ∧ t.seq.sub = .fill ∧ t.seq.idx = s.seq.idx
            ∧ t.wpc.fill = some ⟨w.fillVolume - s.sfu.fill.v, .main, true⟩ ∧ t.wpc.holder = .fill ∧ t.wpc.grantCount = 0
            ∧ t.wpc.fillTimer = some 0 ∧ t.sfu = s.sfu ∧ t.dsu = s.dsu ∧ t.ddu = s.ddu ∧ t.htc.request = s.htc.request
            ∧ t.rst.history = s.rst.history)))
  ∧ (∀ (s : State), Rests s → Sound s → s.seq.state = .suspended → s.seq.settling.isSome = true →
      s.ddu.doorOpen = false → ∀ w, currentWash s = some w →
      (s.seq.remembered = .sub .fill → s.seq.fillBegun = false → s.wpc.inhibit = false → s.wpc.burst = none →
        s.wpc.highLevel = false → s.sfu.fill.isOpen = false →
        ∃ t, exec .settlingTimerExpiry s = .next t
          ∧ t.seq = { s.seq with state := .running, sub := .fill, settling := none, remembered := .none, fillBegun := true,
                                 permit := false }
          ∧ t.wpc.fill = some ⟨w.fillVolume, .main, true⟩ ∧ t.wpc.holder = .fill ∧ t.wpc.grantCount = 0
          ∧ t.wpc.fillTimer = some 0 ∧ t.wpc.latchedK = s.cfg.k
          ∧ t.sfu.fill = { isOpen := true, hFill := t.sfu.fill.hFill } ∧ t.sfu.hRaw = s.cfg.hRaw
          ∧ t.sfu.blend = blendOf s.cfg.hRaw s.cfg.hTgt ∧ t.sfu.service = s.sfu.service ∧ t.dsu = s.dsu ∧ t.ddu = s.ddu
          ∧ t.rst.history = s.rst.history)
      ∧ (s.seq.remembered = .sub .dose → s.seq.placed ≠ [] →
        ∃ t, exec .settlingTimerExpiry s = .next t
          ∧ (s.dsu.state ≠ .paused →
            t.dsu = { s.dsu with pause := false }
            ∧ t.seq = { s.seq with state := .running, sub := .dose, settling := none, remembered := .none, permit := false }
            ∧ t.czs.pump = true)
          ∧ (s.dsu.state = .paused → s.dsu.stroke = none → s.dsu.move = none → ∀ r, s.dsu.batch.head? = some r →
            r.state = .active → ∀ p, s.dsu.selector = some p → p ≠ r.channel ∨ r.strokeVolume ≤ (reservoirOf s.dsu p).level →
            t.dsu = { s.dsu with
              pause := false, state := .serving
              move := if p = r.channel then none else some ⟨false, r.channel, 0⟩
              stroke := if p = r.channel then some 0 else none
              batch := (if p = r.channel then { r with commanded := r.commanded + 1 } else r) :: s.dsu.batch.tail }
            ∧ t.seq = { s.seq with state := .running, sub := .dose, settling := none, remembered := .none, permit := false }
            ∧ t.czs.pump = true))
      ∧ (s.seq.remembered = .sub .dose → s.seq.placed = [] → s.dsu.state ≠ .paused → 0 < w.holdTime →
        w.target = 0 ∨ s.seq.heaterOff = true →
        ∃ t, exec .settlingTimerExpiry s = .next t
          ∧ t.seq = { s.seq with state := .running, sub := .circulate, holdTimer := 0, settling := none,
                                 remembered := .none, permit := false }
          ∧ t.czs.pump = true ∧ t.dsu = { s.dsu with pause := false } ∧ t.rst.history = s.rst.history)
      ∧ (s.seq.remembered = .sub .heat → w.holdTime = 0 →
        s.seq.heaterOff = true ∨ (∃ temp, s.htc.temp = some temp ∧ w.target ≤ temp) →
        ∃ t, exec .settlingTimerExpiry s = .next t
          ∧ (w.drain = true ∨ BoundaryRests s → t.htc.request = none)
          ∧ t.cfg = s.cfg ∧ t.part = s.part ∧ t.seq.table = s.seq.table
          ∧ (w.drain = true →
            t.seq.state = .running ∧ t.seq.sub = .drain ∧ t.seq.idx = s.seq.idx ∧ t.czs.pump = false
              ∧ t.wpc.seqDrain = some ⟨if s.wpc.sumpEmpty then .runOn 0 else .pumping 0, false⟩)
          ∧ (w.drain = false → PhaseEnded s t)))
  ∧ (∀ (s : State), Awake s → Sound s → s.seq.state = .suspended → s.seq.settling.isSome = true → s.ddu.doorOpen = false →
      s.seq.remembered = .sub .fill → ∀ w, currentWash s = some w →
      (s.rge.state = .idle → s.sfu.regenQ = [] ∨ s.sfu.valveFault = true) →
      s.wpc.inhibit = true ∨ s.wpc.highLevel = false ∨ 0 < w.holdTime →
      ∃ t, exec .settlingTimerExpiry s = .next t
        ∧ t.seq.idx = s.seq.idx ∧ t.seq.settling = none ∧ t.seq.remembered = .none
        ∧ t.seq.table = s.seq.table ∧ t.seq.count = s.seq.count
        ∧ (s.rge.state ≠ .idle → EngineGivesWay s t)
        ∧ (s.seq.fillBegun = false → MainFillAsked w s t)
        ∧ (s.seq.fillBegun = true →
          (s.wpc.inhibit = false → s.wpc.burst = none → s.wpc.highLevel = false →
            t.seq.state = .running ∧ t.seq.sub = .fill ∧ t.wpc.fill = some ⟨w.fillVolume - s.sfu.fill.v, .main, true⟩
              ∧ t.wpc.holder = .fill ∧ t.wpc.inletValve = true ∧ t.wpc.brineValve = false ∧ t.wpc.grantCount = 0
              ∧ t.wpc.residue = 0 ∧ t.wpc.latchedK = s.cfg.k ∧ t.wpc.fillTimer = some 0 ∧ t.sfu = s.sfu
              ∧ t.seq.fillTimeouts = s.seq.fillTimeouts)
          ∧ (s.wpc.inhibit = false → s.wpc.burst.isSome = true →
            t.seq.state = .running ∧ t.seq.sub = .fill ∧ t.wpc.fill = some ⟨w.fillVolume - s.sfu.fill.v, .main, false⟩
              ∧ t.wpc.holder = .none ∧ t.wpc.inletValve = false ∧ t.wpc.burst = s.wpc.burst ∧ t.sfu = s.sfu
              ∧ t.seq.fillTimeouts = s.seq.fillTimeouts)
          ∧ (s.wpc.inhibit = false → s.wpc.burst = none → s.wpc.highLevel = true → s.sfu.fill.isOpen = true →
            t.seq.state = .running ∧ (t.seq.sub = .dose ∨ t.seq.sub = .heat ∨ t.seq.sub = .circulate)
              ∧ t.wpc.fill = none ∧ t.wpc.holder = .none ∧ t.wpc.inletValve = false
              ∧ t.sfu.fill = { s.sfu.fill with
                  isOpen := false
                  hFill := if s.sfu.fill.v = 0 then s.sfu.hRaw
                    else (s.sfu.fill.g + 500 * s.sfu.fill.v) / (1000 * s.sfu.fill.v) })
          ∧ (s.wpc.inhibit = true →
            t.seq.state = .faulted ∧ t.seq.sub = .none ∧ t.seq.fault = some (s.seq.fault.getD .flood)
              ∧ t.seq.summary.outcome = .faulted ∧ t.wpc.fill = none ∧ t.wpc.holder = .none ∧ t.wpc.inletValve = false
              ∧ t.sfu.fill.isOpen = false))
        ∧ t.rst.history = s.rst.history ∧ t.part = s.part ∧ t.cfg = s.cfg ∧ t.ddu = s.ddu)

/-- The first fill-limit expiry of a fill leads to WAIT_WATER for 120 s with the fill open; the wait over, the fill is
asked for its remaining volume; the second raises WATER_SUPPLY with the volume delivered and ends the program through
the abort drain, which takes the place of one that still stands (log entry 52) (R10, R26, R41). The limit of a top-up
only ends it (R42). Stated for a sound part. With the last millilitre or the high level taken first, the expiry that
falls together with it, before a second has passed, is void, also where the next grant stands by then (R41, log entry
69). -/
def Obligations.FillLimitWaitsThenFails : Prop :=
  ∀ (s : State), Awake s → Sound s →
    (∀ q, s.wpc.fill = some q → q.held = true → q.kind = .main → s.ties.fill = false →
      (s.seq.fillTimeouts = 0 →
        ∃ t, exec .fillLimitExpiry s = .next t
          ∧ t.seq = { s.seq with state := .waitWater, sub := .none, waterWait := some 120, fillTimeouts := 1,
                                 permit := false }
          ∧ t.wpc.fill = none ∧ t.wpc.holder = .none ∧ t.wpc.inletValve = false ∧ t.sfu.fill = s.sfu.fill
          ∧ (noticeEnabled s.lnk.mask 8 = true → notified (.waterWait s.seq.idx) t = true)
          ∧ t.rst.history = s.rst.history ∧ t.dsu = s.dsu ∧ t.ddu = s.ddu)
      ∧ (s.seq.fillTimeouts = 1 → s.sfu.fill.isOpen = true →
        ∃ t, exec .fillLimitExpiry s = .next t
          ∧ t.seq.state = .ending ∧ t.seq.summary.outcome = .faulted
          ∧ t.seq.fault = some (s.seq.fault.getD .waterSupply)
          ∧ t.rst.history = appendHistory ⟨.waterSupply, s.lnk.stamp, s.seq.idx, .num s.sfu.fill.v, .num 0⟩ s.rst.history
          ∧ t.sfu.fill.isOpen = false ∧ t.sfu.fill.v = s.sfu.fill.v
          ∧ t.wpc.seqDrain = some ⟨if s.wpc.sumpEmpty then .runOn 0 else .pumping 0, false⟩ ∧ t.wpc.holder = .none))
    ∧ (∀ q, s.wpc.fill = some q → q.held = true → q.kind = .topUp → s.ties.fill = false →
        ∃ t, exec .fillLimitExpiry s = .next t
          ∧ t.seq = { s.seq with permit := t.seq.permit } ∧ t.wpc.fill = none ∧ t.wpc.holder = .none ∧ t.wpc.inletValve = false
          ∧ t.wpc.brineValve = false
          ∧ t.rst.history = s.rst.history ∧ t.dsu = s.dsu ∧ t.ddu = s.ddu)
    ∧ (s.seq.state = .waitWater → s.wpc.fill = none → s.wpc.inhibit = false → s.wpc.burst = none →
      s.wpc.highLevel = false → ∀ w, currentWash s = some w →
        ∃ t, exec .waterWaitExpiry s = .next t
          ∧ t.seq = { s.seq with state := .running, sub := .fill, waterWait := none, permit := false }
          ∧ t.wpc.fill = some ⟨w.fillVolume - s.sfu.fill.v, .main, true⟩ ∧ t.wpc.holder = .fill ∧ t.wpc.grantCount = 0
          ∧ t.wpc.fillTimer = some 0 ∧ t.wpc.latchedK = s.cfg.k ∧ t.sfu.fill = s.sfu.fill
          ∧ t.rst.history = s.rst.history ∧ t.dsu = s.dsu ∧ t.ddu = s.ddu)
    ∧ (∀ q, s.wpc.fill = some q → q.held = true →
      (s.ties.fill = true → exec .fillLimitExpiry s = .next s)
      ∧ (200 ≤ s.wpc.latchedK → q.target ≤ s.wpc.grantCount + (s.wpc.residue + 1000) / s.wpc.latchedK →
        s.wpc.grantCount < q.target →
        ∃ t, exec .flowMeterPulse s = .next t ∧ exec .fillLimitExpiry t = .next t)
      ∧ (s.wpc.highLevel = false →
        ∃ t, exec (.highLevelSwitchChange true) s = .next t ∧ exec .fillLimitExpiry t = .next t))

/-- A pulse with no holder is converted with the configured K and counted as stray flow (R34, R36); 200 mL raise
INLET_LEAK with the volume, place the leak drain for 60 s and end the program, the rest of that pulse not emitted (log
entry 28). The sump-empty, heater-cover and high-level switches (R44): a reading is stored and heard; EMPTY starts the
run-on of a pumping drain (R47); HIGH revokes a regeneration's grant, which waits again with its volume kept (R39). In
STANDBY, DOWN and SHUT only the input moves (R33, R193, R198, log entry 33). The end of the leak drain removes its
request (R36, R46). The high-level switch HIGH ends a FILL grant (R41): a main fill closes with the volume delivered
so far, and DOSE, HEAT or CIRCULATE follows (R9, R67, R11 to R13), a burst that waited beginning (R49); a top-up ends
without a change of the sequencer (R42). A fill asked again after the water wait while the switch reads HIGH ends at
once with a count of 0 (R10, R41); behind a drain burst it waits (R38, R49). The sump permit follows the sump-empty
switch in IDLE, ENDED, HOLDING, FAULTED and DRY (R29), the high-level switch's return and the end of a flood's run-on
lift their conditions, and so does the pump of a DRAIN that starts again (R39, R52): the request of BRINE or RINSE
that waits is granted with its counts kept, the engine drawing or rinsing (R81, R85, R87). A switch that leaves EMPTY,
and the pump's pause in a DRAIN, withdraw the permit and revoke what is held (R29, R39, R83). -/
def Obligations.StrayFlowAndTheWaterSwitches : Prop :=
  (∀ (s : State), Rests s → s.wpc.holder = .none → 200 ≤ s.cfg.k → s.wpc.strayResidue < s.cfg.k →
      (s.wpc.strayCount + (s.wpc.strayResidue + 1000) / s.cfg.k < 200 →
        exec .flowMeterPulse s = .next (finish (outputs (onWpc (fun w => { w with
          strayResidue := (w.strayResidue + 1000) % s.cfg.k
          strayCount := w.strayCount + (w.strayResidue + 1000) / s.cfg.k }) s))))
      ∧ (s.wpc.strayCount < 200 → 200 ≤ s.wpc.strayCount + (s.wpc.strayResidue + 1000) / s.cfg.k →
        ∃ t, exec .flowMeterPulse s = .next t
          ∧ t.wpc.strayResidue = 0 ∧ t.wpc.strayCount = 0 ∧ t.wpc.leak = some 60 ∧ t.wpc.drainPump = true
          ∧ t.rst.history = appendHistory ⟨.inletLeak, s.lnk.stamp, faultPhase s, .num 200, .num 0⟩ s.rst.history
          ∧ t.wpc.inhibit = s.wpc.inhibit ∧ t.seq.state = .faulted
          ∧ (s.seq.state ≠ .faulted → t.seq.fault = some (s.seq.fault.getD .inletLeak))))
  ∧ (∀ (b : Bool) (s : State),
      (Rests s →
        (s.wpc.regen = none → s.wpc.holder ≠ .brine → s.wpc.holder ≠ .rinse →
          exec (.sumpEmptySwitchChange b) s = .next (finish (outputs { s with
          pins := { s.pins with sumpEmpty := b }
          wpc := { s.wpc with
            sumpEmpty := b
            seqDrain := if b = true ∧ s.wpc.sumpEmpty = false then
                s.wpc.seqDrain.map fun d => match d with
                  | ⟨.pumping _, second⟩ => ⟨.runOn 0, second⟩
                  | d => d
              else s.wpc.seqDrain } })))
        ∧ exec (.heaterCoverLevelChange b) s = .next (finish (outputs { s with
          pins := { s.pins with heaterCover := b }, wpc := { s.wpc with heaterCover := b } }))
        ∧ (s.wpc.holder = .none → (∀ q, s.wpc.fill = some q → q.held = false) → b = true ∨ s.wpc.regen = none →
          exec (.highLevelSwitchChange b) s = .next (finish (outputs { s with
            pins := { s.pins with highLevel := b }, wpc := { s.wpc with highLevel := b } })))
        ∧ (s.wpc.leak.isSome = true →
          (s.wpc.regen = none ∧ s.wpc.holder ≠ .brine ∧ s.wpc.holder ≠ .rinse) ∨ runningIn s .drain = false →
          exec .leakDrainExpiry s = .next (finish (outputs (onWpc (fun w => { w with leak := none }) s)))))
      ∧ (s.part.powered = true → s.part.state = .standby ∨ s.part.state = .down ∨ s.part.state = .shut →
        exec (.sumpEmptySwitchChange b) s = .next { s with pins := { s.pins with sumpEmpty := b } }
        ∧ exec (.heaterCoverLevelChange b) s = .next { s with pins := { s.pins with heaterCover := b } }
        ∧ exec (.highLevelSwitchChange b) s = .next { s with pins := { s.pins with highLevel := b } })
      ∧ (Awake s → GrantsAgree s → s.wpc.highLevel = false → s.wpc.fill = none → s.rge.state = .brineDraw ∨ s.rge.state = .rinse →
        ∃ t, exec (.highLevelSwitchChange true) s = .next t
          ∧ t.rge = { s.rge with state := if s.rge.state = .brineDraw then .brineWait else .rinseWait }
          ∧ t.wpc = { s.wpc with
              highLevel := true, holder := .none, inletValve := false, brineValve := false, fillTimer := none, residue := 0
              regen := s.wpc.regen.map fun r => { r with held := false }, drainPump := pumpAsked s.wpc }
          ∧ t.sfu = s.sfu ∧ t.seq = { s.seq with permit := permitCondition { s with wpc := t.wpc } }))
  ∧ (∀ (s : State), Awake s → Sound s →
      (s.wpc.highLevel = false → ∀ q, s.wpc.fill = some q → q.held = true →
        (q.kind = .main → s.sfu.fill.isOpen = true → ∀ w, currentWash s = some w → 0 < w.holdTime →
          ∃ t, exec (.highLevelSwitchChange true) s = .next t
            ∧ t.wpc.highLevel = true ∧ t.wpc.fill = none ∧ t.wpc.holder = .none ∧ t.wpc.inletValve = false
            ∧ t.wpc.fillTimer = none ∧ t.wpc.grantCount = s.wpc.grantCount
            ∧ t.wpc.burst = s.wpc.burst.map (fun b => if b = .waiting then .running 0 else b)
            ∧ t.sfu.fill = { s.sfu.fill with
                isOpen := false
                hFill := if s.sfu.fill.v = 0 then s.sfu.hRaw
                  else (s.sfu.fill.g + 500 * s.sfu.fill.v) / (1000 * s.sfu.fill.v) }
            ∧ t.seq.state = .running ∧ (t.seq.sub = .dose ∨ t.seq.sub = .heat ∨ t.seq.sub = .circulate)
            ∧ t.seq.idx = s.seq.idx ∧ t.seq.summary = s.seq.summary ∧ t.czs.pump = true
            ∧ (w.refs = [] → w.target = 0 → t.seq.sub = .circulate ∧ t.seq.holdTimer = 0)
            ∧ (s.seq.placed = [] → s.dsu.state = .idle → s.dsu.batch = [] → s.dsu.waiting = [] → s.dsu.next < 256 →
              w.refs.length ≤ 2 → (w.refs.map (·.channel)).Nodup →
              dosesAsked s w t.sfu.fill.v t.sfu.fill.hFill ≠ [] →
              t.seq.sub = .dose
                ∧ t.dsu = { s.dsu with
                    state := .gathering, windowLeft := 2
                    waiting := doseRequests s (dosesAsked s w t.sfu.fill.v t.sfu.fill.hFill)
                    next := (s.dsu.next + (dosesAsked s w t.sfu.fill.v t.sfu.fill.hFill).length) % 256 })
            ∧ writeAsked .columns t = true ∧ t.rst.history = s.rst.history ∧ t.part = s.part ∧ t.ddu = s.ddu)
        ∧ (q.kind = .topUp →
          ∃ t, exec (.highLevelSwitchChange true) s = .next t
            ∧ t.wpc.highLevel = true ∧ t.wpc.fill = none ∧ t.wpc.holder = .none ∧ t.wpc.inletValve = false
            ∧ t.wpc.fillTimer = none ∧ t.wpc.grantCount = s.wpc.grantCount
            ∧ t.seq = { s.seq with permit := t.seq.permit } ∧ t.sfu.fill = s.sfu.fill
            ∧ writeAsked .columns t = true ∧ t.rst.history = s.rst.history ∧ t.part = s.part ∧ t.dsu = s.dsu
            ∧ t.ddu = s.ddu))
      ∧ (s.seq.state = .waitWater → s.wpc.highLevel = true → s.wpc.burst = none → s.sfu.fill.isOpen = true →
        ∀ w, currentWash s = some w → 0 < w.holdTime →
        ∃ t, exec .waterWaitExpiry s = .next t
          ∧ t.wpc.fill = none ∧ t.wpc.holder = .none ∧ t.wpc.inletValve = false ∧ t.wpc.fillTimer = none
          ∧ t.wpc.grantCount = 0
          ∧ t.sfu.fill = { s.sfu.fill with
              isOpen := false
              hFill := if s.sfu.fill.v = 0 then s.sfu.hRaw
                else (s.sfu.fill.g + 500 * s.sfu.fill.v) / (1000 * s.sfu.fill.v) }
          ∧ t.seq.state = .running ∧ (t.seq.sub = .dose ∨ t.seq.sub = .heat ∨ t.seq.sub = .circulate)
          ∧ t.seq.waterWait = none ∧ t.seq.idx = s.seq.idx ∧ t.seq.summary = s.seq.summary
          ∧ writeAsked .columns t = true ∧ t.rst.history = s.rst.history ∧ t.part = s.part ∧ t.ddu = s.ddu)
      ∧ (s.seq.state = .waitWater → s.wpc.burst.isSome = true → ∀ w, currentWash s = some w →
        ∃ t, exec .waterWaitExpiry s = .next t
          ∧ t.wpc.fill = some ⟨w.fillVolume - s.sfu.fill.v, .main, false⟩ ∧ t.wpc.holder = .none
          ∧ t.wpc.inletValve = false ∧ t.wpc.burst = s.wpc.burst ∧ t.sfu.fill = s.sfu.fill
          ∧ t.seq = { s.seq with state := .running, sub := .fill, waterWait := none, permit := false }
          ∧ t.rst.history = s.rst.history ∧ t.part = s.part ∧ t.dsu = s.dsu ∧ t.ddu = s.ddu))
  ∧ (∀ (s : State), Awake s → Sound s → s.wpc.fill = none →
      (permitCondition { s with wpc := { s.wpc with sumpEmpty := true } } = true → runningIn s .drain = false →
        (s.wpc.sumpEmpty = true → s.rge.state ≠ .idle →
          ∃ t, exec (.sumpEmptySwitchChange false) s = .next t
            ∧ t.wpc.sumpEmpty = false ∧ t.seq = { s.seq with permit := false } ∧ EngineGivesWay s t
            ∧ t.wpc.holder = .none ∧ t.wpc.inletValve = false ∧ t.sfu = s.sfu ∧ t.dsu = s.dsu ∧ t.rst.history = s.rst.history)
        ∧ (s.wpc.sumpEmpty = false → s.wpc.flood = false → s.wpc.inhibit = false → s.wpc.highLevel = false →
          ∃ t, exec (.sumpEmptySwitchChange true) s = .next t
            ∧ t.wpc.sumpEmpty = true ∧ t.seq = { s.seq with permit := true }
            ∧ (s.rge.state ≠ .idle → EngineGranted s t) ∧ t.rst.history = s.rst.history))
      ∧ (s.wpc.highLevel = true → s.wpc.flood = false → s.wpc.inhibit = false → permitCondition s = true →
        s.wpc.drainPump = pumpAsked s.wpc →
        ∃ t, exec (.highLevelSwitchChange false) s = .next t
          ∧ t.wpc.highLevel = false ∧ (s.rge.state ≠ .idle → EngineGranted s t) ∧ t.seq.state = s.seq.state
          ∧ t.rst.history = s.rst.history)
      ∧ (∀ n, s.wpc.floodReq = some (.runOn n) → s.wpc.flood = false → s.wpc.highLevel = false →
        runningIn s .drain = false → permitCondition s = true →
        ∃ t, exec .floodRunOnExpiry s = .next t
          ∧ t.wpc.floodReq = none ∧ t.wpc.inhibit = false ∧ (s.rge.state ≠ .idle → EngineGranted s t)
          ∧ t.seq.state = s.seq.state ∧ t.rst.history = s.rst.history)
      ∧ (runningIn s .drain = true → s.wpc.leak = none → s.wpc.floodReq = none → ∀ d, s.wpc.seqDrain = some d →
        ((∃ n, d.stage = .pumping n) → d.second = false →
          ∃ t, exec .drainAttemptLimit s = .next t
            ∧ t.wpc.seqDrain = some ⟨.paused 0, false⟩ ∧ t.wpc.drainPump = false ∧ t.seq = { s.seq with permit := false }
            ∧ (s.rge.state ≠ .idle → EngineGivesWay s t) ∧ t.rst.history = s.rst.history)
        ∧ ((∃ n, d.stage = .paused n) → s.wpc.highLevel = false → s.wpc.inhibit = false → s.wpc.flood = false →
          ∃ t, exec .drainPauseExpiry s = .next t
            ∧ t.wpc.seqDrain = some ⟨if s.wpc.sumpEmpty then .runOn 0 else .pumping 0, true⟩ ∧ t.wpc.drainPump = true
            ∧ t.seq = { s.seq with permit := true } ∧ (s.rge.state ≠ .idle → EngineGranted s t)
            ∧ t.rst.history = s.rst.history)))

/-- A pulse of a FILL grant, of the grant it finds (log entry 68), emits its millilitres to the program's water and to
the softener (R34, R35, R59): in bypass service, under a valve fault (R77) and with a latched b of 1000 each adds 1000
h_raw to G and leaves the column, in service below that the column is charged h_raw (1000 - b) hundredths through the
residue; the grant goes on below its target. The charge in service is stated for a meter within its ranges. The
millilitre that reaches the target of a main fill ends the grant, the rest of its pulse not emitted (log entry 28),
and closes the fill, and the phase goes on behind FILL (R41, R9, R67); reaching a top-up's target ends it without a
change of the sequencer (R42). The millilitre that brings the serving column to the switch reserve marks it exhausted
(R62), as does one that finds it there unmarked, also with a b of 1000: with no ready column it stays in service; else
the head of the ready queue enters service as one event (R63), a valve homing under way staying a homing, here as at
the release (log entry 20), and the idle engine takes the exhausted column (R65, R80). The first millilitre of a fill
through an empty column raises BREAKTHROUGH (R61). At the close of the fill an exhausted column with nothing ready or
waiting is released to the idle engine, the position empty (R66, R67, log entry 43). Pulses of a top-up (R60, R61,
R35): they count to the program's water and to the top-up volume, 0 at the grant's first millilitre, and leave the
fill record as it stands; in bypass service, under a valve fault and with a b of 1000 they leave the column, in
service below that they charge it as a fill does; through an empty column they are breakthrough, with one BREAKTHROUGH
TOP_UP at a grant's first. -/
def Obligations.FillsAreMeteredToTheirTarget : Prop :=
  (∀ (s : State), Rests s → GrantsAgree s → 200 ≤ s.wpc.latchedK →
      s.wpc.residue < s.wpc.latchedK → ∀ n, (s.wpc.residue + 1000) / s.wpc.latchedK = n →
      ∀ q, s.wpc.fill = some q → q.held = true → q.kind = .main → s.wpc.grantCount + n < q.target → q.target ≤ 6000 →
      (s.sfu.service = none ∨ s.sfu.valveFault = true ∨ (∃ col, s.sfu.service = some col ∧ 1000 ≤ s.sfu.blend
          ∧ 0 < (columnRec s.sfu col).remaining
          ∧ (s.cfg.reserve < (columnRec s.sfu col).remaining ∨ (columnRec s.sfu col).exhausted = true)) →
        exec .flowMeterPulse s = .next (finish (outputs { s with
          wpc := { s.wpc with residue := (s.wpc.residue + 1000) % s.wpc.latchedK, grantCount := s.wpc.grantCount + n }
          seq := { s.seq with summary := { s.seq.summary with water := s.seq.summary.water + n } }
          sfu := { s.sfu with fill := { s.sfu.fill with v := s.sfu.fill.v + n, g := s.sfu.fill.g + n * (s.sfu.hRaw * 1000) } } })))
      ∧ (MeterKept s → ∀ col, s.sfu.service = some col → s.sfu.valveFault = false → s.sfu.blend < 1000 →
        (col = .c → s.sfu.colC.isSome = true) →
        s.cfg.reserve < (columnRec s.sfu col).remaining - (s.sfu.rho + n * (s.sfu.hRaw * (1000 - s.sfu.blend))) / 100 →
        exec .flowMeterPulse s = .next (finish (outputs { s with
          wpc := { s.wpc with residue := (s.wpc.residue + 1000) % s.wpc.latchedK, grantCount := s.wpc.grantCount + n }
          seq := { s.seq with summary := { s.seq.summary with
            water := s.seq.summary.water + n
            columns := if n = 0 ∨ col ∈ s.seq.summary.columns then s.seq.summary.columns
              else s.seq.summary.columns ++ [col] } }
          sfu := { setColumnRec s.sfu col { columnRec s.sfu col with
              remaining := (columnRec s.sfu col).remaining - (s.sfu.rho + n * (s.sfu.hRaw * (1000 - s.sfu.blend))) / 100 } with
            rho := if n = 0 then s.sfu.rho else (s.sfu.rho + n * (s.sfu.hRaw * (1000 - s.sfu.blend))) % 100
            fill := { s.sfu.fill with v := s.sfu.fill.v + n, g := s.sfu.fill.g + n * (s.sfu.hRaw * s.sfu.blend) } } })))
      ∧ (∀ col, s.sfu.service = some col → s.sfu.valveFault = false → (columnRec s.sfu col).remaining = 0 →
        (columnRec s.sfu col).exhausted = true → 0 < s.sfu.fill.breakthrough →
        exec .flowMeterPulse s = .next (finish (outputs { s with
          wpc := { s.wpc with residue := (s.wpc.residue + 1000) % s.wpc.latchedK, grantCount := s.wpc.grantCount + n }
          seq := { s.seq with summary := { s.seq.summary with
            water := s.seq.summary.water + n, breakthrough := s.seq.summary.breakthrough + n } }
          sfu := { s.sfu with fill := { s.sfu.fill with
            v := s.sfu.fill.v + n, g := s.sfu.fill.g + n * (s.sfu.hRaw * 1000)
            breakthrough := s.sfu.fill.breakthrough + n } } }))))
  ∧ (∀ (s : State), Rests s → GrantsAgree s → 200 ≤ s.wpc.latchedK → s.wpc.residue < s.wpc.latchedK →
      ∀ q, s.wpc.fill = some q → q.held = true → s.wpc.grantCount < q.target → q.target ≤ 6000 →
      q.target ≤ s.wpc.grantCount + (s.wpc.residue + 1000) / s.wpc.latchedK →
      (q.kind = .main → runningIn s .fill = true → s.sfu.fill.isOpen = true → ∀ w, currentWash s = some w → 0 < w.holdTime →
        ∃ t, exec .flowMeterPulse s = .next t
          ∧ t.wpc.fill = none ∧ t.wpc.holder = .none ∧ t.wpc.inletValve = false ∧ t.wpc.grantCount = q.target
          ∧ t.seq.summary.water = s.seq.summary.water + (q.target - s.wpc.grantCount)
          ∧ t.sfu.fill.isOpen = false ∧ t.sfu.fill.v = s.sfu.fill.v + (q.target - s.wpc.grantCount)
          ∧ t.sfu.fill.hFill = (t.sfu.fill.g + 500 * t.sfu.fill.v) / (1000 * t.sfu.fill.v)
          ∧ t.seq.state = .running ∧ (t.seq.sub = .dose ∨ t.seq.sub = .heat ∨ t.seq.sub = .circulate)
          ∧ (w.refs = [] → w.target = 0 → t.seq.sub = .circulate ∧ t.seq.holdTimer = 0 ∧ t.czs.pump = true)
          ∧ writeAsked .columns t = true ∧ t.rst.history = s.rst.history)
      ∧ (q.kind = .topUp →
        ∃ t, exec .flowMeterPulse s = .next t
          ∧ t.wpc.fill = none ∧ t.wpc.holder = .none ∧ t.wpc.inletValve = false ∧ t.wpc.grantCount = q.target
          ∧ t.seq = { s.seq with
              summary := { s.seq.summary with
                water := s.seq.summary.water + (q.target - s.wpc.grantCount)
                columns := t.seq.summary.columns, breakthrough := t.seq.summary.breakthrough }
              permit := t.seq.permit }
          ∧ (s.sfu.service = none → t.seq.summary.columns = s.seq.summary.columns
              ∧ t.seq.summary.breakthrough = s.seq.summary.breakthrough)
          ∧ t.sfu.fill = s.sfu.fill ∧ t.rst.history = s.rst.history))
  ∧ (∀ (s : State), Rests s → GrantsAgree s → s.wpc.residue < s.wpc.latchedK →
      (s.wpc.residue + 1000) / s.wpc.latchedK = 1 → ∀ q, s.wpc.fill = some q → q.held = true → q.kind = .main →
      q.target ≤ 6000 → ∀ col, s.sfu.service = some col → (col = .c → s.sfu.colC.isSome = true) →
      s.sfu.valveFault = false →
      (s.wpc.grantCount + 1 < q.target → s.sfu.blend < 1000 ∨ (s.sfu.blend = 1000 ∧ s.sfu.rho < 100) →
        0 < (columnRec s.sfu col).remaining →
        (columnRec s.sfu col).exhausted = false →
        ∀ n, (columnRec s.sfu col).remaining - (s.sfu.rho + s.sfu.hRaw * (1000 - s.sfu.blend)) / 100 = n → n ≤ s.cfg.reserve →
        (s.sfu.ready = [] →
          ∃ t, exec .flowMeterPulse s = .next t
            ∧ t.sfu = { setColumnRec s.sfu col { columnRec s.sfu col with remaining := n, exhausted := true } with
                rho := (s.sfu.rho + s.sfu.hRaw * (1000 - s.sfu.blend)) % 100
                fill := { s.sfu.fill with v := s.sfu.fill.v + 1, g := s.sfu.fill.g + s.sfu.hRaw * s.sfu.blend } }
            ∧ writeAsked .columns t = true ∧ t.rge = s.rge ∧ t.rst.history = s.rst.history)
        ∧ (∀ next, s.sfu.ready.head? = some next → next ≠ col →
          ∃ t, exec .flowMeterPulse s = .next t
            ∧ t.sfu = { setColumnRec s.sfu col { columnRec s.sfu col with remaining := n, exhausted := true } with
                service := some next, ready := s.sfu.ready.tail, rho := 0, duty := s.sfu.blend, failedValve := none
                regenQ := if s.rge.state = .idle then s.sfu.regenQ else s.sfu.regenQ ++ [col]
                valveMove := some ⟨.column next, 0, (match s.sfu.valveMove with | some m => m.homing | none => false)⟩
                fill := { s.sfu.fill with v := s.sfu.fill.v + 1, g := s.sfu.fill.g + s.sfu.hRaw * s.sfu.blend } }
            ∧ (noticeEnabled s.lnk.mask 12 = true → notified (.columnSwitch (some col) (some next) .exhausted
                (columnRec s.sfu next).remaining (if s.sfu.fill.isOpen then s.sfu.fill.v + 1 else 0)) t = true)
            ∧ (s.rge.state = .idle →
              t.rge.column = some col ∧ t.rge.state = .brineWait ∧ t.rge.deficit = s.cfg.nominal * 1000000 - n)
            ∧ (s.rge.state ≠ .idle → t.rge = s.rge)
            ∧ writeAsked .columns t = true ∧ t.rst.history = s.rst.history))
      ∧ (s.wpc.grantCount + 1 < q.target → (columnRec s.sfu col).remaining = 0 → (columnRec s.sfu col).exhausted = true →
        s.sfu.fill.breakthrough = 0 →
        ∃ t, exec .flowMeterPulse s = .next t
          ∧ (noticeEnabled s.lnk.mask 13 = true → notified (.breakthrough col .main (s.sfu.fill.v + 1)) t = true)
          ∧ t.sfu = { s.sfu with fill := { s.sfu.fill with
              v := s.sfu.fill.v + 1, g := s.sfu.fill.g + s.sfu.hRaw * 1000, breakthrough := 1 } }
          ∧ t.seq.summary = { s.seq.summary with
              water := s.seq.summary.water + 1, breakthrough := s.seq.summary.breakthrough + 1 }
          ∧ t.rge = s.rge ∧ t.rst.history = s.rst.history)
      ∧ (s.wpc.grantCount < q.target → q.target ≤ s.wpc.grantCount + 1 → (columnRec s.sfu col).remaining = 0 →
        (columnRec s.sfu col).exhausted = true → s.sfu.ready = [] → runningIn s .fill = true → s.sfu.fill.isOpen = true →
        ∀ w, currentWash s = some w → 0 < w.holdTime →
        (s.rge.state ≠ .idle →
          ∃ t, exec .flowMeterPulse s = .next t
            ∧ t.sfu.service = some col ∧ t.sfu.regenQ = s.sfu.regenQ ∧ t.sfu.fill.isOpen = false ∧ t.rge = s.rge
            ∧ writeAsked .columns t = true ∧ t.rst.history = s.rst.history)
        ∧ (s.rge.state = .idle →
          ∃ t, exec .flowMeterPulse s = .next t
          ∧ t.sfu.service = none ∧ t.sfu.duty = 1000 ∧ t.sfu.rho = 0 ∧ t.sfu.regenQ = [] ∧ t.sfu.fill.isOpen = false
          ∧ t.sfu.valveMove = some ⟨.bypass, 0, (match s.sfu.valveMove with | some m => m.homing | none => false)⟩
          ∧ (noticeEnabled s.lnk.mask 12 = true → notified (.columnSwitch (some col) none .release 0 0) t = true)
          ∧ t.rge.column = some col ∧ t.rge.state = .brineWait ∧ t.rge.deficit = s.cfg.nominal * 1000000
          ∧ writeAsked .columns t = true ∧ t.rst.history = s.rst.history)))
  ∧ (∀ (s : State), Rests s → GrantsAgree s → 200 ≤ s.wpc.latchedK → s.wpc.residue < s.wpc.latchedK →
      ∀ n, (s.wpc.residue + 1000) / s.wpc.latchedK = n → 0 < n →
      ∀ q, s.wpc.fill = some q → q.held = true → q.kind = .topUp → s.wpc.grantCount + n < q.target → q.target ≤ 6000 →
      ∀ counted, counted = (if s.wpc.grantCount = 0 then n else s.sfu.topUpCount + n) →
      (s.sfu.service = none ∨ s.sfu.valveFault = true ∨ (∃ col, s.sfu.service = some col ∧ 1000 ≤ s.sfu.blend
          ∧ 0 < (columnRec s.sfu col).remaining
          ∧ (s.cfg.reserve < (columnRec s.sfu col).remaining ∨ (columnRec s.sfu col).exhausted = true)) →
        exec .flowMeterPulse s = .next (finish (outputs { s with
          wpc := { s.wpc with residue := (s.wpc.residue + 1000) % s.wpc.latchedK, grantCount := s.wpc.grantCount + n }
          seq := { s.seq with summary := { s.seq.summary with water := s.seq.summary.water + n } }
          sfu := { s.sfu with topUpCount := counted, topUpMark := s.sfu.topUpMark && s.wpc.grantCount != 0 } })))
      ∧ (MeterKept s → ∀ col, s.sfu.service = some col → s.sfu.valveFault = false → s.sfu.blend < 1000 →
        (col = .c → s.sfu.colC.isSome = true) →
        s.cfg.reserve < (columnRec s.sfu col).remaining - (s.sfu.rho + n * (s.sfu.hRaw * (1000 - s.sfu.blend))) / 100 →
        exec .flowMeterPulse s = .next (finish (outputs { s with
          wpc := { s.wpc with residue := (s.wpc.residue + 1000) % s.wpc.latchedK, grantCount := s.wpc.grantCount + n }
          seq := { s.seq with summary := { s.seq.summary with
            water := s.seq.summary.water + n
            columns := if col ∈ s.seq.summary.columns then s.seq.summary.columns else s.seq.summary.columns ++ [col] } }
          sfu := { setColumnRec s.sfu col { columnRec s.sfu col with
              remaining := (columnRec s.sfu col).remaining - (s.sfu.rho + n * (s.sfu.hRaw * (1000 - s.sfu.blend))) / 100 } with
            rho := (s.sfu.rho + n * (s.sfu.hRaw * (1000 - s.sfu.blend))) % 100
            topUpCount := counted, topUpMark := s.sfu.topUpMark && s.wpc.grantCount != 0 } })))
      ∧ (n = 1 → ∀ col, s.sfu.service = some col → s.sfu.valveFault = false →
        s.sfu.blend < 1000 ∨ (s.sfu.blend = 1000 ∧ s.sfu.rho < 100) → (col = .c → s.sfu.colC.isSome = true) →
        0 < (columnRec s.sfu col).remaining →
        (columnRec s.sfu col).exhausted = false → s.sfu.ready = [] →
        (columnRec s.sfu col).remaining - (s.sfu.rho + s.sfu.hRaw * (1000 - s.sfu.blend)) / 100 ≤ s.cfg.reserve →
        ∃ t, exec .flowMeterPulse s = .next t
          ∧ t.sfu = { setColumnRec s.sfu col { columnRec s.sfu col with
                remaining := (columnRec s.sfu col).remaining - (s.sfu.rho + s.sfu.hRaw * (1000 - s.sfu.blend)) / 100
                exhausted := true } with
              rho := (s.sfu.rho + s.sfu.hRaw * (1000 - s.sfu.blend)) % 100
              topUpCount := counted, topUpMark := s.sfu.topUpMark && s.wpc.grantCount != 0 }
          ∧ writeAsked .columns t = true ∧ t.rge = s.rge ∧ t.rst.history = s.rst.history)
      ∧ (∀ col, s.sfu.service = some col → s.sfu.valveFault = false → (columnRec s.sfu col).remaining = 0 →
        (columnRec s.sfu col).exhausted = true →
        ∃ t, exec .flowMeterPulse s = .next t
          ∧ t.sfu = { s.sfu with topUpCount := counted, topUpMark := true }
          ∧ t.seq = { s.seq with
              summary := { s.seq.summary with
                water := s.seq.summary.water + n, breakthrough := s.seq.summary.breakthrough + n }
              permit := t.seq.permit }
          ∧ (s.sfu.topUpMark = false ∨ s.wpc.grantCount = 0 → noticeEnabled s.lnk.mask 13 = true →
            notified (.breakthrough col .topUp (counted + 1 - n)) t = true)
          ∧ (s.sfu.topUpMark = true → s.wpc.grantCount ≠ 0 → t.lnk.notices = (finish (outputs s)).lnk.notices)
          ∧ t.wpc.grantCount = s.wpc.grantCount + n ∧ t.wpc.fill = s.wpc.fill ∧ t.rge = s.rge
          ∧ t.rst.history = s.rst.history))

/-- Pulses of a BRINE and of a RINSE grant count to the engine, each to the grant it finds (log entry 68; R35, R82,
R87). The brine target leads to DWELL with the grant released, the rest of the pulse not emitted (log entry 28); the
rinse target gives the completion result (R89) and EFFLUENT_DRAIN with its burst (R49, R90). The engine inside a
program's DRAIN (R30, R90, R91): the brine target leads to DWELL, which ends a drain extension and with it the phase;
the rinse target makes it finish at once, without a burst, its fields in IDLE as log entry 37 has them, and that ends
the extension too. Without an extension the sequencer goes on as it was. -/
def Obligations.BrineAndRinsePulsesCount : Prop :=
  (∀ (s : State), Awake s → GrantsAgree s → regenMayFlow s = true → s.wpc.fill = none → s.wpc.floodReq = none →
      permitCondition s = true → 200 ≤ s.wpc.latchedK → s.wpc.residue < s.wpc.latchedK → s.wpc.grantCount < 60000 →
      s.wpc.drainPump = pumpAsked s.wpc → s.seq.sub ≠ .drain → ∀ col, s.rge.column = some col →
      ∀ n, (s.wpc.residue + 1000) / s.wpc.latchedK = n →
      (s.rge.state = .brineDraw →
        (s.rge.brineDrawn + n < s.rge.brineTarget →
          exec .flowMeterPulse s = .next (finish (outputs { s with
            wpc := { s.wpc with residue := (s.wpc.residue + 1000) % s.wpc.latchedK, grantCount := s.wpc.grantCount + n }
            rge := { s.rge with brineDrawn := s.rge.brineDrawn + n } })))
        ∧ (s.rge.brineDrawn < s.rge.brineTarget → s.rge.brineTarget ≤ s.rge.brineDrawn + n →
          ∃ t, exec .flowMeterPulse s = .next t
            ∧ t.rge = { s.rge with state := .dwell, brineDrawn := s.rge.brineTarget, dwellLeft := s.rge.dwellTime }
            ∧ t.wpc.regen = none ∧ t.wpc.holder = .none ∧ t.wpc.inletValve = false ∧ t.wpc.brineValve = false
            ∧ t.sfu = s.sfu ∧ t.dsu = s.dsu ∧ t.ddu = s.ddu ∧ t.seq.state = s.seq.state ∧ t.seq.idx = s.seq.idx))
      ∧ (s.rge.state = .rinse →
        (s.rge.rinseDelivered + n < s.rge.rinseTarget →
          exec .flowMeterPulse s = .next (finish (outputs { s with
            wpc := { s.wpc with residue := (s.wpc.residue + 1000) % s.wpc.latchedK, grantCount := s.wpc.grantCount + n }
            rge := { s.rge with rinseDelivered := s.rge.rinseDelivered + n } })))
        ∧ (s.rge.rinseDelivered < s.rge.rinseTarget → s.rge.rinseTarget ≤ s.rge.rinseDelivered + n →
          ∃ t, exec .flowMeterPulse s = .next t
            ∧ t.rge = { s.rge with
                state := .effluentDrain, rinseDelivered := s.rge.rinseTarget
                result := some (if s.rge.saltMark
                  then ⟨min (s.cfg.nominal * 1000000) ((columnRec s.sfu col).remaining + s.rge.deficit / 2), true⟩
                  else ⟨s.cfg.nominal * 1000000, false⟩) }
            ∧ t.wpc.regen = none ∧ t.wpc.holder = .none ∧ t.wpc.burst = some (.running 0) ∧ t.wpc.drainPump = true
            ∧ t.sfu = s.sfu ∧ t.dsu = s.dsu ∧ t.ddu = s.ddu ∧ t.seq.state = s.seq.state ∧ t.seq.idx = s.seq.idx)))
  ∧ (∀ (s : State), Awake s → GrantsAgree s → regenMayFlow s = true → s.wpc.fill = none → s.wpc.floodReq = none →
      permitCondition s = true → 200 ≤ s.wpc.latchedK → s.wpc.residue < s.wpc.latchedK → s.wpc.grantCount < 60000 →
      s.wpc.drainPump = pumpAsked s.wpc → runningIn s .drain = true → s.sfu.fill.isOpen = false →
      ∀ col, s.rge.column = some col → (col = .c → s.sfu.colC.isSome = true) →
      ∀ n, (s.wpc.residue + 1000) / s.wpc.latchedK = n →
      (s.rge.state = .brineDraw → s.rge.brineDrawn < s.rge.brineTarget → s.rge.brineTarget ≤ s.rge.brineDrawn + n →
        ∃ t, exec .flowMeterPulse s = .next t
          ∧ t.rge = { s.rge with state := .dwell, brineDrawn := s.rge.brineTarget, dwellLeft := s.rge.dwellTime }
          ∧ t.wpc.regen = none ∧ t.wpc.brineValve = false
          ∧ (s.seq.extension = none →
            t.seq = { s.seq with permit := t.seq.permit } ∧ t.wpc.seqDrain = s.wpc.seqDrain ∧ t.wpc.holder = .none)
          ∧ (s.seq.extension.isSome = true → t.wpc.seqDrain = none ∧ t.seq.extension = none ∧ PhaseEnded s t))
      ∧ (s.rge.state = .rinse → s.rge.rinseDelivered < s.rge.rinseTarget → s.rge.rinseTarget ≤ s.rge.rinseDelivered + n →
        s.rge.saltMark = false → s.rge.timeout = .none → s.cfg.reserve < s.cfg.nominal * 1000000 → s.sfu.regenQ = [] →
        s.sfu.valveFault = true ∨ (∃ x, s.sfu.service = some x ∧ x ≠ col ∧ (columnRec s.sfu x).exhausted = false) →
        ∃ t, exec .flowMeterPulse s = .next t
          ∧ t.rge = { timeout := .none, lidOpen := s.rge.lidOpen, saltLow := s.rge.saltLow }
          ∧ t.wpc.regen = none ∧ t.wpc.burst = none
          ∧ columnRec t.sfu col = {
              remaining := s.cfg.nominal * 1000000, exhausted := false
              regens := min 65535 ((columnRec s.sfu col).regens + 1), degraded := false }
          ∧ t.sfu.ready = s.sfu.ready ++ [col] ∧ t.sfu.service = s.sfu.service ∧ writeAsked .columns t = true
          ∧ (noticeEnabled s.lnk.mask 14 = true → notified (.regenDone {
                column := col, outcome := .completed, remaining := s.cfg.nominal * 1000000, place := .readyQueue
                regens := min 65535 ((columnRec s.sfu col).regens + 1), brineDrawn := s.rge.brineDrawn
                rinseDelivered := s.rge.rinseTarget, timeout := .none }) t = true)
          ∧ (s.seq.extension = none → t.seq = { s.seq with permit := t.seq.permit } ∧ t.wpc.seqDrain = s.wpc.seqDrain)
          ∧ (s.seq.extension.isSome = true → t.wpc.seqDrain = none ∧ t.seq.extension = none ∧ PhaseEnded s t)))

/-- The flood switch ACTIVE (R51, R53) is taken in every part state: the inlet inhibited, closed and without holder,
the pump run, FLOOD entered, the sequencer FAULTED; in STANDBY it wakes the part (R197). A reading already held only
moves the pin (log entry 2). INACTIVE starts the run-on of 60 s, whose end clears the inhibit (R52). -/
def Obligations.TheFloodClosesTheInlet : Prop :=
  ∀ (s : State), s.part.powered = true → s.reports = [] →
    (s.wpc.flood = false → GrantsAgree s →
      ∃ t, exec (.floodSwitchChange true) s = .next t
        ∧ t.wpc.flood = true ∧ t.wpc.inhibit = true ∧ t.wpc.floodReq = some .active ∧ t.wpc.holder = .none
        ∧ t.wpc.inletValve = false ∧ t.wpc.brineValve = false ∧ t.wpc.drainPump = true
        ∧ t.seq.state = .faulted ∧ (s.seq.state ≠ .faulted → t.seq.fault.isSome = true)
        ∧ (s.seq.state ≠ .faulted → s.seq.fault = none → s.part.state ≠ .standby → t.seq.fault = some .flood)
        ∧ (s.part.state ≠ .standby → t.rst.history =
            appendHistory ⟨.flood, s.lnk.stamp, faultPhase s, .num 0, .num 0⟩ s.rst.history)
        ∧ (s.part.state = .ready ∨ s.part.state = .down ∨ s.part.state = .shut → t.part.state = s.part.state)
        ∧ (s.part.state = .standby → t.part.state = .ready
            ∧ (noticeEnabled s.lnk.mask 2 = true → notified (.wake .flood) t = true)))
    ∧ exec (.floodSwitchChange s.wpc.flood) s = .next { s with pins := { s.pins with flood := s.wpc.flood } }
    ∧ (Rests s →
      (s.wpc.flood = true → s.wpc.floodReq = some .active → s.wpc.inhibit = true ∨ s.wpc.regen = none →
        exec (.floodSwitchChange false) s = .next (finish (outputs { s with
          pins := { s.pins with flood := false }
          wpc := { s.wpc with flood := false, floodReq := some (.runOn 60) } })))
      ∧ (∀ n, s.wpc.floodReq = some (.runOn n) → s.wpc.regen = none →
        exec .floodRunOnExpiry s = .next (finish (outputs (onWpc (fun w => { w with floodReq := none, inhibit := false }) s)))))

/-- The SEQ drain request (R47, R48, R22, R26, R30): the end of the run-on ends the program's drain, extends it, or
ends the program; a failed first attempt pauses 30 s and pumps again; a failed second raises DRAIN_BLOCKED, whose
phase index is 255 for a recovery drain in FAULTED (log entry 26). The second blockage and the run-on are stated for a
sound part. -/
def Obligations.DrainsRunOnRetryAndBlock : Prop :=
  ∀ (s : State), Awake s →
    (∀ d, s.wpc.seqDrain = some d →
      (Rests s → (∃ n, d.stage = .pumping n) → d.second = false →
        runningIn s .drain = false ∨ (s.wpc.holder ≠ .brine ∧ s.wpc.holder ≠ .rinse) →
        exec .drainAttemptLimit s = .next (finish (outputs (onWpc (fun w => { w with
          seqDrain := some ⟨.paused 0, false⟩ }) s))))
      ∧ (Rests s → (∃ n, d.stage = .paused n) → runningIn s .drain = false ∨ s.wpc.regen = none →
        exec .drainPauseExpiry s = .next (finish (outputs (onWpc (fun w => { w with
          seqDrain := some ⟨if w.sumpEmpty then .runOn 0 else .pumping 0, true⟩ }) s))))
      ∧ (Sound s → (∃ n, d.stage = .pumping n) → d.second = true →
        ∃ t, exec .drainAttemptLimit s = .next t
          ∧ t.wpc.seqDrain = none ∧ t.seq.state = .faulted
          ∧ (s.seq.fault = none → s.seq.state ≠ .faulted → t.seq.fault = some .drainBlocked)
          ∧ t.rst.history = appendHistory ⟨.drainBlocked, s.lnk.stamp, faultPhase s, .num 0, .num 0⟩ s.rst.history)
      ∧ (Sound s → (∃ n, d.stage = .runOn n) →
        (runningIn s .drain = true → extensionHolds s = true →
          ∃ t, exec .drainRunOnExpiry s = .next t
            ∧ t.seq = { s.seq with extension := some 0, permit := true } ∧ t.wpc.seqDrain = some ⟨.kept, d.second⟩
            ∧ t.wpc.drainPump = true)
        ∧ (runningIn s .drain = true → extensionHolds s = false →
          (s.rge.state = .idle → s.sfu.regenQ = [] ∨ s.sfu.valveFault = true) →
          s.seq.count ≤ s.seq.idx + 1 →
          ∃ t, exec .drainRunOnExpiry s = .next t
            ∧ t.seq.state = .ended ∧ t.seq.summary = { s.seq.summary with outcome := .completed } ∧ t.wpc.seqDrain = none)
        ∧ (runningIn s .drain = true → extensionHolds s = false →
          (s.rge.state = .idle → s.sfu.regenQ = [] ∨ s.sfu.valveFault = true) →
          ∃ t, exec .drainRunOnExpiry s = .next t
            ∧ (BoundaryRests s → t.wpc.seqDrain = none) ∧ t.seq.extension = none ∧ PhaseEnded s t)
        ∧ (s.seq.state = .ending →
          ∃ t, exec .drainRunOnExpiry s = .next t
            ∧ t.wpc.seqDrain = none ∧ t.seq.fault = s.seq.fault
            ∧ (s.seq.fault = none → t.seq.state = .ended ∧ t.seq.summary = { s.seq.summary with outcome := .aborted })
            ∧ (s.seq.fault.isSome = true → t.seq.state = .faulted ∧ t.seq.summary = s.seq.summary)
            ∧ (noticeEnabled s.lnk.mask 7 = true → notified (.programEnd t.seq.summary) t = true))
        ∧ (s.seq.state = .faulted ∨ s.seq.state = .idle →
          ∃ t, exec .drainRunOnExpiry s = .next t
            ∧ t.wpc.seqDrain = none ∧ t.seq = { s.seq with permit := t.seq.permit })))

/-! ## The softener and the regeneration engine -/

/-- A column request refused (R70 to R72, Table 20): BAD_FIELD for an unknown column, NOT_FITTED for column C of two,
WRONG_STATE and BUSY as the column's state says; a request that finds the column where it asks is answered OK. None of
these changes anything. RETIRE COLUMN moves a column to the retired set (R71, R94): out of its queue, the regeneration
queue behind a busy engine or under a valve fault among them, or the faulted set, with nothing else changed but the
write asked; out of service, with the head of the ready queue entering it (R63) or the position left empty,
COLUMN_SWITCH then carrying a remaining capacity of 0 (log entry 43), a valve homing under way staying a homing (log
entry 20) and, under a valve fault, keeping its target (log entry 53); out of the engine, whose regeneration is
dropped, the notice carrying its counts and mark as they stood (log entry 55), which ends a drain extension (R30). The
retirement of the column in the engine is stated for a sound part. -/
def Obligations.ColumnRequestsAndRetirement : Prop :=
  (∀ (tag b : Byte) (s : State), Listens s →
      (columnOfCode b = none →
        exec (.regenerate tag b) s = .next (finish (answering 0x21#8 tag .badField .empty (heard s)))
        ∧ exec (.retireColumn tag b) s = .next (finish (answering 0x22#8 tag .badField .empty (heard s)))
        ∧ exec (.restoreColumn tag b) s = .next (finish (answering 0x23#8 tag .badField .empty (heard s))))
      ∧ (columnOfCode b = some .c → s.cfg.fitted ≠ 3 →
        exec (.regenerate tag b) s = .next (finish (answering 0x21#8 tag .notFitted .empty (heard s)))
        ∧ exec (.retireColumn tag b) s = .next (finish (answering 0x22#8 tag .notFitted .empty (heard s)))
        ∧ exec (.restoreColumn tag b) s = .next (finish (answering 0x23#8 tag .notFitted .empty (heard s))))
      ∧ (∀ col, columnOfCode b = some col → (col = .c → s.cfg.fitted = 3) →
        (columnState s col = .retired ∨ columnState s col = .faulted →
          exec (.regenerate tag b) s = .next (finish (answering 0x21#8 tag .wrongState .empty (heard s))))
        ∧ (columnState s col = .waiting ∨ columnState s col = .regenerating →
          exec (.regenerate tag b) s = .next (finish (answering 0x21#8 tag .ok .empty (heard s))))
        ∧ (columnState s col = .service → s.sfu.ready = [] ∨ s.sfu.valveFault = true →
          exec (.regenerate tag b) s = .next (finish (answering 0x21#8 tag .busy .empty (heard s))))
        ∧ (columnState s col = .retired →
          exec (.retireColumn tag b) s = .next (finish (answering 0x22#8 tag .ok .empty (heard s))))
        ∧ (columnState s col ≠ .retired → columnState s col ≠ .faulted →
          exec (.restoreColumn tag b) s = .next (finish (answering 0x23#8 tag .wrongState .empty (heard s))))))
  ∧ (∀ (tag b : Byte) (s : State), Listens s → ∀ col, columnOfCode b = some col → (col = .c → s.cfg.fitted = 3) →
      (Rests s → columnState s col = .ready ∨ columnState s col = .waiting
          ∨ (columnState s col = .faulted ∧ col ∈ s.sfu.faulted) →
        exec (.retireColumn tag b) s = .next (finish (answering 0x22#8 tag .ok .empty (outputs (askWrite .columns
          (onSfu (fun f => { f with
            ready := f.ready.filter (· ≠ col), regenQ := f.regenQ.filter (· ≠ col), faulted := f.faulted.filter (· ≠ col)
            retired := f.retired ++ [col] })
            (heard s)))))))
      ∧ (Awake s → columnState s col = .waiting → s.wpc.holder = .none → s.wpc.fill = none → s.wpc.regen = none →
        s.rge.state = .idle → s.sfu.valveFault = true ∨ s.sfu.regenQ.filter (· ≠ col) = [] →
        exec (.retireColumn tag b) s = .next (finish (answering 0x22#8 tag .ok .empty (outputs (askWrite .columns
          (onSfu (fun f => { f with
            ready := f.ready.filter (· ≠ col), regenQ := f.regenQ.filter (· ≠ col), faulted := f.faulted.filter (· ≠ col)
            retired := f.retired ++ [col] })
            (heard s)))))))
      ∧ (Rests s → columnState s col = .service →
        ∃ t, exec (.retireColumn tag b) s = .next t
          ∧ t.sfu = { s.sfu with
              service := if s.sfu.valveFault then none else s.sfu.ready.head?
              ready := if s.sfu.valveFault then s.sfu.ready else s.sfu.ready.tail
              retired := s.sfu.retired ++ [col]
              rho := 0
              duty := (match (if s.sfu.valveFault then none else s.sfu.ready.head?) with
                | some _ => s.sfu.blend
                | none => 1000)
              valveMove := t.sfu.valveMove
              failedValve := t.sfu.failedValve }
          ∧ (s.sfu.valveFault = true → t.sfu.valveMove = s.sfu.valveMove ∧ t.sfu.failedValve = s.sfu.failedValve)
          ∧ (s.sfu.valveFault = false → t.sfu.failedValve = none ∧ t.sfu.valveMove =
              some ⟨(match s.sfu.ready.head? with | some x => .column x | none => .bypass), 0,
                (match s.sfu.valveMove with | some m => m.homing | none => false)⟩)
          ∧ (noticeEnabled s.lnk.mask 12 = true → notified (.columnSwitch (some col) t.sfu.service .retire
              (match t.sfu.service with | some x => (columnRec s.sfu x).remaining | none => 0)
              (if s.sfu.fill.isOpen then s.sfu.fill.v else 0)) t = true)
          ∧ writeAsked .columns t = true ∧ t.rge = s.rge ∧ t.dsu = s.dsu ∧ t.ddu = s.ddu
          ∧ t.lnk.awaiting = some ⟨0x22#8, tag, .ok, .empty⟩)
      ∧ (Sound s → columnState s col = .regenerating →
        ∃ t, exec (.retireColumn tag b) s = .next t
          ∧ t.sfu.retired = s.sfu.retired ++ [col]
          ∧ (s.seq.extension = none → s.wpc.fill = none ∨ s.wpc.highLevel = false →
            t.sfu = { s.sfu with
              retired := s.sfu.retired ++ [col]
              regenQ := if s.sfu.valveFault then s.sfu.regenQ else s.sfu.regenQ.tail }
            ∧ (s.sfu.valveFault = false → ∀ x, s.sfu.regenQ.head? = some x → Taken x s t))
          ∧ (runningIn s .drain = true → s.wpc.fill = none → s.sfu.fill.isOpen = false → s.seq.extension.isSome = true →
            t.seq.extension = none ∧ PhaseEnded s t ∧ (BoundaryRests s → t.wpc.seqDrain = none))
          ∧ (s.sfu.regenQ = [] → s.wpc.highLevel = false ∨ (s.wpc.fill = none ∧ (s.seq.extension = none ∨ BoundaryRests s)) →
            t.rge = { lidOpen := s.rge.lidOpen, saltLow := s.rge.saltLow }
              ∧ t.wpc.regen = none ∧ t.wpc.burst = none ∧ t.wpc.holder ≠ .brine ∧ t.wpc.holder ≠ .rinse
              ∧ t.wpc.brineValve = false)
          ∧ (noticeEnabled s.lnk.mask 14 = true → notified (.regenDone {
                column := col, outcome := .retired, remaining := (columnRec s.sfu col).remaining, place := .retiredSet
                regens := (columnRec s.sfu col).regens, brineDrawn := s.rge.brineDrawn
                rinseDelivered := s.rge.rinseDelivered, timeout := s.rge.timeout }) t = true)
          ∧ writeAsked .columns t = true ∧ t.ddu.fitted = s.ddu.fitted
          ∧ t.lnk.awaiting = some ⟨0x22#8, tag, .ok, .empty⟩))

/-- RESTORE COLUMN and REGENERATE send a column to the regeneration queue (R70, R72); the idle engine takes it at
once, with the targets of R80 from its deficit, and asks for brine while the salt lid is closed (R65, R81); a valve
fault keeps it waiting (R77). -/
def Obligations.TheEngineTakesAWaitingColumn : Prop :=
  ∀ (tag b : Byte) (s : State), Listens s → Rests s → (s.rge.state = .idle → s.wpc.burst = none) →
    ∀ col, columnOfCode b = some col → (col = .c → s.cfg.fitted = 3) →
    ((columnState s col = .retired ∨ columnState s col = .faulted) ∧ (col ∈ s.sfu.retired ∨ col ∈ s.sfu.faulted) →
      ∃ t, exec (.restoreColumn tag b) s = .next t
        ∧ t.sfu = { s.sfu with
            retired := s.sfu.retired.filter (· ≠ col), faulted := s.sfu.faulted.filter (· ≠ col)
            regenQ := if s.rge.state = .idle ∧ s.sfu.valveFault = false then [] else s.sfu.regenQ ++ [col] }
        ∧ (s.rge.state ≠ .idle ∨ s.sfu.valveFault = true → t.rge = s.rge ∧ t.wpc.regen = s.wpc.regen)
        ∧ (s.rge.state = .idle → s.sfu.valveFault = false → Taken col s t)
        ∧ writeAsked .columns t = true ∧ WaterFollows (answering 0x23#8 tag .ok .empty
            { heard s with sfu := { s.sfu with retired := s.sfu.retired.filter (· ≠ col) } }) t)
    ∧ (columnState s col = .ready →
      ∃ t, exec (.regenerate tag b) s = .next t
        ∧ t.sfu = { s.sfu with
            ready := s.sfu.ready.filter (· ≠ col), retired := s.sfu.retired.filter (· ≠ col)
            faulted := s.sfu.faulted.filter (· ≠ col)
            regenQ := if s.rge.state = .idle ∧ s.sfu.valveFault = false then [] else s.sfu.regenQ ++ [col] }
        ∧ (s.rge.state ≠ .idle ∨ s.sfu.valveFault = true → t.rge = s.rge ∧ t.wpc.regen = s.wpc.regen)
        ∧ (s.rge.state = .idle → s.sfu.valveFault = false → Taken col s t)
        ∧ writeAsked .columns t = true ∧ t.dsu = s.dsu ∧ t.ddu = s.ddu
        ∧ t.lnk.awaiting = some ⟨0x21#8, tag, .ok, .empty⟩)
    ∧ (columnState s col = .service → s.sfu.valveFault = false → ∀ next, s.sfu.ready.head? = some next → next ≠ col →
      ∃ t, exec (.regenerate tag b) s = .next t
        ∧ t.sfu.service = some next ∧ t.sfu.ready = s.sfu.ready.tail ∧ t.sfu.rho = 0
        ∧ t.sfu.regenQ = (if s.rge.state = .idle then [] else s.sfu.regenQ ++ [col])
        ∧ t.sfu.duty = s.sfu.blend ∧ (s.rge.state = .idle → Taken col s t)
        ∧ (s.rge.state ≠ .idle → t.rge = s.rge ∧ t.wpc.regen = s.wpc.regen) ∧ t.sfu.retired = s.sfu.retired
        ∧ t.sfu.faulted = s.sfu.faulted
        ∧ (noticeEnabled s.lnk.mask 12 = true → notified (.columnSwitch (some col) (some next) .hostRegenerate
            (columnRec s.sfu next).remaining (if s.sfu.fill.isOpen then s.sfu.fill.v else 0)) t = true)
        ∧ t.lnk.awaiting = some ⟨0x21#8, tag, .ok, .empty⟩)

/-- The column valve (R76, R77): a confirmation of the target ends the move; that of a homing clears the valve fault
too. Failure raises COLUMN_VALVE, sets the fault and leaves the position UNKNOWN; a late confirmation of the failed
target only sets the position; the limit taken after the confirmation it falls together with, before a second has
passed, is void, also where another move has followed (R76, log entry 69). RESET UNIT SOFTENER homes the column valve
and keeps the places (R78); a regeneration is abandoned and its column returns to the head of the queue, the notice
carrying its counts as they stood (log entry 55), which a standing valve fault keeps there (R92, R93, R77); without a
fault the idle engine takes the head of the queue again. With the timeout mark set the column joins the faulted set,
the notice says FAULTED, and the next column of the queue is taken (R92, R93). Within a drain extension the
abandonment ends the extension, and with it the phase (R93, R30, R18), a next phase before an open door as log entry
14 has it. The abandonment is stated for a sound part. The column valve's homing in STARTING (R195): its confirmation,
or its failure, which joins the homing faults, ends it; when no other homing is under way the part enters READY,
raises READY with the state it started from and the homing faults, and counts silence from 0 (R182). Stated for a part
whose water path rests and whose ready queue is empty. A homing's confirmation clears the valve fault (R77); with or
without a fault standing before it (log entry 22) what it held back goes on: a ready column enters an empty or
exhausted service, with COLUMN_SWITCH, the outgoing column at the tail of the regeneration queue and a move to its
position (R64, R63); the idle engine takes the head of that queue (R65, R80). In STARTING the homing is over with it
(R195). -/
def Obligations.TheColumnValveConfirmsFailsAndHomes : Prop :=
  (∀ (p : ValvePos) (s : State), Rests s →
      (∀ m, s.sfu.valveMove = some m →
        (m.target = p → m.homing = false →
          exec (.columnValveConfirmation p) s = .next (finish (outputs { s with
            sfu := { s.sfu with valvePos := some p, valveMove := none }, ties := { s.ties with valve := false } })))
        ∧ (m.target = p → m.homing = true → s.sfu.ready = [] → s.rge.state ≠ .idle ∨ s.sfu.regenQ = [] →
          exec (.columnValveConfirmation p) s = .next (finish (outputs { s with
            sfu := { s.sfu with valvePos := some p, valveMove := none, valveFault := false }
            part := { s.part with homings := { s.part.homings with valve := false } }
            ties := { s.ties with valve := false } })))
        ∧ (m.target ≠ p → exec (.columnValveConfirmation p) s = .next s)
        ∧ (s.part.homings.valve = false → s.ties.valve = false →
          ∃ t, exec .columnValveMoveTimeout s = .next t
            ∧ t.sfu = { s.sfu with valveFault := true, valvePos := none, valveMove := none, failedValve := some m.target }
            ∧ t.rst.history = appendHistory ⟨.columnValve, s.lnk.stamp, faultPhase s, .valve m.target, .num 0⟩ s.rst.history
            ∧ t.part = s.part ∧ t.rge = s.rge ∧ t.dsu = s.dsu ∧ t.ddu = s.ddu ∧ t.cfg = s.cfg
            ∧ t.seq = { s.seq with permit := t.seq.permit }))
      ∧ (s.ties.valve = true → exec .columnValveMoveTimeout s = .next s)
      ∧ (∀ m, s.sfu.valveMove = some m →
        ∃ t, exec (.columnValveConfirmation m.target) s = .next t ∧ exec .columnValveMoveTimeout t = .next t)
      ∧ (s.sfu.valveMove = none → s.sfu.failedValve = some p →
        exec (.columnValveConfirmation p) s = .next (onSfu (fun f => { f with valvePos := some p }) s)))
  ∧ (∀ (tag : Byte) (s : State), Listens s →
      (Rests s → s.rge.column = none →
        exec (.resetUnitSoftener tag) s = .next (finish (answering 0x09#8 tag .ok (.unit 2#8) (outputs (onSfu (fun f => { f with
          valveMove := some ⟨(match f.service with | some col => .column col | none => .bypass), 0, true⟩
          failedValve := none }) (heard s))))))
      ∧ (Sound s → s.sfu.valveFault = true → s.rge.timeout = .none → s.seq.extension = none →
        s.wpc.fill = none ∨ s.wpc.highLevel = false → ∀ col, s.rge.column = some col →
        ∃ t, exec (.resetUnitSoftener tag) s = .next t
          ∧ t.sfu = { s.sfu with
              regenQ := col :: s.sfu.regenQ
              valveMove := some ⟨(match s.sfu.service with | some x => .column x | none => .bypass), 0, true⟩
              failedValve := none }
          ∧ t.rge = { lidOpen := s.rge.lidOpen, saltLow := s.rge.saltLow }
          ∧ t.wpc.regen = none ∧ t.wpc.burst = none ∧ t.wpc.brineValve = false ∧ writeAsked .columns t = true
          ∧ (noticeEnabled s.lnk.mask 14 = true → notified (.regenDone {
                column := col, outcome := .abandoned, remaining := (columnRec s.sfu col).remaining, place := .regenQueue
                regens := (columnRec s.sfu col).regens, brineDrawn := s.rge.brineDrawn
                rinseDelivered := s.rge.rinseDelivered, timeout := .none }) t = true)
          ∧ t.seq.state = s.seq.state ∧ t.lnk.awaiting = some ⟨0x09#8, tag, .ok, .unit 2#8⟩)
      ∧ (Sound s → s.sfu.valveFault = false → s.rge.timeout = .none → s.seq.extension = none →
        s.wpc.fill = none ∨ s.wpc.highLevel = false →
        ∀ col, s.rge.column = some col → (col = .c → s.sfu.colC.isSome = true) →
        ∃ t, exec (.resetUnitSoftener tag) s = .next t
          ∧ t.sfu = { s.sfu with
              valveMove := some ⟨(match s.sfu.service with | some x => .column x | none => .bypass), 0, true⟩
              failedValve := none }
          ∧ t.rge.column = some col ∧ (t.rge.state = .brineWait ∨ t.rge.state = .brineDraw) ∧ t.rge.brineDrawn = 0
          ∧ t.rge.rinseDelivered = 0 ∧ t.rge.stageTime = 0 ∧ t.rge.saltMark = (t.rge.state == .brineDraw && s.rge.saltLow)
          ∧ t.wpc.burst = none ∧ writeAsked .columns t = true
          ∧ (noticeEnabled s.lnk.mask 14 = true → notified (.regenDone {
                column := col, outcome := .abandoned, remaining := (columnRec s.sfu col).remaining, place := .regenQueue
                regens := (columnRec s.sfu col).regens, brineDrawn := s.rge.brineDrawn
                rinseDelivered := s.rge.rinseDelivered, timeout := .none }) t = true)
          ∧ t.lnk.awaiting = some ⟨0x09#8, tag, .ok, .unit 2#8⟩)
      ∧ (Sound s → s.rge.timeout ≠ .none → s.seq.extension = none → s.wpc.fill = none ∨ s.wpc.highLevel = false →
        ∀ col, s.rge.column = some col →
        ∃ t, exec (.resetUnitSoftener tag) s = .next t
          ∧ t.sfu = { s.sfu with
              faulted := s.sfu.faulted ++ [col]
              regenQ := if s.sfu.valveFault then s.sfu.regenQ else s.sfu.regenQ.tail
              valveMove := some ⟨(match s.sfu.service with | some x => .column x | none => .bypass), 0, true⟩
              failedValve := none }
          ∧ (s.sfu.valveFault = true ∨ s.sfu.regenQ = [] →
            t.rge = { lidOpen := s.rge.lidOpen, saltLow := s.rge.saltLow } ∧ t.wpc.regen = none)
          ∧ (s.sfu.valveFault = false → ∀ x, s.sfu.regenQ.head? = some x → Taken x s t)
          ∧ t.wpc.burst = none ∧ writeAsked .columns t = true
          ∧ (∀ q, s.wpc.fill = some q → t.wpc.fill = some { q with held := true } ∧ t.wpc.holder = .fill)
          ∧ (noticeEnabled s.lnk.mask 14 = true → notified (.regenDone {
                column := col, outcome := .faulted, remaining := (columnRec s.sfu col).remaining, place := .faultedSet
                regens := (columnRec s.sfu col).regens, brineDrawn := s.rge.brineDrawn
                rinseDelivered := s.rge.rinseDelivered, timeout := s.rge.timeout }) t = true)
          ∧ t.seq.state = s.seq.state ∧ t.lnk.awaiting = some ⟨0x09#8, tag, .ok, .unit 2#8⟩)
      ∧ (Sound s → Extending s → ∀ col, s.rge.column = some col →
        ∃ t, exec (.resetUnitSoftener tag) s = .next t
          ∧ t.seq.extension = none ∧ PhaseEnded s t ∧ (BoundaryRests s → t.wpc.seqDrain = none)
          ∧ (s.rge.timeout = .none →
            t.sfu.regenQ = (if s.sfu.valveFault then col :: s.sfu.regenQ else s.sfu.regenQ)
              ∧ t.sfu.faulted = s.sfu.faulted ∧ t.sfu.service = s.sfu.service
              ∧ t.sfu.valveMove = some ⟨(match s.sfu.service with | some x => .column x | none => .bypass), 0, true⟩
              ∧ (s.sfu.valveFault = true →
                t.rge = { lidOpen := s.rge.lidOpen, saltLow := s.rge.saltLow } ∧ t.wpc.regen = none)
              ∧ (s.sfu.valveFault = false → Taken col s t))
          ∧ (s.rge.timeout ≠ .none → t.sfu.faulted = s.sfu.faulted ++ [col])
          ∧ writeAsked .columns t = true
          ∧ (noticeEnabled s.lnk.mask 14 = true → notified (.regenDone {
                column := col, outcome := if s.rge.timeout = .none then .abandoned else .faulted
                remaining := (columnRec s.sfu col).remaining
                place := if s.rge.timeout = .none then .regenQueue else .faultedSet
                regens := (columnRec s.sfu col).regens, brineDrawn := s.rge.brineDrawn
                rinseDelivered := s.rge.rinseDelivered, timeout := s.rge.timeout }) t = true)
          ∧ t.lnk.awaiting = some ⟨0x09#8, tag, .ok, .unit 2#8⟩))
  ∧ (∀ (p : ValvePos) (s : State), s.part.powered = true → s.part.state = .starting → s.reports = [] → WaterRests s →
      s.sfu.ready = [] → s.part.homings.valve = true → ∀ m, s.sfu.valveMove = some m → m.homing = true →
      (m.target = p → s.rge.state ≠ .idle ∨ s.sfu.regenQ = [] →
        (s.part.homings = ⟨true, false, false, false⟩ →
          ∃ t, exec (.columnValveConfirmation p) s = .next t
            ∧ t.part = { s.part with state := .ready, homings := ⟨false, false, false, false⟩, homingFaults := [] }
            ∧ t.sfu = { s.sfu with valvePos := some p, valveMove := none, valveFault := false }
            ∧ (noticeEnabled s.lnk.mask 1 = true → notified (.ready s.part.startedFrom s.part.homingFaults) t = true)
            ∧ t.lnk.silence = (if linkSends s then some 0 else none) ∧ t.rst.history = s.rst.history
            ∧ t.seq = { s.seq with permit := t.seq.permit } ∧ t.dsu = s.dsu ∧ t.ddu = s.ddu)
        ∧ (s.part.homings ≠ ⟨true, false, false, false⟩ →
          exec (.columnValveConfirmation p) s = .next (finish (outputs { s with
            sfu := { s.sfu with valvePos := some p, valveMove := none, valveFault := false }
            part := { s.part with homings := { s.part.homings with valve := false } }
            ties := { s.ties with valve := false } }))))
      ∧ (s.ties.valve = false → ∃ t, exec .columnValveMoveTimeout s = .next t
          ∧ t.sfu = { s.sfu with valveFault := true, valvePos := none, valveMove := none, failedValve := some m.target }
          ∧ t.rst.history =
              appendHistory ⟨.columnValve, s.lnk.stamp, faultPhase s, .valve m.target, .num 0⟩ s.rst.history
          ∧ (s.part.homings ≠ ⟨true, false, false, false⟩ →
            t.part = { s.part with
              homings := { s.part.homings with valve := false }, homingFaults := s.part.homingFaults ++ [.columnValve] })
          ∧ (s.part.homings = ⟨true, false, false, false⟩ →
            t.part = { s.part with state := .ready, homings := ⟨false, false, false, false⟩, homingFaults := [] }
              ∧ (noticeEnabled s.lnk.mask 1 = true →
                  notified (.ready s.part.startedFrom (s.part.homingFaults ++ [.columnValve])) t = true)
              ∧ t.lnk.silence = (if linkSends s then some 0 else none))
          ∧ t.seq = { s.seq with permit := t.seq.permit } ∧ t.dsu = s.dsu ∧ t.ddu = s.ddu))
  ∧ (∀ (p : ValvePos) (s : State), s.part.powered = true → s.reports = [] → Sound s →
      s.part.state = .ready ∨ (s.part.state = .starting ∧ s.part.homings.valve = true) →
      ∀ m, s.sfu.valveMove = some m → m.target = p → m.homing = true →
      (∀ next, s.sfu.ready.head? = some next → (∀ o, s.sfu.service = some o → (columnRec s.sfu o).exhausted = true) →
        ∃ t, exec (.columnValveConfirmation p) s = .next t
          ∧ t.sfu = { s.sfu with
              service := some next, ready := s.sfu.ready.tail, valveFault := false, valvePos := some p, rho := 0
              valveMove := some ⟨.column next, 0, false⟩, failedValve := none, duty := s.sfu.blend
              regenQ := if s.rge.state = .idle then (s.sfu.regenQ ++ s.sfu.service.toList).tail
                else s.sfu.regenQ ++ s.sfu.service.toList }
          ∧ (s.rge.state = .idle → ∀ x, (s.sfu.regenQ ++ s.sfu.service.toList).head? = some x → Taken x s t)
          ∧ (s.rge.state ≠ .idle → t.rge.column = s.rge.column)
          ∧ (noticeEnabled s.lnk.mask 12 = true → notified (.columnSwitch s.sfu.service (some next) .ready
              (columnRec s.sfu next).remaining (if s.sfu.fill.isOpen then s.sfu.fill.v else 0)) t = true)
          ∧ writeAsked .columns t = true ∧ t.seq = { s.seq with permit := t.seq.permit }
          ∧ t.dsu = s.dsu ∧ t.ddu = s.ddu ∧ t.rst.history = s.rst.history
          ∧ (s.part.state = .ready → t.part = s.part)
          ∧ (s.part.state = .starting → HomingOver { s.part.homings with valve := false } s.part.homingFaults s t))
      ∧ (s.sfu.ready = [] ∨ (∃ o, s.sfu.service = some o ∧ (columnRec s.sfu o).exhausted = false) →
        ∃ t, exec (.columnValveConfirmation p) s = .next t
          ∧ t.sfu = { s.sfu with
              valveFault := false, valvePos := some p, valveMove := none
              regenQ := if s.rge.state = .idle then s.sfu.regenQ.tail else s.sfu.regenQ }
          ∧ (s.rge.state = .idle → ∀ x, s.sfu.regenQ.head? = some x → Taken x s t ∧ writeAsked .columns t = true)
          ∧ (s.rge.state ≠ .idle → t.rge.column = s.rge.column)
          ∧ t.seq = { s.seq with permit := t.seq.permit }
          ∧ t.dsu = s.dsu ∧ t.ddu = s.ddu ∧ t.rst.history = s.rst.history
          ∧ (s.part.state = .ready → t.part = s.part)
          ∧ (s.part.state = .starting → HomingOver { s.part.homings with valve := false } s.part.homingFaults s t)))

/-- The salt switches (R81, R83, R85): an opened lid withdraws the brine request, held or waiting, the volume drawn
kept; a closed one asks again; LOW during a draw sets the mark and raises SALT_LOW once. A change of the salt lid
wakes a part in STANDBY (R197), with its fresh reads and the engine's reading of the lid; a reading already held only
moves the pin (log entry 2). -/
def Obligations.SaltLidAndSaltLow : Prop :=
  (∀ (s : State), Awake s → GrantsAgree s →
      (s.rge.lidOpen = false → s.rge.state = .brineWait ∨ s.rge.state = .brineDraw → s.wpc.fill = none →
        ∃ t, exec (.saltLidSwitchChange true) s = .next t
          ∧ t.rge = { s.rge with lidOpen := true, state := .brineWait } ∧ t.wpc.regen = none ∧ t.wpc.holder = .none
          ∧ t.wpc.inletValve = false ∧ t.wpc.brineValve = false ∧ t.sfu = s.sfu
          ∧ WaterFollows { s with pins := { s.pins with lidOpen := true }, rge := { s.rge with lidOpen := true } } t)
      ∧ (s.rge.lidOpen = true → s.rge.state = .brineWait →
        ∃ t, exec (.saltLidSwitchChange false) s = .next t
          ∧ t.rge.lidOpen = false ∧ t.rge.column = s.rge.column ∧ t.rge.brineDrawn = s.rge.brineDrawn
          ∧ t.rge.brineTarget = s.rge.brineTarget ∧ t.rge.stageTime = s.rge.stageTime
          ∧ (t.wpc.regen = some ⟨.brine, false⟩ ∧ t.rge.state = .brineWait
              ∨ t.wpc.regen = some ⟨.brine, true⟩ ∧ t.rge.state = .brineDraw ∧ t.wpc.holder = .brine))
      ∧ (∀ b : Bool, exec (.saltLowSwitchChange b) s = .next (finish (
          if b = true ∧ s.rge.state = .brineDraw ∧ s.rge.saltMark = false then
            (match s.rge.column with
            | some col => raiseNotice (.saltLow col s.rge.brineDrawn) { s with
                pins := { s.pins with saltLow := b }, rge := { s.rge with saltLow := b, saltMark := true } }
            | none => { s with pins := { s.pins with saltLow := b }, rge := { s.rge with saltLow := b } })
          else { s with pins := { s.pins with saltLow := b }, rge := { s.rge with saltLow := b } }))))
  ∧ (∀ (b : Bool) (s : State), s.part.powered = true →
      (s.rge.lidOpen = b → exec (.saltLidSwitchChange b) s = .next { s with pins := { s.pins with lidOpen := b } })
      ∧ (s.part.state = .standby → s.rge.lidOpen ≠ b → Still { s with part := { s.part with state := .ready } } →
        s.seq.state = .idle ∨ s.seq.state = .ended →
        ∃ t, exec (.saltLidSwitchChange b) s = .next t
          ∧ t.part = { s.part with state := .ready } ∧ t.pins = { s.pins with lidOpen := b }
          ∧ t.rge = { s.rge with lidOpen := b, saltLow := s.pins.saltLow }
          ∧ t.lnk.silence = (if linkSends s then some 0 else none)
          ∧ (noticeEnabled s.lnk.mask 2 = true → notified (.wake .saltLid) t = true)
          ∧ t.wpc.sumpEmpty = s.pins.sumpEmpty ∧ t.wpc.heaterCover = s.pins.heaterCover
          ∧ t.wpc.highLevel = s.pins.highLevel ∧ t.dsu.lowSw = s.pins.low ∧ t.czs.reading = s.pins.pressure
          ∧ t.cfg = s.cfg ∧ t.sfu = s.sfu ∧ t.dsu.state = s.dsu.state))

/-- A brine stage of 90 s and a rinse stage of 120 s fail (R84, R88): the fault with the column and the volume, the
timeout mark, the grant released, EFFLUENT_DRAIN with its burst of 20 s. The dwell over, the rinse is asked (R86). The
burst over, the engine finishes (R49, R90, R91, R64): the result enters the record and the column joins the ready
queue above the switch reserve, or the faulted set after a timeout; REGEN_DONE; the engine IDLE, its marks standing
(log entry 37). A stage limit inside a program's DRAIN: the engine places no burst, finishes at once with the column
FAULTED, and that ends a drain extension and with it the phase (R84, R88, R90, R91, R30). Stated for a sound part. The
end of a burst in any sub-stage but DRAIN (R49, R64, R65, R80, R90, R91, R99). A result above the switch reserve puts
the column in an empty or exhausted service at once, with COLUMN_SWITCH, the outgoing column at the tail of the
regeneration queue and a move to its position (R63), a valve homing under way staying a homing (log entry 20); one at
or below it is marked exhausted and joins that tail. The engine, idle again, takes the head of the queue unless a
valve fault stands. A fill that waited behind the burst is granted (R38, R49). The sequencer enters DRAIN, at the end
of the hold time or at a resumption, beside a regeneration (R90, R91, R29, R39), its drain in the place of one that
still stands (log entry 52): an effluent drain's burst is withdrawn and the engine finishes at once; a request of
BRINE or RINSE that waited for the permit is granted, a grant that stands goes on. -/
def Obligations.StagesEndAndTheEngineFinishes : Prop :=
  (∀ (s : State), Awake s → GrantsAgree s → ∀ col, s.rge.column = some col →
      (s.rge.state = .brineDraw → s.wpc.fill = none → runningIn s .drain = false →
        ∃ t, exec .brineStageTimeLimit s = .next t
          ∧ t.rge = { s.rge with state := .effluentDrain, timeout := .brine, stageTime := 90 }
          ∧ t.rst.history = appendHistory
              ⟨.brineTimeout, s.lnk.stamp, faultPhase s, .column col, .num s.rge.brineDrawn⟩ s.rst.history
          ∧ t.wpc.regen = none ∧ t.wpc.holder = .none ∧ t.wpc.burst = some (.running 0) ∧ t.wpc.drainPump = true
          ∧ t.sfu = s.sfu ∧ t.dsu = s.dsu ∧ t.ddu = s.ddu ∧ t.seq = { s.seq with permit := t.seq.permit })
      ∧ (s.rge.state = .rinse → s.wpc.fill = none → runningIn s .drain = false →
        ∃ t, exec .rinseStageTimeLimit s = .next t
          ∧ t.rge = { s.rge with state := .effluentDrain, timeout := .rinse, stageTime := 120 }
          ∧ t.rst.history = appendHistory
              ⟨.rinseTimeout, s.lnk.stamp, faultPhase s, .column col, .num s.rge.rinseDelivered⟩ s.rst.history
          ∧ t.wpc.regen = none ∧ t.wpc.holder = .none ∧ t.wpc.burst = some (.running 0) ∧ t.wpc.drainPump = true
          ∧ t.sfu = s.sfu ∧ t.dsu = s.dsu ∧ t.ddu = s.ddu ∧ t.seq = { s.seq with permit := t.seq.permit })
      ∧ (s.rge.state = .dwell → (∀ q, s.wpc.fill = some q → q.held = true) →
        ∃ t, exec .regenDwellExpiry s = .next t
          ∧ t.rge = { s.rge with dwellLeft := 0, stageTime := 0, state := t.rge.state }
          ∧ (s.wpc.fill = none → waterFlows s = true →
            t.rge.state = .rinse ∧ t.wpc.regen = some ⟨.rinse, true⟩ ∧ t.wpc.holder = .rinse ∧ t.wpc.inletValve = true
              ∧ t.wpc.brineValve = false ∧ t.wpc.grantCount = 0 ∧ t.wpc.latchedK = s.cfg.k)
          ∧ (s.wpc.fill.isSome = true ∨ waterFlows s = false →
            t.rge.state = .rinseWait ∧ t.wpc.regen = some ⟨.rinse, false⟩ ∧ t.wpc.holder = s.wpc.holder)
          ∧ t.wpc.fill = s.wpc.fill ∧ t.sfu = s.sfu ∧ WaterFollows s t))
  ∧ (∀ (s : State), Awake s → GrantsAgree s → s.wpc.fill = none → s.sfu.regenQ = [] → runningIn s .drain = false →
      s.rge.state = .effluentDrain → (∃ n, s.wpc.burst = some (.running n)) →
      ∀ col, s.rge.column = some col → (col = .c → s.sfu.colC.isSome = true) →
      (s.rge.timeout = .none → s.sfu.valveFault = true ∨ (∃ x, s.sfu.service = some x ∧ x ≠ col ∧ (columnRec s.sfu x).exhausted = false) →
        ∀ res, s.rge.result = some res → s.cfg.reserve < min res.remaining (s.cfg.nominal * 1000000) →
        ∃ t, exec .drainBurstExpiry s = .next t
          ∧ t.sfu = { setColumnRec s.sfu col {
                remaining := min res.remaining (s.cfg.nominal * 1000000)
                exhausted := false
                regens := min 65535 ((columnRec s.sfu col).regens + 1)
                degraded := res.degraded } with
              ready := s.sfu.ready ++ [col] }
          ∧ t.rge = { saltMark := s.rge.saltMark, timeout := .none, lidOpen := s.rge.lidOpen, saltLow := s.rge.saltLow }
          ∧ t.wpc.burst = none ∧ t.wpc.regen = none ∧ writeAsked .columns t = true
          ∧ (noticeEnabled s.lnk.mask 14 = true → notified (.regenDone {
                column := col, outcome := if s.rge.saltMark then .degraded else .completed
                remaining := min res.remaining (s.cfg.nominal * 1000000), place := .readyQueue
                regens := min 65535 ((columnRec s.sfu col).regens + 1), brineDrawn := s.rge.brineDrawn
                rinseDelivered := s.rge.rinseDelivered, timeout := .none }) t = true)
          ∧ t.dsu = s.dsu ∧ t.ddu = s.ddu ∧ t.part = s.part ∧ t.cfg = s.cfg)
      ∧ (s.rge.timeout ≠ .none → s.sfu.ready = [] →
        ∃ t, exec .drainBurstExpiry s = .next t
          ∧ t.sfu = { s.sfu with faulted := s.sfu.faulted ++ [col] }
          ∧ t.rge.state = .idle ∧ t.rge.column = none ∧ t.wpc.burst = none ∧ writeAsked .columns t = true
          ∧ t.dsu = s.dsu ∧ t.ddu = s.ddu ∧ t.part = s.part ∧ t.cfg = s.cfg))
  ∧ (∀ (s : State), Awake s → Sound s → s.wpc.highLevel = false → s.wpc.fill = none → s.sfu.regenQ = [] →
      s.sfu.ready = [] → runningIn s .drain = true → s.sfu.fill.isOpen = false → ∀ col, s.rge.column = some col →
      (s.rge.state = .brineDraw →
        ∃ t, exec .brineStageTimeLimit s = .next t
          ∧ t.rge = { saltMark := s.rge.saltMark, timeout := .brine, lidOpen := s.rge.lidOpen, saltLow := s.rge.saltLow }
          ∧ t.rst.history = appendHistory
              ⟨.brineTimeout, s.lnk.stamp, s.seq.idx, .column col, .num s.rge.brineDrawn⟩ s.rst.history
          ∧ t.wpc.regen = none ∧ t.wpc.burst = s.wpc.burst ∧ t.sfu.faulted = s.sfu.faulted ++ [col]
          ∧ (s.seq.extension = none → t.seq = { s.seq with permit := t.seq.permit } ∧ t.wpc.seqDrain = s.wpc.seqDrain)
          ∧ (s.seq.extension.isSome = true → t.wpc.seqDrain = none ∧ t.seq.extension = none ∧ PhaseEnded s t))
      ∧ (s.rge.state = .rinse →
        ∃ t, exec .rinseStageTimeLimit s = .next t
          ∧ t.rge = { saltMark := s.rge.saltMark, timeout := .rinse, lidOpen := s.rge.lidOpen, saltLow := s.rge.saltLow }
          ∧ t.rst.history = appendHistory
              ⟨.rinseTimeout, s.lnk.stamp, s.seq.idx, .column col, .num s.rge.rinseDelivered⟩ s.rst.history
          ∧ t.wpc.regen = none ∧ t.wpc.burst = s.wpc.burst ∧ t.sfu.faulted = s.sfu.faulted ++ [col]
          ∧ (s.seq.extension = none → t.seq = { s.seq with permit := t.seq.permit } ∧ t.wpc.seqDrain = s.wpc.seqDrain)
          ∧ (s.seq.extension.isSome = true → t.wpc.seqDrain = none ∧ t.seq.extension = none ∧ PhaseEnded s t)))
  ∧ (∀ (s : State), Awake s → Sound s → s.rge.state = .effluentDrain → (∃ n, s.wpc.burst = some (.running n)) →
      s.wpc.fill = none ∨ s.wpc.highLevel = false → s.sfu.ready = [] →
      ∀ col, s.rge.column = some col → (col = .c → s.sfu.colC.isSome = true) → s.sfu.service ≠ some col →
      ∃ t, exec .drainBurstExpiry s = .next t
        ∧ t.wpc.burst = none ∧ writeAsked .columns t = true
        ∧ (∀ q, s.wpc.fill = some q → q.held = false →
          t.wpc.fill = some { q with held := true } ∧ t.wpc.holder = .fill ∧ t.wpc.inletValve = true
            ∧ t.wpc.grantCount = 0 ∧ t.wpc.residue = 0 ∧ t.wpc.latchedK = s.cfg.k ∧ t.wpc.fillTimer = some 0)
        ∧ (s.rge.timeout = .none → ∀ res, s.rge.result = some res →
          columnRec t.sfu col = {
              remaining := min res.remaining (s.cfg.nominal * 1000000)
              exhausted := decide (min res.remaining (s.cfg.nominal * 1000000) ≤ s.cfg.reserve)
              regens := min 65535 ((columnRec s.sfu col).regens + 1)
              degraded := res.degraded }
          ∧ (s.cfg.reserve < min res.remaining (s.cfg.nominal * 1000000) → s.sfu.valveFault = false →
            (∀ o, s.sfu.service = some o → (columnRec s.sfu o).exhausted = true) →
            t.sfu.service = some col ∧ t.sfu.ready = [] ∧ t.sfu.rho = 0 ∧ t.sfu.duty = s.sfu.blend
              ∧ t.sfu.valveMove = some ⟨.column col, 0, (match s.sfu.valveMove with | some m => m.homing | none => false)⟩
              ∧ t.sfu.regenQ = (s.sfu.regenQ ++ s.sfu.service.toList).tail
              ∧ (∀ x, (s.sfu.regenQ ++ s.sfu.service.toList).head? = some x → Taken x { s with sfu := t.sfu } t)
              ∧ (noticeEnabled s.lnk.mask 12 = true → notified (.columnSwitch s.sfu.service (some col) .ready
                  (min res.remaining (s.cfg.nominal * 1000000)) (if s.sfu.fill.isOpen then s.sfu.fill.v else 0)) t = true))
          ∧ (min res.remaining (s.cfg.nominal * 1000000) ≤ s.cfg.reserve →
            t.sfu.service = s.sfu.service ∧ t.sfu.ready = []
              ∧ t.sfu.regenQ = (if s.sfu.valveFault then s.sfu.regenQ ++ [col] else (s.sfu.regenQ ++ [col]).tail)
              ∧ (s.sfu.valveFault = false → ∀ x, (s.sfu.regenQ ++ [col]).head? = some x → Taken x { s with sfu := t.sfu } t)
              ∧ (noticeEnabled s.lnk.mask 14 = true → notified (.regenDone {
                    column := col, outcome := if s.rge.saltMark then .degraded else .completed
                    remaining := min res.remaining (s.cfg.nominal * 1000000), place := .regenQueue
                    regens := min 65535 ((columnRec s.sfu col).regens + 1), brineDrawn := s.rge.brineDrawn
                    rinseDelivered := s.rge.rinseDelivered, timeout := .none }) t = true)))
        ∧ (s.rge.timeout ≠ .none →
          t.sfu.faulted = s.sfu.faulted ++ [col] ∧ columnRec t.sfu col = columnRec s.sfu col
            ∧ t.sfu.regenQ = (if s.sfu.valveFault then s.sfu.regenQ else s.sfu.regenQ.tail)
            ∧ (s.sfu.valveFault = false → ∀ x, s.sfu.regenQ.head? = some x → Taken x s t)
            ∧ (noticeEnabled s.lnk.mask 14 = true → notified (.regenDone {
                  column := col, outcome := .faulted, remaining := (columnRec s.sfu col).remaining, place := .faultedSet
                  regens := (columnRec s.sfu col).regens, brineDrawn := s.rge.brineDrawn
                  rinseDelivered := s.rge.rinseDelivered, timeout := s.rge.timeout }) t = true))
        ∧ t.seq = { s.seq with permit := t.seq.permit } ∧ t.dsu = s.dsu ∧ t.ddu = s.ddu ∧ t.part = s.part ∧ t.cfg = s.cfg
        ∧ t.rst.history = s.rst.history)
  ∧ (∀ (s : State), Awake s → Sound s → s.seq.extension = none → ∀ w, currentWash s = some w →
      ∀ held : Bool, (held = true ∧ s.seq.state = .running ∧ s.seq.sub = .circulate ∧ w.drain = true)
        ∨ (held = false ∧ s.seq.state = .suspended ∧ s.seq.settling.isSome = true
            ∧ s.ddu.doorOpen = false ∧ s.seq.remembered = .sub .drain) →
      ∃ t, exec (if held then .holdTimerExpiry else .settlingTimerExpiry) s = .next t
        ∧ t.seq.state = .running ∧ t.seq.sub = .drain ∧ t.seq.idx = s.seq.idx ∧ t.seq.permit = true
        ∧ t.wpc.seqDrain = some ⟨if s.wpc.sumpEmpty then .runOn 0 else .pumping 0, false⟩ ∧ t.wpc.drainPump = true
        ∧ t.wpc.fill = none ∧ (held = true → t.htc.request = none)
        ∧ (s.rge.state ≠ .idle → s.rge.state ≠ .effluentDrain → s.wpc.highLevel = false → s.wpc.inhibit = false →
          s.wpc.flood = false → EngineGranted s t)
        ∧ (s.rge.state = .effluentDrain → ∀ col, s.rge.column = some col → (col = .c → s.sfu.colC.isSome = true) →
          t.wpc.burst = none ∧ writeAsked .columns t = true
            ∧ (s.rge.timeout = .none → ∀ res, s.rge.result = some res →
              columnRec t.sfu col = {
                  remaining := min res.remaining (s.cfg.nominal * 1000000)
                  exhausted := decide (min res.remaining (s.cfg.nominal * 1000000) ≤ s.cfg.reserve)
                  regens := min 65535 ((columnRec s.sfu col).regens + 1)
                  degraded := res.degraded }
                ∧ (s.cfg.reserve < min res.remaining (s.cfg.nominal * 1000000) → s.sfu.ready = [] →
                  (∃ x, s.sfu.service = some x ∧ x ≠ col ∧ (columnRec s.sfu x).exhausted = false) →
                  t.sfu.ready = [col] ∧ t.sfu.service = s.sfu.service
                    ∧ (s.sfu.regenQ = [] ∨ s.sfu.valveFault = true → t.sfu.regenQ = s.sfu.regenQ ∧ t.rge.state = .idle)))
            ∧ (s.rge.timeout ≠ .none → t.sfu.faulted = s.sfu.faulted ++ [col] ∧ columnRec t.sfu col = columnRec s.sfu col)))

/-! ## Dosing -/

/-- SET RESERVOIR LEVEL (R106, R104): the level limited to the capacity, the low test, the write; an unknown channel
is refused with BAD_FIELD, an unfitted D3 with NOT_FITTED. The low switches (R102) and the cap switches (R103): LOW
lowers the estimate to the low mark; a cap opened and closed over a switch that reads NOT_LOW is a refill to the
capacity, with EMPTY and low-notified cleared; in STANDBY a cap change wakes the part (R197) and a low switch is not
sensed, only its pin moves (log entry 33). -/
def Obligations.ReservoirLevelsAndSwitches : Prop :=
  (∀ (tag b : Byte) (v : Half) (s : State), Listens s → LevelsKept s →
      (channelOfCode b = none →
        exec (.setReservoirLevel tag b v) s = .next (finish (answering 0x29#8 tag .badField .empty (heard s))))
      ∧ (∀ ch, channelOfCode b = some ch →
        ((reservoirOf s.dsu ch).fitted = false →
          exec (.setReservoirLevel tag b v) s = .next (finish (answering 0x29#8 tag .notFitted .empty (heard s))))
        ∧ ((reservoirOf s.dsu ch).fitted = true →
          ∃ t, exec (.setReservoirLevel tag b v) s = .next t
            ∧ t.dsu = setReservoir s.dsu ch { reservoirOf s.dsu ch with
                level := min (Config.capacity ch) v.toNat
                lowNotified := decide (min (Config.capacity ch) v.toNat ≤ Config.lowMark ch) }
            ∧ (noticeEnabled s.lnk.mask 18 = true → (reservoirOf s.dsu ch).lowNotified = false → v.toNat ≤ Config.lowMark ch →
                notified (.reservoirLow ch v.toNat) t = true)
            ∧ writeAsked .reservoirs t = true
            ∧ t.lnk.awaiting = some ⟨0x29#8, tag, if v.toNat ≤ Config.capacity ch then .ok else .clamped,
                .level ch (min (Config.capacity ch) v.toNat)⟩
            ∧ t = { s with dsu := t.dsu, lnk := t.lnk, rst := t.rst, ties := (heard s).ties } ∧ t.rst.history = s.rst.history
            ∧ t.lnk = { (heard s).lnk with awaiting := t.lnk.awaiting, tx := t.lnk.tx, notices := t.lnk.notices })))
  ∧ (∀ (ch : Channel) (b : Bool) (s : State), s.part.powered = true → LevelsKept s → s.reports = [] →
      (s.part.state = .ready → (reservoirOf s.dsu ch).fitted = true →
        (perChannelGet s.dsu.lowSw ch ≠ b →
          ∃ t, exec (.lowSwitchChange ch b) s = .next t
            ∧ t.pins = { s.pins with low := perChannelSet s.pins.low ch b }
            ∧ t.dsu = setReservoir { s.dsu with lowSw := perChannelSet s.dsu.lowSw ch b } ch
                (if b then { reservoirOf s.dsu ch with
                  level := min (reservoirOf s.dsu ch).level (Config.lowMark ch), lowNotified := true }
                else reservoirOf s.dsu ch)
            ∧ (noticeEnabled s.lnk.mask 18 = true → b = true → (reservoirOf s.dsu ch).lowNotified = false →
                notified (.reservoirLow ch (Config.lowMark ch)) t = true)
            ∧ t = { s with pins := t.pins, dsu := t.dsu, lnk := t.lnk, rst := t.rst } ∧ t.rst = (beginWrite s).rst)
        ∧ (perChannelGet s.dsu.capSw ch ≠ b →
          ∃ t, exec (.capSwitchChange ch b) s = .next t
            ∧ t.pins = { s.pins with capOpen := perChannelSet s.pins.capOpen ch b }
            ∧ t.dsu = setReservoir { s.dsu with capSw := perChannelSet s.dsu.capSw ch b } ch
                (if b then { reservoirOf s.dsu ch with capOpened := true }
                else if (reservoirOf s.dsu ch).capOpened = true ∧ perChannelGet s.dsu.lowSw ch = false then
                  { reservoirOf s.dsu ch with
                    level := Config.capacity ch, empty := false, lowNotified := false, capOpened := false }
                else { reservoirOf s.dsu ch with capOpened := false })
            ∧ (b = false → (reservoirOf s.dsu ch).capOpened = true → perChannelGet s.dsu.lowSw ch = false →
                writeAsked .reservoirs t = true)
            ∧ t = { s with pins := t.pins, dsu := t.dsu, lnk := t.lnk, rst := t.rst } ∧ t.rst.history = s.rst.history))
      ∧ (s.part.state = .standby →
        exec (.lowSwitchChange ch b) s = .next { s with pins := { s.pins with low := perChannelSet s.pins.low ch b } }
        ∧ (perChannelGet s.dsu.capSw ch ≠ b →
          ∃ t, exec (.capSwitchChange ch b) s = .next t
            ∧ t.part.state = .ready ∧ perChannelGet t.dsu.capSw ch = b
            ∧ (noticeEnabled s.lnk.mask 2 = true → notified (.wake (.cap ch)) t = true))))

/-- PRIME CHANNEL (R113, R116): examined in the order of the rule; accepted, the prime joins the queue with its stroke
volume latched and the next arrival number, and from IDLE opens the gather window of 2 s. RESET UNIT DOSING (R127):
the pump stops, the queue is emptied, the selector's position is UNKNOWN, and the write is asked; the reservoirs stay.
Its ends of sequencer origin are reported to the sequencer (R127, R124): the summary counts their confirmed doses, the
phase loses their places, and in DOSE the end of the last of them ends the sub-stage (R11), HEAT or CIRCULATE
following (R12, R13); outside DOSE the sequencer stays where it is. Stated in DOSE with a request of the phase
standing and a hold time, and for a queue within its bounds (R114). -/
def Obligations.PrimesJoinAndResetEmptiesTheQueue : Prop :=
  (∀ (tag b n : Byte) (s : State), Listens s →
      (channelOfCode b = none ∨ n.toNat = 0 ∨ 40 < n.toNat →
        exec (.primeChannel tag b n) s = .next (finish (answering 0x2A#8 tag .badField .empty (heard s))))
      ∧ (1 ≤ n.toNat → n.toNat ≤ 40 → ∀ ch, channelOfCode b = some ch →
        ((reservoirOf s.dsu ch).fitted = false →
          exec (.primeChannel tag b n) s = .next (finish (answering 0x2A#8 tag .notFitted .empty (heard s))))
        ∧ ((reservoirOf s.dsu ch).fitted = true →
          (s.seq.state ≠ .idle → s.seq.state ≠ .ended → s.seq.state ≠ .faulted →
            exec (.primeChannel tag b n) s = .next (finish (answering 0x2A#8 tag .wrongState .empty (heard s))))
          ∧ (s.seq.state = .idle ∨ s.seq.state = .ended ∨ s.seq.state = .faulted →
            ((s.dsu.batch ++ s.dsu.waiting).any (fun r => r.channel == ch && r.origin == .hostPrime) = true →
              exec (.primeChannel tag b n) s = .next (finish (answering 0x2A#8 tag .busy .empty (heard s))))
            ∧ ((s.dsu.batch ++ s.dsu.waiting).any (fun r => r.channel == ch && r.origin == .hostPrime) = false →
              exec (.primeChannel tag b n) s = .next (finish (answering 0x2A#8 tag .ok .empty (onDsu (fun d => { d with
                waiting := d.waiting ++ [{
                  channel := ch, origin := .hostPrime, volume := 0, target := n.toNat
                  strokeVolume := perChannelGet s.cfg.stroke ch, arrival := d.next }]
                next := (d.next + 1) % 256
                state := if d.state = .idle then .gathering else d.state
                windowLeft := if d.state = .idle then 2 else d.windowLeft }) (heard s)))))))))
  ∧ (∀ (tag : Byte) (s : State), Listens s → Rests s → runningIn s .dose = false →
      ∃ t, exec (.resetUnitDosing tag) s = .next t
        ∧ t.dsu = { s.dsu with
            state := .idle, windowLeft := 0, batch := [], waiting := [], next := 0, selector := none, move := none
            stroke := none, pause := false }
        ∧ writeAsked .reservoirs t = true ∧ t.lnk.awaiting = some ⟨0x09#8, tag, .ok, .unit 3#8⟩
        ∧ (∀ r, (s.dsu.batch ++ s.dsu.waiting).getLast? = some r →
          noticeEnabled s.lnk.mask 16 = true → notified (.doseDone {
              channel := r.channel, origin := r.origin, target := r.target, commanded := r.commanded
              confirmed := r.confirmed, volume := r.confirmed * r.strokeVolume, outcome := .cancelled
              reason := none }) t = true)
        ∧ t.seq.state = s.seq.state ∧ t.sfu = s.sfu ∧ t.rge = s.rge ∧ t.ddu = s.ddu ∧ t.part = s.part
        ∧ t.rst.history = s.rst.history)
  ∧ (∀ (tag : Byte) (s : State), Listens s → Rests s → DosesKept s →
      (runningIn s .dose = true → s.seq.placed ≠ [] ∧ ∀ w, currentWash s = some w → 0 < w.holdTime) →
      ∀ own, own = (s.dsu.batch ++ s.dsu.waiting).filter (fun r => r.origin ≠ .hostPrime) →
      ∃ t, exec (.resetUnitDosing tag) s = .next t
        ∧ t.dsu = { s.dsu with
            state := .idle, windowLeft := 0, batch := [], waiting := [], next := 0, selector := none, move := none
            stroke := none, pause := false }
        ∧ writeAsked .reservoirs t = true ∧ t.lnk.awaiting = some ⟨0x09#8, tag, .ok, .unit 3#8⟩
        ∧ (∀ r, (s.dsu.batch ++ s.dsu.waiting).getLast? = some r →
          noticeEnabled s.lnk.mask 16 = true → notified (.doseDone {
              channel := r.channel, origin := r.origin, target := r.target, commanded := r.commanded
              confirmed := r.confirmed, volume := r.confirmed * r.strokeVolume, outcome := .cancelled
              reason := none }) t = true)
        ∧ t.seq.placed = own.foldl (fun l r => l.erase r.arrival) s.seq.placed
        ∧ t.seq.summary = { s.seq.summary with dose := t.seq.summary.dose }
        ∧ (∀ ch, perChannelGet t.seq.summary.dose ch = perChannelGet s.seq.summary.dose ch
            + ((own.filter fun r => r.channel = ch).map fun r => r.confirmed * r.strokeVolume).sum)
        ∧ DoseWentOn s t ∧ t.sfu = s.sfu ∧ t.rge = s.rge ∧ t.ddu = s.ddu ∧ t.part = s.part
        ∧ t.rst.history = s.rst.history)

/-- The gather window closes (R116, R117): the waiting requests form the batch, swept from the selector's position on,
an UNKNOWN one as 1 with a homing first (R118); its first request becomes ACTIVE and is served: a move, a stroke, or,
below one stroke volume, an UNDERDOSE with the EMPTY mark (R120). The selector (R118, R119): the target confirmed ends
a homing or a move, by a report that is late for a failed move too (log entry 65), another position is ignored, and
the request is served on; a failure raises SELECTOR with the target, leaves the position UNKNOWN and ends the request
UNDERDOSE; a limit that falls together with a confirmation taken first is void, also where another move has followed
(R118, log entry 69). The selector's homing in STARTING (R195, R118, R128): position 1 reported ends it with the
position (log entry 19), the DSU state as it stands (log entry 46), its failure raises SELECTOR, leaves the position
UNKNOWN and joins the homing faults, its second detail absent (log entry 62); the last homing over, the part is READY.
Stated for a part whose water path rests and whose dose queue is empty. At its service a request of the sequencer on a
channel marked EMPTY ends UNDERDOSE, CHANNEL_EMPTY, with no move and no stroke (R120); a prime is served all the same.
Below one stroke volume either ends UNDERDOSE, LEVEL_LOW, with the EMPTY mark. While the pause is set the window
closes into the batch and the Dosing Unit is PAUSED before the first move (R116, R125), each request still QUEUED, one
on an EMPTY channel too (log entry 61). The sweep holds for any length (R117). The end of a homing or move under a
request of either origin (R118 to R120, R125, R126): confirmed, an ACTIVE request is stroked or moved for, or, below
one stroke volume, ends UNDERDOSE, LEVEL_LOW; under the pause it waits in PAUSED; failed, it ends UNDERDOSE, SELECTOR.
One marked by a cancellation ends CANCELLED with the move, whichever way it ends. -/
def Obligations.BatchesAndTheSelector : Prop :=
  (∀ (s : State), Rests s → s.dsu.state = .gathering → s.dsu.batch = [] → s.dsu.move = none → s.dsu.stroke = none →
      s.dsu.pause = false → s.dsu.r1.empty = false → s.dsu.r2.empty = false → s.dsu.r3.empty = false →
      (s.dsu.selector = none → s.dsu.waiting ≠ [] →
        ∃ t, exec .gatherWindowExpiry s = .next t
          ∧ t.dsu.batch.map (fun r => (r.arrival, r.channel)) =
              (s.dsu.waiting.filter (·.channel = .d1) ++ s.dsu.waiting.filter (·.channel = .d2)
                ++ s.dsu.waiting.filter (·.channel = .d3)).map (fun r => (r.arrival, r.channel))
          ∧ (∀ r, t.dsu.batch.head? = some r → r.state = .active)
          ∧ t.dsu.waiting = [] ∧ t.dsu.state = .serving ∧ t.dsu.move = some ⟨true, .d1, 0⟩ ∧ t.dsu.stroke = none
          ∧ t.dsu.windowLeft = 0 ∧ t.dsu.r1 = s.dsu.r1 ∧ t.dsu.r2 = s.dsu.r2 ∧ t.dsu.r3 = s.dsu.r3)
      ∧ (∀ p, s.dsu.selector = some p → ∀ r, s.dsu.waiting.head? = some r → s.dsu.waiting.tail = [] →
        (r.channel ≠ p →
          exec .gatherWindowExpiry s = .next (finish (outputs (onDsu (fun d => { d with
            windowLeft := 0, state := .serving, batch := [{ r with state := .active }], waiting := []
            move := some ⟨false, r.channel, 0⟩ }) s))))
        ∧ (r.channel = p → r.strokeVolume ≤ (reservoirOf s.dsu p).level →
          exec .gatherWindowExpiry s = .next (finish (outputs (onDsu (fun d => { d with
            windowLeft := 0, state := .serving, batch := [{ r with state := .active, commanded := r.commanded + 1 }]
            waiting := [], stroke := some 0 }) s))))
        ∧ (r.channel = p → (reservoirOf s.dsu p).level < r.strokeVolume → r.origin = .hostPrime →
          ∃ t, exec .gatherWindowExpiry s = .next t
            ∧ t.dsu = { setReservoir s.dsu p { reservoirOf s.dsu p with empty := true } with
                windowLeft := 0, state := .idle, waiting := [] }
            ∧ (noticeEnabled s.lnk.mask 17 = true → notified (.underdose {
                  channel := p, origin := .hostPrime, target := r.target, commanded := r.commanded
                  confirmed := r.confirmed, volume := r.confirmed * r.strokeVolume, outcome := .underdose
                  reason := some .levelLow }) t = true)
            ∧ writeAsked .reservoirs t = true)))
  ∧ (∀ (p : Channel) (s : State), Rests s → s.dsu.stroke = none → s.dsu.pause = false → ∀ m, s.dsu.move = some m →
      (m.target ≠ p → exec (.selectorPositionReport p) s = .next (finish (outputs s)))
      ∧ (s.ties.selector = true → exec .selectorMoveTimeout s = .next s)
      ∧ (∃ t, exec (.selectorPositionReport m.target) s = .next t ∧ exec .selectorMoveTimeout t = .next t)
      ∧ (m.target = p → s.part.homings.selector = true →
        exec (.selectorPositionReport p) s = .next (finish (outputs { s with
          dsu := { s.dsu with move := none, selector := some p }
          ties := { s.ties with selector := false }
          part := { s.part with homings := { s.part.homings with selector := false } } })))
      ∧ (s.part.homings.selector = false → s.dsu.waiting = [] → ∀ r, s.dsu.batch.head? = some r → s.dsu.batch.tail = [] →
        r.origin = .hostPrime → r.cancel = false →
        (m.target = p → r.channel = p → r.strokeVolume ≤ (reservoirOf s.dsu p).level →
          exec (.selectorPositionReport p) s = .next (finish (outputs { s with
            dsu := { s.dsu with
              move := none, selector := some p, state := .serving, stroke := some 0
              batch := [{ r with state := .active, commanded := r.commanded + 1 }] }
            ties := { s.ties with selector := false } })))
        ∧ (m.target = p → r.channel ≠ p →
          exec (.selectorPositionReport p) s = .next (finish (outputs { s with
            dsu := { s.dsu with
              move := some ⟨false, r.channel, 0⟩, selector := some p, state := .serving
              batch := [{ r with state := .active }] }
            ties := { s.ties with selector := true } })))
        ∧ (s.ties.selector = false → ∃ t, exec .selectorMoveTimeout s = .next t
            ∧ t.dsu = { s.dsu with move := none, selector := none, batch := [], state := .idle }
            ∧ t.rst.history = appendHistory
                ⟨.selector, s.lnk.stamp, faultPhase s, .channel m.target, .channel r.channel⟩ s.rst.history
            ∧ (noticeEnabled s.lnk.mask 17 = true → notified (.underdose {
                  channel := r.channel, origin := .hostPrime, target := r.target, commanded := r.commanded
                  confirmed := r.confirmed, volume := r.confirmed * r.strokeVolume, outcome := .underdose
                  reason := some .selector }) t = true)
            ∧ t.part = s.part ∧ t.sfu = s.sfu ∧ t.rge = s.rge ∧ t.ddu = s.ddu ∧ t.seq = { s.seq with permit := t.seq.permit })))
  ∧ (∀ (s : State), s.part.powered = true → s.part.state = .starting → s.reports = [] → WaterRests s → s.dsu.batch = [] →
      s.part.homings.selector = true → ∀ m, s.dsu.move = some m →
      (∃ t, exec (.selectorPositionReport m.target) s = .next t
        ∧ HomingOver { s.part.homings with selector := false } s.part.homingFaults s t
        ∧ t.dsu = { s.dsu with selector := some m.target, move := none }
        ∧ t.rst.history = s.rst.history ∧ t.seq = { s.seq with permit := t.seq.permit } ∧ t.sfu = s.sfu ∧ t.ddu = s.ddu)
      ∧ (s.ties.selector = false → ∃ t, exec .selectorMoveTimeout s = .next t
        ∧ HomingOver { s.part.homings with selector := false } (s.part.homingFaults ++ [.selector]) s t
        ∧ t.dsu = { s.dsu with selector := none, move := none }
        ∧ t.rst.history = appendHistory ⟨.selector, s.lnk.stamp, faultPhase s, .channel m.target, .absent⟩ s.rst.history
        ∧ t.seq = { s.seq with permit := t.seq.permit } ∧ t.sfu = s.sfu ∧ t.ddu = s.ddu))
  ∧ (∀ (s : State), Rests s → s.dsu.state = .gathering → s.dsu.batch = [] → s.dsu.move = none → s.dsu.stroke = none →
      (s.dsu.pause = true → s.dsu.waiting ≠ [] →
        exec .gatherWindowExpiry s = .next (finish (outputs (onDsu (fun d => { d with
          windowLeft := 0, state := .paused, waiting := []
          batch := inSweep s.dsu.selector s.dsu.waiting }) s))))
      ∧ (s.dsu.pause = false → ∀ p, s.dsu.selector = some p → ∀ b, b = inSweep s.dsu.selector s.dsu.waiting →
        ∀ r, b.head? = some r →
        r.origin = .hostPrime ∨ (reservoirOf s.dsu r.channel).empty = false →
        (r.channel ≠ p →
          exec .gatherWindowExpiry s = .next (finish (outputs (onDsu (fun d => { d with
            windowLeft := 0, state := .serving, batch := { r with state := .active } :: b.tail, waiting := []
            move := some ⟨false, r.channel, 0⟩ }) s))))
        ∧ (r.channel = p → r.strokeVolume ≤ (reservoirOf s.dsu p).level →
          exec .gatherWindowExpiry s = .next (finish (outputs (onDsu (fun d => { d with
            windowLeft := 0, state := .serving, waiting := []
            batch := { r with state := .active, commanded := r.commanded + 1 } :: b.tail, stroke := some 0 }) s)))))
      ∧ (s.dsu.pause = false → ∀ r, s.dsu.waiting.head? = some r → s.dsu.waiting.tail = [] →
        (r.origin ≠ .hostPrime → r.state = .queued → (reservoirOf s.dsu r.channel).empty = true →
          (runningIn s .dose = true → ∀ w, currentWash s = some w → 0 < w.holdTime) →
          ∃ t, exec .gatherWindowExpiry s = .next t
            ∧ t.dsu = { s.dsu with windowLeft := 0, state := .idle, waiting := [] }
            ∧ DoseReported r .underdose (some .channelEmpty) s t ∧ t.rst.history = s.rst.history)
        ∧ (r.origin = .hostPrime ∨ (reservoirOf s.dsu r.channel).empty = false → s.dsu.selector = some r.channel →
          (reservoirOf s.dsu r.channel).level < r.strokeVolume →
          (runningIn s .dose = true → ∀ w, currentWash s = some w → 0 < w.holdTime) →
          ∃ t, exec .gatherWindowExpiry s = .next t
            ∧ t.dsu = { setReservoir s.dsu r.channel { reservoirOf s.dsu r.channel with empty := true } with
                windowLeft := 0, state := .idle, waiting := [] }
            ∧ DoseReported r .underdose (some .levelLow) s t ∧ t.rst.history = s.rst.history)))
  ∧ (∀ (p : Channel) (s : State), Rests s → s.dsu.stroke = none → s.part.homings.selector = false → s.dsu.waiting = [] →
      ∀ m, s.dsu.move = some m → ∀ r, s.dsu.batch.head? = some r → s.dsu.batch.tail = [] → r.state = .active →
      (runningIn s .dose = true → ∀ w, currentWash s = some w → 0 < w.holdTime) →
      (r.cancel = true →
        (m.target = p →
          ∃ t, exec (.selectorPositionReport p) s = .next t
            ∧ t.dsu = { s.dsu with move := none, selector := some p, batch := [], state := .idle }
            ∧ DoseReported r .cancelled none s t ∧ t.rst.history = s.rst.history)
        ∧ (s.ties.selector = false → ∃ t, exec .selectorMoveTimeout s = .next t
            ∧ t.dsu = { s.dsu with move := none, selector := none, batch := [], state := .idle }
            ∧ DoseReported r .cancelled none s t
            ∧ t.rst.history = appendHistory
                ⟨.selector, s.lnk.stamp, faultPhase s, .channel m.target, .channel r.channel⟩ s.rst.history))
      ∧ (r.cancel = false →
        (m.target = p → s.dsu.pause = true →
          exec (.selectorPositionReport p) s = .next (finish (outputs { s with
            dsu := { s.dsu with move := none, selector := some p, state := .paused }
            ties := { s.ties with selector := false } })))
        ∧ (m.target = p → s.dsu.pause = false → r.channel ≠ p →
          exec (.selectorPositionReport p) s = .next (finish (outputs { s with
            dsu := { s.dsu with move := some ⟨false, r.channel, 0⟩, selector := some p, state := .serving }
            ties := { s.ties with selector := true } })))
        ∧ (m.target = p → s.dsu.pause = false → r.channel = p → r.strokeVolume ≤ (reservoirOf s.dsu p).level →
          exec (.selectorPositionReport p) s = .next (finish (outputs { s with
            dsu := { s.dsu with
              move := none, selector := some p, state := .serving, stroke := some 0
              batch := [{ r with commanded := r.commanded + 1 }] }
            ties := { s.ties with selector := false } })))
        ∧ (m.target = p → s.dsu.pause = false → r.channel = p → (reservoirOf s.dsu p).level < r.strokeVolume →
          ∃ t, exec (.selectorPositionReport p) s = .next t
            ∧ t.dsu = { setReservoir s.dsu p { reservoirOf s.dsu p with empty := true } with
                move := none, selector := some p, batch := [], state := .idle }
            ∧ DoseReported r .underdose (some .levelLow) s t ∧ t.rst.history = s.rst.history)
        ∧ (s.ties.selector = false → ∃ t, exec .selectorMoveTimeout s = .next t
            ∧ t.dsu = { s.dsu with move := none, selector := none, batch := [], state := .idle }
            ∧ DoseReported r .underdose (some .selector) s t
            ∧ t.rst.history = appendHistory
                ⟨.selector, s.lnk.stamp, faultPhase s, .channel m.target, .channel r.channel⟩ s.rst.history)))

/-- Strokes (R121 to R123): a confirmed stroke lowers the level by its volume, not below 0, and counts; a missed one
counts nothing; consecutive misses and confirmations are counted for either origin and past 3, the model's choice
where Table 31 gives them 0 to 3 (log entry 63); while neither the request's end nor a low level stops it the next
stroke follows at once, in the same step, also for a pulse that falls together with the end of the one before (the
model's choice, log entry 64). So without a cancelling command right behind: with one the stroke is counted or missed
and nothing else, no fault and no further stroke, and the request waits for it, FULL at its target all the same; ABORT
PROGRAM behind either end leaves a request of the sequencer CANCELLED (R126, log entries 66, 70). A request of the
sequencer ends FULL at its target, a prime FULL after three confirmations running or with a confirmed last stroke, its
first confirmation clearing the EMPTY mark; a prime whose last stroke is missed ends UNDERDOSE, PRIME_UNCONFIRMED; a
third miss running of a sequencer request raises DOSE_LINE_DRY and ends it UNDERDOSE. Each end is reported (R124), and
DOSE ends with the last request of the phase (R11), HEAT or CIRCULATE following (R12, R13). Strokes that end
otherwise: a level that a confirmed stroke leaves below one stroke volume, or that lies below it after a missed one,
ends the request UNDERDOSE, LEVEL_LOW, with the EMPTY mark (R120, R123). A request marked by a cancellation ends with
its stroke, FULL at its target, else CANCELLED, and a miss raises no DOSE_LINE_DRY (R126). Under the pause a stroke
counts in full and the Dosing Unit is then PAUSED with the request ACTIVE, or, where the stroke ends it, its end is
reported (R125). After an end the next request of the batch, or at once the next batch of the waiting ones, is served
(R117, R124). -/
def Obligations.StrokesAreConfirmedOrMissed : Prop :=
  (∀ (s : State), Rests s → s.dsu.stroke.isSome = true → s.dsu.move = none → s.dsu.pause = false → s.dsu.waiting = [] →
      LevelsKept s → cancelledBehind s = false →
      ∀ r, s.dsu.batch.head? = some r → s.dsu.batch.tail = [] → r.cancel = false → r.state = .active →
      10 ≤ r.strokeVolume → r.strokeVolume ≤ 50 → s.dsu.selector = some r.channel →
      (r.origin = .hostPrime →
        (r.confirmations < 2 → r.commanded < r.target → 2 * r.strokeVolume ≤ (reservoirOf s.dsu r.channel).level →
          ∃ t, exec .strokeConfirmationPulse s = .next t
            ∧ t.dsu = { setReservoir s.dsu r.channel (loweredBy r.strokeVolume r.channel
                  { reservoirOf s.dsu r.channel with
                    empty := if r.confirmed = 0 then false else (reservoirOf s.dsu r.channel).empty }) with
                state := .serving, stroke := some 0
                batch := [{ r with
                  confirmed := r.confirmed + 1, misses := 0, confirmations := r.confirmations + 1
                  commanded := r.commanded + 1 }] }
            ∧ t.seq = { s.seq with permit := t.seq.permit } ∧ t.rst.history = s.rst.history)
        ∧ (2 ≤ r.confirmations ∨ r.target ≤ r.commanded →
          ∃ t, exec .strokeConfirmationPulse s = .next t
            ∧ t.dsu = { setReservoir s.dsu r.channel (loweredBy r.strokeVolume r.channel
                  { reservoirOf s.dsu r.channel with
                    empty := if r.confirmed = 0 then false else (reservoirOf s.dsu r.channel).empty }) with
                state := .idle, stroke := none, batch := [] }
            ∧ (noticeEnabled s.lnk.mask 16 = true → notified (.doseDone {
                  channel := r.channel, origin := .hostPrime, target := r.target, commanded := r.commanded
                  confirmed := r.confirmed + 1, volume := (r.confirmed + 1) * r.strokeVolume, outcome := .full
                  reason := none }) t = true)
            ∧ writeAsked .reservoirs t = true
            ∧ t.seq = { s.seq with permit := t.seq.permit } ∧ t.rst.history = s.rst.history)
        ∧ (r.commanded < r.target → r.strokeVolume ≤ (reservoirOf s.dsu r.channel).level →
          exec .strokeTimeout s = .next (finish (outputs (onDsu (fun d => { d with
            state := .serving, stroke := some 0
            batch := [{ r with misses := r.misses + 1, confirmations := 0, commanded := r.commanded + 1 }] }) s))))
        ∧ (r.target ≤ r.commanded →
          ∃ t, exec .strokeTimeout s = .next t
            ∧ t.dsu = { s.dsu with state := .idle, stroke := none, batch := [] }
            ∧ (noticeEnabled s.lnk.mask 17 = true → notified (.underdose {
                  channel := r.channel, origin := .hostPrime, target := r.target, commanded := r.commanded
                  confirmed := r.confirmed, volume := r.confirmed * r.strokeVolume, outcome := .underdose
                  reason := some .primeUnconfirmed }) t = true)
            ∧ writeAsked .reservoirs t = true
            ∧ t.seq = { s.seq with permit := t.seq.permit } ∧ t.rst.history = s.rst.history))
      ∧ (∀ ph, r.origin = .sequencer ph →
        (runningIn s .dose = true → ∀ w, currentWash s = some w → 0 < w.holdTime) →
        (r.confirmed + 1 < r.target → 2 * r.strokeVolume ≤ (reservoirOf s.dsu r.channel).level →
          ∃ t, exec .strokeConfirmationPulse s = .next t
            ∧ t.dsu = { setReservoir s.dsu r.channel
                  (loweredBy r.strokeVolume r.channel (reservoirOf s.dsu r.channel)) with
                state := .serving, stroke := some 0
                batch := [{ r with
                  confirmed := r.confirmed + 1, misses := 0, confirmations := r.confirmations + 1
                  commanded := r.commanded + 1 }] }
            ∧ t.seq = { s.seq with permit := t.seq.permit } ∧ t.rst.history = s.rst.history)
        ∧ (r.misses < 2 → r.strokeVolume ≤ (reservoirOf s.dsu r.channel).level →
          exec .strokeTimeout s = .next (finish (outputs (onDsu (fun d => { d with
            state := .serving, stroke := some 0
            batch := [{ r with misses := r.misses + 1, confirmations := 0, commanded := r.commanded + 1 }] }) s))))
        ∧ (r.target ≤ r.confirmed + 1 →
          ∃ t, exec .strokeConfirmationPulse s = .next t
            ∧ t.dsu = { setReservoir s.dsu r.channel
                  (loweredBy r.strokeVolume r.channel (reservoirOf s.dsu r.channel)) with
                state := .idle, stroke := none, batch := [] }
            ∧ t.seq.summary = { s.seq.summary with
                dose := perChannelSet s.seq.summary.dose r.channel
                  (perChannelGet s.seq.summary.dose r.channel + (r.confirmed + 1) * r.strokeVolume) }
            ∧ t.seq.placed = s.seq.placed.erase r.arrival
            ∧ (noticeEnabled s.lnk.mask 16 = true → notified (.doseDone {
                  channel := r.channel, origin := r.origin, target := r.target, commanded := r.commanded
                  confirmed := r.confirmed + 1, volume := (r.confirmed + 1) * r.strokeVolume, outcome := .full
                  reason := none }) t = true)
            ∧ writeAsked .reservoirs t = true ∧ t.rst.history = s.rst.history ∧ DoseWentOn s t)
        ∧ (r.misses = 2 →
          ∃ t, exec .strokeTimeout s = .next t
            ∧ t.dsu = { setReservoir s.dsu r.channel { reservoirOf s.dsu r.channel with empty := true } with
                state := .idle, stroke := none, batch := [] }
            ∧ t.seq.summary = { s.seq.summary with
                dose := perChannelSet s.seq.summary.dose r.channel
                  (perChannelGet s.seq.summary.dose r.channel + r.confirmed * r.strokeVolume) }
            ∧ t.seq.placed = s.seq.placed.erase r.arrival
            ∧ t.rst.history = appendHistory
                ⟨.doseLineDry, s.lnk.stamp, faultPhase s, .channel r.channel, .num r.confirmed⟩ s.rst.history
            ∧ (noticeEnabled s.lnk.mask 17 = true → notified (.underdose {
                  channel := r.channel, origin := r.origin, target := r.target, commanded := r.commanded
                  confirmed := r.confirmed, volume := r.confirmed * r.strokeVolume, outcome := .underdose
                  reason := some .lineDry }) t = true)
            ∧ writeAsked .reservoirs t = true ∧ DoseWentOn s t)))
  ∧ (∀ (s : State), Rests s → s.dsu.stroke.isSome = true → s.dsu.move = none → LevelsKept s →
      ∀ r, s.dsu.batch.head? = some r → 10 ≤ r.strokeVolume → r.strokeVolume ≤ 50 → s.dsu.selector = some r.channel →
      (runningIn s .dose = true → ∀ w, currentWash s = some w → 0 < w.holdTime) →
      (s.dsu.batch.tail = [] → s.dsu.waiting = [] →
        (r.cancel = true →
          (∃ t, exec .strokeConfirmationPulse s = .next t
            ∧ t.dsu = { setReservoir s.dsu r.channel (loweredBy r.strokeVolume r.channel
                  { reservoirOf s.dsu r.channel with
                    empty := if r.origin = .hostPrime ∧ r.confirmed = 0 then false
                      else (reservoirOf s.dsu r.channel).empty }) with
                state := .idle, stroke := none, batch := [] }
            ∧ DoseReported { r with confirmed := r.confirmed + 1, confirmations := r.confirmations + 1, misses := 0 }
                (if r.target ≤ r.confirmed + 1 then .full else .cancelled) none s t
            ∧ t.rst.history = s.rst.history)
          ∧ (∃ t, exec .strokeTimeout s = .next t
            ∧ t.dsu = { s.dsu with state := .idle, stroke := none, batch := [] }
            ∧ DoseReported { r with misses := r.misses + 1, confirmations := 0 }
                (if r.target ≤ r.confirmed then .full else .cancelled) none s t
            ∧ t.rst.history = s.rst.history))
        ∧ (r.cancel = false → cancelledBehind s = false → r.state = .active →
          ((r.origin = .hostPrime → r.confirmations < 2 ∧ r.commanded < r.target) →
            (r.origin ≠ .hostPrime → r.confirmed + 1 < r.target) →
            (s.dsu.pause = true →
              ∃ t, exec .strokeConfirmationPulse s = .next t
                ∧ t.dsu = { setReservoir s.dsu r.channel (loweredBy r.strokeVolume r.channel
                      { reservoirOf s.dsu r.channel with
                        empty := if r.origin = .hostPrime ∧ r.confirmed = 0 then false
                          else (reservoirOf s.dsu r.channel).empty }) with
                    state := .paused, stroke := none
                    batch := [{ r with
                      confirmed := r.confirmed + 1, misses := 0, confirmations := r.confirmations + 1 }] }
                ∧ t.seq = { s.seq with permit := t.seq.permit } ∧ t.rst.history = s.rst.history)
            ∧ (s.dsu.pause = false → (reservoirOf s.dsu r.channel).level < 2 * r.strokeVolume →
              ∃ t, exec .strokeConfirmationPulse s = .next t
                ∧ t.dsu = { setReservoir s.dsu r.channel (loweredBy r.strokeVolume r.channel
                      { reservoirOf s.dsu r.channel with empty := true }) with
                    state := .idle, stroke := none, batch := [] }
                ∧ DoseReported { r with confirmed := r.confirmed + 1 } .underdose (some .levelLow) s t
                ∧ t.rst.history = s.rst.history))
          ∧ ((r.origin = .hostPrime → r.commanded < r.target) → (r.origin ≠ .hostPrime → r.misses < 2) →
            (s.dsu.pause = true →
              exec .strokeTimeout s = .next (finish (outputs (onDsu (fun d => { d with
                state := .paused, stroke := none
                batch := [{ r with misses := r.misses + 1, confirmations := 0 }] }) s))))
            ∧ (s.dsu.pause = false → (reservoirOf s.dsu r.channel).level < r.strokeVolume →
              ∃ t, exec .strokeTimeout s = .next t
                ∧ t.dsu = { setReservoir s.dsu r.channel { reservoirOf s.dsu r.channel with empty := true } with
                    state := .idle, stroke := none, batch := [] }
                ∧ DoseReported r .underdose (some .levelLow) s t ∧ t.rst.history = s.rst.history))
          ∧ ((r.origin = .hostPrime → 2 ≤ r.confirmations ∨ r.target ≤ r.commanded) →
            (r.origin ≠ .hostPrime → r.target ≤ r.confirmed + 1) →
            ∃ t, exec .strokeConfirmationPulse s = .next t
              ∧ t.dsu = { setReservoir s.dsu r.channel (loweredBy r.strokeVolume r.channel
                    { reservoirOf s.dsu r.channel with
                      empty := if r.origin = .hostPrime ∧ r.confirmed = 0 then false
                        else (reservoirOf s.dsu r.channel).empty }) with
                  state := .idle, stroke := none, batch := [] }
              ∧ DoseReported { r with confirmed := r.confirmed + 1 } .full none s t ∧ t.rst.history = s.rst.history)
          ∧ (r.origin = .hostPrime → r.target ≤ r.commanded →
            ∃ t, exec .strokeTimeout s = .next t
              ∧ t.dsu = { s.dsu with state := .idle, stroke := none, batch := [] }
              ∧ DoseReported r .underdose (some .primeUnconfirmed) s t ∧ t.rst.history = s.rst.history)
          ∧ (r.origin ≠ .hostPrime → r.misses = 2 →
            ∃ t, exec .strokeTimeout s = .next t
              ∧ t.dsu = { setReservoir s.dsu r.channel { reservoirOf s.dsu r.channel with empty := true } with
                  state := .idle, stroke := none, batch := [] }
              ∧ DoseReported r .underdose (some .lineDry) s t
              ∧ t.rst.history = appendHistory
                  ⟨.doseLineDry, s.lnk.stamp, faultPhase s, .channel r.channel, .num r.confirmed⟩ s.rst.history)))
      ∧ (s.dsu.pause = false → r.cancel = false → cancelledBehind s = false →
        (r.origin = .hostPrime → 2 ≤ r.confirmations ∨ r.target ≤ r.commanded) →
        (r.origin ≠ .hostPrime → r.target ≤ r.confirmed + 1) →
        ∀ r', (s.dsu.batch.tail ++ s.dsu.waiting).head? = some r' → (s.dsu.batch.tail ++ s.dsu.waiting).tail = [] →
        r'.channel ≠ r.channel → r'.origin = .hostPrime ∨ (reservoirOf s.dsu r'.channel).empty = false →
        ∃ t, exec .strokeConfirmationPulse s = .next t
          ∧ t.dsu = { setReservoir s.dsu r.channel (loweredBy r.strokeVolume r.channel
                { reservoirOf s.dsu r.channel with
                  empty := if r.origin = .hostPrime ∧ r.confirmed = 0 then false
                    else (reservoirOf s.dsu r.channel).empty }) with
              state := .serving, stroke := none, batch := [{ r' with state := .active }], waiting := []
              move := some ⟨false, r'.channel, 0⟩ }
          ∧ DoseReported { r with confirmed := r.confirmed + 1 } .full none s t ∧ t.rst.history = s.rst.history))
  ∧ (∀ (s : State), Rests s → s.dsu.stroke.isSome = true → s.dsu.move = none → LevelsKept s → cancelledBehind s = true →
      ∀ r, s.dsu.batch.head? = some r → r.cancel = false → 10 ≤ r.strokeVolume → r.strokeVolume ≤ 50 →
      exec .strokeTimeout s = .next (finish (outputs (onDsu (fun d => { d with
        stroke := none, batch := { r with misses := r.misses + 1, confirmations := 0 } :: d.batch.tail }) s)))
      ∧ (r.confirmed + 1 < r.target →
        ∃ t, exec .strokeConfirmationPulse s = .next t
          ∧ t.dsu = { setReservoir s.dsu r.channel (loweredBy r.strokeVolume r.channel
                { reservoirOf s.dsu r.channel with
                  empty := if r.origin = .hostPrime ∧ r.confirmed = 0 then false
                    else (reservoirOf s.dsu r.channel).empty }) with
              stroke := none
              batch := { r with confirmed := r.confirmed + 1, misses := 0, confirmations := r.confirmations + 1 }
                :: s.dsu.batch.tail }
          ∧ t.seq = { s.seq with permit := t.seq.permit } ∧ t.rst.history = s.rst.history)
      ∧ (r.target ≤ r.confirmed + 1 → s.dsu.batch.tail = [] → s.dsu.waiting = [] →
        (runningIn s .dose = true → ∀ w, currentWash s = some w → 0 < w.holdTime) → ∀ ph, r.origin = .sequencer ph →
        ∃ t, exec .strokeConfirmationPulse s = .next t
          ∧ t.dsu = { setReservoir s.dsu r.channel (loweredBy r.strokeVolume r.channel (reservoirOf s.dsu r.channel)) with
              state := .idle, stroke := none, batch := [] }
          ∧ DoseReported { r with confirmed := r.confirmed + 1 } .full none s t ∧ t.rst.history = s.rst.history))
  ∧ (∀ (tag : Byte) (rest : List Instr) (c : Instr) (s : State), Listens s → Rests s → Sound s → LevelsKept s →
      s.dsu.stroke.isSome = true → s.dsu.move = none → s.dsu.waiting = [] → s.dsu.state = .serving ∨ s.dsu.state = .paused →
      programHeats s = true → runningIn s .dry = false → s.pending = c :: .abortProgram tag :: rest →
      ∀ r, s.dsu.batch = [r] → r.cancel = false → r.state = .active → 10 ≤ r.strokeVolume → r.strokeVolume ≤ 50 →
      ∀ ph, r.origin = .sequencer ph → r.confirmed + 1 < r.target →
      ∀ hit : Bool, c = (if hit then .strokeConfirmationPulse else .strokeTimeout) →
      ∃ t u, step s = .next t ∧ step t = .next u ∧ u.pending = rest
        ∧ u.seq.state = .ending ∧ u.dsu.state = .idle ∧ u.dsu.batch = [] ∧ u.dsu.stroke = none ∧ u.dsu.pause = false
        ∧ u.seq.summary.dose = perChannelSet s.seq.summary.dose r.channel
            (perChannelGet s.seq.summary.dose r.channel + (r.confirmed + if hit then 1 else 0) * r.strokeVolume)
        ∧ (noticeEnabled s.lnk.mask 16 = true → notified (.doseDone {
              channel := r.channel, origin := r.origin, target := r.target, commanded := r.commanded
              confirmed := r.confirmed + if hit then 1 else 0
              volume := (r.confirmed + if hit then 1 else 0) * r.strokeVolume, outcome := .cancelled
              reason := none }) u = true)
        ∧ writeAsked .reservoirs u = true ∧ u.rst.history = s.rst.history)

/-- The hardness factor and the soil factor of a dose (R109). The volume factor and the drying factor of a dose
(R110). -/
def Obligations.DoseFactorsFollowTheirFormulas : Prop :=
  (∀ (c : ConfigRec) (h : Nat) (i : Fin 8),
      hardnessFactor c .d1 h = 1000 + c.kh1 * h / 100
      ∧ hardnessFactor c .d2 h = 1000 + c.kh2 * h / 100
      ∧ hardnessFactor c .d3 h = 1000
      ∧ soilFactor c .d1 i.val = c.soil[i] ∧ soilFactor c .d3 i.val = c.soil[i] ∧ soilFactor c .d2 i.val = 1000
      ∧ (h = 1000 → c.kh1 = 300 → hardnessFactor c .d1 h = 4000) ∧ (h = 1000 → c.kh2 = 300 → hardnessFactor c .d2 h = 4000)
      ∧ (h = 0 ∨ c.kh1 = 0 → hardnessFactor c .d1 h = 1000) ∧ (h = 0 ∨ c.kh2 = 0 → hardnessFactor c .d2 h = 1000)
      ∧ (∀ h', h ≤ h' → hardnessFactor c .d1 h ≤ hardnessFactor c .d1 h' ∧ hardnessFactor c .d2 h ≤ hardnessFactor c .d2 h'))
  ∧ (∀ (c : ConfigRec) (fitted : Bool) (v n : Nat), 0 < n →
      volumeFactor v n = max 700 (1000 * v / n)
      ∧ (v ≤ n → 700 ≤ volumeFactor v n ∧ volumeFactor v n ≤ 1000)
      ∧ (10 * v < 7 * n → volumeFactor v n = 700)
      ∧ (c.autoDry = true → dryingFactor c .d2 true = 1000 - c.rDry)
      ∧ (c.autoDry = false ∨ fitted = false → dryingFactor c .d2 fitted = 1000)
      ∧ dryingFactor c .d1 fitted = 1000 ∧ dryingFactor c .d3 fitted = 1000)

/-- A dose (R111): the product of the base dose and the four factors divided by 10^11 and rounded half up, limited to
ten times the maximum; the strokes of a dose deliver it, and less than one stroke volume more; the rows of Table 30.
The main fill over, the rest of its last pulse not emitted (log entry 28), DOSE asks the doses of the phase's
references from the closed record, the soil index and the configuration as they are then, one request each, in their
order, with the strokes of R111 and consecutive arrival numbers, and opens the gather window; a phase that asks none
passes DOSE over (R11, R108 to R112, R116). Stated for an empty dose queue. -/
def Obligations.DosesAreRoundedLimitedAndCovered : Prop :=
  (∀ (base fh fs fv fd maximum d stroke : Nat),
      (doseOf base fh fs fv fd maximum =
        min ((base * fh * fs * fv * fd + 50000000000) / 100000000000) (10 * maximum))
      ∧ (base = 0 → doseOf base fh fs fv fd maximum = 0)
      ∧ (2 * (base * fh * fs * fv * fd) < 100000000000 → doseOf base fh fs fv fd maximum = 0)
      ∧ (0 < stroke → d ≤ strokesFor d stroke * stroke ∧ strokesFor d stroke * stroke < d + stroke)
      ∧ doseOf 200 1060 1100 1000 1000 400 = 2332 ∧ doseOf 200 1331 1100 1000 1000 400 = 2928
      ∧ doseOf 400 1331 1600 1000 1000 300 = 3000 ∧ doseOf 200 1060 1000 700 1000 400 = 1484
      ∧ doseOf 30 1040 1000 1000 750 60 = 234 ∧ doseOf 50 1000 1600 1000 1000 100 = 800
      ∧ strokesFor 2332 25 = 94 ∧ strokesFor 2928 25 = 118 ∧ strokesFor 1484 25 = 60 ∧ strokesFor 234 25 = 10)
  ∧ (∀ (s : State), Rests s → GrantsAgree s → 200 ≤ s.wpc.latchedK → s.wpc.residue < s.wpc.latchedK →
      ∀ q, s.wpc.fill = some q → q.held = true → q.kind = .main → s.wpc.grantCount < q.target → q.target ≤ 6000 →
      q.target ≤ s.wpc.grantCount + (s.wpc.residue + 1000) / s.wpc.latchedK →
      runningIn s .fill = true → s.sfu.fill.isOpen = true → s.seq.placed = [] →
      s.dsu.state = .idle → s.dsu.batch = [] → s.dsu.waiting = [] → s.dsu.next < 256 →
      ∀ w, currentWash s = some w → 0 < w.holdTime → w.refs.length ≤ 2 → (w.refs.map (·.channel)).Nodup →
      ∃ t, exec .flowMeterPulse s = .next t
        ∧ t.sfu.fill.v = s.sfu.fill.v + (q.target - s.wpc.grantCount) ∧ t.sfu.fill.isOpen = false
        ∧ t.sfu.fill.hFill = (t.sfu.fill.g + 500 * t.sfu.fill.v) / (1000 * t.sfu.fill.v)
        ∧ (s.sfu.service = none → ∀ n, s.sfu.fill.v + (q.target - s.wpc.grantCount) = n →
            t.sfu.fill = { s.sfu.fill with
              isOpen := false, v := n, g := s.sfu.fill.g + (q.target - s.wpc.grantCount) * (s.sfu.hRaw * 1000)
              hFill := (t.sfu.fill.g + 500 * n) / (1000 * n) })
        ∧ (dosesAsked s w t.sfu.fill.v t.sfu.fill.hFill ≠ [] →
          t.seq.state = .running ∧ t.seq.sub = .dose ∧ t.czs.pump = true
            ∧ t.seq.placed = (doseRequests s (dosesAsked s w t.sfu.fill.v t.sfu.fill.hFill)).map (·.arrival)
            ∧ t.dsu = { s.dsu with
                state := .gathering, windowLeft := 2
                waiting := doseRequests s (dosesAsked s w t.sfu.fill.v t.sfu.fill.hFill)
                next := (s.dsu.next + (dosesAsked s w t.sfu.fill.v t.sfu.fill.hFill).length) % 256 })
        ∧ (dosesAsked s w t.sfu.fill.v t.sfu.fill.hFill = [] →
          t.dsu = s.dsu ∧ t.seq.placed = [] ∧ t.seq.state = .running
            ∧ (w.target = 0 ∨ s.seq.heaterOff = true → t.seq.sub = .circulate)
            ∧ (0 < w.target → s.seq.heaterOff = false → t.seq.sub = .heat ∨ t.seq.sub = .circulate))
        ∧ t.seq.idx = s.seq.idx ∧ t.rst.history = s.rst.history)

/-! ## Heating, circulation, the door and drying -/

/-- A new whole-degree value, limited to 0..120 °C, drives the two-point control, the warning band and the lockout
(R130, R136, R138 to R140); a measurement of the value held only moves the pin. A HEATING request at its target
becomes REGULATING and CIRCULATE begins (R134, R12). At 88 °C OVERHEAT is entered and the program ends through the
abort drain (R139, R26). In WAIT_COOL a change of the temperature is compared with the latched limit (R164): at or
below it the drying enters OPENING, its stage time 0 (log entry 60), with the motor driven outward; above it the wait
goes on. At 88 °C in DRY the program is FAULTED at once, without a drain and with hold-pending cleared (log entry 36),
and its drying ends (R139, R26). -/
def Obligations.TemperatureChangesAreSupervised : Prop :=
  (∀ (q : Int) (s : State), Rests s → s.htc.valid = true →
      (s.htc.temp = some (min 120 (q / 4).toNat) →
        exec (.sumpTemperatureChange q) s = .next { s with pins := { s.pins with sensor := .measured q } })
      ∧ (s.htc.temp ≠ some (min 120 (q / 4).toNat) → s.ddu.stage ≠ .waitCool →
        ∀ n, min 120 (q / 4).toNat = n →
        (n < 88 ∨ s.htc.lockout = true → (∀ r, s.htc.request = some r → r.heating = true → n < r.target) →
          ∃ t, exec (.sumpTemperatureChange q) s = .next t
            ∧ t.htc = { s.htc with
                temp := some n
                lastValid := some n
                demand := (match s.htc.request with
                  | some r => if n + 1 < r.target then true else if r.target ≤ n then false else s.htc.demand
                  | none => s.htc.demand)
                half := if 80 ≤ n then true else if n ≤ 78 then false else s.htc.half
                lockout := if n ≤ 70 then false else s.htc.lockout
                output := heaterOutput t }
            ∧ (80 ≤ n → s.htc.half = false → noticeEnabled s.lnk.mask 10 = true →
                notified (.tempWarn n (if programRuns s then some s.seq.idx else none)) t = true)
            ∧ t.rst.history = s.rst.history ∧ t.part = s.part ∧ t.seq = { s.seq with permit := t.seq.permit }
            ∧ t.sfu = s.sfu ∧ t.rge = s.rge ∧ t.dsu = s.dsu ∧ t.ddu = s.ddu)
        ∧ (n < 88 → runningIn s .heat = true → ∀ w, currentWash s = some w → 0 < w.holdTime →
          ∀ r, s.htc.request = some r → r.heating = true → r.target ≤ n →
            ∃ t, exec (.sumpTemperatureChange q) s = .next t
              ∧ t.htc.request = some ⟨r.target, false⟩ ∧ t.htc.demand = false ∧ t.htc.output = .off
              ∧ t.seq = { s.seq with sub := .circulate, holdTimer := 0, permit := t.seq.permit } ∧ t.czs.pump = true
              ∧ t.rst.history = s.rst.history ∧ t.part = s.part ∧ t.sfu = s.sfu ∧ t.rge = s.rge ∧ t.dsu = s.dsu
              ∧ t.ddu = s.ddu)
        ∧ (88 ≤ n → s.htc.lockout = false →
          ∃ t, exec (.sumpTemperatureChange q) s = .next t
            ∧ t.htc.lockout = true ∧ t.htc.half = true ∧ t.htc.output = .off ∧ t.htc.temp = some n
            ∧ t.rst.history = appendHistory ⟨.overheat, s.lnk.stamp, faultPhase s, .num n, targetDetail s⟩ s.rst.history
            ∧ (s.seq.state = .idle ∨ s.seq.state = .ended → t.seq.state = .faulted)
            ∧ (programHeats s = true → runningIn s .dry = false →
                t.seq.state = .ending ∧ t.seq.summary.outcome = .faulted ∧ t.htc.request = none ∧ t.wpc.drainPump = true)
            ∧ t.part.state = s.part.state ∧ t.cfg = s.cfg)))
  ∧ (∀ (q : Int) (s : State), Rests s → s.htc.valid = true → ∀ n, min 120 (q / 4).toNat = n →
      (s.htc.temp ≠ some n → s.ddu.stage = .waitCool →
        n < 88 ∨ s.htc.lockout = true → (∀ r, s.htc.request = some r → r.heating = true → n < r.target) →
        ∃ t, exec (.sumpTemperatureChange q) s = .next t
          ∧ (n ≤ s.ddu.openLimit →
            t.ddu = { s.ddu with stage := .opening, stageTime := 0, drive := .outward, stall := some 0 }
              ∧ (noticeEnabled s.lnk.mask 19 = true → notified (.dryStage (dryReport t)) t = true))
          ∧ (s.ddu.openLimit < n → t.ddu = s.ddu)
          ∧ t.htc = { s.htc with
              temp := some n
              lastValid := some n
              demand := (match s.htc.request with
                | some r => if n + 1 < r.target then true else if r.target ≤ n then false else s.htc.demand
                | none => s.htc.demand)
              half := if 80 ≤ n then true else if n ≤ 78 then false else s.htc.half
              lockout := if n ≤ 70 then false else s.htc.lockout
              output := heaterOutput t }
          ∧ t.rst.history = s.rst.history ∧ t.part = s.part ∧ t.seq = { s.seq with permit := t.seq.permit }
          ∧ t.sfu = s.sfu ∧ t.rge = s.rge ∧ t.dsu = s.dsu)
      ∧ (s.htc.temp ≠ some n → 88 ≤ n → s.htc.lockout = false → runningIn s .dry = true →
        s.ddu.stage ≠ .waitCool ∨ s.ddu.openLimit < n →
        ∃ t, exec (.sumpTemperatureChange q) s = .next t
          ∧ t.htc.lockout = true ∧ t.htc.output = .off
          ∧ t.seq.state = .faulted ∧ t.seq.sub = .none ∧ t.seq.holdPending = false ∧ t.seq.idx = s.seq.idx
          ∧ t.seq.fault = some (s.seq.fault.getD .overheat)
          ∧ t.seq.summary = { s.seq.summary with outcome := .faulted }
          ∧ (noticeEnabled s.lnk.mask 7 = true → notified (.programEnd t.seq.summary) t = true)
          ∧ t.rst.history = appendHistory ⟨.overheat, s.lnk.stamp, s.seq.idx, .num n, targetDetail s⟩ s.rst.history
          ∧ (t.ddu.stage = .none ∨ t.ddu.stage = .done ∨ t.ddu.stage = .retracting) ∧ t.ddu.awaited = false
          ∧ (s.ddu.stage = .waitCool → t.ddu.stage = .done ∧ t.ddu.drive = s.ddu.drive)
          ∧ t.wpc.seqDrain = s.wpc.seqDrain ∧ t.part.state = s.part.state ∧ t.dsu = s.dsu))

/-- A sensor indication clears the flag, makes the reading INVALID, and raises TEMP_SENSOR with the kind and the last
valid reading; in a program it disables the heating to the next START PROGRAM and HEAT passes to CIRCULATE (R131,
R12). One taken with the flag clear changes nothing, and a recovery with the flag set only moves the pin (log entry
2). The recovery sets the flag and takes the reading, the disable standing (R131). In WAIT_COOL a reading that turns
INVALID ends the wait as a reading at the limit does (R164, R131); a recovery there is compared like any other
reading. -/
def Obligations.SensorFailsAndRecovers : Prop :=
  (∀ (k : SensorKind) (q : Int) (s : State), Rests s → s.ddu.stage ≠ .waitCool →
      (s.htc.valid = false → exec (.sensorIndication k) s = .next { s with pins := { s.pins with sensor := .failed k } })
      ∧ (s.htc.valid = true →
        (runningIn s .heat = false →
          ∃ t, exec (.sensorIndication k) s = .next t
            ∧ t.htc = { s.htc with
                valid := false, faultKind := some k, temp := none, demand := false, output := .off
                programDisable := s.htc.programDisable || programHeats s }
            ∧ t.seq = { s.seq with heaterOff := s.seq.heaterOff || programHeats s, permit := t.seq.permit }
            ∧ t.rst.history = appendHistory ⟨.tempSensor, s.lnk.stamp, faultPhase s, .sensor k,
                (match s.htc.lastValid with | some n => .num n | none => .absent)⟩ s.rst.history
            ∧ t.part = s.part ∧ t.sfu = s.sfu ∧ t.rge = s.rge ∧ t.dsu = s.dsu ∧ t.ddu = s.ddu)
        ∧ (runningIn s .heat = true → ∀ w, currentWash s = some w → 0 < w.holdTime →
          ∃ t, exec (.sensorIndication k) s = .next t
            ∧ t.htc.valid = false ∧ t.htc.temp = none ∧ t.htc.faultKind = some k ∧ t.htc.programDisable = true
            ∧ t.htc.request = none ∧ t.htc.output = .off
            ∧ t.seq.state = .running ∧ t.seq.sub = .circulate ∧ t.seq.heaterOff = true ∧ t.seq.idx = s.seq.idx
            ∧ t.czs.pump = true ∧ t.part = s.part ∧ t.sfu = s.sfu ∧ t.rge = s.rge ∧ t.dsu = s.dsu ∧ t.ddu = s.ddu))
      ∧ (s.htc.valid = true → exec (.sensorRecovery q) s = .next { s with pins := { s.pins with sensor := .measured q } })
      ∧ (s.htc.valid = false → s.htc.request = none → min 120 (q / 4).toNat < 80 →
        ∃ t, exec (.sensorRecovery q) s = .next t
          ∧ t.htc = { s.htc with
              valid := true, faultKind := none, temp := some (min 120 (q / 4).toNat)
              lastValid := some (min 120 (q / 4).toNat)
              half := if min 120 (q / 4).toNat ≤ 78 then false else s.htc.half
              lockout := if min 120 (q / 4).toNat ≤ 70 then false else s.htc.lockout
              output := .off }
          ∧ t.rst.history = s.rst.history ∧ t.part = s.part ∧ t.seq = { s.seq with permit := t.seq.permit }
          ∧ t.sfu = s.sfu ∧ t.rge = s.rge ∧ t.dsu = s.dsu ∧ t.ddu = s.ddu))
  ∧ (∀ (k : SensorKind) (q : Int) (s : State), Rests s → s.ddu.stage = .waitCool →
      (s.htc.valid = false → exec (.sensorIndication k) s = .next { s with pins := { s.pins with sensor := .failed k } })
      ∧ (s.htc.valid = true → runningIn s .heat = false →
        ∃ t, exec (.sensorIndication k) s = .next t
          ∧ t.ddu = { s.ddu with stage := .opening, stageTime := 0, drive := .outward, stall := some 0 }
          ∧ (noticeEnabled s.lnk.mask 19 = true → notified (.dryStage (dryReport t)) t = true)
          ∧ t.htc = { s.htc with
              valid := false, faultKind := some k, temp := none, demand := false, output := .off
              programDisable := s.htc.programDisable || programHeats s }
          ∧ t.seq = { s.seq with heaterOff := s.seq.heaterOff || programHeats s, permit := t.seq.permit }
          ∧ t.rst.history = appendHistory ⟨.tempSensor, s.lnk.stamp, faultPhase s, .sensor k,
              (match s.htc.lastValid with | some n => .num n | none => .absent)⟩ s.rst.history
          ∧ t.part = s.part ∧ t.sfu = s.sfu ∧ t.rge = s.rge ∧ t.dsu = s.dsu)
      ∧ (s.htc.valid = true → exec (.sensorRecovery q) s = .next { s with pins := { s.pins with sensor := .measured q } })
      ∧ (s.htc.valid = false → s.htc.request = none → min 120 (q / 4).toNat < 80 →
        ∃ t, exec (.sensorRecovery q) s = .next t
          ∧ (min 120 (q / 4).toNat ≤ s.ddu.openLimit →
            t.ddu = { s.ddu with stage := .opening, stageTime := 0, drive := .outward, stall := some 0 })
          ∧ (s.ddu.openLimit < min 120 (q / 4).toNat → t.ddu = s.ddu)
          ∧ t.htc = { s.htc with
              valid := true, faultKind := none, temp := some (min 120 (q / 4).toNat)
              lastValid := some (min 120 (q / 4).toNat)
              half := if min 120 (q / 4).toNat ≤ 78 then false else s.htc.half
              lockout := if min 120 (q / 4).toNat ≤ 70 then false else s.htc.lockout
              output := .off }
          ∧ t.rst.history = s.rst.history ∧ t.part = s.part ∧ t.seq = { s.seq with permit := t.seq.permit }
          ∧ t.sfu = s.sfu ∧ t.rge = s.rge ∧ t.dsu = s.dsu))

/-- The heat limit expires with HEAT_TIMEOUT and CIRCULATE keeps the request, REGULATING (R133). A pressure change
confirms or withdraws the pressure and starts or stops the low timer (R147, R148); a reading already held only moves
the pin (log entry 2). The low timer's end counts a loss in HEAT and CIRCULATE with a request (R141), asks the phase's
top-up once (R16), and the second loss disables the heating of the phase with PRESSURE_LOSS (R142). -/
def Obligations.HeatLimitAndPressureLosses : Prop :=
  ∀ (b : Bool) (s : State), Rests s →
    (s.htc.valid = true → runningIn s .heat = true → ∀ w, currentWash s = some w → 0 < w.holdTime →
      ∀ r, s.htc.request = some r → r.heating = true →
        ∃ t, exec .heatLimitExpiry s = .next t
          ∧ t.htc.request = some ⟨r.target, false⟩ ∧ t.htc.limitLeft = 0 ∧ t.htc.demand = s.htc.demand
          ∧ t.seq = { s.seq with sub := .circulate, holdTimer := 0, permit := t.seq.permit } ∧ t.czs.pump = true
          ∧ (noticeEnabled s.lnk.mask 9 = true → notified (.heatTimeout s.seq.idx r.target s.htc.temp) t = true)
          ∧ t.rst.history = s.rst.history ∧ t.part = s.part ∧ t.sfu = s.sfu ∧ t.rge = s.rge ∧ t.dsu = s.dsu ∧ t.ddu = s.ddu)
    ∧ (s.czs.reading = b →
      exec (.pressureSwitchChange b) s = .next (finish (outputs { s with pins := { s.pins with pressure := b } })))
    ∧ (s.czs.reading ≠ b →
      exec (.pressureSwitchChange b) s = .next (finish (outputs { s with
        pins := { s.pins with pressure := b }
        czs := { s.czs with
          reading := b
          confirmed := if s.czs.pump then b else s.czs.confirmed
          lowTimer := if s.czs.pump then (if b then none else some 0) else s.czs.lowTimer
          episode := if s.czs.pump && b then false else s.czs.episode } })))
    ∧ (s.czs.lowTimer.isSome = true → s.czs.episode = false →
      (runningIn s .dose = false → runningIn s .heat = false → runningIn s .circulate = false →
        exec .lowTimerExpiry s = .next (finish (outputs { s with
          czs := { s.czs with lowTimer := some 5, episode := true } })))
      ∧ (runningIn s .dose = true ∨ runningIn s .heat = true ∨ runningIn s .circulate = true →
        s.htc.request = none ∨ runningIn s .dose = true ∨ s.htc.lossCount = 0 → s.seq.topUpMark = false →
        s.wpc.inhibit = false → s.wpc.burst = none → s.wpc.highLevel = false →
        ∃ t, exec .lowTimerExpiry s = .next t
          ∧ t.czs.lowTimer = some 5 ∧ t.czs.episode = true
          ∧ t.seq = { s.seq with topUpMark := true, permit := t.seq.permit }
          ∧ t.wpc.fill = some ⟨300, .topUp, true⟩ ∧ t.wpc.holder = .fill ∧ t.wpc.grantCount = 0 ∧ t.wpc.inletValve = true
          ∧ t.htc.lossCount =
              (if s.htc.request.isSome && !runningIn s .dose then 1 else s.htc.lossCount)
          ∧ t.rst.history = s.rst.history ∧ t.part = s.part ∧ (s.wpc.fill = none → t.sfu = s.sfu) ∧ t.dsu = s.dsu ∧ t.ddu = s.ddu)
      ∧ (runningIn s .circulate = true → s.htc.lossCount = 1 → s.seq.topUpMark = true → ∀ r, s.htc.request = some r →
        r.heating = false →
        ∃ t, exec .lowTimerExpiry s = .next t
          ∧ t.htc = { s.htc with lossCount := 2, phaseDisable := true, output := .off }
          ∧ t.seq = { s.seq with permit := t.seq.permit }
          ∧ t.rst.history = appendHistory ⟨.pressureLoss, s.lnk.stamp, s.seq.idx,
              (match s.htc.temp with | some n => .num n | none => .absent), .num 0⟩ s.rst.history
          ∧ t.part = s.part ∧ t.sfu = s.sfu ∧ t.rge = s.rge ∧ t.dsu = s.dsu ∧ t.ddu = s.ddu)
      ∧ (runningIn s .heat = true → s.htc.lossCount = 1 → s.seq.topUpMark = true → ∀ w, currentWash s = some w →
        0 < w.holdTime → ∀ r, s.htc.request = some r → r.heating = true →
        ∃ t, exec .lowTimerExpiry s = .next t
          ∧ t.htc.lossCount = 2 ∧ t.htc.phaseDisable = true ∧ t.htc.request = some ⟨r.target, false⟩
          ∧ t.htc.output = .off ∧ t.seq = { s.seq with sub := .circulate, holdTimer := 0, permit := t.seq.permit }
          ∧ t.lnk.latest = some ⟨.pressureLoss, s.lnk.stamp, s.seq.idx,
              (match s.htc.temp with | some n => .num n | none => .absent), .num 0⟩
          ∧ t.part = s.part ∧ t.sfu = s.sfu ∧ t.rge = s.rge ∧ t.dsu = s.dsu ∧ t.ddu = s.ddu))

/-- The zone schedule and the diverter (R149 to R152): the end of a slot begins the next slot of the zone or the first
slot of the next weighted zone, with a move where the diverter stands elsewhere; a confirmation ends the move and sets
the position, a homing's is followed by the move to the slot's zone; a report of another zone is ignored; a failure
raises DIVERTER, leaves the position UNKNOWN and in a phase fixes the diverter; the limit that falls together with a
confirmation taken first is void, also where the move to the zone has followed (R151, log entry 69). A stop and the
end of the slot (R146, log entry 69): the stop taken first, the slot time stands at the slot length, a further stop
changes nothing, and a run request of the phase ends the slot at once, so that the next slot of the zone or of the
next weighted zone is in progress. Rotation pulses reset the timer of a supervised arm and are ignored otherwise
(R153). The first stall in a phase ends the zone's slot, the second drops the zone from the phase, each with
ARM_STALL; in the fixed condition no slot is skipped (R154, R155). Of two that fall together the one taken first voids
the other: a pulse the stall, a stall the end of the slot it has ended (R156; they fall together when no second passes
between them, log entry 40). The diverter's homing in STARTING (R195, R144, R151, R152): Z1 reported ends it with the
position, its failure raises DIVERTER and joins the homing faults; the last homing over, the part is READY. Stated for
a part whose water path rests. -/
def Obligations.SlotsTheDiverterAndTheArms : Prop :=
  (∀ (z : Zone) (s : State), Rests s →
      (slotCounts s = true → s.czs.slotOfStall = false → ∀ cur, s.czs.zone = some cur → s.czs.position = some cur →
        (s.czs.slotsGiven < perZoneGet s.czs.weights cur →
          exec .slotTimeExpiry s = .next (finish (outputs (onCzs (fun x => { x with
            slotTime := 0, slotsGiven := x.slotsGiven + 1 }) s))))
        ∧ (perZoneGet s.czs.weights cur ≤ s.czs.slotsGiven →
          ∀ nxt, (zonesAfter cur).find? (fun y => decide (0 < perZoneGet s.czs.weights y)) = some nxt →
          exec .slotTimeExpiry s = .next (finish (outputs (onCzs (fun x => { x with
            zone := some nxt, slotTime := 0, slotsGiven := 1
            move := if nxt = cur then none else some ⟨false, nxt, 0⟩
            failed := if nxt = cur then x.failed else none }) s)))))
      ∧ (s.czs.slotOfStall = true → s.czs.pump = true → exec .slotTimeExpiry s = .next s)
      ∧ (∀ m, s.czs.move = some m →
        (m.target ≠ z → exec (.diverterPositionReport z) s = .next (finish (outputs s)))
        ∧ (m.target = z → s.part.homings.diverter = false →
          ∀ follows, follows = decide (m.homing = true ∧ s.czs.fixed = false ∧ s.czs.zone.isSome = true
            ∧ s.czs.zone ≠ some .z1) →
          exec (.diverterPositionReport z) s = .next (finish (outputs { s with
            czs := { s.czs with
              position := some z
              move := if follows then s.czs.zone.map (fun y => ⟨false, y, 0⟩) else none
              failed := if follows then none else s.czs.failed }
            ties := { s.ties with diverter := follows } })))
        ∧ (s.ties.diverter = true → exec .diverterMoveTimeout s = .next s)
        ∧ (∃ t, exec (.diverterPositionReport m.target) s = .next t ∧ exec .diverterMoveTimeout t = .next t)
        ∧ (s.part.homings.diverter = false → s.ties.diverter = false →
          ∃ t, exec .diverterMoveTimeout s = .next t
            ∧ t.czs = { s.czs with
                move := none, position := none, failed := some m.target, fixed := s.czs.fixed || phaseInProgress s
                arm1 := none, arm2 := none, pulsed := none, slotOfStall := t.czs.slotOfStall }
            ∧ t.rst.history = appendHistory ⟨.diverter, s.lnk.stamp, faultPhase s, .zone m.target, .num 0⟩ s.rst.history
            ∧ t.part = s.part ∧ t.seq = { s.seq with permit := t.seq.permit } ∧ t.sfu = s.sfu ∧ t.dsu = s.dsu
            ∧ t.ddu = s.ddu))
      ∧ (s.czs.move = none →
        exec (.diverterPositionReport z) s = .next (finish (outputs (onCzs (fun x => { x with
          position := if x.failed = some z then some z else x.position }) s)))))
  ∧ (∀ (arm : Arm) (s : State), Rests s →
      (armSupervised s arm = false → exec (.armRotationPulse arm) s = .next s)
      ∧ (armSupervised s arm = true →
        ∃ t, exec (.armRotationPulse arm) s = .next t
          ∧ t = onCzs (fun x => { setArmTimer x arm (some 0) with pulsed := t.czs.pulsed }) s
          ∧ exec (.armTimerExpiry arm) t = .next t)
      ∧ (armSupervised s arm = true → (armTimer s.czs arm).isSome = true → s.czs.pulsed ≠ some arm →
        (armStalls s.czs arm = 0 →
          ∃ t, exec (.armTimerExpiry arm) s = .next t
            ∧ armStalls t.czs arm = 1 ∧ t.czs.weights = s.czs.weights
            ∧ (noticeEnabled s.lnk.mask 11 = true → notified (.armStall arm s.seq.idx 1 false) t = true)
            ∧ (s.czs.fixed = true → t.czs.zone = s.czs.zone ∧ t.czs.slotsGiven = s.czs.slotsGiven ∧ t.czs.move = none
                ∧ t.czs.slotTime = s.czs.slotTime ∧ armTimer t.czs arm = some 0)
            ∧ (s.czs.fixed = false → s.czs.zone = some (zoneOfArm arm) →
                t.czs.zone = (zonesAfter (zoneOfArm arm)).find? (fun y => decide (0 < perZoneGet s.czs.weights y))
                ∧ t.czs.slotsGiven = 1 ∧ t.czs.slotTime = 0 ∧ exec .slotTimeExpiry t = .next t)
            ∧ t.rst.history = s.rst.history ∧ t.part = s.part ∧ t.sfu = s.sfu ∧ t.dsu = s.dsu ∧ t.ddu = s.ddu)
        ∧ (armStalls s.czs arm = 1 →
          ∃ t, exec (.armTimerExpiry arm) s = .next t
            ∧ armStalls t.czs arm = 2 ∧ t.czs.weights = perZoneSet s.czs.weights (zoneOfArm arm) 0
            ∧ armTimer t.czs arm = none ∧ t.czs.pump = true
            ∧ (noticeEnabled s.lnk.mask 11 = true → notified (.armStall arm s.seq.idx 2 true) t = true)
            ∧ (s.czs.fixed = true ∨ anyWeight t.czs.weights = false →
                t.czs.zone = s.czs.zone ∧ t.czs.slotsGiven = s.czs.slotsGiven ∧ t.czs.slotTime = s.czs.slotTime
                ∧ t.czs.move = none)
            ∧ (s.czs.fixed = false → anyWeight t.czs.weights = true → s.czs.zone = some (zoneOfArm arm) →
                t.czs.zone = (zonesAfter (zoneOfArm arm)).find? (fun y => decide (0 < perZoneGet t.czs.weights y))
                ∧ t.czs.slotsGiven = 1 ∧ t.czs.slotTime = 0
                ∧ t.czs.move = t.czs.zone.map fun y => ⟨false, y, 0⟩)
            ∧ t.rst.history = s.rst.history ∧ t.part = s.part ∧ t.sfu = s.sfu ∧ t.dsu = s.dsu ∧ t.ddu = s.ddu)))
  ∧ (∀ (s : State), s.part.powered = true → s.part.state = .starting → s.reports = [] → WaterRests s →
      s.part.homings.diverter = true → ∀ m, s.czs.move = some m →
      (∃ t, exec (.diverterPositionReport m.target) s = .next t
        ∧ HomingOver { s.part.homings with diverter := false } s.part.homingFaults s t
        ∧ t.czs = { s.czs with
            position := some m.target, move := none, arm1 := t.czs.arm1, arm2 := t.czs.arm2, pulsed := t.czs.pulsed
            slotOfStall := t.czs.slotOfStall }
        ∧ t.rst.history = s.rst.history ∧ t.seq = { s.seq with permit := t.seq.permit } ∧ t.sfu = s.sfu ∧ t.dsu = s.dsu
        ∧ t.ddu = s.ddu)
      ∧ (∀ z, z ≠ m.target → exec (.diverterPositionReport z) s = .next (finish (outputs s)))
      ∧ (s.ties.diverter = false → ∃ t, exec .diverterMoveTimeout s = .next t
        ∧ HomingOver { s.part.homings with diverter := false } (s.part.homingFaults ++ [.diverter]) s t
        ∧ t.czs = { s.czs with
            position := none, move := none, failed := some m.target, fixed := s.czs.fixed || phaseInProgress s
            arm1 := none, arm2 := none, pulsed := none, slotOfStall := t.czs.slotOfStall }
        ∧ t.rst.history = appendHistory ⟨.diverter, s.lnk.stamp, faultPhase s, .zone m.target, .num 0⟩ s.rst.history
        ∧ t.seq = { s.seq with permit := t.seq.permit } ∧ t.sfu = s.sfu ∧ t.dsu = s.dsu ∧ t.ddu = s.ddu))
  ∧ (∀ (w : WashRecord) (s : State), s.part.powered = true → s.czs.pump = true → slotCounts s = true →
      ∃ u, exec .slotTimeExpiry (stopCirculation s) = .next u
        ∧ u = { stopCirculation s with czs := { (stopCirculation s).czs with slotTime := s.czs.slotLength } }
        ∧ (stopCirculation s).czs = { s.czs with
            pump := false, confirmed := false, lowTimer := none, episode := false, arm1 := none, arm2 := none }
        ∧ stopCirculation u = u
        ∧ (∀ cur, s.czs.zone = some cur → s.czs.position = some cur →
          ∀ t, t = runCirculation w u →
          t.czs.pump = true ∧ t.czs.weights = s.czs.weights ∧ t.czs.slotTime = 0
          ∧ (s.czs.slotsGiven < perZoneGet s.czs.weights cur →
            t.czs.zone = some cur ∧ t.czs.slotsGiven = s.czs.slotsGiven + 1 ∧ t.czs.move = none
              ∧ exec .slotTimeExpiry t = .next t)
          ∧ (perZoneGet s.czs.weights cur ≤ s.czs.slotsGiven →
            ∀ nxt, (zonesAfter cur).find? (fun y => decide (0 < perZoneGet s.czs.weights y)) = some nxt →
            t.czs.zone = some nxt ∧ t.czs.slotsGiven = 1
              ∧ t.czs.move = if nxt = cur then none else some ⟨false, nxt, 0⟩)))

/-- A door event (R158): the reading, the DOOR notice with count and stage, the stage before its own reaction (log
entry 57); RUNNING outside DRY is SUSPENDED with its sub-stage remembered and the pump stopped, WAIT_WATER with its
rest of the wait frozen, and an opening in SUSPENDED cancels the settling time (R24); a closing there starts it (R25).
In DWELL and WAIT_COOL an opening ends the drying OPENED_BY_USER and with it the phase (R163, R164, R169, R18), in
OPENING below the latch point it retracts (R165); every other state goes on. A reading already held only moves the pin
(log entry 2). A change of the door wakes a part in STANDBY (R197), and is then taken as a door event of READY (R158).
A door opening in RUNNING outside DRY (R24), also while a FILL request, a drain burst or a regeneration stands:
SUSPENDED with the sub-stage remembered; in FILL the request is removed, a grant is released, and the fill record
stays open as it stands with the fill-timeout count; a top-up goes with its mark kept (R16, R43); the heat limit not
used is kept (R132); in DOSE the dosing pause is set, and with neither stroke nor move in progress the Dosing Unit is
PAUSED at once (R125). -/
def Obligations.DoorEventsReachTheirBlocks : Prop :=
  (∀ (b : Bool) (s : State), Rests s →
      (s.ddu.doorOpen = b → exec (.doorSwitchChange b) s = .next { s with pins := { s.pins with doorOpen := b } })
      ∧ (s.ddu.doorOpen = false →
        (s.seq.state = .running → s.seq.sub ≠ .dry → dryingRuns s.ddu = false →
          ∃ t, exec (.doorSwitchChange true) s = .next t
            ∧ t.ddu = { s.ddu with doorOpen := true } ∧ t.seq.state = .suspended ∧ t.seq.sub = .none
            ∧ t.seq.remembered = .sub s.seq.sub ∧ t.seq.settling = none ∧ t.seq.idx = s.seq.idx ∧ t.czs.pump = false
            ∧ t.htc.request = none ∧ t.htc.output = .off ∧ t.seq.permit = false
            ∧ (s.seq.sub = .drain → t.wpc.seqDrain = none)
            ∧ (noticeEnabled s.lnk.mask 3 = true → notified (.door true s.ddu.count s.ddu.stage) t = true)
            ∧ (s.wpc.fill = none → t.sfu = s.sfu) ∧ t.rst.history = s.rst.history ∧ t.part = s.part)
        ∧ (s.seq.state ≠ .running → s.seq.state ≠ .waitWater → s.seq.state ≠ .suspended →
          s.ddu.stage = .dwell ∨ s.ddu.stage = .waitCool → s.ddu.awaited = false → s.ddu.pendingStart = none →
          ∃ t, exec (.doorSwitchChange true) s = .next t
            ∧ t.ddu = { s.ddu with doorOpen := true, stage := .done, stageTime := 0, outcome := .openedByUser }
            ∧ t.seq = { s.seq with permit := t.seq.permit } ∧ t.sfu = s.sfu ∧ t.dsu = s.dsu
            ∧ (noticeEnabled s.lnk.mask 3 = true → notified (.door true s.ddu.count s.ddu.stage) t = true)
            ∧ (noticeEnabled s.lnk.mask 19 = true → notified (.dryStage (dryReport t)) t = true)
            ∧ t.rst.history = s.rst.history ∧ t.part = s.part)
        ∧ (runningIn s .dry = true → s.seq.count ≤ s.seq.idx + 1 → s.ddu.stage = .dwell ∨ s.ddu.stage = .waitCool →
          s.ddu.awaited = true → s.ddu.pendingStart = none →
          ∃ t, exec (.doorSwitchChange true) s = .next t
            ∧ t.ddu = { s.ddu with
                doorOpen := true, stage := .done, stageTime := 0, outcome := .openedByUser, awaited := false }
            ∧ PhaseEnded s t
            ∧ (noticeEnabled s.lnk.mask 3 = true → notified (.door true s.ddu.count s.ddu.stage) t = true)
            ∧ (noticeEnabled s.lnk.mask 19 = true → notified (.dryStage (dryReport t)) t = true)
            ∧ t.seq.table = s.seq.table ∧ t.seq.count = s.seq.count ∧ t.sfu = s.sfu ∧ t.dsu = s.dsu
            ∧ t.rst.history = s.rst.history ∧ t.part = s.part)
        ∧ (s.seq.state ≠ .running → dryingRuns s.ddu = false →
          ∃ t, exec (.doorSwitchChange true) s = .next t
            ∧ t.ddu = { s.ddu with doorOpen := true }
            ∧ t.seq = { s.seq with
                state := if s.seq.state = .waitWater then .suspended else s.seq.state
                sub := if s.seq.state = .waitWater then .none else s.seq.sub
                remembered := if s.seq.state = .waitWater then .waitWater else s.seq.remembered
                settling := if s.seq.state = .waitWater ∨ s.seq.state = .suspended then none else s.seq.settling
                permit := t.seq.permit }
            ∧ (noticeEnabled s.lnk.mask 3 = true → notified (.door true s.ddu.count s.ddu.stage) t = true)
            ∧ t.rst.history = s.rst.history ∧ t.part = s.part ∧ t.sfu = s.sfu ∧ t.dsu = s.dsu)
        ∧ (runningIn s .dry = true → s.ddu.stage = .ajar ∨ s.ddu.stage = .retracting ∨ s.ddu.stage = .done →
          ∃ t, exec (.doorSwitchChange true) s = .next t
            ∧ t.ddu = { s.ddu with doorOpen := true } ∧ t.seq = { s.seq with permit := t.seq.permit }
            ∧ (noticeEnabled s.lnk.mask 3 = true → notified (.door true s.ddu.count s.ddu.stage) t = true)
            ∧ t.rst.history = s.rst.history ∧ t.part = s.part ∧ t.sfu = s.sfu ∧ t.dsu = s.dsu)
        ∧ (runningIn s .dry = true → s.ddu.stage = .opening → s.pins.home = false →
          ∃ t, exec (.doorSwitchChange true) s = .next t
            ∧ t.seq = { s.seq with permit := t.seq.permit }
            ∧ (150 ≤ s.ddu.count → s.ddu.retryPause = none → t.ddu = { s.ddu with doorOpen := true })
            ∧ (s.ddu.count < 150 ∨ s.ddu.retryPause.isSome = true →
                t.ddu = { s.ddu with
                  doorOpen := true, stage := .retracting, stageTime := 0, outcome := .openedByUser, retryPause := none
                  drive := .inward, stall := some 0 })
            ∧ t.rst.history = s.rst.history ∧ t.part = s.part ∧ t.sfu = s.sfu ∧ t.dsu = s.dsu))
      ∧ (s.ddu.doorOpen = true →
        ∃ t, exec (.doorSwitchChange false) s = .next t
          ∧ t.ddu = { s.ddu with doorOpen := false }
          ∧ t.seq = { s.seq with
              settling := if s.seq.state = .suspended then some 0 else s.seq.settling, permit := t.seq.permit }
          ∧ (noticeEnabled s.lnk.mask 3 = true → notified (.door false s.ddu.count s.ddu.stage) t = true)
          ∧ t.rst.history = s.rst.history ∧ t.part = s.part ∧ t.sfu = s.sfu ∧ t.dsu = s.dsu))
  ∧ (∀ (b : Bool) (s : State), s.part.powered = true → s.part.state = .standby → s.ddu.doorOpen ≠ b →
      Still { s with part := { s.part with state := .ready } } → s.seq.state = .idle ∨ s.seq.state = .ended →
      s.ddu.stage = .none ∨ s.ddu.stage = .done →
      ∃ t, exec (.doorSwitchChange b) s = .next t
        ∧ t.part = { s.part with state := .ready } ∧ t.pins = { s.pins with doorOpen := b }
        ∧ t.ddu = { s.ddu with doorOpen := b } ∧ t.lnk.silence = (if linkSends s then some 0 else none)
        ∧ (noticeEnabled s.lnk.mask 2 = true → notified (.wake .door) t = true)
        ∧ (noticeEnabled s.lnk.mask 3 = true → notified (.door b s.ddu.count s.ddu.stage) t = true)
        ∧ t.wpc.sumpEmpty = s.pins.sumpEmpty ∧ t.wpc.heaterCover = s.pins.heaterCover
        ∧ t.wpc.highLevel = s.pins.highLevel ∧ t.rge.saltLow = s.pins.saltLow ∧ t.dsu.lowSw = s.pins.low
        ∧ t.czs.reading = s.pins.pressure ∧ t.cfg = s.cfg ∧ t.sfu = s.sfu ∧ t.dsu.state = s.dsu.state)
  ∧ (∀ (s : State), Awake s → Sound s → s.ddu.doorOpen = false → s.seq.state = .running → s.seq.sub ≠ .dry →
      ∃ t, exec (.doorSwitchChange true) s = .next t
        ∧ t.seq = { s.seq with
            state := .suspended, sub := .none, remembered := .sub s.seq.sub, settling := none, extension := none
            heatLeft := if s.htc.request.map (·.heating) = some true then s.htc.limitLeft else s.seq.heatLeft
            permit := false }
        ∧ t.wpc.fill = none ∧ t.wpc.holder = .none ∧ t.wpc.inletValve = false ∧ t.wpc.brineValve = false
        ∧ t.wpc.fillTimer = none ∧ t.sfu.fill = s.sfu.fill
        ∧ (s.seq.sub = .fill → t.sfu.service = s.sfu.service ∧ t.sfu.ready = s.sfu.ready)
        ∧ (s.wpc.fill = some ⟨300, .topUp, true⟩ → writeAsked .columns t = true)
        ∧ (s.seq.sub = .drain → t.wpc.seqDrain = none)
        ∧ t.htc.request = none ∧ t.htc.output = .off ∧ t.czs.pump = false
        ∧ (s.seq.sub ≠ .dose → t.dsu = s.dsu)
        ∧ (s.seq.sub = .dose → (s.dsu.state = .serving → s.dsu.batch ≠ []) →
          t.dsu = { s.dsu with
            pause := true
            state := if s.dsu.state = .serving ∧ s.dsu.stroke = none ∧ s.dsu.move = none then .paused else s.dsu.state })
        ∧ t.ddu = { s.ddu with doorOpen := true }
        ∧ (noticeEnabled s.lnk.mask 3 = true → notified (.door true s.ddu.count s.ddu.stage) t = true)
        ∧ t.rst.history = s.rst.history ∧ t.part = s.part ∧ t.cfg = s.cfg)

/-- The actuator count follows the encoder within 0..1200 and each edge restarts the stall timer (R159, R160); the gap
target ends OPENING in AJAR (R165), a fall of 20 below the gap held in AJAR retracts (R168). The home switch sets the
count to 0 with the homed flag and ends an inward drive (R159, R160), in RETRACTING the drying (R169); in AJAR that
fall of the count retracts like any other (R168, R160). A stall of 300 ms (R160): outward at or above the latch point
it keeps the shorter gap (R167), below it a pause of 2 s and one retry follow, then DOOR_ACTUATOR and the retraction,
which with the rod still at home ends at once (R166, R160); inward it raises DOOR_ACTUATOR and clears the homed flag
(R160, R161). The pause over, the drive goes outward again, the stall timer from 0 (R166). An edge with the 300 ms
right behind it in the queue sets the timer to 0 and there is no stall (R160, log entry 70). Without an actuator
neither edge nor home switch changes anything (R159). In STARTING and SHUTTING_DOWN each edge is counted too; in a
NORMAL shutdown the home switch and a stall end the homing or the retraction (R173), and with no other work left the
four writes are asked (R198): both of a sound part. The actuator's homing in STARTING (R195, R159 to R161): the home
switch ends it with the count 0 and the homed flag set, a stall raises DOOR_ACTUATOR, leaves the flag clear and joins
the homing faults; the last homing over, the part is READY. Stated for a part whose water path rests and outside
RETRACTING. Rarer ends: an open time of 0 takes OPENING through AJAR to the retraction in one event (R165, R167,
R168); a stall of the retraction ends the drying with ACTUATOR_FAULT, one a RESET UNIT DOOR interrupted as INTERRUPTED
(log entry 31), and with it the last phase of the program (R169, R18), or takes up the start that waited, in the
CLOSED form since the homed flag is clear (R162, R169). -/
def Obligations.TheActuatorIsCountedHomedAndStalls : Prop :=
  (∀ (out : Bool) (s : State), Rests s → s.ddu.fitted = true →
      ∀ n, (if out then (if s.ddu.count < 1200 then s.ddu.count + 1 else s.ddu.count) else s.ddu.count - 1) = n →
      ((s.ddu.stage ≠ .opening ∨ s.ddu.drive ≠ .outward ∨ n < s.ddu.gapTarget) →
        (s.ddu.stage ≠ .ajar ∨ s.ddu.drive ≠ .stopped ∨ s.ddu.gapHeld < n + 20) →
        exec (.actuatorEncoderEdge out) s = .next (finish (outputs { s with
          ddu := { s.ddu with count := n, stall := s.ddu.stall.map fun _ => 0 }
          ties := { s.ties with
            stall := s.ddu.stall.isSome && decide (s.pending.head? = some .stallTimerExpiry) } })))
      ∧ (s.ddu.stage = .opening → s.ddu.drive = .outward → s.ddu.gapTarget ≤ n → 0 < s.ddu.openTime →
        ∃ t, exec (.actuatorEncoderEdge out) s = .next t
          ∧ t.ddu = { s.ddu with
              count := n, drive := .stopped, stall := none, stage := .ajar, stageTime := s.ddu.openTime, gapHeld := n
              gapShort := false }
          ∧ (noticeEnabled s.lnk.mask 19 = true → notified (.dryStage (dryReport t)) t = true)
          ∧ t.seq = { s.seq with permit := t.seq.permit } ∧ t.rst.history = s.rst.history ∧ t.sfu = s.sfu ∧ t.dsu = s.dsu)
      ∧ (s.ddu.stage = .ajar → s.ddu.drive = .stopped → n + 20 ≤ s.ddu.gapHeld → s.pins.home = false →
        ∃ t, exec (.actuatorEncoderEdge out) s = .next t
          ∧ t.ddu = { s.ddu with
              count := n, drive := .inward, stall := some 0, stage := .retracting, stageTime := 0
              outcome := .closedByUser, retryPause := none }
          ∧ t.seq = { s.seq with permit := t.seq.permit } ∧ t.rst.history = s.rst.history ∧ t.sfu = s.sfu ∧ t.dsu = s.dsu)
      ∧ (s.ddu.stage ≠ .retracting → s.part.homings.actuator = false →
        (s.ddu.stage ≠ .opening ∨ s.ddu.drive ≠ .outward ∨ 0 < s.ddu.gapTarget) →
        (s.ddu.stage ≠ .ajar ∨ s.ddu.drive ≠ .stopped ∨ s.ddu.gapHeld < 20) →
        exec (.homeSwitchChange true) s = .next (finish (outputs { s with
          pins := { s.pins with home := true }
          ddu := { s.ddu with
            count := 0, homed := true
            drive := if s.ddu.drive = .inward then .stopped else s.ddu.drive
            stall := if s.ddu.drive = .inward then none else s.ddu.stall } })))
      ∧ (s.ddu.stage = .retracting → s.ddu.drive = .inward → s.ddu.awaited = false → s.ddu.pendingStart = none →
        ∃ t, exec (.homeSwitchChange true) s = .next t
          ∧ t.ddu = { s.ddu with
              count := 0, homed := true, drive := .stopped, stall := none, stage := .done, stageTime := 0 }
          ∧ (noticeEnabled s.lnk.mask 19 = true → notified (.dryStage (dryReport t)) t = true)
          ∧ t.seq = { s.seq with permit := t.seq.permit } ∧ t.rst.history = s.rst.history ∧ t.sfu = s.sfu ∧ t.dsu = s.dsu)
      ∧ (s.ddu.stage = .ajar → s.ddu.drive = .stopped → 20 ≤ s.ddu.gapHeld → s.ddu.pendingStart = none →
        (s.ddu.awaited = true → runningIn s .dry = true ∧ s.seq.count ≤ s.seq.idx + 1) →
        ∃ t, exec (.homeSwitchChange true) s = .next t
          ∧ t.ddu = { s.ddu with
              count := 0, homed := true, drive := .stopped, stall := none, stage := .done, stageTime := 0
              outcome := .closedByUser, retryPause := none, awaited := false }
          ∧ (noticeEnabled s.lnk.mask 19 = true → notified (.dryStage (dryReport t)) t = true)
          ∧ (s.ddu.awaited = false → t.seq = { s.seq with permit := t.seq.permit })
          ∧ (s.ddu.awaited = true → PhaseEnded s t)
          ∧ t.rst.history = s.rst.history ∧ t.sfu = s.sfu ∧ t.dsu = s.dsu)
      ∧ exec (.homeSwitchChange false) s = .next { s with pins := { s.pins with home := false } })
  ∧ (∀ (s : State), Rests s → s.ddu.stall.isSome = true → s.ties.stall = false →
      (s.ddu.drive = .outward → 150 ≤ s.ddu.count → 0 < s.ddu.openTime →
        ∃ t, exec .stallTimerExpiry s = .next t
          ∧ t.ddu = { s.ddu with
              drive := .stopped, stall := none, stage := .ajar, stageTime := s.ddu.openTime, gapHeld := s.ddu.count
              gapShort := true }
          ∧ t.rst.history = s.rst.history ∧ t.part = s.part ∧ t.seq = { s.seq with permit := t.seq.permit })
      ∧ (s.ddu.drive = .outward → s.ddu.count < 150 → s.ddu.retryUsed = false →
        exec .stallTimerExpiry s = .next (finish (outputs (onDdu (fun d => { d with
          drive := .stopped, stall := none, retryUsed := true, retryPause := some 0 }) s))))
      ∧ (s.ddu.drive = .outward → s.ddu.count < 150 → s.ddu.retryUsed = true → s.pins.home = false →
        ∃ t, exec .stallTimerExpiry s = .next t
          ∧ t.ddu = { s.ddu with
              drive := .inward, stall := some 0, stage := .retracting, stageTime := 0, outcome := .actuatorFault
              retryPause := none }
          ∧ t.rst.history = appendHistory ⟨.doorActuator, s.lnk.stamp, faultPhase s, .stage s.ddu.stage, .num s.ddu.count⟩
              s.rst.history
          ∧ t.part = s.part ∧ t.seq = { s.seq with permit := t.seq.permit })
      ∧ (s.ddu.drive = .inward → s.ddu.stage ≠ .retracting → s.part.homings.actuator = false →
        ∃ t, exec .stallTimerExpiry s = .next t
          ∧ t.ddu = { s.ddu with drive := .stopped, stall := none, homed := false }
          ∧ t.rst.history = appendHistory ⟨.doorActuator, s.lnk.stamp, faultPhase s, .stage s.ddu.stage, .num s.ddu.count⟩
              s.rst.history
          ∧ t.part = s.part ∧ t.seq = { s.seq with permit := t.seq.permit })
      ∧ (s.ddu.drive = .inward → s.ddu.stage = .retracting → s.ddu.outcome ≠ .interrupted → s.part.homings.actuator = false →
        s.ddu.awaited = false → s.ddu.pendingStart = none →
        ∃ t, exec .stallTimerExpiry s = .next t
          ∧ t.ddu = { s.ddu with
              drive := .stopped, stall := none, homed := false, stage := .done, stageTime := 0, outcome := .actuatorFault }
          ∧ t.rst.history = appendHistory ⟨.doorActuator, s.lnk.stamp, faultPhase s, .stage s.ddu.stage, .num s.ddu.count⟩
              s.rst.history
          ∧ t.part = s.part ∧ t.seq = { s.seq with permit := t.seq.permit })
      ∧ (s.ddu.drive = .outward → s.ddu.count < 150 → s.ddu.retryUsed = true → s.pins.home = true →
        s.ddu.pendingStart = none → (s.ddu.awaited = true → runningIn s .dry = true ∧ s.seq.count ≤ s.seq.idx + 1) →
        ∃ t, exec .stallTimerExpiry s = .next t
          ∧ t.ddu = { s.ddu with
              count := 0, homed := true, drive := .stopped, stall := none, stage := .done, stageTime := 0
              outcome := .actuatorFault, retryPause := none, awaited := false }
          ∧ (noticeEnabled s.lnk.mask 19 = true → notified (.dryStage (dryReport t)) t = true)
          ∧ (s.ddu.awaited = false → t.seq = { s.seq with permit := t.seq.permit })
          ∧ (s.ddu.awaited = true → PhaseEnded s t)
          ∧ t.rst.history = appendHistory ⟨.doorActuator, s.lnk.stamp, faultPhase s, .stage s.ddu.stage, .num s.ddu.count⟩
              s.rst.history))
  ∧ (∀ (s : State), Rests s → s.ddu.retryPause.isSome = true →
      exec .retryPauseExpiry s = .next (finish (outputs (onDdu (fun d => { d with
        retryPause := none, drive := .outward, stall := some 0 }) s))))
  ∧ (∀ (out : Bool) (s : State), Rests s → s.ddu.fitted = false →
      exec (.actuatorEncoderEdge out) s = .next (finish (outputs { s with ties := { s.ties with stall := false } }))
        ∧ exec (.homeSwitchChange true) s = .next (finish (outputs { s with pins := { s.pins with home := true } })))
  ∧ (∀ (out : Bool) (s : State), s.part.powered = true → Sound s → s.ddu.fitted = true →
      (s.part.state = .starting ∧ s.part.homings ≠ {})
        ∨ (s.part.state = .shuttingDown ∧ s.part.writesAsked = false ∧ s.ddu.drive ≠ .stopped) →
      ∀ n, (if out then (if s.ddu.count < 1200 then s.ddu.count + 1 else s.ddu.count) else s.ddu.count - 1) = n →
      ∃ t, exec (.actuatorEncoderEdge out) s = .next t
        ∧ t.ddu = { s.ddu with count := n, stall := s.ddu.stall.map fun _ => 0 }
        ∧ t.part = s.part ∧ t.seq = { s.seq with permit := t.seq.permit } ∧ t.dsu = s.dsu ∧ t.rst.history = s.rst.history)
  ∧ (∀ (s : State), s.part.powered = true → Sound s → s.part.state = .shuttingDown → s.part.writesAsked = false →
      s.part.abrupt = false → s.ddu.fitted = true → s.ddu.drive = .inward → s.part.homings.actuator = false →
      ∀ restDone, restDone = decide ((s.seq.state = .idle ∨ s.seq.state = .ended ∨ s.seq.state = .faulted)
        ∧ s.wpc.seqDrain = none ∧ s.rge.state = .idle ∧ s.dsu.state = .idle ∧ s.wpc.leak = none) →
      (∃ t, exec (.homeSwitchChange true) s = .next t
        ∧ t.pins = { s.pins with home := true }
        ∧ t.ddu = { s.ddu with
            count := 0, homed := true, drive := .stopped, stall := none
            stage := if s.ddu.stage = .retracting then .done else s.ddu.stage
            stageTime := if s.ddu.stage = .retracting then 0 else s.ddu.stageTime }
        ∧ t.part = { s.part with writesAsked := restDone }
        ∧ (restDone = true → writeAsked .config t = true ∧ writeAsked .faults t = true ∧ writeAsked .columns t = true
          ∧ writeAsked .reservoirs t = true)
        ∧ t.seq = { s.seq with permit := t.seq.permit } ∧ t.dsu = s.dsu ∧ t.rst.history = s.rst.history)
      ∧ (s.ties.stall = false → ∃ t, exec .stallTimerExpiry s = .next t
        ∧ t.ddu = { s.ddu with
            homed := false, drive := .stopped, stall := none
            stage := if s.ddu.stage = .retracting then .done else s.ddu.stage
            stageTime := if s.ddu.stage = .retracting then 0 else s.ddu.stageTime
            outcome := if s.ddu.stage = .retracting ∧ s.ddu.outcome ≠ .interrupted then .actuatorFault else s.ddu.outcome }
        ∧ t.part = { s.part with writesAsked := restDone }
        ∧ (restDone = true → writeAsked .config t = true ∧ writeAsked .faults t = true ∧ writeAsked .columns t = true
          ∧ writeAsked .reservoirs t = true)
        ∧ t.rst.history = appendHistory
            ⟨.doorActuator, s.lnk.stamp, faultPhase s, .stage s.ddu.stage, .num s.ddu.count⟩ s.rst.history
        ∧ t.seq = { s.seq with permit := t.seq.permit } ∧ t.dsu = s.dsu))
  ∧ (∀ (s : State), s.part.powered = true → s.part.state = .starting → s.reports = [] → WaterRests s →
      s.part.homings.actuator = true → s.ddu.fitted = true → s.ddu.drive = .inward → s.ddu.stage ≠ .retracting →
      (∃ t, exec (.homeSwitchChange true) s = .next t
        ∧ HomingOver { s.part.homings with actuator := false } s.part.homingFaults s t
        ∧ t.pins = { s.pins with home := true }
        ∧ t.ddu = { s.ddu with count := 0, homed := true, drive := .stopped, stall := none }
        ∧ t.rst.history = s.rst.history ∧ t.seq = { s.seq with permit := t.seq.permit } ∧ t.sfu = s.sfu ∧ t.dsu = s.dsu)
      ∧ (s.ddu.stall.isSome = true → s.ties.stall = false →
        ∃ t, exec .stallTimerExpiry s = .next t
          ∧ HomingOver { s.part.homings with actuator := false } (s.part.homingFaults ++ [.doorActuator]) s t
          ∧ t.ddu = { s.ddu with homed := false, drive := .stopped, stall := none }
          ∧ t.rst.history =
              appendHistory ⟨.doorActuator, s.lnk.stamp, faultPhase s, .stage s.ddu.stage, .num s.ddu.count⟩ s.rst.history
          ∧ t.seq = { s.seq with permit := t.seq.permit } ∧ t.sfu = s.sfu ∧ t.dsu = s.dsu))
  ∧ (∀ (s : State), Rests s → s.ddu.fitted = true → s.part.homings.actuator = false →
      (s.ddu.stage = .opening → s.ddu.drive = .outward → s.ddu.openTime = 0 → s.pins.home = false →
        (s.ddu.gapTarget ≤ s.ddu.count + 1 → s.ddu.count < 1200 →
          ∃ t, exec (.actuatorEncoderEdge true) s = .next t
            ∧ t.ddu = { s.ddu with
                count := s.ddu.count + 1, drive := .inward, stall := some 0, stage := .retracting, stageTime := 0
                gapHeld := s.ddu.count + 1, gapShort := false, outcome := .completed, retryPause := none }
            ∧ (noticeEnabled s.lnk.mask 19 = true → notified (.dryStage (dryReport t)) t = true)
            ∧ t.seq = { s.seq with permit := t.seq.permit } ∧ t.rst.history = s.rst.history ∧ t.sfu = s.sfu ∧ t.dsu = s.dsu)
        ∧ (s.ddu.stall.isSome = true → s.ties.stall = false → 150 ≤ s.ddu.count →
          ∃ t, exec .stallTimerExpiry s = .next t
            ∧ t.ddu = { s.ddu with
                drive := .inward, stall := some 0, stage := .retracting, stageTime := 0
                gapHeld := s.ddu.count, gapShort := true, outcome := .completed, retryPause := none }
            ∧ (noticeEnabled s.lnk.mask 19 = true → notified (.dryStage (dryReport t)) t = true)
            ∧ t.seq = { s.seq with permit := t.seq.permit } ∧ t.rst.history = s.rst.history ∧ t.sfu = s.sfu ∧ t.dsu = s.dsu))
      ∧ (s.ddu.stage = .retracting → s.ddu.drive = .inward → s.ddu.stall.isSome = true → s.ties.stall = false →
        (s.ddu.pendingStart = none → (s.ddu.awaited = true → runningIn s .dry = true ∧ s.seq.count ≤ s.seq.idx + 1) →
          ∃ t, exec .stallTimerExpiry s = .next t
            ∧ t.ddu = { s.ddu with
                drive := .stopped, stall := none, homed := false, stage := .done, stageTime := 0, awaited := false
                outcome := if s.ddu.outcome = .interrupted then .interrupted else .actuatorFault }
            ∧ (noticeEnabled s.lnk.mask 19 = true → notified (.dryStage (dryReport t)) t = true)
            ∧ (s.ddu.awaited = false → t.seq = { s.seq with permit := t.seq.permit })
            ∧ (s.ddu.awaited = true → PhaseEnded s t)
            ∧ t.rst.history = appendHistory
                ⟨.doorActuator, s.lnk.stamp, faultPhase s, .stage .retracting, .num s.ddu.count⟩ s.rst.history
            ∧ t.sfu = s.sfu ∧ t.dsu = s.dsu)
        ∧ (s.ddu.awaited = false → runningIn s .dry = true → s.ddu.dropPending = false → s.ddu.doorOpen = false →
          ∀ p, s.ddu.pendingStart = some p → 0 < p.dwell + p.openTime →
          ∃ t, exec .stallTimerExpiry s = .next t
            ∧ t.ddu = { s.ddu with
                drive := .stopped, stall := none, homed := false, stage := .dwell, stageTime := p.dwell + p.openTime
                awaited := true, dwell := p.dwell, openTime := p.openTime, autoMode := s.cfg.autoDry
                gapTarget := s.cfg.gapTarget, openLimit := s.cfg.openLimit, retryUsed := false, retryPause := none
                expired := false, gapShort := false, gapHeld := 0, outcome := .none, formOpen := false
                pendingStart := none, dropPending := false }
            ∧ (noticeEnabled s.lnk.mask 19 = true → notified (.dryStage (dryReport t)) t = true)
            ∧ t.seq = { s.seq with permit := t.seq.permit }
            ∧ t.rst.history = appendHistory
                ⟨.doorActuator, s.lnk.stamp, faultPhase s, .stage .retracting, .num s.ddu.count⟩ s.rst.history)))
  ∧ (∀ (out : Bool) (rest : List Instr) (s : State), s.part.powered = true → senses s = true → s.ddu.fitted = true →
      s.ddu.stall.isSome = true → s.pending = .actuatorEncoderEdge out :: .stallTimerExpiry :: rest →
      ∃ t, step s = .next t ∧ t.ties.stall = true ∧ t.pending = .stallTimerExpiry :: rest
        ∧ step t = .next { t with pending := rest, ties := { t.ties with stall := false } })

/-- The stages of a drying (R163, R164, R168, R170): a closed drying is done after its dwell, an open one waits for
the water to cool or opens at once; after 900 s it opens anyway with its mark; the open time over, the rod is drawn
home. RESET UNIT DOOR interrupts a drying by a homing and is answered OK (R172); taken in RETRACTING it keeps the
stage and its stage time (log entry 50). RESET UNIT DOOR beside the ordinary case (R172): with the switch already HOME
the homing ends at once, and with it a drying in progress, as INTERRUPTED; a pending start waits for the end of the
homing and ends there as INTERRUPTED, with its done report; without an actuator a drying in DWELL ends at once. A
retraction under a program that ends at home ends the phase, or takes the pending start up (R169, R171). -/
def Obligations.DryingStagesEnd : Prop :=
  (∀ (tag : Byte) (s : State), Rests s →
      (s.ddu.stage = .dwell →
        (s.ddu.formOpen = false → s.ddu.awaited = false →
          ∃ t, exec .dryingDwellExpiry s = .next t
            ∧ t.ddu = { s.ddu with stage := .done, stageTime := 0, outcome := .completedClosed }
            ∧ (noticeEnabled s.lnk.mask 19 = true → notified (.dryStage (dryReport t)) t = true)
            ∧ t.seq = { s.seq with permit := t.seq.permit } ∧ t.rst.history = s.rst.history ∧ t.part = s.part)
        ∧ (s.ddu.formOpen = false → s.ddu.awaited = true → runningIn s .dry = true →
          currentPhase s = some (.dry s.ddu.dwell s.ddu.openTime) →
          s.seq.count ≤ s.seq.idx + 1 →
          ∃ t, exec .dryingDwellExpiry s = .next t
            ∧ t.ddu = { s.ddu with stage := .done, stageTime := 0, outcome := .completedClosed, awaited := false }
            ∧ t.seq.state = .ended ∧ t.seq.summary = { s.seq.summary with outcome := .completed }
            ∧ (noticeEnabled s.lnk.mask 7 = true → notified (.programEnd t.seq.summary) t = true)
            ∧ t.rst.history = s.rst.history ∧ t.part = s.part)
        ∧ (s.ddu.formOpen = true →
          ∃ t, exec .dryingDwellExpiry s = .next t
            ∧ t.ddu = { s.ddu with
                stageTime := 0
                stage := if coolEnough s then .opening else .waitCool
                drive := if coolEnough s then .outward else s.ddu.drive
                stall := if coolEnough s then some 0 else s.ddu.stall }
            ∧ (noticeEnabled s.lnk.mask 19 = true → notified (.dryStage (dryReport t)) t = true)
            ∧ t.seq = { s.seq with permit := t.seq.permit } ∧ t.rst.history = s.rst.history ∧ t.part = s.part))
      ∧ (s.ddu.stage = .waitCool →
        ∃ t, exec .coolWaitExpiry s = .next t
          ∧ t.ddu = { s.ddu with stage := .opening, stageTime := 0, expired := true, drive := .outward, stall := some 0 }
          ∧ (noticeEnabled s.lnk.mask 19 = true → notified (.dryStage (dryReport t)) t = true)
          ∧ t.seq = { s.seq with permit := t.seq.permit } ∧ t.rst.history = s.rst.history ∧ t.part = s.part)
      ∧ (s.ddu.stage = .ajar → s.pins.home = false →
        ∃ t, exec .openTimeExpiry s = .next t
          ∧ t.ddu = { s.ddu with
              stage := .retracting, stageTime := 0, drive := .inward, stall := some 0, outcome := .completed
              retryPause := none }
          ∧ (noticeEnabled s.lnk.mask 19 = true → notified (.dryStage (dryReport t)) t = true)
          ∧ t.seq = { s.seq with permit := t.seq.permit } ∧ t.rst.history = s.rst.history ∧ t.part = s.part)
      ∧ (Listens s → s.ddu.pendingStart = none →
        (s.ddu.fitted = true → s.pins.home = false →
          ∃ t, exec (.resetUnitDoor tag) s = .next t
            ∧ t.lnk.awaiting = some ⟨0x09#8, tag, .ok, .unit 4#8⟩
            ∧ t.ddu = { s.ddu with
                retryPause := none, dropPending := false, drive := .inward, stall := some 0
                outcome := if dryingRuns s.ddu then .interrupted else s.ddu.outcome
                stage := if dryingRuns s.ddu then .retracting else s.ddu.stage
                stageTime := if dryingRuns s.ddu && s.ddu.stage != .retracting then 0 else s.ddu.stageTime }
            ∧ t.seq = { s.seq with permit := t.seq.permit } ∧ t.rst.history = s.rst.history ∧ t.part = s.part)
        ∧ (s.ddu.fitted = false → dryingRuns s.ddu = false →
          exec (.resetUnitDoor tag) s = .next (finish (answering 0x09#8 tag .ok (.unit 4#8) (outputs (onDdu (fun d => { d with
            retryPause := none, dropPending := false }) (heard s))))))))
  ∧ (∀ (tag : Byte) (s : State), Rests s →
      (Listens s → s.ddu.fitted = true → s.pins.home = true → s.ddu.pendingStart = none →
        (dryingRuns s.ddu = false →
          ∃ t, exec (.resetUnitDoor tag) s = .next t
            ∧ t.ddu = { s.ddu with
                retryPause := none, dropPending := false, drive := .stopped, stall := none, count := 0, homed := true }
            ∧ t.part.state = .ready ∧ t.seq = { s.seq with permit := t.seq.permit } ∧ t.rst.history = s.rst.history
            ∧ t.lnk.awaiting = some ⟨0x09#8, tag, .ok, .unit 4#8⟩)
        ∧ (dryingRuns s.ddu = true →
          (s.ddu.awaited = true → runningIn s .dry = true ∧ s.seq.count ≤ s.seq.idx + 1) →
          ∃ t, exec (.resetUnitDoor tag) s = .next t
            ∧ t.ddu = { s.ddu with
                retryPause := none, dropPending := false, drive := .stopped, stall := none, count := 0, homed := true
                outcome := .interrupted, stage := .done, stageTime := 0, awaited := false }
            ∧ (noticeEnabled s.lnk.mask 19 = true → notified (.dryStage (dryReport t)) t = true)
            ∧ (s.ddu.awaited = false → t.seq = { s.seq with permit := t.seq.permit })
            ∧ (s.ddu.awaited = true → PhaseEnded s t)
            ∧ t.rst.history = s.rst.history ∧ t.lnk.awaiting = some ⟨0x09#8, tag, .ok, .unit 4#8⟩))
      ∧ (Listens s → s.ddu.fitted = true → s.pins.home = false → ∀ p, s.ddu.pendingStart = some p →
        s.ddu.stage = .retracting →
        ∃ t, exec (.resetUnitDoor tag) s = .next t
          ∧ t.ddu = { s.ddu with
              retryPause := none, dropPending := true, drive := .inward, stall := some 0, outcome := .interrupted }
          ∧ t.seq = { s.seq with permit := t.seq.permit } ∧ t.rst.history = s.rst.history ∧ t.part = s.part
          ∧ t.lnk.awaiting = some ⟨0x09#8, tag, .ok, .unit 4#8⟩)
      ∧ (Listens s → s.ddu.fitted = false → s.ddu.stage = .dwell → s.ddu.pendingStart = none →
        (s.ddu.awaited = true → runningIn s .dry = true ∧ s.seq.count ≤ s.seq.idx + 1) →
        ∃ t, exec (.resetUnitDoor tag) s = .next t
          ∧ t.ddu = { s.ddu with
              retryPause := none, dropPending := false, outcome := .interrupted, stage := .done, stageTime := 0
              awaited := false }
          ∧ (noticeEnabled s.lnk.mask 19 = true → notified (.dryStage (dryReport t)) t = true)
          ∧ (s.ddu.awaited = false → t.seq = { s.seq with permit := t.seq.permit })
          ∧ (s.ddu.awaited = true → PhaseEnded s t)
          ∧ t.rst.history = s.rst.history ∧ t.lnk.awaiting = some ⟨0x09#8, tag, .ok, .unit 4#8⟩)
      ∧ (s.ddu.fitted = true → s.ddu.stage = .retracting → s.ddu.drive = .inward → runningIn s .dry = true →
        s.seq.count ≤ s.seq.idx + 1 →
        (s.ddu.awaited = true → s.ddu.pendingStart = none →
          ∃ t, exec (.homeSwitchChange true) s = .next t
            ∧ t.ddu = { s.ddu with
                count := 0, homed := true, drive := .stopped, stall := none, stage := .done, stageTime := 0
                awaited := false }
            ∧ PhaseEnded s t ∧ t.rst.history = s.rst.history ∧ t.sfu = s.sfu ∧ t.dsu = s.dsu)
        ∧ (s.ddu.awaited = false → ∀ p, s.ddu.pendingStart = some p →
          (s.ddu.dropPending = true →
            ∃ t, exec (.homeSwitchChange true) s = .next t
              ∧ t.ddu = { s.ddu with
                  count := 0, homed := true, drive := .stopped, stall := none, stage := .done, stageTime := 0
                  outcome := .interrupted, pendingStart := none, dropPending := false }
              ∧ PhaseEnded s t ∧ t.rst.history = s.rst.history ∧ t.sfu = s.sfu ∧ t.dsu = s.dsu)
          ∧ (s.ddu.dropPending = false → s.ddu.doorOpen = false → 0 < p.dwell →
            ∃ t, exec (.homeSwitchChange true) s = .next t
              ∧ t.ddu = { s.ddu with
                  count := 0, homed := true, drive := .stopped, stall := none, stage := .dwell
                  stageTime := if s.cfg.autoDry then p.dwell else p.dwell + p.openTime
                  awaited := true, dwell := p.dwell, openTime := p.openTime, autoMode := s.cfg.autoDry
                  gapTarget := s.cfg.gapTarget, openLimit := s.cfg.openLimit, retryUsed := false, retryPause := none
                  expired := false, gapShort := false, gapHeld := 0, outcome := .none, formOpen := s.cfg.autoDry
                  pendingStart := none, dropPending := false }
              ∧ (noticeEnabled s.lnk.mask 19 = true → notified (.dryStage (dryReport t)) t = true)
              ∧ t.seq = { s.seq with permit := t.seq.permit } ∧ t.rst.history = s.rst.history ∧ t.sfu = s.sfu
              ∧ t.dsu = s.dsu))))

/-! ## The whole machine -/

/-- Whatever else happens, the configuration, the phase table, its count and the notice mask change only by the
requests that set them, by a row that brings bytes, which may end a frame that carries one, or by power and reset (R2
to R4, R176, R184, R189); and a FAULTED sequencer stays FAULTED with its code, its phase index and its soil index but
for ACKNOWLEDGE FAULT, a row that brings bytes, power and reset (R26, R28, R32). -/
def Obligations.SettingsAndFaultedHaveTheirCommands : Prop :=
  ∀ (c : Instr) (s t : State), exec c s = .next t →
    (writesSettings c = false →
      t.cfg = s.cfg ∧ t.seq.table = s.seq.table ∧ t.seq.count = s.seq.count ∧ t.lnk.mask = s.lnk.mask)
    ∧ (mayLeaveFaulted c = false → s.seq.state = .faulted →
      t.seq.state = .faulted ∧ t.seq.fault = s.seq.fault ∧ t.seq.idx = s.seq.idx ∧ t.seq.soil = s.seq.soil)

/-- In a sound part every step keeps the agreement of the inlet's holder, its requests, the valves and the engine's
state (Table 11, Table 13, Table 23, R37 to R39, R81, R83, R86, R87), and that of the FILL request, the fill record
and the engine with the sequencer (R9, R16, R38, R39, R43, R53, R67, R90). With the statements that ProgramKept,
SequencerKept, FloodHeld and DryingKept are kept, every step of a sound part leaves a sound part. A step whose part is
READY leaves its water path at rest, if it was at rest or the part was not READY before (R38, R39, R49, R65, R90). -/
def Obligations.GrantsAgreeIsKept : Prop :=
  ∀ (s t : State), Sound s → step s = .next t →
    GrantsAgree t ∧ WaterKept t
      ∧ ((s.part.powered = true → s.part.state = .ready → WaterRests s) → t.part.powered = true → t.part.state = .ready →
        WaterRests t)

/-- Every step keeps the link's counts (R176, R180 to R182), the notice set (R187 to R189) and the retained store's
lists (R201, R204): each of the three by itself. -/
def Obligations.LinkNoticesAndStoreAreKept : Prop :=
  ∀ (s t : State), step s = .next t →
    (LinkCounts s → LinkCounts t) ∧ (NoticesKept s → NoticesKept t) ∧ (StoreKept s → StoreKept t)

/-- Every step keeps each parameter in its range (Table 49, R184, R203), each stored phase in the ranges of Table 6
(R2, R3), each reservoir level within its capacity with its low-notified mark (R101, R104), the dose queue within 6
requests with at most one of each channel and origin (R114, what makes two requests alike as log entry 29 has it),
each of the four by itself; the phases of a running program in the table while the count is at most 12 (R4, R5); the
latched pulses per litre in their range with the configuration in range, and the charge residue below 100 (R34, R59);
and, in a sound part, the agreement of the sequencer's state, sub-stage, extension, settling time and remembered
sub-stage, and of the homings with the part state (R7, R8, R24, R25, R30, R195). -/
def Obligations.RecordsAndProgramsAreKept : Prop :=
  ∀ (s t : State), step s = .next t →
    (ConfigInRange s → ConfigInRange t) ∧ (TableInRange s → TableInRange t) ∧ (LevelsKept s → LevelsKept t)
      ∧ (DosesKept s → DosesKept t)
      ∧ (s.seq.count ≤ 12 → ProgramKept s → ProgramKept t) ∧ (ConfigInRange s → MeterKept s → MeterKept t)
      ∧ (Sound s → SequencerKept t)

/-- While grants and engine agree, every step keeps each fitted column in exactly one place, in the part and in its
retained copies (R54, R55, R203); in a sound part every step keeps the inlet inhibited and closed through a flood
(R38, R51, R52). -/
def Obligations.ColumnsAndFloodAreKept : Prop :=
  ∀ (s t : State), step s = .next t →
    (GrantsAgree s → ColumnsPlaced s → ColumnsPlaced t) ∧ (Sound s → FloodHeld t)

/-- With power, the drain pump, the heater output, the sump permit, the pressure condition and the arm timers are
after every step what their conditions give (R46, R137, R29, R147, R153). The conditions of the outputs, as the manual
lists them: the sump permit (R29), the drain pump (R46, Table 14), the heater (R135, R137, in the part states of
R129), the supervision of an arm (R153). -/
def Obligations.OutputsFollowTheirConditions : Prop :=
  (∀ (s t : State), OutputsFollow s → step s = .next t → OutputsFollow t)
  ∧ (∀ (arm : Arm) (s : State),
      (permitCondition s = true ↔
        (s.seq.state = .running ∧ s.seq.sub = .drain ∧ s.wpc.drainPump = true)
          ∨ ((s.seq.state = .idle ∨ s.seq.state = .ended ∨ s.seq.state = .holding ∨ s.seq.state = .faulted)
              ∧ s.wpc.sumpEmpty = true)
          ∨ (s.seq.state = .running ∧ s.seq.sub = .dry ∧ s.wpc.sumpEmpty = true))
      ∧ (pumpAsked s.wpc = true ↔
        (∃ d, s.wpc.seqDrain = some d ∧ ((∃ n, d.stage = .pumping n) ∨ (∃ n, d.stage = .runOn n) ∨ d.stage = .kept))
          ∨ (∃ n, s.wpc.burst = some (.running n)) ∨ s.wpc.leak.isSome = true
          ∨ s.wpc.floodReq = some .active ∨ (∃ n, s.wpc.floodReq = some (.runOn n)))
      ∧ (heaterOutput s = (if
          (s.part.state = .starting ∨ s.part.state = .ready ∨ s.part.state = .shuttingDown)
            ∧ s.seq.state = .running ∧ (s.seq.sub = .heat ∨ s.seq.sub = .circulate) ∧ s.htc.request.isSome = true
            ∧ s.ddu.doorOpen = false ∧ s.wpc.heaterCover = true ∧ s.czs.confirmed = true ∧ s.htc.valid = true
            ∧ s.htc.lockout = false ∧ s.htc.programDisable = false ∧ s.htc.phaseDisable = false ∧ s.htc.demand = true
          then (if s.htc.half then .half else .full) else .off))
      ∧ (armSupervised s arm = true ↔
        s.czs.pump = true ∧ s.czs.position = some (match arm with | .z1 => .z1 | .z2 => .z2) ∧ s.czs.move = none
          ∧ 0 < (match arm with | .z1 => s.czs.weights.z1 | .z2 => s.czs.weights.z2) ∧ s.czs.confirmed = true))

/-- In a sound part every step keeps the agreement of the actuator, its drive and the stage of a drying with the
sequencer and the part state (R159 to R162, R165 to R169, R171, R173). -/
def Obligations.DryingIsKept : Prop :=
  ∀ (s t : State), Sound s → step s = .next t → DryingKept t

/-- State.reset has every invariant that the steps keep. -/
def Obligations.ResetHasTheInvariants : Prop :=
  Sound State.reset ∧ GrantsAgree State.reset ∧ WaterKept State.reset ∧ FloodHeld State.reset ∧ ProgramKept State.reset
    ∧ SequencerKept State.reset ∧ DryingKept State.reset ∧ LinkCounts State.reset ∧ NoticesKept State.reset
    ∧ StoreKept State.reset ∧ ConfigInRange State.reset ∧ TableInRange State.reset ∧ LevelsKept State.reset
    ∧ DosesKept State.reset ∧ MeterKept State.reset ∧ ColumnsPlaced State.reset ∧ OutputsFollow State.reset
end

