-- ==== Sys2Proof/Laws/PerInstr.lean ====
section
/-! SUPPORT. Laws stated of every command by itself. PayloadFits: the payload of a request row fits a frame, whose
length byte admits 198 bytes of payload (R176). -/

namespace Sys2Proof.Laws.PayloadFits

/-- A command that is a request row has a payload that fits a frame. -/
def Statement (i : Instr) : Prop :=
  ∀ (tag : Byte) (r : Request), i.request? = some (tag, r) → r.payload.length ≤ 198

theorem of_none {i : Instr} (h : i.request? = none) : Statement i := by
  intro tag r hr
  simp [h] at hr

theorem payload_short (r : Request) : r.payload.length ≤ 198 := by
  cases r <;>
    simp [Request.payload, wordBytes, tripleBytes, halfBytes, PhasePayload.bytes, RefPayload.bytes]

theorem of_request {i : Instr} {q : Byte × Request} (_ : i.request? = some q) : Statement i :=
  fun _ r _ => payload_short r

theorem identify (tag : Byte) : Statement (.identify tag) := of_request rfl
theorem linkEnable (tag : Byte) : Statement (.linkEnable tag) := of_request rfl
theorem getStatus (tag : Byte) : Statement (.getStatus tag) := of_request rfl
theorem setConfig (tag : Byte) (id : Byte) (value : Word) : Statement (.setConfig tag id value) := of_request rfl
theorem setConfigNominalCapacity (tag : Byte) (value : Word) : Statement (.setConfigNominalCapacity tag value) :=
  of_request rfl
theorem setConfigSwitchReserve (tag : Byte) (value : Word) : Statement (.setConfigSwitchReserve tag value) :=
  of_request rfl
theorem setConfigFittedColumns (tag : Byte) (value : Word) : Statement (.setConfigFittedColumns tag value) :=
  of_request rfl
theorem setConfigSilenceLimit (tag : Byte) (value : Word) : Statement (.setConfigSilenceLimit tag value) :=
  of_request rfl
theorem getConfig (tag : Byte) (id : Byte) : Statement (.getConfig tag id) := of_request rfl
theorem setNoticeMask (tag : Byte) (mask : Triple) : Statement (.setNoticeMask tag mask) := of_request rfl
theorem standby (tag : Byte) : Statement (.standby tag) := of_request rfl
theorem shutdownNormal (tag : Byte) : Statement (.shutdownNormal tag) := of_request rfl
theorem shutdownAbrupt (tag : Byte) : Statement (.shutdownAbrupt tag) := of_request rfl
theorem resetUnitSequencer (tag : Byte) : Statement (.resetUnitSequencer tag) := of_request rfl
theorem resetUnitSoftener (tag : Byte) : Statement (.resetUnitSoftener tag) := of_request rfl
theorem resetUnitDosing (tag : Byte) : Statement (.resetUnitDosing tag) := of_request rfl
theorem resetUnitDoor (tag : Byte) : Statement (.resetUnitDoor tag) := of_request rfl
theorem resetUnitLink (tag : Byte) : Statement (.resetUnitLink tag) := of_request rfl
theorem readFaultHistory (tag : Byte) : Statement (.readFaultHistory tag) := of_request rfl
theorem acknowledgeFault (tag : Byte) : Statement (.acknowledgeFault tag) := of_request rfl
theorem loadPhase (tag : Byte) (index : Byte) (record : PhasePayload) : Statement (.loadPhase tag index record) :=
  of_request rfl
theorem readPhase (tag : Byte) (index : Byte) : Statement (.readPhase tag index) := of_request rfl
theorem setPhaseCount (tag : Byte) (count : Byte) : Statement (.setPhaseCount tag count) := of_request rfl
theorem clearProgram (tag : Byte) : Statement (.clearProgram tag) := of_request rfl
theorem startProgram (tag : Byte) : Statement (.startProgram tag) := of_request rfl
theorem hold (tag : Byte) : Statement (.hold tag) := of_request rfl
theorem continueProgram (tag : Byte) : Statement (.continueProgram tag) := of_request rfl
theorem abortProgram (tag : Byte) : Statement (.abortProgram tag) := of_request rfl
theorem readColumn (tag : Byte) (column : Byte) : Statement (.readColumn tag column) := of_request rfl
theorem regenerate (tag : Byte) (column : Byte) : Statement (.regenerate tag column) := of_request rfl
theorem retireColumn (tag : Byte) (column : Byte) : Statement (.retireColumn tag column) := of_request rfl
theorem restoreColumn (tag : Byte) (column : Byte) : Statement (.restoreColumn tag column) := of_request rfl
theorem readReservoir (tag : Byte) (channel : Byte) : Statement (.readReservoir tag channel) := of_request rfl
theorem setReservoirLevel (tag : Byte) (channel : Byte) (level : Half) : Statement (.setReservoirLevel tag channel level) :=
  of_request rfl
theorem primeChannel (tag : Byte) (channel : Byte) (strokes : Byte) : Statement (.primeChannel tag channel strokes) :=
  of_request rfl
theorem frameGood (bytes : List Byte) : Statement (.frameGood bytes) := of_none rfl
theorem frameBad (bytes : List Byte) (stopLow : Bool) : Statement (.frameBad bytes stopLow) := of_none rfl
theorem byteGapTimeout (bytes : List Byte) : Statement (.byteGapTimeout bytes) := of_none rfl
theorem frameTransmitEnd : Statement .frameTransmitEnd := of_none rfl
theorem silenceTimeout : Statement .silenceTimeout := of_none rfl
theorem timeStampTick (ambient : Ambient) : Statement (.timeStampTick ambient) := of_none rfl
theorem standbyLinkWake : Statement .standbyLinkWake := of_none rfl
theorem powerOn (pins : Pins) : Statement (.powerOn pins) := of_none rfl
theorem resetLineAssertion (pins : Pins) : Statement (.resetLineAssertion pins) := of_none rfl
theorem powerLoss : Statement .powerLoss := of_none rfl
theorem pfwAssertion : Statement .pfwAssertion := of_none rfl
theorem pfwRelease : Statement .pfwRelease := of_none rfl
theorem retainedWriteEnd : Statement .retainedWriteEnd := of_none rfl
theorem flowMeterPulse : Statement .flowMeterPulse := of_none rfl
theorem sumpEmptySwitchChange (empty : Bool) : Statement (.sumpEmptySwitchChange empty) := of_none rfl
theorem heaterCoverLevelChange (reached : Bool) : Statement (.heaterCoverLevelChange reached) := of_none rfl
theorem highLevelSwitchChange (high : Bool) : Statement (.highLevelSwitchChange high) := of_none rfl
theorem floodSwitchChange (active : Bool) : Statement (.floodSwitchChange active) := of_none rfl
theorem floodRunOnExpiry : Statement .floodRunOnExpiry := of_none rfl
theorem leakDrainExpiry : Statement .leakDrainExpiry := of_none rfl
theorem drainBurstExpiry : Statement .drainBurstExpiry := of_none rfl
theorem fillLimitExpiry : Statement .fillLimitExpiry := of_none rfl
theorem drainRunOnExpiry : Statement .drainRunOnExpiry := of_none rfl
theorem drainAttemptLimit : Statement .drainAttemptLimit := of_none rfl
theorem drainPauseExpiry : Statement .drainPauseExpiry := of_none rfl
theorem holdTimerExpiry : Statement .holdTimerExpiry := of_none rfl
theorem settlingTimerExpiry : Statement .settlingTimerExpiry := of_none rfl
theorem waterWaitExpiry : Statement .waterWaitExpiry := of_none rfl
theorem drainExtensionExpiry : Statement .drainExtensionExpiry := of_none rfl
theorem saltLidSwitchChange (lidOpen : Bool) : Statement (.saltLidSwitchChange lidOpen) := of_none rfl
theorem saltLowSwitchChange (low : Bool) : Statement (.saltLowSwitchChange low) := of_none rfl
theorem brineStageTimeLimit : Statement .brineStageTimeLimit := of_none rfl
theorem rinseStageTimeLimit : Statement .rinseStageTimeLimit := of_none rfl
theorem regenDwellExpiry : Statement .regenDwellExpiry := of_none rfl
theorem columnValveConfirmation (position : ValvePos) : Statement (.columnValveConfirmation position) := of_none rfl
theorem columnValveMoveTimeout : Statement .columnValveMoveTimeout := of_none rfl
theorem gatherWindowExpiry : Statement .gatherWindowExpiry := of_none rfl
theorem selectorPositionReport (position : Channel) : Statement (.selectorPositionReport position) := of_none rfl
theorem selectorMoveTimeout : Statement .selectorMoveTimeout := of_none rfl
theorem strokeConfirmationPulse : Statement .strokeConfirmationPulse := of_none rfl
theorem strokeTimeout : Statement .strokeTimeout := of_none rfl
theorem lowSwitchChange (channel : Channel) (low : Bool) : Statement (.lowSwitchChange channel low) := of_none rfl
theorem capSwitchChange (channel : Channel) (capOpen : Bool) : Statement (.capSwitchChange channel capOpen) :=
  of_none rfl
theorem sumpTemperatureChange (quarters : Int) : Statement (.sumpTemperatureChange quarters) := of_none rfl
theorem sensorIndication (kind : SensorKind) : Statement (.sensorIndication kind) := of_none rfl
theorem sensorRecovery (quarters : Int) : Statement (.sensorRecovery quarters) := of_none rfl
theorem heatLimitExpiry : Statement .heatLimitExpiry := of_none rfl
theorem pressureSwitchChange (pressure : Bool) : Statement (.pressureSwitchChange pressure) := of_none rfl
theorem lowTimerExpiry : Statement .lowTimerExpiry := of_none rfl
theorem slotTimeExpiry : Statement .slotTimeExpiry := of_none rfl
theorem diverterPositionReport (zone : Zone) : Statement (.diverterPositionReport zone) := of_none rfl
theorem diverterMoveTimeout : Statement .diverterMoveTimeout := of_none rfl
theorem armRotationPulse (arm : Arm) : Statement (.armRotationPulse arm) := of_none rfl
theorem armTimerExpiry (arm : Arm) : Statement (.armTimerExpiry arm) := of_none rfl
theorem doorSwitchChange (doorOpen : Bool) : Statement (.doorSwitchChange doorOpen) := of_none rfl
theorem actuatorEncoderEdge (outward : Bool) : Statement (.actuatorEncoderEdge outward) := of_none rfl
theorem homeSwitchChange (home : Bool) : Statement (.homeSwitchChange home) := of_none rfl
theorem stallTimerExpiry : Statement .stallTimerExpiry := of_none rfl
theorem dryingDwellExpiry : Statement .dryingDwellExpiry := of_none rfl
theorem coolWaitExpiry : Statement .coolWaitExpiry := of_none rfl
theorem retryPauseExpiry : Statement .retryPauseExpiry := of_none rfl
theorem openTimeExpiry : Statement .openTimeExpiry := of_none rfl

end Sys2Proof.Laws.PayloadFits
end

