-- ==== Sys2Proof/Laws/State.lean ====
section
/-! SUPPORT. The small lemmas of State: what each one-block update does to each block, so that no later proof unfolds a
record update; and the values that a fresh state's fields take. -/

namespace Sys2Proof.Laws

open Sys2Proof.Machine
open Sys2Proof.Safety

/-! ## onPart -/

@[simp] theorem onPart_part (f : Part → Part) (s : State) : (onPart f s).part = f s.part := rfl
@[simp] theorem onPart_pins (f : Part → Part) (s : State) : (onPart f s).pins = s.pins := rfl
@[simp] theorem onPart_cfg (f : Part → Part) (s : State) : (onPart f s).cfg = s.cfg := rfl
@[simp] theorem onPart_lnk (f : Part → Part) (s : State) : (onPart f s).lnk = s.lnk := rfl
@[simp] theorem onPart_seq (f : Part → Part) (s : State) : (onPart f s).seq = s.seq := rfl
@[simp] theorem onPart_wpc (f : Part → Part) (s : State) : (onPart f s).wpc = s.wpc := rfl
@[simp] theorem onPart_sfu (f : Part → Part) (s : State) : (onPart f s).sfu = s.sfu := rfl
@[simp] theorem onPart_rge (f : Part → Part) (s : State) : (onPart f s).rge = s.rge := rfl
@[simp] theorem onPart_dsu (f : Part → Part) (s : State) : (onPart f s).dsu = s.dsu := rfl
@[simp] theorem onPart_htc (f : Part → Part) (s : State) : (onPart f s).htc = s.htc := rfl
@[simp] theorem onPart_czs (f : Part → Part) (s : State) : (onPart f s).czs = s.czs := rfl
@[simp] theorem onPart_ddu (f : Part → Part) (s : State) : (onPart f s).ddu = s.ddu := rfl
@[simp] theorem onPart_rst (f : Part → Part) (s : State) : (onPart f s).rst = s.rst := rfl
@[simp] theorem onPart_ties (f : Part → Part) (s : State) : (onPart f s).ties = s.ties := rfl
@[simp] theorem onPart_reports (f : Part → Part) (s : State) : (onPart f s).reports = s.reports := rfl
@[simp] theorem onPart_pending (f : Part → Part) (s : State) : (onPart f s).pending = s.pending := rfl

/-! ## onPins -/

@[simp] theorem onPins_part (f : Pins → Pins) (s : State) : (onPins f s).part = s.part := rfl
@[simp] theorem onPins_pins (f : Pins → Pins) (s : State) : (onPins f s).pins = f s.pins := rfl
@[simp] theorem onPins_cfg (f : Pins → Pins) (s : State) : (onPins f s).cfg = s.cfg := rfl
@[simp] theorem onPins_lnk (f : Pins → Pins) (s : State) : (onPins f s).lnk = s.lnk := rfl
@[simp] theorem onPins_seq (f : Pins → Pins) (s : State) : (onPins f s).seq = s.seq := rfl
@[simp] theorem onPins_wpc (f : Pins → Pins) (s : State) : (onPins f s).wpc = s.wpc := rfl
@[simp] theorem onPins_sfu (f : Pins → Pins) (s : State) : (onPins f s).sfu = s.sfu := rfl
@[simp] theorem onPins_rge (f : Pins → Pins) (s : State) : (onPins f s).rge = s.rge := rfl
@[simp] theorem onPins_dsu (f : Pins → Pins) (s : State) : (onPins f s).dsu = s.dsu := rfl
@[simp] theorem onPins_htc (f : Pins → Pins) (s : State) : (onPins f s).htc = s.htc := rfl
@[simp] theorem onPins_czs (f : Pins → Pins) (s : State) : (onPins f s).czs = s.czs := rfl
@[simp] theorem onPins_ddu (f : Pins → Pins) (s : State) : (onPins f s).ddu = s.ddu := rfl
@[simp] theorem onPins_rst (f : Pins → Pins) (s : State) : (onPins f s).rst = s.rst := rfl
@[simp] theorem onPins_ties (f : Pins → Pins) (s : State) : (onPins f s).ties = s.ties := rfl
@[simp] theorem onPins_reports (f : Pins → Pins) (s : State) : (onPins f s).reports = s.reports := rfl
@[simp] theorem onPins_pending (f : Pins → Pins) (s : State) : (onPins f s).pending = s.pending := rfl

/-! ## onCfg -/

@[simp] theorem onCfg_part (f : ConfigRec → ConfigRec) (s : State) : (onCfg f s).part = s.part := rfl
@[simp] theorem onCfg_pins (f : ConfigRec → ConfigRec) (s : State) : (onCfg f s).pins = s.pins := rfl
@[simp] theorem onCfg_cfg (f : ConfigRec → ConfigRec) (s : State) : (onCfg f s).cfg = f s.cfg := rfl
@[simp] theorem onCfg_lnk (f : ConfigRec → ConfigRec) (s : State) : (onCfg f s).lnk = s.lnk := rfl
@[simp] theorem onCfg_seq (f : ConfigRec → ConfigRec) (s : State) : (onCfg f s).seq = s.seq := rfl
@[simp] theorem onCfg_wpc (f : ConfigRec → ConfigRec) (s : State) : (onCfg f s).wpc = s.wpc := rfl
@[simp] theorem onCfg_sfu (f : ConfigRec → ConfigRec) (s : State) : (onCfg f s).sfu = s.sfu := rfl
@[simp] theorem onCfg_rge (f : ConfigRec → ConfigRec) (s : State) : (onCfg f s).rge = s.rge := rfl
@[simp] theorem onCfg_dsu (f : ConfigRec → ConfigRec) (s : State) : (onCfg f s).dsu = s.dsu := rfl
@[simp] theorem onCfg_htc (f : ConfigRec → ConfigRec) (s : State) : (onCfg f s).htc = s.htc := rfl
@[simp] theorem onCfg_czs (f : ConfigRec → ConfigRec) (s : State) : (onCfg f s).czs = s.czs := rfl
@[simp] theorem onCfg_ddu (f : ConfigRec → ConfigRec) (s : State) : (onCfg f s).ddu = s.ddu := rfl
@[simp] theorem onCfg_rst (f : ConfigRec → ConfigRec) (s : State) : (onCfg f s).rst = s.rst := rfl
@[simp] theorem onCfg_ties (f : ConfigRec → ConfigRec) (s : State) : (onCfg f s).ties = s.ties := rfl
@[simp] theorem onCfg_reports (f : ConfigRec → ConfigRec) (s : State) : (onCfg f s).reports = s.reports := rfl
@[simp] theorem onCfg_pending (f : ConfigRec → ConfigRec) (s : State) : (onCfg f s).pending = s.pending := rfl

/-! ## onLnk -/

@[simp] theorem onLnk_part (f : Lnk → Lnk) (s : State) : (onLnk f s).part = s.part := rfl
@[simp] theorem onLnk_pins (f : Lnk → Lnk) (s : State) : (onLnk f s).pins = s.pins := rfl
@[simp] theorem onLnk_cfg (f : Lnk → Lnk) (s : State) : (onLnk f s).cfg = s.cfg := rfl
@[simp] theorem onLnk_lnk (f : Lnk → Lnk) (s : State) : (onLnk f s).lnk = f s.lnk := rfl
@[simp] theorem onLnk_seq (f : Lnk → Lnk) (s : State) : (onLnk f s).seq = s.seq := rfl
@[simp] theorem onLnk_wpc (f : Lnk → Lnk) (s : State) : (onLnk f s).wpc = s.wpc := rfl
@[simp] theorem onLnk_sfu (f : Lnk → Lnk) (s : State) : (onLnk f s).sfu = s.sfu := rfl
@[simp] theorem onLnk_rge (f : Lnk → Lnk) (s : State) : (onLnk f s).rge = s.rge := rfl
@[simp] theorem onLnk_dsu (f : Lnk → Lnk) (s : State) : (onLnk f s).dsu = s.dsu := rfl
@[simp] theorem onLnk_htc (f : Lnk → Lnk) (s : State) : (onLnk f s).htc = s.htc := rfl
@[simp] theorem onLnk_czs (f : Lnk → Lnk) (s : State) : (onLnk f s).czs = s.czs := rfl
@[simp] theorem onLnk_ddu (f : Lnk → Lnk) (s : State) : (onLnk f s).ddu = s.ddu := rfl
@[simp] theorem onLnk_rst (f : Lnk → Lnk) (s : State) : (onLnk f s).rst = s.rst := rfl
@[simp] theorem onLnk_ties (f : Lnk → Lnk) (s : State) : (onLnk f s).ties = s.ties := rfl
@[simp] theorem onLnk_reports (f : Lnk → Lnk) (s : State) : (onLnk f s).reports = s.reports := rfl
@[simp] theorem onLnk_pending (f : Lnk → Lnk) (s : State) : (onLnk f s).pending = s.pending := rfl

/-! ## onSeq -/

@[simp] theorem onSeq_part (f : Seq → Seq) (s : State) : (onSeq f s).part = s.part := rfl
@[simp] theorem onSeq_pins (f : Seq → Seq) (s : State) : (onSeq f s).pins = s.pins := rfl
@[simp] theorem onSeq_cfg (f : Seq → Seq) (s : State) : (onSeq f s).cfg = s.cfg := rfl
@[simp] theorem onSeq_lnk (f : Seq → Seq) (s : State) : (onSeq f s).lnk = s.lnk := rfl
@[simp] theorem onSeq_seq (f : Seq → Seq) (s : State) : (onSeq f s).seq = f s.seq := rfl
@[simp] theorem onSeq_wpc (f : Seq → Seq) (s : State) : (onSeq f s).wpc = s.wpc := rfl
@[simp] theorem onSeq_sfu (f : Seq → Seq) (s : State) : (onSeq f s).sfu = s.sfu := rfl
@[simp] theorem onSeq_rge (f : Seq → Seq) (s : State) : (onSeq f s).rge = s.rge := rfl
@[simp] theorem onSeq_dsu (f : Seq → Seq) (s : State) : (onSeq f s).dsu = s.dsu := rfl
@[simp] theorem onSeq_htc (f : Seq → Seq) (s : State) : (onSeq f s).htc = s.htc := rfl
@[simp] theorem onSeq_czs (f : Seq → Seq) (s : State) : (onSeq f s).czs = s.czs := rfl
@[simp] theorem onSeq_ddu (f : Seq → Seq) (s : State) : (onSeq f s).ddu = s.ddu := rfl
@[simp] theorem onSeq_rst (f : Seq → Seq) (s : State) : (onSeq f s).rst = s.rst := rfl
@[simp] theorem onSeq_ties (f : Seq → Seq) (s : State) : (onSeq f s).ties = s.ties := rfl
@[simp] theorem onSeq_reports (f : Seq → Seq) (s : State) : (onSeq f s).reports = s.reports := rfl
@[simp] theorem onSeq_pending (f : Seq → Seq) (s : State) : (onSeq f s).pending = s.pending := rfl

/-! ## onWpc -/

@[simp] theorem onWpc_part (f : Wpc → Wpc) (s : State) : (onWpc f s).part = s.part := rfl
@[simp] theorem onWpc_pins (f : Wpc → Wpc) (s : State) : (onWpc f s).pins = s.pins := rfl
@[simp] theorem onWpc_cfg (f : Wpc → Wpc) (s : State) : (onWpc f s).cfg = s.cfg := rfl
@[simp] theorem onWpc_lnk (f : Wpc → Wpc) (s : State) : (onWpc f s).lnk = s.lnk := rfl
@[simp] theorem onWpc_seq (f : Wpc → Wpc) (s : State) : (onWpc f s).seq = s.seq := rfl
@[simp] theorem onWpc_wpc (f : Wpc → Wpc) (s : State) : (onWpc f s).wpc = f s.wpc := rfl
@[simp] theorem onWpc_sfu (f : Wpc → Wpc) (s : State) : (onWpc f s).sfu = s.sfu := rfl
@[simp] theorem onWpc_rge (f : Wpc → Wpc) (s : State) : (onWpc f s).rge = s.rge := rfl
@[simp] theorem onWpc_dsu (f : Wpc → Wpc) (s : State) : (onWpc f s).dsu = s.dsu := rfl
@[simp] theorem onWpc_htc (f : Wpc → Wpc) (s : State) : (onWpc f s).htc = s.htc := rfl
@[simp] theorem onWpc_czs (f : Wpc → Wpc) (s : State) : (onWpc f s).czs = s.czs := rfl
@[simp] theorem onWpc_ddu (f : Wpc → Wpc) (s : State) : (onWpc f s).ddu = s.ddu := rfl
@[simp] theorem onWpc_rst (f : Wpc → Wpc) (s : State) : (onWpc f s).rst = s.rst := rfl
@[simp] theorem onWpc_ties (f : Wpc → Wpc) (s : State) : (onWpc f s).ties = s.ties := rfl
@[simp] theorem onWpc_reports (f : Wpc → Wpc) (s : State) : (onWpc f s).reports = s.reports := rfl
@[simp] theorem onWpc_pending (f : Wpc → Wpc) (s : State) : (onWpc f s).pending = s.pending := rfl

/-! ## onSfu -/

@[simp] theorem onSfu_part (f : Sfu → Sfu) (s : State) : (onSfu f s).part = s.part := rfl
@[simp] theorem onSfu_pins (f : Sfu → Sfu) (s : State) : (onSfu f s).pins = s.pins := rfl
@[simp] theorem onSfu_cfg (f : Sfu → Sfu) (s : State) : (onSfu f s).cfg = s.cfg := rfl
@[simp] theorem onSfu_lnk (f : Sfu → Sfu) (s : State) : (onSfu f s).lnk = s.lnk := rfl
@[simp] theorem onSfu_seq (f : Sfu → Sfu) (s : State) : (onSfu f s).seq = s.seq := rfl
@[simp] theorem onSfu_wpc (f : Sfu → Sfu) (s : State) : (onSfu f s).wpc = s.wpc := rfl
@[simp] theorem onSfu_sfu (f : Sfu → Sfu) (s : State) : (onSfu f s).sfu = f s.sfu := rfl
@[simp] theorem onSfu_rge (f : Sfu → Sfu) (s : State) : (onSfu f s).rge = s.rge := rfl
@[simp] theorem onSfu_dsu (f : Sfu → Sfu) (s : State) : (onSfu f s).dsu = s.dsu := rfl
@[simp] theorem onSfu_htc (f : Sfu → Sfu) (s : State) : (onSfu f s).htc = s.htc := rfl
@[simp] theorem onSfu_czs (f : Sfu → Sfu) (s : State) : (onSfu f s).czs = s.czs := rfl
@[simp] theorem onSfu_ddu (f : Sfu → Sfu) (s : State) : (onSfu f s).ddu = s.ddu := rfl
@[simp] theorem onSfu_rst (f : Sfu → Sfu) (s : State) : (onSfu f s).rst = s.rst := rfl
@[simp] theorem onSfu_ties (f : Sfu → Sfu) (s : State) : (onSfu f s).ties = s.ties := rfl
@[simp] theorem onSfu_reports (f : Sfu → Sfu) (s : State) : (onSfu f s).reports = s.reports := rfl
@[simp] theorem onSfu_pending (f : Sfu → Sfu) (s : State) : (onSfu f s).pending = s.pending := rfl

/-! ## onRge -/

@[simp] theorem onRge_part (f : Rge → Rge) (s : State) : (onRge f s).part = s.part := rfl
@[simp] theorem onRge_pins (f : Rge → Rge) (s : State) : (onRge f s).pins = s.pins := rfl
@[simp] theorem onRge_cfg (f : Rge → Rge) (s : State) : (onRge f s).cfg = s.cfg := rfl
@[simp] theorem onRge_lnk (f : Rge → Rge) (s : State) : (onRge f s).lnk = s.lnk := rfl
@[simp] theorem onRge_seq (f : Rge → Rge) (s : State) : (onRge f s).seq = s.seq := rfl
@[simp] theorem onRge_wpc (f : Rge → Rge) (s : State) : (onRge f s).wpc = s.wpc := rfl
@[simp] theorem onRge_sfu (f : Rge → Rge) (s : State) : (onRge f s).sfu = s.sfu := rfl
@[simp] theorem onRge_rge (f : Rge → Rge) (s : State) : (onRge f s).rge = f s.rge := rfl
@[simp] theorem onRge_dsu (f : Rge → Rge) (s : State) : (onRge f s).dsu = s.dsu := rfl
@[simp] theorem onRge_htc (f : Rge → Rge) (s : State) : (onRge f s).htc = s.htc := rfl
@[simp] theorem onRge_czs (f : Rge → Rge) (s : State) : (onRge f s).czs = s.czs := rfl
@[simp] theorem onRge_ddu (f : Rge → Rge) (s : State) : (onRge f s).ddu = s.ddu := rfl
@[simp] theorem onRge_rst (f : Rge → Rge) (s : State) : (onRge f s).rst = s.rst := rfl
@[simp] theorem onRge_ties (f : Rge → Rge) (s : State) : (onRge f s).ties = s.ties := rfl
@[simp] theorem onRge_reports (f : Rge → Rge) (s : State) : (onRge f s).reports = s.reports := rfl
@[simp] theorem onRge_pending (f : Rge → Rge) (s : State) : (onRge f s).pending = s.pending := rfl

/-! ## onDsu -/

@[simp] theorem onDsu_part (f : Dsu → Dsu) (s : State) : (onDsu f s).part = s.part := rfl
@[simp] theorem onDsu_pins (f : Dsu → Dsu) (s : State) : (onDsu f s).pins = s.pins := rfl
@[simp] theorem onDsu_cfg (f : Dsu → Dsu) (s : State) : (onDsu f s).cfg = s.cfg := rfl
@[simp] theorem onDsu_lnk (f : Dsu → Dsu) (s : State) : (onDsu f s).lnk = s.lnk := rfl
@[simp] theorem onDsu_seq (f : Dsu → Dsu) (s : State) : (onDsu f s).seq = s.seq := rfl
@[simp] theorem onDsu_wpc (f : Dsu → Dsu) (s : State) : (onDsu f s).wpc = s.wpc := rfl
@[simp] theorem onDsu_sfu (f : Dsu → Dsu) (s : State) : (onDsu f s).sfu = s.sfu := rfl
@[simp] theorem onDsu_rge (f : Dsu → Dsu) (s : State) : (onDsu f s).rge = s.rge := rfl
@[simp] theorem onDsu_dsu (f : Dsu → Dsu) (s : State) : (onDsu f s).dsu = f s.dsu := rfl
@[simp] theorem onDsu_htc (f : Dsu → Dsu) (s : State) : (onDsu f s).htc = s.htc := rfl
@[simp] theorem onDsu_czs (f : Dsu → Dsu) (s : State) : (onDsu f s).czs = s.czs := rfl
@[simp] theorem onDsu_ddu (f : Dsu → Dsu) (s : State) : (onDsu f s).ddu = s.ddu := rfl
@[simp] theorem onDsu_rst (f : Dsu → Dsu) (s : State) : (onDsu f s).rst = s.rst := rfl
@[simp] theorem onDsu_ties (f : Dsu → Dsu) (s : State) : (onDsu f s).ties = s.ties := rfl
@[simp] theorem onDsu_reports (f : Dsu → Dsu) (s : State) : (onDsu f s).reports = s.reports := rfl
@[simp] theorem onDsu_pending (f : Dsu → Dsu) (s : State) : (onDsu f s).pending = s.pending := rfl

/-! ## onHtc -/

@[simp] theorem onHtc_part (f : Htc → Htc) (s : State) : (onHtc f s).part = s.part := rfl
@[simp] theorem onHtc_pins (f : Htc → Htc) (s : State) : (onHtc f s).pins = s.pins := rfl
@[simp] theorem onHtc_cfg (f : Htc → Htc) (s : State) : (onHtc f s).cfg = s.cfg := rfl
@[simp] theorem onHtc_lnk (f : Htc → Htc) (s : State) : (onHtc f s).lnk = s.lnk := rfl
@[simp] theorem onHtc_seq (f : Htc → Htc) (s : State) : (onHtc f s).seq = s.seq := rfl
@[simp] theorem onHtc_wpc (f : Htc → Htc) (s : State) : (onHtc f s).wpc = s.wpc := rfl
@[simp] theorem onHtc_sfu (f : Htc → Htc) (s : State) : (onHtc f s).sfu = s.sfu := rfl
@[simp] theorem onHtc_rge (f : Htc → Htc) (s : State) : (onHtc f s).rge = s.rge := rfl
@[simp] theorem onHtc_dsu (f : Htc → Htc) (s : State) : (onHtc f s).dsu = s.dsu := rfl
@[simp] theorem onHtc_htc (f : Htc → Htc) (s : State) : (onHtc f s).htc = f s.htc := rfl
@[simp] theorem onHtc_czs (f : Htc → Htc) (s : State) : (onHtc f s).czs = s.czs := rfl
@[simp] theorem onHtc_ddu (f : Htc → Htc) (s : State) : (onHtc f s).ddu = s.ddu := rfl
@[simp] theorem onHtc_rst (f : Htc → Htc) (s : State) : (onHtc f s).rst = s.rst := rfl
@[simp] theorem onHtc_ties (f : Htc → Htc) (s : State) : (onHtc f s).ties = s.ties := rfl
@[simp] theorem onHtc_reports (f : Htc → Htc) (s : State) : (onHtc f s).reports = s.reports := rfl
@[simp] theorem onHtc_pending (f : Htc → Htc) (s : State) : (onHtc f s).pending = s.pending := rfl

/-! ## onCzs -/

@[simp] theorem onCzs_part (f : Czs → Czs) (s : State) : (onCzs f s).part = s.part := rfl
@[simp] theorem onCzs_pins (f : Czs → Czs) (s : State) : (onCzs f s).pins = s.pins := rfl
@[simp] theorem onCzs_cfg (f : Czs → Czs) (s : State) : (onCzs f s).cfg = s.cfg := rfl
@[simp] theorem onCzs_lnk (f : Czs → Czs) (s : State) : (onCzs f s).lnk = s.lnk := rfl
@[simp] theorem onCzs_seq (f : Czs → Czs) (s : State) : (onCzs f s).seq = s.seq := rfl
@[simp] theorem onCzs_wpc (f : Czs → Czs) (s : State) : (onCzs f s).wpc = s.wpc := rfl
@[simp] theorem onCzs_sfu (f : Czs → Czs) (s : State) : (onCzs f s).sfu = s.sfu := rfl
@[simp] theorem onCzs_rge (f : Czs → Czs) (s : State) : (onCzs f s).rge = s.rge := rfl
@[simp] theorem onCzs_dsu (f : Czs → Czs) (s : State) : (onCzs f s).dsu = s.dsu := rfl
@[simp] theorem onCzs_htc (f : Czs → Czs) (s : State) : (onCzs f s).htc = s.htc := rfl
@[simp] theorem onCzs_czs (f : Czs → Czs) (s : State) : (onCzs f s).czs = f s.czs := rfl
@[simp] theorem onCzs_ddu (f : Czs → Czs) (s : State) : (onCzs f s).ddu = s.ddu := rfl
@[simp] theorem onCzs_rst (f : Czs → Czs) (s : State) : (onCzs f s).rst = s.rst := rfl
@[simp] theorem onCzs_ties (f : Czs → Czs) (s : State) : (onCzs f s).ties = s.ties := rfl
@[simp] theorem onCzs_reports (f : Czs → Czs) (s : State) : (onCzs f s).reports = s.reports := rfl
@[simp] theorem onCzs_pending (f : Czs → Czs) (s : State) : (onCzs f s).pending = s.pending := rfl

/-! ## onDdu -/

@[simp] theorem onDdu_part (f : Ddu → Ddu) (s : State) : (onDdu f s).part = s.part := rfl
@[simp] theorem onDdu_pins (f : Ddu → Ddu) (s : State) : (onDdu f s).pins = s.pins := rfl
@[simp] theorem onDdu_cfg (f : Ddu → Ddu) (s : State) : (onDdu f s).cfg = s.cfg := rfl
@[simp] theorem onDdu_lnk (f : Ddu → Ddu) (s : State) : (onDdu f s).lnk = s.lnk := rfl
@[simp] theorem onDdu_seq (f : Ddu → Ddu) (s : State) : (onDdu f s).seq = s.seq := rfl
@[simp] theorem onDdu_wpc (f : Ddu → Ddu) (s : State) : (onDdu f s).wpc = s.wpc := rfl
@[simp] theorem onDdu_sfu (f : Ddu → Ddu) (s : State) : (onDdu f s).sfu = s.sfu := rfl
@[simp] theorem onDdu_rge (f : Ddu → Ddu) (s : State) : (onDdu f s).rge = s.rge := rfl
@[simp] theorem onDdu_dsu (f : Ddu → Ddu) (s : State) : (onDdu f s).dsu = s.dsu := rfl
@[simp] theorem onDdu_htc (f : Ddu → Ddu) (s : State) : (onDdu f s).htc = s.htc := rfl
@[simp] theorem onDdu_czs (f : Ddu → Ddu) (s : State) : (onDdu f s).czs = s.czs := rfl
@[simp] theorem onDdu_ddu (f : Ddu → Ddu) (s : State) : (onDdu f s).ddu = f s.ddu := rfl
@[simp] theorem onDdu_rst (f : Ddu → Ddu) (s : State) : (onDdu f s).rst = s.rst := rfl
@[simp] theorem onDdu_ties (f : Ddu → Ddu) (s : State) : (onDdu f s).ties = s.ties := rfl
@[simp] theorem onDdu_reports (f : Ddu → Ddu) (s : State) : (onDdu f s).reports = s.reports := rfl
@[simp] theorem onDdu_pending (f : Ddu → Ddu) (s : State) : (onDdu f s).pending = s.pending := rfl

/-! ## onRst -/

@[simp] theorem onRst_part (f : Rst → Rst) (s : State) : (onRst f s).part = s.part := rfl
@[simp] theorem onRst_pins (f : Rst → Rst) (s : State) : (onRst f s).pins = s.pins := rfl
@[simp] theorem onRst_cfg (f : Rst → Rst) (s : State) : (onRst f s).cfg = s.cfg := rfl
@[simp] theorem onRst_lnk (f : Rst → Rst) (s : State) : (onRst f s).lnk = s.lnk := rfl
@[simp] theorem onRst_seq (f : Rst → Rst) (s : State) : (onRst f s).seq = s.seq := rfl
@[simp] theorem onRst_wpc (f : Rst → Rst) (s : State) : (onRst f s).wpc = s.wpc := rfl
@[simp] theorem onRst_sfu (f : Rst → Rst) (s : State) : (onRst f s).sfu = s.sfu := rfl
@[simp] theorem onRst_rge (f : Rst → Rst) (s : State) : (onRst f s).rge = s.rge := rfl
@[simp] theorem onRst_dsu (f : Rst → Rst) (s : State) : (onRst f s).dsu = s.dsu := rfl
@[simp] theorem onRst_htc (f : Rst → Rst) (s : State) : (onRst f s).htc = s.htc := rfl
@[simp] theorem onRst_czs (f : Rst → Rst) (s : State) : (onRst f s).czs = s.czs := rfl
@[simp] theorem onRst_ddu (f : Rst → Rst) (s : State) : (onRst f s).ddu = s.ddu := rfl
@[simp] theorem onRst_rst (f : Rst → Rst) (s : State) : (onRst f s).rst = f s.rst := rfl
@[simp] theorem onRst_ties (f : Rst → Rst) (s : State) : (onRst f s).ties = s.ties := rfl
@[simp] theorem onRst_reports (f : Rst → Rst) (s : State) : (onRst f s).reports = s.reports := rfl
@[simp] theorem onRst_pending (f : Rst → Rst) (s : State) : (onRst f s).pending = s.pending := rfl

/-! ## onTies -/

@[simp] theorem onTies_part (f : Ties → Ties) (s : State) : (onTies f s).part = s.part := rfl
@[simp] theorem onTies_pins (f : Ties → Ties) (s : State) : (onTies f s).pins = s.pins := rfl
@[simp] theorem onTies_cfg (f : Ties → Ties) (s : State) : (onTies f s).cfg = s.cfg := rfl
@[simp] theorem onTies_lnk (f : Ties → Ties) (s : State) : (onTies f s).lnk = s.lnk := rfl
@[simp] theorem onTies_seq (f : Ties → Ties) (s : State) : (onTies f s).seq = s.seq := rfl
@[simp] theorem onTies_wpc (f : Ties → Ties) (s : State) : (onTies f s).wpc = s.wpc := rfl
@[simp] theorem onTies_sfu (f : Ties → Ties) (s : State) : (onTies f s).sfu = s.sfu := rfl
@[simp] theorem onTies_rge (f : Ties → Ties) (s : State) : (onTies f s).rge = s.rge := rfl
@[simp] theorem onTies_dsu (f : Ties → Ties) (s : State) : (onTies f s).dsu = s.dsu := rfl
@[simp] theorem onTies_htc (f : Ties → Ties) (s : State) : (onTies f s).htc = s.htc := rfl
@[simp] theorem onTies_czs (f : Ties → Ties) (s : State) : (onTies f s).czs = s.czs := rfl
@[simp] theorem onTies_ddu (f : Ties → Ties) (s : State) : (onTies f s).ddu = s.ddu := rfl
@[simp] theorem onTies_rst (f : Ties → Ties) (s : State) : (onTies f s).rst = s.rst := rfl
@[simp] theorem onTies_ties (f : Ties → Ties) (s : State) : (onTies f s).ties = f s.ties := rfl
@[simp] theorem onTies_reports (f : Ties → Ties) (s : State) : (onTies f s).reports = s.reports := rfl
@[simp] theorem onTies_pending (f : Ties → Ties) (s : State) : (onTies f s).pending = s.pending := rfl

/-! ## onReports -/

@[simp] theorem onReports_part (f : List Report → List Report) (s : State) : (onReports f s).part = s.part := rfl
@[simp] theorem onReports_pins (f : List Report → List Report) (s : State) : (onReports f s).pins = s.pins := rfl
@[simp] theorem onReports_cfg (f : List Report → List Report) (s : State) : (onReports f s).cfg = s.cfg := rfl
@[simp] theorem onReports_lnk (f : List Report → List Report) (s : State) : (onReports f s).lnk = s.lnk := rfl
@[simp] theorem onReports_seq (f : List Report → List Report) (s : State) : (onReports f s).seq = s.seq := rfl
@[simp] theorem onReports_wpc (f : List Report → List Report) (s : State) : (onReports f s).wpc = s.wpc := rfl
@[simp] theorem onReports_sfu (f : List Report → List Report) (s : State) : (onReports f s).sfu = s.sfu := rfl
@[simp] theorem onReports_rge (f : List Report → List Report) (s : State) : (onReports f s).rge = s.rge := rfl
@[simp] theorem onReports_dsu (f : List Report → List Report) (s : State) : (onReports f s).dsu = s.dsu := rfl
@[simp] theorem onReports_htc (f : List Report → List Report) (s : State) : (onReports f s).htc = s.htc := rfl
@[simp] theorem onReports_czs (f : List Report → List Report) (s : State) : (onReports f s).czs = s.czs := rfl
@[simp] theorem onReports_ddu (f : List Report → List Report) (s : State) : (onReports f s).ddu = s.ddu := rfl
@[simp] theorem onReports_rst (f : List Report → List Report) (s : State) : (onReports f s).rst = s.rst := rfl
@[simp] theorem onReports_ties (f : List Report → List Report) (s : State) : (onReports f s).ties = s.ties := rfl
@[simp] theorem onReports_reports (f : List Report → List Report) (s : State) : (onReports f s).reports = f s.reports := rfl
@[simp] theorem onReports_pending (f : List Report → List Report) (s : State) : (onReports f s).pending = s.pending := rfl

end Sys2Proof.Laws
end

