-- ==== Sys2Proof/Laws/Standing.lean ====
section
/-! SUPPORT. What the shared operations and the settling of a step leave as it stands: one lemma for each operation. -/

namespace Sys2Proof.Laws

open Sys2Proof.Machine
open Sys2Proof.Safety

/-! ## Updates of one block -/

@[simp] theorem standing_onPart {f : Part → Part} {s : State} (h1 : (f s.part).powered = s.part.powered)
    (h2 : (f s.part).pfw = s.part.pfw) (h3 : (f s.part).startedFrom = s.part.startedFrom)
    (h4 : (f s.part).abrupt = s.part.abrupt) : standing (onPart f s) = standing s := by
  simp [standing, h1, h2, h3, h4]

@[simp] theorem standing_onSeq {f : Seq → Seq} {s : State} (h1 : (f s.seq).table = s.seq.table)
    (h2 : (f s.seq).count = s.seq.count) : standing (onSeq f s) = standing s := by simp [standing, h1, h2]

@[simp] theorem standing_onWpc {f : Wpc → Wpc} {s : State} (h1 : (f s.wpc).sumpEmpty = s.wpc.sumpEmpty)
    (h2 : (f s.wpc).heaterCover = s.wpc.heaterCover) (h3 : (f s.wpc).highLevel = s.wpc.highLevel)
    (h4 : (f s.wpc).flood = s.wpc.flood) (h5 : (f s.wpc).floodReq = s.wpc.floodReq)
    (h6 : (f s.wpc).inhibit = s.wpc.inhibit) : standing (onWpc f s) = standing s := by
  simp [standing, h1, h2, h3, h4, h5, h6]

@[simp] theorem standing_onSfu {f : Sfu → Sfu} {s : State} (h1 : (f s.sfu).retired = s.sfu.retired)
    (h2 : (f s.sfu).valveFault = s.sfu.valveFault) : standing (onSfu f s) = standing s := by simp [standing, h1, h2]

@[simp] theorem standing_onRge {f : Rge → Rge} {s : State} (h1 : (f s.rge).lidOpen = s.rge.lidOpen)
    (h2 : (f s.rge).saltLow = s.rge.saltLow) : standing (onRge f s) = standing s := by simp [standing, h1, h2]

/-- A change of the dosing unit that leaves the reservoirs, the switch readings and the selector. -/
@[simp] theorem standing_onDsu {f : Dsu → Dsu} {s : State} (h1 : (f s.dsu).r1 = s.dsu.r1) (h2 : (f s.dsu).r2 = s.dsu.r2)
    (h3 : (f s.dsu).r3 = s.dsu.r3) (h4 : (f s.dsu).lowSw = s.dsu.lowSw) (h5 : (f s.dsu).capSw = s.dsu.capSw)
    (h6 : (f s.dsu).selector = s.dsu.selector) : standing (onDsu f s) = standing s := by
  simp [standing, h1, h2, h3, h4, h5, h6]

@[simp] theorem standing_onHtc {f : Htc → Htc} {s : State} (h1 : (f s.htc).valid = s.htc.valid)
    (h2 : (f s.htc).faultKind = s.htc.faultKind) (h3 : (f s.htc).lastValid = s.htc.lastValid)
    (h4 : (f s.htc).half = s.htc.half) (h5 : (f s.htc).lockout = s.htc.lockout) :
    standing (onHtc f s) = standing s := by simp [standing, h1, h2, h3, h4, h5]

@[simp] theorem standing_onTies (f : Ties → Ties) (s : State) : standing (onTies f s) = standing s := rfl
@[simp] theorem standing_onCzs {f : Czs → Czs} {s : State} (h : (f s.czs).reading = s.czs.reading) :
    standing (onCzs f s) = standing s := by simp [standing, h]

@[simp] theorem standing_onDdu {f : Ddu → Ddu} {s : State} (h1 : (f s.ddu).doorOpen = s.ddu.doorOpen)
    (h2 : (f s.ddu).fitted = s.ddu.fitted) : standing (onDdu f s) = standing s := by simp [standing, h1, h2]

@[simp] theorem standing_onRst {f : Rst → Rst} {s : State} (h1 : (f s.rst).config = s.rst.config)
    (h2 : (f s.rst).faults = s.rst.faults) (h3 : (f s.rst).columns = s.rst.columns)
    (h4 : (f s.rst).reservoirs = s.rst.reservoirs) : standing (onRst f s) = standing s := by
  simp [standing, h1, h2, h3, h4]

@[simp] theorem standing_onReports (f : List Report → List Report) (s : State) :
    standing (onReports f s) = standing s := rfl

/-- A change of the link that leaves all but the transmit line, the timer, the notices and the latest fault. -/
@[simp] theorem standing_onLnk {f : Lnk → Lnk} {s : State} (h1 : (f s.lnk).state = s.lnk.state)
    (h2 : (f s.lnk).errors = s.lnk.errors) (h3 : (f s.lnk).lostCause = s.lnk.lostCause)
    (h4 : (f s.lnk).lostStamp = s.lnk.lostStamp) (h5 : (f s.lnk).mask = s.lnk.mask)
    (h6 : (f s.lnk).stamp = s.lnk.stamp) (h7 : (f s.lnk).assembling = s.lnk.assembling)
    (h8 : (f s.lnk).assembly = s.lnk.assembly) (h9 : (f s.lnk).awaiting = s.lnk.awaiting)
    (h10 : (f s.lnk).busy = s.lnk.busy) : standing (onLnk f s) = standing s := by
  simp [standing, h1, h2, h3, h4, h5, h6, h7, h8, h9, h10]


/-! ## Plain updates -/

@[simp] theorem engineIdle_lidOpen (e : Rge) : (engineIdle e).lidOpen = e.lidOpen := rfl
@[simp] theorem engineIdle_saltLow (e : Rge) : (engineIdle e).saltLow = e.saltLow := rfl
@[simp] theorem engineReset_lidOpen (e : Rge) : (engineReset e).lidOpen = e.lidOpen := rfl
@[simp] theorem engineReset_saltLow (e : Rge) : (engineReset e).saltLow = e.saltLow := rfl
@[simp] theorem addDose_table (ch : Channel) (v : Nat) (q : Seq) : (addDose ch v q).table = q.table := by cases ch <;> rfl
@[simp] theorem addDose_count (ch : Channel) (v : Nat) (q : Seq) : (addDose ch v q).count = q.count := by cases ch <;> rfl

/-! ## Operations of Machine/Ops.lean -/

@[simp] theorem standing_raiseNotice (c : Content) (s : State) : standing (raiseNotice c s) = standing s := by
  simp [raiseNotice, apply_ite standing]

@[simp] theorem standing_askWrite (id : RecordId) (s : State) : standing (askWrite id s) = standing s := by
  show standing (onRst _ s) = _
  apply standing_onRst <;> (unfold askRecord; split <;> rfl)

@[simp] theorem standing_askAllWrites (s : State) : standing (askAllWrites s) = standing s := by simp [askAllWrites]

@[simp] theorem standing_beginWrite (s : State) : standing (beginWrite s) = standing s := by
  simp only [beginWrite]; split <;> simp

@[simp] theorem standing_enterFault (e : FaultEntry) (s : State) : standing (enterFault e s) = standing s := by
  simp [enterFault]

@[simp] theorem standing_raiseFault (code : FaultCode) (d1 d2 : Detail) (s : State) :
    standing (raiseFault code d1 d2 s) = standing s := by
  simp [raiseFault]

@[simp] theorem standing_report (r : Report) (s : State) : standing (report r s) = standing s := by simp [report]

@[simp] theorem standing_beginTransmit (s : State) : standing (beginTransmit s) = standing s := by
  simp only [beginTransmit]; repeat' split
  all_goals simp

@[simp] theorem standing_finish (s : State) : standing (finish s) = standing s := by simp [finish]

/-! ## The softener -/

@[simp] theorem standing_commandValve (target : ValvePos) (s : State) :
    standing (commandValve target s) = standing s := by
  simp [commandValve]

@[simp] theorem standing_setDuty (s : State) : standing (setDuty s) = standing s := by simp [setDuty]

@[simp] theorem setColumnRec_retired (f : Sfu) (col : Column) (r : ColRec) :
    (setColumnRec f col r).retired = f.retired := by cases col <;> rfl

@[simp] theorem setColumnRec_valveFault (f : Sfu) (col : Column) (r : ColRec) :
    (setColumnRec f col r).valveFault = f.valveFault := by cases col <;> rfl

theorem joinPlace_retired {reason : SwitchReason} (h : reason ≠ .retire) (out : Option Column) (f : Sfu) :
    (joinPlace reason out f).retired = f.retired := by
  cases out <;> cases reason <;> first | rfl | exact absurd rfl h

@[simp] theorem joinPlace_valveFault (reason : SwitchReason) (out : Option Column) (f : Sfu) :
    (joinPlace reason out f).valveFault = f.valveFault := by
  cases out <;> cases reason <;> rfl

@[simp] theorem standing_switchService {reason : SwitchReason} (h : reason ≠ .retire) (s : State) :
    standing (switchService reason s) = standing s := by
  simp [switchService, apply_ite standing, joinPlace_retired h]

@[simp] theorem standing_readyTest (s : State) : standing (readyTest s) = standing s := by
  simp [readyTest, apply_ite standing]

@[simp] theorem standing_releaseRule (s : State) : standing (releaseRule s) = standing s := by
  simp only [releaseRule]; repeat' split
  all_goals simp

@[simp] theorem standing_admitColumn (col : Column) (s : State) : standing (admitColumn col s) = standing s := by
  simp only [admitColumn]; split <;> simp

@[simp] theorem standing_closeFill (s : State) : standing (closeFill s) = standing s := by
  simp [closeFill, apply_ite standing]

@[simp] theorem standing_openFill (s : State) : standing (openFill s) = standing s := by simp [openFill]

@[simp] theorem standing_endTopUp (s : State) : standing (endTopUp s) = standing s := by simp [endTopUp]

/-! ## The water path and the engine -/

@[simp] theorem standing_beginGrant (h : Holder) (s : State) : standing (beginGrant h s) = standing s := by
  simp [beginGrant]

@[simp] theorem standing_closeInlet (s : State) : standing (closeInlet s) = standing s := by simp [closeInlet]

@[simp] theorem standing_startBurst (s : State) : standing (startBurst s) = standing s := by
  simp only [startBurst]; split <;> simp

@[simp] theorem standing_endFill (reason : FillEnd) (s : State) : standing (endFill reason s) = standing s := by
  simp only [endFill]; repeat' split
  all_goals simp

@[simp] theorem standing_grantFill (r : FillReq) (s : State) : standing (grantFill r s) = standing s := by
  simp only [grantFill]; split <;> simp

@[simp] theorem standing_revokeRegen (s : State) : standing (revokeRegen s) = standing s := by
  simp only [revokeRegen]; split <;> simp

@[simp] theorem standing_withdrawFill (s : State) : standing (withdrawFill s) = standing s := by
  simp only [withdrawFill]; repeat' split
  all_goals simp

@[simp] theorem standing_offerFill (r : FillReq) (s : State) : standing (offerFill r s) = standing s := by
  simp [offerFill, apply_ite standing]

@[simp] theorem standing_placeFill (target : Nat) (kind : FillKind) (s : State) :
    standing (placeFill target kind s) = standing s := by
  simp [placeFill]

@[simp] theorem standing_grantDeferred (s : State) : standing (grantDeferred s) = standing s := by
  simp only [grantDeferred]; repeat' split
  all_goals simp

@[simp] theorem standing_placeDrain (s : State) : standing (placeDrain s) = standing s := by simp [placeDrain]

@[simp] theorem standing_dropDrain (s : State) : standing (dropDrain s) = standing s := by simp [dropDrain]

@[simp] theorem standing_withdrawRegen (s : State) : standing (withdrawRegen s) = standing s := by
  simp only [withdrawRegen]; repeat' split
  all_goals simp

@[simp] theorem standing_withdrawBurst (s : State) : standing (withdrawBurst s) = standing s := by
  simp [withdrawBurst]

@[simp] theorem standing_placeRegen (k : RegenKind) (s : State) : standing (placeRegen k s) = standing s := by
  simp [placeRegen]

@[simp] theorem standing_markSaltLow (s : State) : standing (markSaltLow s) = standing s := by
  simp only [markSaltLow]; repeat' split
  all_goals simp

@[simp] theorem standing_grantRegen (s : State) : standing (grantRegen s) = standing s := by
  simp only [grantRegen]; repeat' split
  all_goals simp

@[simp] theorem standing_takeColumn (col : Column) (s : State) : standing (takeColumn col s) = standing s := by
  simp only [takeColumn]; split <;> simp

@[simp] theorem standing_handOver (s : State) : standing (handOver s) = standing s := by
  simp only [handOver]; repeat' split
  all_goals simp

@[simp] theorem standing_regenDone (col : Column) (o : RegenOutcome) (p : ColPlace) (s : State) :
    standing (regenDone col o p s) = standing s := by
  simp [regenDone]

@[simp] theorem standing_enterResult (col : Column) (s : State) : standing (enterResult col s) = standing s := by
  simp [enterResult]

@[simp] theorem standing_joinFaulted (col : Column) (s : State) : standing (joinFaulted col s) = standing s := by
  simp [joinFaulted]

@[simp] theorem standing_finishRegen (s : State) : standing (finishRegen s) = standing s := by
  unfold finishRegen; split
  · rfl
  · simp only [standing_readyTest, standing_report, standing_askWrite]
    rw [standing_onRge rfl rfl]; split <;> simp

@[simp] theorem standing_refreshPump (s : State) : standing (refreshPump s) = standing s := by
  simp only [refreshPump]; rw [standing_onSeq rfl rfl, standing_onWpc rfl rfl rfl rfl rfl rfl]

@[simp] theorem standing_effluentMeetsDrain (s : State) : standing (effluentMeetsDrain s) = standing s := by
  simp [effluentMeetsDrain, apply_ite standing]

@[simp] theorem standing_revokeUnlessFlows (s : State) : standing (revokeUnlessFlows s) = standing s := by
  simp [revokeUnlessFlows, apply_ite standing]

@[simp] theorem standing_waterSettle (s : State) : standing (waterSettle s) = standing s := by simp [waterSettle]

/-! ## Dosing -/

@[simp] theorem standing_setEmpty (ch : Channel) (e : Bool) (s : State) :
    standing (setEmpty ch e s) = standing s := by
  unfold setEmpty; split
  · rfl
  · cases ch <;> simp <;> rfl

@[simp] theorem standing_joinQueue (ch : Channel) (o : Origin) (v t : Nat) (s : State) :
    standing (joinQueue ch o v t s) = standing s := by
  simp [joinQueue, apply_ite standing]

@[simp] theorem standing_placeDose (p : Nat) (ch : Channel) (v : Nat) (s : State) :
    standing (placeDose p ch v s) = standing s := by
  simp [placeDose, apply_ite standing]

@[simp] theorem standing_formBatch (s : State) : standing (formBatch s) = standing s := by simp [formBatch]

@[simp] theorem standing_reportDose (r : DoseReq) (o : DoseOutcome) (w : Option DoseReason) (s : State) :
    standing (reportDose r o w s) = standing s := by
  simp only [reportDose]; repeat' split
  all_goals simp

@[simp] theorem standing_endHead (r : DoseReq) (o : DoseOutcome) (w : Option DoseReason) (s : State) :
    standing (endHead r o w s) = standing s := by
  simp [endHead]

@[simp] theorem standing_putHead (r : DoseReq) (s : State) : standing (putHead r s) = standing s := by simp [putHead]

@[simp] theorem standing_homeSelector (s : State) : standing (homeSelector s) = standing s := by simp [homeSelector]

@[simp] theorem standing_moveSelector (ch : Channel) (s : State) : standing (moveSelector ch s) = standing s := by
  simp [moveSelector]

@[simp] theorem standing_serve (n : Nat) (s : State) : standing (serve n s) = standing s := by
  induction n generalizing s with
  | zero => rfl
  | succ n ih => unfold serve; try dsimp only
                 repeat' split
                 all_goals simp [ih]

@[simp] theorem standing_serveOn (s : State) : standing (serveOn s) = standing s := by simp [serveOn]

@[simp] theorem standing_pauseDosing (s : State) : standing (pauseDosing s) = standing s := by
  simp [pauseDosing, apply_ite standing]

@[simp] theorem standing_resumeDosing (s : State) : standing (resumeDosing s) = standing s := by
  simp [resumeDosing, apply_ite standing]

@[simp] theorem standing_foldl_reportDose (o : DoseOutcome) (w : Option DoseReason) (l : List DoseReq) (s : State) :
    standing (l.foldl (fun s r => reportDose r o w s) s) = standing s := by
  induction l generalizing s with
  | nil => rfl
  | cons r l ih => simp [ih]

@[simp] theorem standing_cancelFound (which : DoseReq → Bool) (s : State) :
    standing (cancelFound which s) = standing s := by
  simp only [cancelFound, apply_ite standing]; simp

@[simp] theorem standing_cancelWhere (which : DoseReq → Bool) (s : State) :
    standing (cancelWhere which s) = standing s := by
  simp [cancelWhere, apply_ite standing]

@[simp] theorem standing_cancelSequencerDoses (s : State) : standing (cancelSequencerDoses s) = standing s := by
  simp [cancelSequencerDoses]

/-! ## Drying -/

@[simp] theorem standing_enterStage (st : DryStage) (time : Nat) (s : State) :
    standing (enterStage st time s) = standing s := by
  simp [enterStage]

@[simp] theorem standing_reachDone (s : State) : standing (reachDone s) = standing s := by
  simp [reachDone, apply_ite standing]

@[simp] theorem standing_doneWith (o : DryOutcome) (s : State) : standing (doneWith o s) = standing s := by
  simp [doneWith]

@[simp] theorem standing_driveOutward (s : State) : standing (driveOutward s) = standing s := by simp [driveOutward]

@[simp] theorem standing_stopDrive (s : State) : standing (stopDrive s) = standing s := by simp [stopDrive]

@[simp] theorem standing_enterOpening (s : State) : standing (enterOpening s) = standing s := by simp [enterOpening]

@[simp] theorem standing_enterWaitCool (s : State) : standing (enterWaitCool s) = standing s := by
  simp [enterWaitCool, apply_ite standing]

@[simp] theorem standing_dwellEnds (s : State) : standing (dwellEnds s) = standing s := by
  simp [dwellEnds, apply_ite standing]

@[simp] theorem standing_enterDwell (s : State) : standing (enterDwell s) = standing s := by
  simp [enterDwell, apply_ite standing]

@[simp] theorem standing_takeStart (p : DryStart) (s : State) : standing (takeStart p s) = standing s := by
  simp only [takeStart]; split <;> simp

@[simp] theorem standing_enterDone (s : State) : standing (enterDone s) = standing s := by
  simp only [enterDone]; split
  · exact standing_reachDone s
  · split
    · simp only [standing_report]
      rw [standing_onDdu rfl rfl, standing_onDdu rfl rfl, standing_reachDone]
    · rw [standing_takeStart, standing_onDdu rfl rfl, standing_reachDone]

@[simp] theorem standing_actuatorHomed (s : State) : standing (actuatorHomed s) = standing s := by
  simp [actuatorHomed]

@[simp] theorem standing_homeArrived (s : State) : standing (homeArrived s) = standing s := by
  simp [homeArrived, apply_ite standing]

@[simp] theorem standing_driveInward (s : State) : standing (driveInward s) = standing s := by
  simp [driveInward, apply_ite standing]

@[simp] theorem standing_retract (s : State) : standing (retract s) = standing s := by simp [retract]

@[simp] theorem standing_endDrying (s : State) : standing (endDrying s) = standing s := by
  simp only [endDrying]; repeat' split
  all_goals simp

@[simp] theorem standing_startDrying (p : DryStart) (s : State) : standing (startDrying p s) = standing s := by
  simp [startDrying, apply_ite standing]

/-! ## Circulation -/

@[simp] theorem standing_homeDiverter (s : State) : standing (homeDiverter s) = standing s := by simp [homeDiverter]

@[simp] theorem standing_commandDiverter (z : Zone) (s : State) : standing (commandDiverter z s) = standing s := by
  simp only [commandDiverter]; split <;> simp

@[simp] theorem standing_beginSlot (z : Zone) (s : State) : standing (beginSlot z s) = standing s := by
  simp only [beginSlot]; split <;> simp

@[simp] theorem standing_circulationPhaseEntry (s : State) : standing (circulationPhaseEntry s) = standing s := by
  simp [circulationPhaseEntry]

@[simp] theorem standing_startPump (s : State) : standing (startPump s) = standing s := by simp [startPump]

@[simp] theorem standing_startSchedule (w : PerZone Nat) (l : Nat) (s : State) :
    standing (startSchedule w l s) = standing s := by
  simp only [startSchedule]; repeat' split
  all_goals first | rfl | simp

@[simp] theorem standing_nextSlot (s : State) : standing (nextSlot s) = standing s := by
  simp only [nextSlot]; repeat' split
  all_goals first | rfl | simp

@[simp] theorem standing_resumeSlot (s : State) : standing (resumeSlot s) = standing s := by
  simp [resumeSlot, apply_ite standing]

@[simp] theorem standing_runCirculation (w : WashRecord) (s : State) :
    standing (runCirculation w s) = standing s := by
  simp [runCirculation, apply_ite standing]

@[simp] theorem standing_stopCirculation (s : State) : standing (stopCirculation s) = standing s := by
  simp [stopCirculation, apply_ite standing]

@[simp] theorem standing_abruptCirculation (s : State) : standing (abruptCirculation s) = standing s := by
  simp only [abruptCirculation]; split <;> simp

@[simp] theorem standing_refreshArms (s : State) : standing (refreshArms s) = standing s := by simp [refreshArms]

/-! ## Heating -/

@[simp] theorem standing_toRegulating (s : State) : standing (toRegulating s) = standing s := by simp [toRegulating]

@[simp] theorem standing_heatExpires (t : Nat) (s : State) : standing (heatExpires t s) = standing s := by
  simp [heatExpires]

@[simp] theorem standing_reachTarget (s : State) : standing (reachTarget s) = standing s := by simp [reachTarget]

@[simp] theorem standing_placeRegulating (t : Nat) (s : State) : standing (placeRegulating t s) = standing s := by
  simp [placeRegulating]

@[simp] theorem standing_placeHeating (t l : Nat) (s : State) : standing (placeHeating t l s) = standing s := by
  simp [placeHeating, apply_ite standing]

@[simp] theorem standing_withdrawHeat (s : State) : standing (withdrawHeat s) = standing s := by
  simp only [withdrawHeat]; split
  · rfl
  · rw [standing_onSeq rfl rfl, standing_onHtc rfl rfl rfl rfl rfl]

@[simp] theorem standing_heatingPhaseEntry (s : State) : standing (heatingPhaseEntry s) = standing s := by
  simp [heatingPhaseEntry]

@[simp] theorem standing_refreshHeater (s : State) : standing (refreshHeater s) = standing s := by
  simp [refreshHeater]

/-! ## The sequencer -/

@[simp] theorem standing_seqTo (st : SeqState) (sub : SubStage) (s : State) :
    standing (seqTo st sub s) = standing s := by
  simp [seqTo]

@[simp] theorem standing_setOutcome (o : Outcome) (s : State) : standing (setOutcome o s) = standing s := by
  simp [setOutcome]

@[simp] theorem standing_programEnd (s : State) : standing (programEnd s) = standing s := by simp [programEnd]

@[simp] theorem standing_beginFill (w : WashRecord) (s : State) : standing (beginFill w s) = standing s := by
  simp [beginFill]

@[simp] theorem standing_continueFill (w : WashRecord) (s : State) : standing (continueFill w s) = standing s := by
  simp [continueFill]

@[simp] theorem standing_enterPhase (s : State) : standing (enterPhase s) = standing s := by
  simp only [enterPhase]; split
  · rfl
  · have base (q : Seq → Seq) (h1 : (q s.seq).table = s.seq.table) (h2 : (q s.seq).count = s.seq.count) (c : Content) :
        standing (circulationPhaseEntry (heatingPhaseEntry (raiseNotice c (onSeq q s)))) = standing s := by
      rw [standing_circulationPhaseEntry, standing_heatingPhaseEntry, standing_raiseNotice, standing_onSeq h1 h2]
    split
    · rw [standing_startDrying, standing_seqTo]; exact base _ rfl rfl _
    · split
      · rw [standing_onSeq rfl rfl, standing_seqTo]; exact base _ rfl rfl _
      · rw [standing_beginFill, standing_seqTo]; exact base _ rfl rfl _

@[simp] theorem standing_enterNext (s : State) : standing (enterNext s) = standing s := by simp [enterNext]

@[simp] theorem standing_completeProgram (s : State) : standing (completeProgram s) = standing s := by
  simp [completeProgram]

@[simp] theorem standing_holdAtBoundary (s : State) : standing (holdAtBoundary s) = standing s := by
  simp [holdAtBoundary]

@[simp] theorem standing_endPhase (s : State) : standing (endPhase s) = standing s := by
  simp only [endPhase]; repeat' split
  all_goals simp

@[simp] theorem standing_enterDrain (s : State) : standing (enterDrain s) = standing s := by simp [enterDrain]

@[simp] theorem standing_endDrain (s : State) : standing (endDrain s) = standing s := by simp [endDrain]

@[simp] theorem standing_drainNaturalEnd (s : State) : standing (drainNaturalEnd s) = standing s := by
  simp [drainNaturalEnd, apply_ite standing]

@[simp] theorem standing_endCirculate (w : WashRecord) (s : State) : standing (endCirculate w s) = standing s := by
  simp [endCirculate, apply_ite standing]

@[simp] theorem standing_enterCirculate (w : WashRecord) (s : State) :
    standing (enterCirculate w s) = standing s := by
  simp [enterCirculate, apply_ite standing]

@[simp] theorem standing_enterHeat (w : WashRecord) (s : State) : standing (enterHeat w s) = standing s := by
  simp [enterHeat, apply_ite standing]

@[simp] theorem standing_placeRef (w : WashRecord) (s : State) (r : DoseRef) :
    standing (placeRef w s r) = standing s := by
  unfold placeRef; split <;> simp

@[simp] theorem standing_placeDoses (w : WashRecord) (l : List DoseRef) (s : State) :
    standing (placeDoses w l s) = standing s := by
  induction l generalizing s with
  | nil => rfl
  | cons r l ih =>
    have h : placeDoses w (r :: l) s = placeDoses w l (placeRef w s r) := by simp only [placeDoses, List.foldl_cons]
    rw [h, ih, standing_placeRef]

@[simp] theorem standing_enterDose (w : WashRecord) (s : State) : standing (enterDose w s) = standing s := by
  simp [enterDose, apply_ite standing]

@[simp] theorem standing_stopProgram (s : State) : standing (stopProgram s) = standing s := by
  simp [stopProgram, apply_ite standing]

@[simp] theorem standing_enterEnding (s : State) : standing (enterEnding s) = standing s := by simp [enterEnding]

@[simp] theorem standing_enterFaulted (s : State) : standing (enterFaulted s) = standing s := by simp [enterFaulted]

@[simp] theorem standing_holdCode (c : FaultCode) (s : State) : standing (holdCode c s) = standing s := by
  simp [holdCode]

@[simp] theorem standing_programFault (c : FaultCode) (s : State) : standing (programFault c s) = standing s := by
  simp only [programFault]; repeat' split
  all_goals simp

@[simp] theorem standing_linkLostToSeq (s : State) : standing (linkLostToSeq s) = standing s := by
  simp only [linkLostToSeq]; split <;> simp

@[simp] theorem standing_suspend (s : State) : standing (suspend s) = standing s := by
  simp only [suspend]; split <;> simp

@[simp] theorem standing_doorOpenedToSeq (s : State) : standing (doorOpenedToSeq s) = standing s := by
  simp only [doorOpenedToSeq]; repeat' split
  all_goals simp

@[simp] theorem standing_doorClosedToSeq (s : State) : standing (doorClosedToSeq s) = standing s := by
  simp [doorClosedToSeq, apply_ite standing]

@[simp] theorem standing_waterSupplyFails (s : State) : standing (waterSupplyFails s) = standing s := by
  simp [waterSupplyFails]

@[simp] theorem standing_fillLimitReached (s : State) : standing (fillLimitReached s) = standing s := by
  simp only [fillLimitReached]; split
  · rw [standing_raiseNotice, standing_onSeq rfl rfl, standing_onSeq rfl rfl]
  · rw [standing_waterSupplyFails, standing_onSeq rfl rfl]

@[simp] theorem standing_fillEnded (k : FillKind) (r : FillEnd) (s : State) :
    standing (fillEnded k r s) = standing s := by
  simp only [fillEnded]; repeat' split
  all_goals simp

@[simp] theorem standing_drainEnded (s : State) : standing (drainEnded s) = standing s := by
  simp [drainEnded, apply_ite standing]

@[simp] theorem standing_doseEnded (n : Nat) (s : State) : standing (doseEnded n s) = standing s := by
  simp only [doseEnded]; repeat' split
  all_goals simp

@[simp] theorem standing_heatEnded (s : State) : standing (heatEnded s) = standing s := by
  simp only [heatEnded]; repeat' split
  all_goals simp

@[simp] theorem standing_sensorFailedToSeq (s : State) : standing (sensorFailedToSeq s) = standing s := by
  simp only [sensorFailedToSeq]; repeat' split
  all_goals simp

@[simp] theorem standing_pressureLowToSeq (s : State) : standing (pressureLowToSeq s) = standing s := by
  simp [pressureLowToSeq, apply_ite standing]

@[simp] theorem standing_dryingDone (s : State) : standing (dryingDone s) = standing s := by
  simp [dryingDone, apply_ite standing]

@[simp] theorem standing_engineLeft (s : State) : standing (engineLeft s) = standing s := by
  simp [engineLeft, apply_ite standing]

@[simp] theorem standing_fillRefusedToSeq (s : State) : standing (fillRefusedToSeq s) = standing s := by
  simp [fillRefusedToSeq, apply_ite standing]

@[simp] theorem standing_takeReport (r : Report) (s : State) : standing (takeReport r s) = standing s := by
  cases r <;> simp [takeReport]

/-! ## Settling -/

@[simp] theorem standing_takeReports (n : Nat) (s : State) : standing (takeReports n s) = standing s := by
  induction n generalizing s with
  | zero => rfl
  | succ n ih => unfold takeReports; split <;> simp [ih]

@[simp] theorem standing_reachReady (s : State) : standing (reachReady s) = standing s := by
  unfold reachReady; split
  · rw [restartSilence, standing_onLnk rfl rfl rfl rfl rfl rfl rfl rfl rfl rfl, standing_raiseNotice]; rfl
  · rfl

@[simp] theorem standing_enterShut (s : State) : standing (enterShut s) = standing s := by
  simp only [enterShut]
  rw [standing_raiseNotice, standing_onSfu rfl rfl]
  exact standing_stopCirculation s

@[simp] theorem standing_advanceShutdown (s : State) : standing (advanceShutdown s) = standing s := by
  simp [advanceShutdown, apply_ite standing]

@[simp] theorem standing_settle (s : State) : standing (settle s) = standing s := by simp [settle]

@[simp] theorem standing_conclude (s : State) : standing (conclude s) = standing s := by simp [conclude]

end Sys2Proof.Laws
end

