-- ==== Sys2Proof/Laws/Settle.lean ====
section
/-! SUPPORT. What a step does around its command: the end of a step, the settling of a part at rest, and the way of a
request from its row to its answer. One lemma for each, to be cited in place of the definitions. -/

namespace Sys2Proof.Laws

open Sys2Proof.Machine
open Sys2Proof.Safety

/-! ## The end of a step (R179, R201) -/

/-- The retained store takes up at most one write and changes nothing but what is pending and being written. -/
theorem beginWrite_eq (s : State) :
    ∃ p w, beginWrite s = { s with rst := { s.rst with pendingWrites := p, writing := w } } := by
  have same : ∃ p w, s = { s with rst := { s.rst with pendingWrites := p, writing := w } } :=
    ⟨s.rst.pendingWrites, s.rst.writing, rfl⟩
  unfold beginWrite
  split
  · exact ⟨_, _, rfl⟩
  · exact same

/-- The transmitter begins at most one frame and changes nothing but the line and the notice set. -/
theorem beginTransmit_eq (s : State) :
    ∃ f l, beginTransmit s = { s with lnk := { s.lnk with tx := f, notices := l } } := by
  have same : ∃ f l, s = { s with lnk := { s.lnk with tx := f, notices := l } } := ⟨s.lnk.tx, s.lnk.notices, rfl⟩
  unfold beginTransmit
  split
  · exact same
  · split
    · exact ⟨_, s.lnk.notices, rfl⟩
    · exact ⟨_, s.lnk.notices, rfl⟩
    · split
      · exact same
      · split
        · exact ⟨_, _, rfl⟩
        · exact same

/-- The end of a step changes nothing but the transmit line, the notice set, and what the store has taken up. -/
theorem finish_eq (s : State) :
    ∃ f l p w, finish s = { s with
      lnk := { s.lnk with tx := f, notices := l }, rst := { s.rst with pendingWrites := p, writing := w } } := by
  obtain ⟨p, w, hb⟩ := beginWrite_eq s
  obtain ⟨f, l, ht⟩ := beginTransmit_eq (beginWrite s)
  exact ⟨f, l, p, w, by unfold finish; rw [ht, hb]⟩

@[simp] theorem finish_part (s : State) : (finish s).part = s.part := by obtain ⟨f, l, p, w, h⟩ := finish_eq s; rw [h]
@[simp] theorem finish_pins (s : State) : (finish s).pins = s.pins := by obtain ⟨f, l, p, w, h⟩ := finish_eq s; rw [h]
@[simp] theorem finish_cfg (s : State) : (finish s).cfg = s.cfg := by obtain ⟨f, l, p, w, h⟩ := finish_eq s; rw [h]
@[simp] theorem finish_seq (s : State) : (finish s).seq = s.seq := by obtain ⟨f, l, p, w, h⟩ := finish_eq s; rw [h]
@[simp] theorem finish_wpc (s : State) : (finish s).wpc = s.wpc := by obtain ⟨f, l, p, w, h⟩ := finish_eq s; rw [h]
@[simp] theorem finish_sfu (s : State) : (finish s).sfu = s.sfu := by obtain ⟨f, l, p, w, h⟩ := finish_eq s; rw [h]
@[simp] theorem finish_rge (s : State) : (finish s).rge = s.rge := by obtain ⟨f, l, p, w, h⟩ := finish_eq s; rw [h]
@[simp] theorem finish_dsu (s : State) : (finish s).dsu = s.dsu := by obtain ⟨f, l, p, w, h⟩ := finish_eq s; rw [h]
@[simp] theorem finish_htc (s : State) : (finish s).htc = s.htc := by obtain ⟨f, l, p, w, h⟩ := finish_eq s; rw [h]
@[simp] theorem finish_czs (s : State) : (finish s).czs = s.czs := by obtain ⟨f, l, p, w, h⟩ := finish_eq s; rw [h]
@[simp] theorem finish_ddu (s : State) : (finish s).ddu = s.ddu := by obtain ⟨f, l, p, w, h⟩ := finish_eq s; rw [h]
@[simp] theorem finish_reports (s : State) : (finish s).reports = s.reports := by
  obtain ⟨f, l, p, w, h⟩ := finish_eq s; rw [h]
@[simp] theorem finish_pending (s : State) : (finish s).pending = s.pending := by
  obtain ⟨f, l, p, w, h⟩ := finish_eq s; rw [h]
@[simp] theorem finish_awaiting (s : State) : (finish s).lnk.awaiting = s.lnk.awaiting := by
  obtain ⟨f, l, p, w, h⟩ := finish_eq s; rw [h]
@[simp] theorem finish_linkState (s : State) : (finish s).lnk.state = s.lnk.state := by
  obtain ⟨f, l, p, w, h⟩ := finish_eq s; rw [h]
@[simp] theorem finish_errors (s : State) : (finish s).lnk.errors = s.lnk.errors := by
  obtain ⟨f, l, p, w, h⟩ := finish_eq s; rw [h]
@[simp] theorem finish_silence (s : State) : (finish s).lnk.silence = s.lnk.silence := by
  obtain ⟨f, l, p, w, h⟩ := finish_eq s; rw [h]
@[simp] theorem finish_mask (s : State) : (finish s).lnk.mask = s.lnk.mask := by
  obtain ⟨f, l, p, w, h⟩ := finish_eq s; rw [h]
@[simp] theorem finish_ties (s : State) : (finish s).ties = s.ties := by
  obtain ⟨f, l, p, w, h⟩ := finish_eq s; rw [h]
@[simp] theorem finish_history (s : State) : (finish s).rst.history = s.rst.history := by
  obtain ⟨f, l, p, w, h⟩ := finish_eq s; rw [h]

/-! ## A part whose water path rests settles to its outputs -/

/-- Pump and permit once refreshed are at their conditions' values. -/
theorem refreshPump_refreshPump (s : State) : refreshPump (refreshPump s) = refreshPump s := by
  have h : ∀ b : Bool, pumpAsked { s.wpc with drainPump := b } = pumpAsked s.wpc := fun _ => rfl
  simp only [refreshPump, onWpc, onSeq, h]
  congr 1

@[simp] theorem refreshPump_holder (s : State) : (refreshPump s).wpc.holder = s.wpc.holder := rfl
@[simp] theorem refreshPump_fill (s : State) : (refreshPump s).wpc.fill = s.wpc.fill := rfl
@[simp] theorem refreshPump_regen (s : State) : (refreshPump s).wpc.regen = s.wpc.regen := rfl
@[simp] theorem refreshPump_rge (s : State) : (refreshPump s).rge = s.rge := rfl
@[simp] theorem refreshPump_sfu (s : State) : (refreshPump s).sfu = s.sfu := rfl
@[simp] theorem refreshPump_part (s : State) : (refreshPump s).part = s.part := rfl
@[simp] theorem refreshPump_reports (s : State) : (refreshPump s).reports = s.reports := rfl

theorem takeReports_nil (n : Nat) {s : State} (h : s.reports = []) : takeReports n s = s := by
  cases n with
  | zero => cases s; simp_all [takeReports, onReports]
  | succ n => simp [takeReports, h]

theorem grantDeferred_rests {s : State} (h : ∀ q ∈ s.wpc.fill, q.held = true ∨ s.wpc.burst.isSome = true) :
    grantDeferred s = s := by
  unfold grantDeferred
  split
  · next hq => obtain hh | hb := h _ hq
               · exact absurd hh (by simp)
               · simp [Option.isNone_eq_false_iff.mpr hb]
  · rfl

/-- The conditions of R39 as the pump, once refreshed, gives them. -/
theorem regenMayFlow_refreshPump (s : State) : regenMayFlow (refreshPump s) = waterFlows s := rfl

theorem revokeUnlessFlows_rests {s : State} (h : s.wpc.holder = .brine ∨ s.wpc.holder = .rinse → waterFlows s = true) :
    revokeUnlessFlows (refreshPump s) = refreshPump s := by
  unfold revokeUnlessFlows
  rw [regenMayFlow_refreshPump]
  cases hh : s.wpc.holder <;> simp [hh] at h <;> simp [h, revokeRegen, hh]

theorem effluentMeetsDrain_rests {s : State} (h : s.rge.state = .effluentDrain → runningIn s .drain = false) :
    effluentMeetsDrain s = s := by
  unfold effluentMeetsDrain
  by_cases he : s.rge.state = .effluentDrain <;> simp [he, h]

theorem handOver_rests {s : State} (h : s.rge.state = .idle → s.sfu.regenQ = [] ∨ s.sfu.valveFault = true) :
    handOver s = s := by
  unfold handOver
  split
  · rfl
  · next hq => by_cases he : s.rge.state = .idle
               · simp [(h he).resolve_left (by simp [hq])]
               · simp [he]

theorem grantRegen_rests {s : State} (h : ∀ g ∈ s.wpc.regen, g.held = true ∨ s.wpc.fill.isSome = true
    ∨ waterFlows s = false ∨ s.wpc.burst = some .waiting ∨ s.wpc.holder ≠ .none) :
    grantRegen (refreshPump s) = refreshPump s := by
  have hg : ∀ k, s.wpc.regen = some ⟨k, false⟩ → regenGrantable (refreshPump s) = false := by
    intro k hk
    have hb : (refreshPump s).wpc.burst = s.wpc.burst := rfl
    obtain h | h | h | h | h := h _ hk
    · exact absurd h (by simp)
    · simp [regenGrantable, Option.isNone_eq_false_iff.mpr h]
    · simp [regenGrantable, regenMayFlow_refreshPump, h]
    · simp [regenGrantable, hb, h]
    · simp [regenGrantable, h]
  unfold grantRegen
  split
  · next hk => simp [hg _ hk]
  · next hk => simp [hg _ hk]
  · rfl

/-- The water path that rests settles to its pump and its permit. -/
theorem waterSettle_rests {s : State} (h : WaterRests s) : waterSettle s = refreshPump s := by
  obtain ⟨h1, -, h2, h3, h4, h5, -⟩ := h
  unfold waterSettle
  rw [grantDeferred_rests h1, effluentMeetsDrain_rests (s := refreshPump s) h5, refreshPump_refreshPump, revokeUnlessFlows_rests h2,
    refreshPump_refreshPump, handOver_rests (s := refreshPump s) h4, grantRegen_rests h3]

/-- A READY part whose water path rests settles to its outputs. -/
theorem settle_rests {s : State} (h : Rests s) : settle s = outputs s := by
  obtain ⟨⟨-, hr, he⟩, hw⟩ := h
  have e1 : reachReady (refreshPump s) = refreshPump s := by simp [reachReady, hr]
  have e2 : advanceShutdown (refreshPump s) = refreshPump s := by simp [advanceShutdown, hr]
  unfold settle outputs
  simp only []
  rw [waterSettle_rests hw, takeReports_nil 64 (by simpa using he), e1, e2, refreshPump_refreshPump,
    revokeUnlessFlows_rests hw.2.2.1]

theorem conclude_rests {s : State} (h : Rests s) : conclude s = finish (outputs s) := by rw [conclude, settle_rests h]

/-- A part at rest has a water path that rests. -/
theorem rests_of_still {s : State} (h : Still s) : Rests s := by
  obtain ⟨ha, h1, h2, h3, h4, h5⟩ := h
  exact ⟨ha, by simp [h2], by simp [h2], by simp [h1], by simp [h3], fun _ => .inl h5, by simp [h4],
    fun _ => h3, by simp [h1, holderOf, h2, h3], by simp [h3]⟩

theorem settle_still {s : State} (h : Still s) : settle s = outputs s := settle_rests (rests_of_still h)

theorem conclude_still {s : State} (h : Still s) : conclude s = finish (outputs s) := conclude_rests (rests_of_still h)

/-! ## A request's way to its answer (R177, R178, R180 to R182) -/

/-- A part that hears a request counts its frame, hands the request to its examination, keeps the answer and restarts the
silence timer. -/
theorem receiveRequest_hears {tag : Byte} {r : Request} {s : State} (h : Hears s) :
    receiveRequest tag r s
      = restartSilence (takeRequest r.kind tag (.request r) (countGood (frameEnds s))) := by
  obtain ⟨-, h2, -, h4, -, h6⟩ := h
  simp [receiveRequest, h2, goodFrame, frameEnds, hunt, onLnk, onTies, h4, h6]

/-- Without the loss of the link, counting a good frame takes the count down by 1 and lets the link state follow it. -/
theorem countGood_hears {s : State} (h : Hears s) :
    countGood s = onLnk (fun l => { l with
      errors := l.errors - 1
      state := if linkSends s then (if Config.degradedCount ≤ l.errors - 1 then .degraded else .up) else l.state }) s := by
  obtain ⟨-, -, h3, -, h5, -⟩ := h
  have hx : linkSends (onLnk (fun l => { l with errors := l.errors - 1 }) s) = linkSends s := rfl
  unfold countGood followErrors
  rw [hx]
  rcases hs : linkSends s with _ | _
  · simp [settleReports, h3, onLnk]
  · have h' : ¬ Config.lostCount ≤ s.lnk.errors - 1 := by
      have := h5 hs
      omega
    simp [settleReports, h3, onLnk, h']

end Sys2Proof.Laws
end

