-- ==== Sys2Proof/Laws/Sound.lean ====
section
/-! SUPPORT. What a sound part gives at once: its six invariants, and the facts that statements about a program's course
take from them. -/

namespace Sys2Proof.Laws

open Sys2Proof.Machine
open Sys2Proof.Safety

theorem sound_grantsAgree {s : State} (h : Sound s) : GrantsAgree s := h.1
theorem sound_waterKept {s : State} (h : Sound s) : WaterKept s := h.2.1
theorem sound_floodHeld {s : State} (h : Sound s) : FloodHeld s := h.2.2.1
theorem sound_programKept {s : State} (h : Sound s) : ProgramKept s := h.2.2.2.1
theorem sound_sequencerKept {s : State} (h : Sound s) : SequencerKept s := h.2.2.2.2.1
theorem sound_dryingKept {s : State} (h : Sound s) : DryingKept s := h.2.2.2.2.2

theorem sound_no_report {s : State} (h : Sound s) : s.reports = [] := by
  obtain ⟨-, -, -, -, -, -, -, -, -, -, -, -, -, -, hr⟩ := sound_dryingKept h
  exact hr

theorem sound_fill_none {s : State} (h : Sound s) (hs : s.seq.state ≠ .running) : s.wpc.fill = none := by
  have hf := (sound_waterKept h).1
  simpa [runningIn, hs] using hf

theorem sound_extension_none {s : State} (h : Sound s) (hs : runningIn s .drain = false) : s.seq.extension = none := by
  have he := (sound_sequencerKept h).2.2.1
  simpa [hs] using he

theorem sound_not_awaited {s : State} (h : Sound s) (hs : runningIn s .dry = false) :
    s.ddu.awaited = false ∧ s.ddu.pendingStart = none := by
  obtain ⟨-, -, -, -, -, -, -, -, -, hp, ha, -⟩ := sound_dryingKept h
  exact ⟨by simpa [hs] using ha, by simpa [hs] using hp⟩

theorem sound_homings {s : State} (h : Sound s) (hs : s.part.state ≠ .starting) : s.part.homings = {} :=
  (sound_sequencerKept h).2.2.2.2.2.2.2 hs

end Sys2Proof.Laws
end

