-- ==== Sys2Proof/Laws/Wire.lean ====
section
/-! SUPPORT. The frames that the part sends stay within the 198 payload bytes of Table 44 (R175, R188). -/

namespace Sys2Proof.Laws

open Sys2Proof.Machine

theorem detailBytes_length (d : Detail) : (detailBytes d).length = 2 := by cases d <;> rfl

theorem faultBytes_length (e : FaultEntry) : (faultBytes e).length = 10 := by
  simp [faultBytes, detailBytes_length, wordBytes]

/-- The content of a notice has at most 192 bytes (Table 55). -/
theorem contentBytes_length (c : Content) : (contentBytes c).length ≤ 192 := by
  cases c <;>
    first
    | (simp only [contentBytes, faultBytes_length]; decide)
    | (simp only [contentBytes, List.length_take, largestPayload]; omega)

theorem noticeFrame_payload (n : Notice) : (noticeFrame n).payload.length ≤ 198 := by
  have := contentBytes_length n.content
  simp [noticeFrame, wordBytes]
  omega

theorem phasePayload_length (p : PhasePayload) : p.bytes.length = 29 := by
  simp [PhasePayload.bytes, RefPayload.bytes, halfBytes]

theorem slotBytes_length (p : Option Phase) : (slotBytes p).length = 30 := by
  cases p <;> simp [slotBytes, phasePayload_length]

theorem flatMap_faultBytes_length (l : List FaultEntry) : (l.flatMap faultBytes).length = 10 * l.length := by
  induction l with
  | nil => rfl
  | cons e l ih => simp [List.flatMap_cons, faultBytes_length, ih]; omega

/-- The body of a reply has at most 197 bytes; of a fault history that holds while it has its 16 entries at most (R204). -/
theorem bodyBytes_length (b : ReplyBody) (h : ∀ l, b = .history l → l.length ≤ 16) : (bodyBytes b).length ≤ 197 := by
  cases b with
  | history l =>
    have := h l rfl
    have e := flatMap_faultBytes_length l
    simp only [bodyBytes, List.length_cons]
    omega
  | identity i => simp [bodyBytes, identityBytes, largestPayload]; omega
  | snapshot x => simp [bodyBytes, snapshotBytes, largestPayload]
  | _ => simp [bodyBytes, columnBytes, reservoirBytes, slotBytes_length, half, word, halfBytes, wordBytes, tripleBytes]

/-- Every frame on the transmit line has a payload of at most 198 bytes. -/
theorem txFrame_payload (f : TxFrame) (h : ∀ a l, f = .reply a → a.answer.body = .history l → l.length ≤ 16) :
    (txFrame f).payload.length ≤ 198 := by
  cases f with
  | reply a =>
    have := bodyBytes_length a.answer.body fun l hl => h a l rfl hl
    simp [txFrame, replyFrame]
    omega
  | busy b => simp [txFrame, busyFrame]
  | notice n => exact noticeFrame_payload n

end Sys2Proof.Laws
end

