-- ==== Sys2Proof/WellFormed.lean ====
section
/-! DEFINITION. Which commands are well formed: a line event carries bytes that its row's name describes. Every other
operand is admitted as it is, since the part itself examines it (BAD_FIELD, clamping) or limits it (R45, R130). -/

namespace Sys2Proof

/-- The bytes end a good frame, counted from the marker; the marker may have come before them (STANDBY_LINK_WAKE). -/
def endsGood (bytes : List Byte) : Bool :=
  match assemblyVerdict bytes, assemblyVerdict (frameMarker :: bytes) with
  | .good _, _ => bytes.head? == some frameMarker
  | _, .good _ => true
  | _, _ => false

/-- The bytes end a bad frame by its length or its CRC (R176). -/
def endsBad (bytes : List Byte) : Bool :=
  (assemblyVerdict bytes == .bad && bytes.head? == some frameMarker) || assemblyVerdict (frameMarker :: bytes) == .bad

/-- The bytes leave a frame in assembly (R176). -/
def leavesOpen (bytes : List Byte) : Bool :=
  (assemblyVerdict bytes == .more && bytes.head? == some frameMarker) || assemblyVerdict (frameMarker :: bytes) == .more

/-- A command is well formed. -/
def Instr.wf : Instr → Bool
  | .frameGood bytes => endsGood bytes
  | .frameBad bytes stopLow => if stopLow then leavesOpen bytes else endsBad bytes
  | .byteGapTimeout bytes => leavesOpen bytes
  | _ => true

end Sys2Proof
end

