-- ==== Sys2Proof/Tests/Slice0.lean ====
section
/-! SUPPORT. The model's own tests: ill-formed commands, words of the line, worked values of the manual, and for each
statement with hypotheses a state and operands that meet them, clause by clause, at boundary values where there are any. -/

/- One theorem at a time: a hundred kernel evaluations waiting at once cost a thread each. -/
set_option Elab.async false

namespace Sys2Proof.Tests

open Sys2Proof.Machine
open Sys2Proof.Safety

/-! ## Builders -/

/-- The state after a command. -/
def after (c : Instr) (s : State) : State :=
  match exec c s with
  | .next t => t
  | _ => s

/-- A main wash record: one detergent reference, drain and soil sample. -/
def wash : WashRecord := ⟨3000, 65, 1800, 300, ⟨2, 1, 0, 1⟩, 30, [⟨.d1, 200, 400⟩], true, true⟩

/-- A rinse record without heat, doses, drain and sample. -/
def plain : WashRecord := ⟨3000, 0, 60, 300, ⟨1, 1, 0, 0⟩, 30, [], false, false⟩

/-- A table of up to three phases. -/
def table3 (a b c : Option Phase) : Vector (Option Phase) 12 :=
  #v[a, b, c, none, none, none, none, none, none, none, none, none]

/-- A part at rest in READY: link UP, column A in service, B ready, C retired, engine IDLE. -/
def ready : State :=
  let s := freshPart Pins.quiet {} []
  { s with
    part := { s.part with state := .ready }
    lnk := { s.lnk with state := .up, silence := some 0 }
    seq := { s.seq with permit := true, table := table3 (some (.wash .main wash)) (some (.wash .rinse plain)) (some (.dry 300 1800)),
                        count := 3 }
    sfu := { s.sfu with
      colA := ⟨40109600, false, 40, false⟩, colB := ⟨80000000, false, 41, false⟩, colC := some ⟨0, true, 0, false⟩
      service := some .a, ready := [.b], regenQ := [], retired := [.c], valvePos := some (.column .a), blend := 69, hRaw := 720
      hTgt := 50 }
    dsu := { s.dsu with
      r1 := ⟨true, 30000, false, false, false⟩, r2 := ⟨true, 20000, false, false, false⟩
      r3 := ⟨true, 10000, false, false, false⟩, selector := some .d1 }
    htc := { s.htc with temp := some 20, lastValid := some 20 }
    czs := { s.czs with position := some .z1 }
    ddu := { s.ddu with homed := true } }

/-- The sequencer in a state and sub-stage of phase 0. -/
def seqIn (st : SeqState) (sub : SubStage) : State :=
  { ready with seq := { ready.seq with state := st, sub := sub, permit := false } }

/-- RUNNING in a sub-stage. -/
def inSub (sub : SubStage) : State := seqIn .running sub

/-- A FILL grant held under a kind. -/
def filling (kind : FillKind) (count : Nat) : State :=
  { inSub .fill with
    wpc := { ready.wpc with
      holder := .fill, fill := some ⟨3000, kind, true⟩, inletValve := true, fillTimer := some 0, latchedK := 480
      grantCount := count }
    sfu := { ready.sfu with fill := { isOpen := true, v := count, g := 0, hFill := 0, breakthrough := 0 } } }

/-- The engine with column B in a state; the requests and grants that belong to it. -/
def engineIn (st : RgeState) (req : Option RegenReq) (holder : Holder) (burst : Option Burst) : State :=
  { ready with
    sfu := { ready.sfu with ready := [] }
    wpc := { ready.wpc with
      regen := req, holder := holder, inletValve := holder != .none, brineValve := holder == .brine, burst := burst
      latchedK := 480, drainPump := burst.isSome }
    rge := { ready.rge with
      state := st, column := some .b, deficit := 80000000, brineTarget := 160, dwellTime := 140, dwellLeft := 140
      rinseTarget := 320 } }

def drawing : State := engineIn .brineDraw (some ⟨.brine, true⟩) .brine none
def rinsing : State := engineIn .rinse (some ⟨.rinse, true⟩) .rinse none
def dwelling : State := engineIn .dwell none .none none
def effluent : State :=
  { engineIn .effluentDrain none .none (some (.running 0)) with
    rge := { (engineIn .effluentDrain none .none (some (.running 0))).rge with result := some ⟨80000000, false⟩ } }

/-- The link in a state with an error count. -/
def linked (st : LinkState) (errors : Nat) (s : State) : State := { s with lnk := { s.lnk with state := st, errors := errors } }

/-- The part in a state. -/
def partIn (st : PartState) (s : State) : State := { s with part := { s.part with state := st } }

/-! ## Ill-formed commands -/

theorem test_wf_good : (Instr.frameGood (Request.frame .hold 7#8).wire).wf = true := by decide +kernel
theorem test_wf_good_cut : (Instr.frameGood ((Request.frame .hold 7#8).wire.take 5)).wf = false := by decide +kernel
theorem test_wf_bad_is_good : (Instr.frameBad (Request.frame .hold 7#8).wire false).wf = false := by decide +kernel
theorem test_wf_bad_length : (Instr.frameBad [0xA5#8, 1#8] false).wf = true := by decide +kernel
theorem test_wf_stop_bit : (Instr.frameBad [0xA5#8, 5#8, 1#8] true).wf = true := by decide +kernel
theorem test_wf_stop_bit_none : (Instr.frameBad [1#8] true).wf = false := by decide +kernel
theorem test_wf_gap_none : (Instr.byteGapTimeout [1#8]).wf = false := by decide +kernel

/-! ## The line -/

/-- The check value of the CRC that R175 names, of the nine digits. -/
theorem test_crc : crc16 [0x31#8, 0x32#8, 0x33#8, 0x34#8, 0x35#8, 0x36#8, 0x37#8, 0x38#8, 0x39#8] = 0x29B1#16 := by
  decide +kernel

/-- A SET CONFIG frame written out from Table 44 and Table 46: id 4, value 100. -/
theorem test_set_config_bytes : ((Request.setConfig 4#8 100#32).frame 9#8).body =
    [7#8, 0x04#8, 9#8, 4#8, 0#8, 0#8, 0#8, 100#8] := by decide +kernel

/-- No row has bits: no word spells a command. -/
theorem test_decode_none : decodeTableWord 8 1 = none := rfl

/-! ## Worked values (11_worked_sequences.md) -/

/-- b = floor(1000 × 50 / 720) = 69. -/
theorem test_blend : blendOf 720 50 = 69 := by decide +kernel

/-- h_fill = 276 at the close of the MAIN fill. -/
theorem test_h_fill : deliveredHardness 1239765120 4500 720 = 276 := by decide +kernel

/-- A transmission of 560 gives soil index 4. -/
theorem test_soil : soilOf (transmission 560) = 4 := by decide +kernel

/-- A deficit of 80,000,000: 160 mL of brine, 140 s of dwell, 320 mL of rinse. -/
theorem test_targets : brineTargetOf 80000000 20 = 160 ∧ dwellTimeOf 80000000 = 140 ∧ rinseTargetOf 80000000 = 320 := by
  decide +kernel

/-- Column A before millilitre 2835 of the MAIN fill, one millilitre a pulse. -/
def before2835 : State :=
  let s := filling .main 2834
  { s with
    wpc := { s.wpc with latchedK := 1000, fill := some ⟨4500, .main, true⟩ }
    sfu := { s.sfu with colA := ⟨1003132, false, 40, false⟩, ready := [], retired := [.b, .c], rho := 80 } }

/-- Millilitre 2835 leaves 996,428 nmol and marks column A exhausted. -/
theorem test_millilitre_2835 : (after .flowMeterPulse before2835).sfu.colA = ⟨996428, true, 40, false⟩ := by decide +kernel

/-- Column A at 0 before millilitre 2985. -/
def before2985 : State :=
  { before2835 with
    sfu := { before2835.sfu with colA := ⟨0, true, 40, false⟩ } }

/-- Millilitre 2985 breaks through, once noticed. -/
theorem test_millilitre_2985 :
    (after .flowMeterPulse before2985).sfu.fill.breakthrough = 1
      ∧ notified (.breakthrough .a .main 2835) (after .flowMeterPulse before2985) = true := by decide +kernel

/-! ## Witnesses: power, the line, the link -/

theorem witness_EveryCommandLeadsToANextState :
    ({ ready with part := { ready.part with powered := false } } : State).part.powered = false
      ∧ (∀ pins, Instr.hold 0#8 ≠ .powerOn pins) ∧ ready.pending = [] :=
  ⟨rfl, by simp, rfl⟩

theorem witness_ResetLeavesTheResetValues :
    (ready.rst.config = none ∧ ready.rst.faults = none ∧ ready.rst.columns = none ∧ ready.rst.reservoirs = none
        ∧ ready.rst.writing = none ∧ ready.pending = [])
      ∧ (Instr.powerOn Pins.quiet = .powerOn Pins.quiet)
      ∧ (Instr.resetLineAssertion Pins.quiet = .resetLineAssertion Pins.quiet ∧ ready.part.powered = true) := by
  and_intros <;> decide +kernel

/-- A part with all four copies. -/
def stored : State :=
  { ready with
    rst := { ready.rst with
      config := some {}
      faults := some []
      columns := some ⟨⟨5, false, 1, false⟩, ⟨0, true, 2, false⟩, some ⟨0, true, 0, false⟩, some .a, [], [.b], none, [.c], []⟩
      reservoirs := some ⟨⟨45000, 30001, 0⟩, ⟨false, false, true⟩⟩ } }

theorem witness_RetainedRecordsAreRestored :
    Pins.quiet.flood = false
      ∧ (keptCopies stored.rst).config = some {} ∧ (keptCopies ready.rst).config = none
      ∧ (keptCopies stored.rst).reservoirs = some ⟨⟨45000, 30001, 0⟩, ⟨false, false, true⟩⟩
      ∧ (keptCopies ready.rst).reservoirs = none ∧ (keptCopies ready.rst).columns = none
      ∧ (after (.powerOn Pins.quiet) stored).cfg.fitted = 3
      ∧ (∃ c, (keptCopies stored.rst).columns = some c ∧ c.colC.isSome = true ∧ c.ready = []) := by
  refine ⟨rfl, rfl, rfl, rfl, rfl, rfl, by decide +kernel, _, rfl, rfl, rfl⟩

/-- A part in SHUTTING_DOWN whose last write is under way. -/
def lastWrite : State :=
  { partIn .shuttingDown ready with
    part := { (partIn .shuttingDown ready).part with writesAsked := true }, rst := { ready.rst with writing := some (.faults []) } }

theorem witness_RecordsOutliveThePower :
    (ready.part.powered = true ∧ ready.part.pfw = false)
      ∧ (stored.part.powered = true ∧ { stored.rst with writing := some (.config {}) }.writing = some (.config {})
        ∧ stored.part.state ≠ .shuttingDown)
      ∧ (lastWrite.part.powered = true ∧ lastWrite.rst.writing = some (.faults []) ∧ lastWrite.part.state = .shuttingDown
        ∧ lastWrite.part.writesAsked = true ∧ lastWrite.rst.pendingWrites = [] ∧ lastWrite.reports = []
        ∧ lastWrite.wpc.holder = .none ∧ lastWrite.wpc.fill = none ∧ lastWrite.wpc.regen = none
        ∧ lastWrite.rge.state = .idle) := by
  and_intros <;> decide +kernel

/-- The longest payload, 198 bytes, and the kinds refused by kind and by length. -/
theorem witness_GoodFramesAreAnsweredBusyOrDiscarded :
    (Hears (linked .up 127 ready) ∧ ready.lnk.assembling = false
        ∧ (List.replicate 198 0#8 : List Byte).length ≤ 198
        ∧ parseRequest 0xFF#8 (List.replicate 198 0#8) = .unknownKind ∧ parseRequest 0x15#8 [0#8] = .badLength)
      ∧ (∃ s : State, Hears { s with lnk := { s.lnk with awaiting := none } } ∧ s.lnk.assembling = false
        ∧ s.lnk.awaiting.isSome = true ∧ s.lnk.busy = none)
      ∧ (∃ s : State, Hears { s with lnk := { s.lnk with awaiting := none } } ∧ s.lnk.assembling = false
        ∧ s.lnk.awaiting.isSome = true ∧ s.lnk.busy.isSome = true ∧ s.lnk.errors = 119)
      ∧ ((linked .lost 255 ready).part.powered = true ∧ (linked .lost 255 ready).part.state ≠ .standby
        ∧ (linked .lost 255 ready).reports = [] ∧ (linked .lost 255 ready).lnk.state = .lost
        ∧ (0x03#8 : Byte) ≠ 0x02#8) := by
  refine ⟨by and_intros <;> decide +kernel, ⟨{ ready with lnk := { ready.lnk with awaiting := some ⟨1#8, 1#8, ⟨.ok, .empty⟩⟩ } }, ?_⟩,
    ⟨{ ready with lnk := { ready.lnk with
        state := .degraded, errors := 119, awaiting := some ⟨1#8, 1#8, ⟨.ok, .empty⟩⟩, busy := some ⟨3#8, 4#8⟩ } }, ?_⟩,
    by and_intros <;> decide +kernel⟩ <;> and_intros <;> decide +kernel

theorem witness_BadFramesAreCountedAndLoseTheLink :
    ((linked .degraded 119 ready).part.powered = true ∧ (linked .degraded 119 ready).part.state ≠ .standby
        ∧ (linked .degraded 119 ready).reports = [] ∧ (linked .degraded 119 ready).lnk.assembling = false
        ∧ (linkSends (linked .degraded 119 ready) = true → (linked .degraded 119 ready).lnk.errors < 120))
      ∧ (0#16 : Half) ≠ crc16 (Request.frame .hold 7#8).body
      ∧ (1#8 : Byte).toNat < 2 ∧ 200 < (201#8 : Byte).toNat
      ∧ 1 ≤ 5 ∧ 5 < (Request.frame .hold 7#8).wire.length ∧ (Request.frame .hold 7#8).wire.length = 6
      ∧ (Rests (linked .degraded 120 ready) ∧ linkSends (linked .degraded 120 ready) = true
        ∧ (linked .degraded 120 ready).seq.state ≠ .holding ∧ 120 ≤ 120 ∧ 120 ≤ 247
        ∧ ready.lnk.silence.isSome = true) := by
  and_intros <;> decide +kernel

theorem witness_TheTransmitterTakesReplyBusyNotice : ready.part.powered = true := rfl

theorem witness_TheFirstByteWakesThePart :
    (ready.part.powered = true ∧ ready.lnk.assembling = false ∧ ready.part.state ≠ .standby)
      ∧ ((partIn .standby ready).part.state = .standby
        ∧ Still { partIn .standby ready with part := { (partIn .standby ready).part with state := .ready } }
        ∧ (partIn .standby ready).seq.state = .idle) := by
  and_intros <;> decide +kernel

theorem witness_ASecondCounts :
    (inSub .circulate).part.powered = true ∧ currentWash (inSub .circulate) = some wash
      ∧ { ready with htc := { ready.htc with request := some ⟨65, true⟩ } }.htc.request = some ⟨65, true⟩ := by
  and_intros <;> decide +kernel

/-! ## Witnesses: requests -/

/-- The bounds of the index sets: parameter 1 and 27, slot 11, columns 1 and 3, none at 0 and 4. -/
theorem witness_ReadsAnswerWhatStands :
    Hears (linked .down 255 ready) ∧ Listens (linked .degraded 127 ready)
      ∧ columnOfCode 1#8 = some .a ∧ columnOfCode 3#8 = some .c ∧ columnOfCode 0#8 = none ∧ columnOfCode 4#8 = none
      ∧ (11#8 : Byte).toNat < 12 := by
  and_intros <;> decide +kernel

theorem witness_ReadReservoirGivesTheRecord :
    Listens ready ∧ ((0#8 : Byte) ≠ 1#8 ∧ (0#8 : Byte) ≠ 2#8 ∧ (0#8 : Byte) ≠ 3#8)
      ∧ ((4#8 : Byte) ≠ 1#8 ∧ (4#8 : Byte) ≠ 2#8 ∧ (4#8 : Byte) ≠ 3#8) ∧ channelOfCode 3#8 = some .d3 := by
  and_intros <;> decide +kernel

theorem witness_RefusalsChangeNothing :
    Hears ready ∧ (Instr.hold 7#8).request? = some (7#8, .hold)
      ∧ (after (.hold 7#8) ready).lnk.awaiting = some ⟨0x15#8, 7#8, ⟨.wrongState, .empty⟩⟩
      ∧ (Hears (linked .down 0 ready) ∧ (linked .down 0 ready).lnk.state = .down ∧ Request.hold.kind ≠ 1#8
        ∧ Request.hold.kind ≠ 2#8 ∧ Request.hold.kind ≠ 3#8)
      ∧ (Hears (partIn .starting ready) ∧ (partIn .starting ready).part.state = .starting)
      ∧ (Hears (partIn .shut ready) ∧ (partIn .shut ready).part.state = .shut)
      ∧ (Hears (partIn .down ready) ∧ (partIn .down ready).part.state = .down)
      ∧ (Hears (partIn .shuttingDown ready) ∧ (partIn .shuttingDown ready).part.state = .shuttingDown
        ∧ Request.hold.kind ∉ [1#8, 2#8, 3#8, 5#8, 8#8, 0x0A#8, 0x11#8, 0x20#8, 0x28#8]) := by
  and_intros <;> decide +kernel

theorem witness_LinkRequestsOpenMaskAndReset :
    ((linked .degraded 127 ready).part.powered = true ∧ (linked .degraded 127 ready).reports = []
        ∧ (linked .degraded 127 ready).lnk.awaiting = none ∧ (linked .degraded 127 ready).part.state = .ready
        ∧ (linked .degraded 127 ready).lnk.state ≠ .lost ∧ (linked .degraded 127 ready).lnk.errors < 128)
      ∧ ((linked .lost 128 (partIn .shuttingDown ready)).part.state = .shuttingDown
        ∧ (linked .lost 128 (partIn .shuttingDown ready)).lnk.state = .lost)
      ∧ (∃ s : State, s.part.powered = true ∧ s.reports = [] ∧ s.lnk.awaiting = none ∧ s.part.state = .down
        ∧ s.lnk.state = .down ∧ s.pins.sensor = .measured 80 ∧ s.wpc.holder = .none ∧ s.wpc.fill = none
        ∧ s.wpc.regen = none ∧ s.rge.state = .idle ∧ s.pins.actuator = true)
      ∧ Listens ready := by
  refine ⟨by and_intros <;> decide +kernel, by and_intros <;> decide +kernel, ⟨{ linked .down 0 (partIn .down ready) with
    pins := { Pins.quiet with sensor := .measured 80, actuator := true } }, ?_⟩, by and_intros <;> decide +kernel⟩
  and_intros <;> decide +kernel

theorem witness_SetConfigStoresTheLimitedValue :
    Listens ready ∧ (0#8 : Byte).toNat = 0 ∧ 27 < (28#8 : Byte).toNat ∧ 1 < (2#32 : Word).toNat
      ∧ ((22#8 : Byte) ∉ [4#8, 5#8, 6#8, 27#8] ∧ (1#32 : Word).toNat ≤ 1 ∧ paramRange (22#8 : Byte).toNat = some (0, 1))
      ∧ ((26#8 : Byte) ∉ [4#8, 5#8, 6#8, 27#8] ∧ (26#8 : Byte) ≠ 22#8 ∧ paramRange (26#8 : Byte).toNat = some (60, 600)) := by
  and_intros <;> decide +kernel

/-- Column A in service, no column ready, the silence timer at 20. -/
def quietLink : State :=
  { ready with sfu := { ready.sfu with ready := [], retired := [.b, .c] }, lnk := { ready.lnk with silence := some 20 } }

theorem witness_CapacityReserveAndSilenceAct :
    (Listens ready ∧ Rests ready)
      ∧ (20 ≤ (200#32 : Word).toNat ∧ (200#32 : Word).toNat ≤ 200 ∧ (200#32 : Word).toNat ≠ ready.cfg.nominal)
      ∧ (20 ≤ (20#32 : Word).toNat ∧ (20#32 : Word).toNat ≤ 200 ∧ (20#32 : Word).toNat ≠ ready.cfg.nominal)
      ∧ (Listens quietLink ∧ Rests quietLink ∧ (10000000#32 : Word).toNat ≤ 10000000
        ∧ (10000000#32 : Word).toNat ≠ quietLink.cfg.reserve ∧ quietLink.sfu.ready = []
        ∧ quietLink.sfu.service = some .a)
      ∧ (quietLink.lnk.silence = some 20 ∧ 20 < (21#32 : Word).toNat ∧ (21#32 : Word).toNat ≠ quietLink.cfg.silenceLimit)
      ∧ (5 ≤ (20#32 : Word).toNat ∧ (20#32 : Word).toNat ≤ 20 ∧ (20#32 : Word).toNat ≠ quietLink.cfg.silenceLimit
        ∧ quietLink.seq.state ≠ .holding) := by
  and_intros <;> decide +kernel

/-- Two columns fitted. -/
def twoColumns (fault : Bool) : State :=
  { ready with
    cfg := { ready.cfg with fitted := 2 }, sfu := { ready.sfu with colC := none, retired := [], valveFault := fault } }

theorem witness_FittedColumnsCreateOrRemoveC :
    (Listens (inSub .heat) ∧ (inSub .heat).cfg.fitted ≠ 2 ∧ (inSub .heat).seq.state ≠ .idle
        ∧ (inSub .heat).seq.state ≠ .ended)
      ∧ (Listens dwelling ∧ dwelling.cfg.fitted ≠ 2 ∧ dwelling.rge.state ≠ .idle)
      ∧ (Listens ready ∧ Rests ready ∧ ready.seq.state = .idle ∧ ready.cfg.fitted = 3 ∧ ready.sfu.service ≠ some .c)
      ∧ (Listens (twoColumns true) ∧ Rests (twoColumns true) ∧ (twoColumns true).cfg.fitted = 2
        ∧ (twoColumns true).sfu.valveFault = true)
      ∧ (Rests (twoColumns false) ∧ (twoColumns false).sfu.valveFault = false) := by
  and_intros <;> decide +kernel

theorem witness_StandbyNeedsThePartAtRest :
    (Listens ready ∧ ready.seq.state = .idle ∧ ready.rge.state = .idle ∧ ready.sfu.regenQ = [] ∧ ready.dsu.state = .idle
        ∧ (ready.ddu.fitted = false ∨ (ready.ddu.count = 0 ∧ ready.ddu.homed = true ∧ ready.ddu.drive = .stopped))
        ∧ ready.wpc.holder = .none ∧ ready.wpc.seqDrain = none ∧ ready.wpc.burst = none ∧ ready.wpc.leak = none
        ∧ ready.sfu.valveMove = none ∧ ready.czs.move = none ∧ ready.dsu.move = none)
      ∧ (Listens dwelling ∧ dwelling.rge.state ≠ .idle) := by
  and_intros <;> decide +kernel

theorem witness_ShutdownsEndTheWork :
    (Hears (partIn .shuttingDown ready) ∧ (partIn .shuttingDown ready).part.state = .shuttingDown
        ∧ linkSends (partIn .shuttingDown ready) = true)
      ∧ (Listens ready ∧ Rests ready ∧ ready.seq.state = .idle ∧ ready.dsu.state = .idle ∧ ready.dsu.batch = []
        ∧ ready.dsu.waiting = [] ∧ ready.ddu.stage = .none ∧ ready.ddu.drive = .stopped
        ∧ (ready.ddu.fitted = false ∨ (ready.ddu.count = 0 ∧ ready.ddu.homed = true)) ∧ ready.wpc.seqDrain = none
        ∧ ready.wpc.leak = none)
      ∧ (Listens (inSub .circulate) ∧ Rests (inSub .circulate) ∧ (inSub .circulate).seq.state = .running
        ∧ (inSub .circulate).seq.sub ≠ .dry)
      ∧ (Hears drawing ∧ GrantsAgree drawing ∧ linkSends drawing = true ∧ drawing.part.state = .ready
        ∧ drawing.seq.state ≠ .faulted)
      ∧ (Hears (seqIn .faulted .none) ∧ GrantsAgree (seqIn .faulted .none) ∧ (seqIn .faulted .none).seq.state = .faulted)
      ∧ (Hears (filling .main 1) ∧ GrantsAgree (filling .main 1) ∧ programRuns (filling .main 1) = true) := by
  and_intros <;> decide +kernel

/-! ## Witnesses: programs -/

/-- A phase payload of a kind code, with the first channel and the weight of Z1. -/
def payload (kind refs ch1 w1 : Byte) : PhasePayload :=
  ⟨kind, 1499#16, 29#8, 59#16, 3601#16, w1, 0#8, 0#8, 0#8, 9#8, refs, ⟨ch1, 401#16, 9#16⟩, ⟨1#8, 0#16, 0#16⟩, 3#8, 3600#16, 3601#16⟩

/-- Without a booster. -/
def noBooster (s : State) : State := { s with dsu := { s.dsu with r3 := { s.dsu.r3 with fitted := false } } }

theorem witness_TheProgramTableIsEdited :
    (Listens (seqIn .ending .none) ∧ (seqIn .ending .none).seq.state = .ending)
      ∧ (Listens (inSub .heat) ∧ editing (inSub .heat) = true ∧ (0#8 : Byte).toNat ≤ (inSub .heat).seq.idx)
      ∧ (editing (inSub .heat) = true ∧ (inSub .heat).seq.idx < (1#8 : Byte).toNat ∧ (inSub .heat).seq.extension = none)
      ∧ (Listens ready ∧ ready.seq.state = .idle ∧ 11 < (12#8 : Byte).toNat ∧ 4 < (payload 5#8 0#8 0#8 1#8).kind.toNat
        ∧ 2 < (payload 0#8 3#8 1#8 1#8).refCount.toNat ∧ channelOfCode (payload 0#8 1#8 4#8 1#8).ref1.channel = none
        ∧ (payload 0#8 2#8 1#8 1#8).ref1.channel = (payload 0#8 2#8 1#8 1#8).ref2.channel
        ∧ (payload 0#8 0#8 0#8 0#8).weight1 = 0#8)
      ∧ ((payload 4#8 0#8 0#8 0#8).kind = 4#8 ∧ (1#8 : Byte).toNat + 1 < (inSub .heat).seq.count
        ∧ ¬ ((2#8 : Byte).toNat + 1 < (inSub .heat).seq.count) ∧ 3600 < (payload 4#8 0#8 0#8 0#8).openTime.toNat)
      ∧ (kindOfCode (payload 3#8 1#8 3#8 1#8).kind = some (.wash .finalRinse)
        ∧ refsOf (payload 3#8 1#8 3#8 1#8) = some [(.d3, 401, 9)]
        ∧ (noBooster ready).dsu.r3.fitted = false ∧ Listens (noBooster ready) ∧ ready.dsu.r3.fitted = true
        ∧ (payload 3#8 1#8 3#8 1#8).weight1 ≠ 0#8)
      ∧ (12 < (13#8 : Byte).toNat ∧ (12#8 : Byte).toNat ≤ 12)
      ∧ ((1#8 : Byte).toNat ≤ (inSub .heat).seq.idx + 1
        ∧ ((inSub .heat).seq.idx + 1 < (3#8 : Byte).toNat
          ∧ ∀ j : Fin 12, (inSub .heat).seq.idx < j.val → j.val < 3 → slotBad true (inSub .heat).seq 3 j.val = false)
        ∧ slotBad true (inSub .heat).seq 4 2 = true
        ∧ ∀ k : Fin 12, (inSub .heat).seq.idx < k.val → k.val < 2 → slotBad true (inSub .heat).seq 4 k.val = false) := by
  and_intros <;> decide +kernel

/-- No program. -/
def noProgram (n : Nat) (a : Option Phase) : State := { ready with seq := { ready.seq with count := n, table := table3 a none none } }

theorem witness_StartProgramBeginsPhaseZero :
    (Listens (inSub .heat) ∧ (inSub .heat).seq.state ≠ .idle ∧ (inSub .heat).seq.state ≠ .ended)
      ∧ (Listens (noProgram 0 none) ∧ (noProgram 0 none).seq.state = .idle ∧ (noProgram 0 none).seq.count = 0)
      ∧ (Listens (noProgram 1 none) ∧ slotBad true (noProgram 1 none).seq 1 0 = true)
      ∧ (Listens ready ∧ Rests ready ∧ ready.seq.state = .idle ∧ 0 < ready.seq.count ∧ ready.wpc.inhibit = false
        ∧ ready.wpc.burst = none ∧ ready.wpc.highLevel = false
        ∧ (∀ k : Fin 12, k.val < ready.seq.count → slotBad ready.dsu.r3.fitted ready.seq ready.seq.count k.val = false)
        ∧ phaseAt ready.seq 0 = some (.wash .main wash) ∧ ready.ddu.doorOpen = false)
      ∧ (Rests { ready with ddu := { ready.ddu with doorOpen := true } })
      ∧ (Rests (noProgram 1 (some (.dry 1 0))) ∧ phaseAt (noProgram 1 (some (.dry 1 0))).seq 0 = some (.dry 1 0)
        ∧ slotBad true (noProgram 1 (some (.dry 1 0))).seq 1 0 = false ∧ (noProgram 1 none).ddu.awaited = false
        ∧ (noProgram 1 none).ddu.stage ≠ .retracting) := by
  and_intros <;> decide +kernel

theorem witness_HoldAndContinue :
    (Listens (inSub .fill) ∧ (inSub .fill).seq.state = .running)
      ∧ (Listens ready ∧ ready.seq.state = .idle)
      ∧ (Listens (seqIn .holding .none) ∧ Rests (seqIn .holding .none) ∧ (seqIn .holding .none).seq.state = .holding
        ∧ (seqIn .holding .none).wpc.inhibit = false ∧ (seqIn .holding .none).wpc.burst = none
        ∧ (seqIn .holding .none).wpc.highLevel = false
        ∧ phaseAt (seqIn .holding .none).seq ((seqIn .holding .none).seq.idx + 1) = some (.wash .rinse plain)
        ∧ (seqIn .holding .none).ddu.doorOpen = false) := by
  and_intros <;> decide +kernel

theorem witness_AbortAndResetEndTheProgram :
    (Listens ready ∧ GrantsAgree ready ∧ ready.seq.state = .idle)
      ∧ (Listens (filling .main 5) ∧ GrantsAgree (filling .main 5) ∧ (filling .main 5).seq.state = .running
        ∧ (filling .main 5).seq.sub ≠ .dry ∧ (filling .main 5).sfu.fill.isOpen = true)
      ∧ (Listens (inSub .dry) ∧ GrantsAgree (inSub .dry) ∧ (inSub .dry).seq.state = .running ∧ (inSub .dry).seq.sub = .dry
        ∧ Rests (inSub .dry))
      ∧ (programRuns (filling .main 5) = true ∧ runningIn (filling .main 5) .dry = false)
      ∧ (Rests (seqIn .ended .none) ∧ Listens (seqIn .ended .none) ∧ (seqIn .ended .none).seq.state = .ended) := by
  and_intros <;> decide +kernel

/-- FAULTED, with the sump as it reads and a drain request or none. -/
def faulted (empty : Bool) (drain : Option SeqDrain) : State :=
  { seqIn .faulted .none with wpc := { ready.wpc with sumpEmpty := empty, seqDrain := drain } }

theorem witness_AcknowledgeReleasesFromFaulted :
    (Listens ready ∧ ready.seq.state ≠ .faulted)
      ∧ (Listens (faulted false (some ⟨.pumping 0, false⟩)) ∧ (faulted false (some ⟨.pumping 0, false⟩)).seq.state = .faulted
        ∧ (faulted false (some ⟨.pumping 0, false⟩)).wpc.sumpEmpty = false
        ∧ (faulted false (some ⟨.pumping 0, false⟩)).wpc.seqDrain.isSome = true)
      ∧ (Listens (faulted false none) ∧ Rests (faulted false none) ∧ (faulted false none).wpc.flood = false
        ∧ (faulted false none).wpc.sumpEmpty = false ∧ (faulted false none).wpc.seqDrain = none)
      ∧ (Listens (faulted true none) ∧ Rests (faulted true none) ∧ (faulted true none).wpc.flood = false
        ∧ (faulted true none).wpc.sumpEmpty = true) := by
  and_intros <;> decide +kernel

/-! ## Witnesses: the water path -/

/-- CIRCULATE of the phase given, its index last or not, a hold pending or not. -/
def circulating (w : WashRecord) (count : Nat) (hold : Bool) : State :=
  { inSub .circulate with
    seq := { (inSub .circulate).seq with count := count, holdPending := hold, table := table3 (some (.wash .main w)) (some (.wash .rinse plain)) none } }

/-- DRAIN under an extension. -/
def extending (count : Nat) (hold : Bool) : State :=
  { circulating wash count hold with
    seq := { (circulating wash count hold).seq with sub := .drain, extension := some 90 }
    wpc := { ready.wpc with seqDrain := some ⟨.kept, false⟩ } }

theorem witness_CirculateAndExtensionEnd :
    (Awake (circulating wash 1 false) ∧ GrantsAgree (circulating wash 1 false)
        ∧ (circulating wash 1 false).seq.state = .running ∧ currentWash (circulating wash 1 false) = some wash
        ∧ (circulating wash 1 false).seq.sub = .circulate ∧ wash.drain = true ∧ wash.sample = true)
      ∧ (Awake (circulating plain 1 false) ∧ GrantsAgree (circulating plain 1 false)
        ∧ currentWash (circulating plain 1 false) = some plain ∧ plain.drain = false ∧ plain.sample = false
        ∧ (circulating plain 1 false).seq.count ≤ (circulating plain 1 false).seq.idx + 1)
      ∧ (Awake (circulating plain 2 true) ∧ GrantsAgree (circulating plain 2 true)
        ∧ (circulating plain 2 true).seq.idx + 1 < (circulating plain 2 true).seq.count
        ∧ (circulating plain 2 true).seq.holdPending = true)
      ∧ (Awake (extending 1 false) ∧ GrantsAgree (extending 1 false) ∧ (extending 1 false).seq.state = .running
        ∧ currentWash (extending 1 false) = some wash ∧ (extending 1 false).seq.sub = .drain
        ∧ (extending 1 false).seq.extension.isSome = true
        ∧ (extending 1 false).seq.count ≤ (extending 1 false).seq.idx + 1)
      ∧ (GrantsAgree (extending 2 true) ∧ (extending 2 true).seq.idx + 1 < (extending 2 true).seq.count
        ∧ (extending 2 true).seq.holdPending = true) := by
  and_intros <;> decide +kernel

/-- SUSPENDED with what is remembered, the door closed for the settling time. -/
def settling (what : Remembered) : State :=
  { seqIn .suspended .none with
    seq := { (seqIn .suspended .none).seq with remembered := what, settling := some 2, fillBegun := true, heatLeft := 1 } }

theorem witness_SettlingResumesTheProgram :
    (Rests (settling .waitWater) ∧ (settling .waitWater).seq.state = .suspended
        ∧ (settling .waitWater).seq.settling.isSome = true ∧ (settling .waitWater).ddu.doorOpen = false
        ∧ (settling .waitWater).seq.remembered = .waitWater)
      ∧ (Rests (settling (.sub .drain)) ∧ currentWash (settling (.sub .drain)) = some wash
        ∧ (settling (.sub .drain)).seq.remembered = .sub .drain)
      ∧ (Rests (settling (.sub .circulate)) ∧ 0 < wash.target ∧ (settling (.sub .circulate)).seq.heaterOff = false)
      ∧ (Rests (settling (.sub .heat)) ∧ 0 < wash.holdTime ∧ (settling (.sub .heat)).htc.valid = true
        ∧ 0 < (settling (.sub .heat)).seq.heatLeft ∧ (settling (.sub .heat)).htc.temp = some 20 ∧ 20 < wash.target)
      ∧ (Rests (settling (.sub .fill)) ∧ (settling (.sub .fill)).seq.fillBegun = true
        ∧ (settling (.sub .fill)).wpc.inhibit = false ∧ (settling (.sub .fill)).wpc.burst = none
        ∧ (settling (.sub .fill)).wpc.highLevel = false) := by
  and_intros <;> decide +kernel

/-- A main fill with one expired limit. -/
def secondLimit : State := { filling .main 2999 with seq := { (filling .main 2999).seq with fillTimeouts := 1 } }

/-- The water wait, its time over. -/
def waiting : State := { seqIn .waitWater .none with seq := { (seqIn .waitWater .none).seq with waterWait := some 0 } }

theorem witness_FillLimitWaitsThenFails :
    (Awake (filling .main 0) ∧ GrantsAgree (filling .main 0) ∧ (filling .main 0).wpc.fill = some ⟨3000, .main, true⟩
        ∧ runningIn (filling .main 0) .fill = true ∧ (currentWash (filling .main 0)).isSome = true
        ∧ (filling .main 0).seq.fillTimeouts = 0)
      ∧ (Awake secondLimit ∧ GrantsAgree secondLimit ∧ secondLimit.wpc.fill = some ⟨3000, .main, true⟩
        ∧ secondLimit.seq.fillTimeouts = 1 ∧ secondLimit.sfu.fill.isOpen = true)
      ∧ (Awake waiting ∧ GrantsAgree waiting ∧ waiting.seq.state = .waitWater ∧ waiting.wpc.fill = none
        ∧ waiting.wpc.inhibit = false ∧ waiting.wpc.burst = none ∧ waiting.wpc.highLevel = false
        ∧ currentWash waiting = some wash) := by
  and_intros <;> decide +kernel

/-- Stray flow counted. -/
def stray (n : Nat) : State := { ready with wpc := { ready.wpc with strayCount := n } }

theorem witness_StrayFlowAndTheWaterSwitches :
    (Rests (stray 197) ∧ 200 ≤ (stray 197).cfg.k ∧ (stray 197).wpc.strayResidue < (stray 197).cfg.k
        ∧ (stray 197).wpc.strayCount + ((stray 197).wpc.strayResidue + 1000) / (stray 197).cfg.k = 199)
      ∧ (Rests (stray 199) ∧ (stray 199).wpc.strayCount < 200
        ∧ 200 ≤ (stray 199).wpc.strayCount + ((stray 199).wpc.strayResidue + 1000) / (stray 199).cfg.k)
      ∧ (Rests { ready with wpc := { ready.wpc with leak := some 0 } })
      ∧ ((partIn .standby ready).part.powered = true ∧ (partIn .standby ready).part.state = .standby
        ∧ (partIn .down ready).part.state = .down ∧ (partIn .shut ready).part.state = .shut)
      ∧ (Awake drawing ∧ GrantsAgree drawing ∧ drawing.wpc.highLevel = false ∧ drawing.wpc.fill = none
        ∧ drawing.rge.state = .brineDraw)
      ∧ (GrantsAgree rinsing ∧ rinsing.rge.state = .rinse) := by
  and_intros <;> decide +kernel

/-- A fill at a count under a service. -/
def served (count : Nat) (service : Option Column) (a : ColRec) (broken : Nat) : State :=
  { filling .main count with
    sfu := { (filling .main count).sfu with
      service := service, ready := [], colA := a, fill := { (filling .main count).sfu.fill with breakthrough := broken } } }

theorem witness_FillsAreMeteredToTheirTarget :
    (Awake (served 2997 none {} 0) ∧ GrantsAgree (served 2997 none {} 0) ∧ (served 2997 none {} 0).rge.state = .idle
        ∧ (served 2997 none {} 0).sfu.regenQ = [] ∧ 200 ≤ (served 2997 none {} 0).wpc.latchedK
        ∧ (served 2997 none {} 0).wpc.residue < (served 2997 none {} 0).wpc.latchedK
        ∧ ((served 2997 none {} 0).wpc.residue + 1000) / (served 2997 none {} 0).wpc.latchedK = 2
        ∧ (served 2997 none {} 0).wpc.fill = some ⟨3000, .main, true⟩ ∧ (served 2997 none {} 0).wpc.grantCount + 2 < 3000
        ∧ 3000 ≤ 6000 ∧ (served 2997 none {} 0).sfu.service = none)
      ∧ (GrantsAgree (served 0 (some .a) ⟨1013407, false, 0, false⟩ 0)
        ∧ (served 0 (some .a) ⟨1013407, false, 0, false⟩ 0).sfu.valveFault = false
        ∧ (served 0 (some .a) ⟨1013407, false, 0, false⟩ 0).sfu.blend < 1000
        ∧ (served 0 (some .a) ⟨1013407, false, 0, false⟩ 0).cfg.reserve
            < 1013407 - ((served 0 (some .a) ⟨1013407, false, 0, false⟩ 0).sfu.rho + 2 * (720 * (1000 - 69))) / 100)
      ∧ (GrantsAgree (served 0 (some .a) ⟨0, true, 0, false⟩ 1)
        ∧ (columnRec (served 0 (some .a) ⟨0, true, 0, false⟩ 1).sfu .a).remaining = 0
        ∧ (columnRec (served 0 (some .a) ⟨0, true, 0, false⟩ 1).sfu .a).exhausted = true
        ∧ 0 < (served 0 (some .a) ⟨0, true, 0, false⟩ 1).sfu.fill.breakthrough)
      ∧ (Awake (served 2999 none {} 0) ∧ GrantsAgree (served 2999 none {} 0) ∧ (served 2999 none {} 0).sfu.ready = []
        ∧ (served 2999 none {} 0).wpc.grantCount < 3000
        ∧ 3000 ≤ (served 2999 none {} 0).wpc.grantCount
            + ((served 2999 none {} 0).wpc.residue + 1000) / (served 2999 none {} 0).wpc.latchedK
        ∧ runningIn (served 2999 none {} 0) .fill = true ∧ (served 2999 none {} 0).sfu.fill.isOpen = true
        ∧ currentWash (served 2999 none {} 0) = some wash ∧ 0 < wash.holdTime)
      ∧ (∃ s : State, Awake s ∧ GrantsAgree s ∧ s.rge.state = .idle ∧ s.sfu.regenQ = [] ∧ s.sfu.service = none
        ∧ s.sfu.ready = [] ∧ s.wpc.fill = some ⟨3000, .topUp, true⟩ ∧ s.wpc.grantCount = 2999) := by
  refine ⟨by and_intros <;> decide +kernel, by and_intros <;> decide +kernel, by and_intros <;> decide +kernel,
    by and_intros <;> decide +kernel, ⟨{ served 2999 none {} 0 with
      wpc := { (served 2999 none {} 0).wpc with fill := some ⟨3000, .topUp, true⟩ } }, ?_⟩⟩
  and_intros <;> decide +kernel

/-- Drawing or rinsing at a volume. -/
def drawnTo (n : Nat) : State := { drawing with rge := { drawing.rge with brineDrawn := n } }
def rinsedTo (n : Nat) : State := { rinsing with rge := { rinsing.rge with rinseDelivered := n } }

theorem witness_BrineAndRinsePulsesCount :
    (Awake (drawnTo 157) ∧ GrantsAgree (drawnTo 157) ∧ regenMayFlow (drawnTo 157) = true ∧ (drawnTo 157).wpc.fill = none
        ∧ (drawnTo 157).wpc.floodReq = none ∧ permitCondition (drawnTo 157) = true ∧ 200 ≤ (drawnTo 157).wpc.latchedK
        ∧ (drawnTo 157).wpc.residue < (drawnTo 157).wpc.latchedK ∧ (drawnTo 157).wpc.grantCount < 60000
        ∧ (drawnTo 157).wpc.drainPump = pumpAsked (drawnTo 157).wpc ∧ (drawnTo 157).seq.sub ≠ .drain
        ∧ (drawnTo 157).rge.column = some .b
        ∧ ((drawnTo 157).wpc.residue + 1000) / (drawnTo 157).wpc.latchedK = 2
        ∧ (drawnTo 157).rge.brineDrawn + 2 < (drawnTo 157).rge.brineTarget)
      ∧ (GrantsAgree (drawnTo 159) ∧ (drawnTo 159).rge.brineDrawn < (drawnTo 159).rge.brineTarget
        ∧ (drawnTo 159).rge.brineTarget ≤ (drawnTo 159).rge.brineDrawn + 2)
      ∧ (GrantsAgree (rinsedTo 317) ∧ regenMayFlow (rinsedTo 317) = true ∧ permitCondition (rinsedTo 317) = true
        ∧ (rinsedTo 317).rge.rinseDelivered + 2 < (rinsedTo 317).rge.rinseTarget)
      ∧ (GrantsAgree (rinsedTo 319) ∧ (rinsedTo 319).rge.rinseTarget ≤ (rinsedTo 319).rge.rinseDelivered + 2) := by
  and_intros <;> decide +kernel

/-- A flood request in a state. -/
def flooded (active : Bool) (r : FloodReq) : State :=
  { ready with wpc := { ready.wpc with flood := active, floodReq := some r, inhibit := true, drainPump := true } }

theorem witness_TheFloodClosesTheInlet :
    (ready.part.powered = true ∧ ready.reports = [] ∧ ready.wpc.flood = false ∧ GrantsAgree ready)
      ∧ ((partIn .standby ready).wpc.flood = false ∧ GrantsAgree (partIn .standby ready)
        ∧ (partIn .standby ready).part.state = .standby)
      ∧ (GrantsAgree (filling .main 9) ∧ (filling .main 9).seq.state ≠ .faulted ∧ (filling .main 9).seq.fault = none)
      ∧ (Rests (flooded true .active) ∧ (flooded true .active).wpc.flood = true
        ∧ (flooded true .active).wpc.floodReq = some .active)
      ∧ (Rests (flooded false (.runOn 0)) ∧ (flooded false (.runOn 0)).wpc.floodReq = some (.runOn 0)) := by
  and_intros <;> decide +kernel

/-- A drain request of the sequencer. -/
def draining (s : State) (st : DrainStage) (second : Bool) : State :=
  { s with wpc := { s.wpc with seqDrain := some ⟨st, second⟩, drainPump := true } }

/-- The DRAIN of phase 0, rinse to come, the engine waiting for brine. -/
def wantsDrain : State :=
  { engineIn .brineWait (some ⟨.brine, false⟩) .none none with
    seq := { (inSub .drain).seq with permit := false } }

theorem witness_DrainsRunOnRetryAndBlock :
    (Awake (draining (inSub .drain) (.pumping 120) false) ∧ Rests (draining (inSub .drain) (.pumping 120) false)
        ∧ (draining (inSub .drain) (.pumping 120) false).wpc.seqDrain = some ⟨.pumping 120, false⟩)
      ∧ (Rests (draining (inSub .drain) (.paused 30) false))
      ∧ (GrantsAgree (draining (inSub .drain) (.pumping 120) true) ∧ Awake (draining (inSub .drain) (.pumping 120) true))
      ∧ (Awake (draining wantsDrain (.runOn 15) false) ∧ GrantsAgree (draining wantsDrain (.runOn 15) false)
        ∧ runningIn (draining wantsDrain (.runOn 15) false) .drain = true
        ∧ extensionHolds (draining wantsDrain (.runOn 15) false) = true)
      ∧ (GrantsAgree (draining (extending 1 false) (.runOn 15) false)
        ∧ extensionHolds (draining (extending 1 false) (.runOn 15) false) = false
        ∧ (extending 1 false).seq.count ≤ (extending 1 false).seq.idx + 1)
      ∧ (GrantsAgree (draining (seqIn .ending .none) (.runOn 15) false)
        ∧ (draining (seqIn .ending .none) (.runOn 15) false).seq.state = .ending
        ∧ (draining (seqIn .ending .none) (.runOn 15) false).seq.fault = none)
      ∧ (GrantsAgree (draining (seqIn .faulted .none) (.runOn 15) false)
        ∧ (draining (seqIn .faulted .none) (.runOn 15) false).seq.state = .faulted) := by
  and_intros <;> decide +kernel

/-! ## Witnesses: the softener and the engine -/

theorem witness_ColumnRequestsAndRetirement :
    (Listens ready ∧ columnOfCode 0#8 = none ∧ columnOfCode 3#8 = some .c ∧ (twoColumns false).cfg.fitted ≠ 3
        ∧ Listens (twoColumns false))
      ∧ (columnOfCode 1#8 = some .a ∧ columnState ready .c = .retired ∧ columnState ready .b = .ready
        ∧ columnState ready .a = .service ∧ ready.cfg.fitted = 3)
      ∧ (Listens quietLink ∧ columnState quietLink .a = .service ∧ quietLink.sfu.ready = [])
      ∧ (Listens drawing ∧ columnState drawing .b = .regenerating ∧ GrantsAgree drawing ∧ drawing.sfu.regenQ = [])
      ∧ (Rests ready ∧ columnState ready .a = .service ∧ ready.sfu.valveFault = false)
      ∧ (Rests (twoColumns true) ∧ columnState (twoColumns true) .a = .service ∧ (twoColumns true).sfu.valveFault = true) := by
  and_intros <;> decide +kernel

/-- The salt lid open. -/
def openLid (s : State) : State := { s with rge := { s.rge with lidOpen := true } }

theorem witness_TheEngineTakesAWaitingColumn :
    (Listens ready ∧ Rests ready ∧ ready.wpc.burst = none ∧ columnOfCode 3#8 = some .c ∧ ready.cfg.fitted = 3
        ∧ columnState ready .c = .retired ∧ (.c : Column) ∈ ready.sfu.retired ∧ ready.sfu.valveFault = false)
      ∧ (columnState ready .b = .ready ∧ Rests (openLid ready) ∧ (openLid ready).rge.lidOpen = true)
      ∧ (columnState ready .a = .service ∧ ready.sfu.ready.head? = some .b ∧ (.b : Column) ≠ .a)
      ∧ (Listens (twoColumns true) ∧ Rests (twoColumns true) ∧ columnState (twoColumns true) .b = .ready
        ∧ (twoColumns true).sfu.valveFault = true) := by
  and_intros <;> decide +kernel

/-- The column valve on its way. -/
def valveMoves (homing : Bool) : State :=
  { ready with sfu := { ready.sfu with ready := [], valvePos := none, valveMove := some ⟨.column .a, 8, homing⟩ } }

theorem witness_TheColumnValveConfirmsFailsAndHomes :
    (Rests (valveMoves false) ∧ (valveMoves false).sfu.valveMove = some ⟨.column .a, 8, false⟩
        ∧ (ValvePos.column .a) ≠ .bypass ∧ (valveMoves false).part.homings.valve = false)
      ∧ (Rests (valveMoves true) ∧ (valveMoves true).sfu.ready = [])
      ∧ (Rests { ready with sfu := { ready.sfu with failedValve := some .bypass } } ∧ ready.sfu.valveMove = none)
      ∧ (Listens ready ∧ Rests ready ∧ ready.rge.column = none)
      ∧ (∃ s : State, Listens s ∧ GrantsAgree s ∧ s.sfu.valveFault = true ∧ s.rge.timeout = .none
        ∧ s.seq.extension = none ∧ s.rge.column = some .b) := by
  refine ⟨by and_intros <;> decide +kernel, by and_intros <;> decide +kernel, by and_intros <;> decide +kernel,
    by and_intros <;> decide +kernel, ⟨{ drawing with sfu := { drawing.sfu with valveFault := true } }, ?_⟩⟩
  and_intros <;> decide +kernel

theorem witness_SaltLidAndSaltLow :
    (Awake drawing ∧ GrantsAgree drawing ∧ drawing.rge.lidOpen = false ∧ drawing.rge.state = .brineDraw
        ∧ drawing.wpc.fill = none)
      ∧ (∃ s : State, Awake s ∧ GrantsAgree s ∧ s.rge.lidOpen = true ∧ s.rge.state = .brineWait) := by
  refine ⟨by and_intros <;> decide +kernel, ⟨openLid (engineIn .brineWait none .none none), ?_⟩⟩
  and_intros <;> decide +kernel

theorem witness_StagesEndAndTheEngineFinishes :
    (Awake drawing ∧ GrantsAgree drawing ∧ drawing.wpc.fill = none ∧ drawing.seq.state ≠ .running
        ∧ drawing.rge.column = some .b ∧ drawing.rge.state = .brineDraw)
      ∧ (Awake rinsing ∧ GrantsAgree rinsing ∧ rinsing.rge.state = .rinse)
      ∧ (Awake dwelling ∧ GrantsAgree dwelling ∧ dwelling.rge.state = .dwell)
      ∧ (Awake effluent ∧ GrantsAgree effluent ∧ effluent.wpc.fill = none ∧ effluent.sfu.regenQ = []
        ∧ effluent.seq.state ≠ .running ∧ effluent.rge.state = .effluentDrain ∧ effluent.wpc.burst = some (.running 0)
        ∧ effluent.rge.column = some .b ∧ effluent.rge.timeout = .none ∧ effluent.sfu.service = some .a
        ∧ (.a : Column) ≠ .b ∧ (columnRec effluent.sfu .a).exhausted = false
        ∧ effluent.rge.result = some ⟨80000000, false⟩
        ∧ effluent.cfg.reserve < min 80000000 (effluent.cfg.nominal * 1000000))
      ∧ (GrantsAgree { effluent with rge := { effluent.rge with timeout := .rinse } } ∧ effluent.sfu.ready = []) := by
  and_intros <;> decide +kernel

/-! ## Witnesses: dosing -/

theorem levels_ready : LevelsKept ready := by
  intro ch
  cases ch <;> decide +kernel

theorem witness_ReservoirLevelsAndSwitches :
    Listens ready ∧ LevelsKept ready ∧ channelOfCode 0#8 = none
      ∧ (channelOfCode 1#8 = some .d1 ∧ (reservoirOf ready.dsu .d1).fitted = true
        ∧ (4000#16 : Half).toNat ≤ Config.lowMark .d1 ∧ Config.capacity .d1 < (45001#16 : Half).toNat)
      ∧ (channelOfCode 3#8 = some .d3 ∧ Listens (noBooster ready)
        ∧ (reservoirOf (noBooster ready).dsu .d3).fitted = false)
      ∧ (ready.part.powered = true ∧ ready.reports = [] ∧ ready.part.state = .ready
        ∧ perChannelGet ready.dsu.lowSw .d2 ≠ true ∧ perChannelGet ready.dsu.capSw .d2 ≠ true)
      ∧ LevelsKept (partIn .standby ready) ∧ (partIn .standby ready).part.state = .standby :=
  ⟨by and_intros <;> decide +kernel, levels_ready, rfl, by and_intros <;> decide +kernel, by and_intros <;> decide +kernel,
    by and_intros <;> decide +kernel, levels_ready, rfl⟩

/-- A prime of D1. -/
def prime (st : DoseState) (commanded target confirmations : Nat) : DoseReq :=
  { channel := .d1, origin := .hostPrime, volume := 0, target := target, strokeVolume := 25, arrival := 0, state := st,
    commanded := commanded, confirmations := confirmations }

/-- A request of the sequencer for D1. -/
def dose (confirmed misses : Nat) : DoseReq :=
  { channel := .d1, origin := .sequencer 1, volume := 2332, target := 94, strokeVolume := 25, arrival := 0, state := .active,
    commanded := confirmed + 1, confirmed := confirmed, misses := misses }

/-- DSU with a queue, a selector, a move, a stroke. -/
def dosing (st : DsuState) (batch waiting : List DoseReq) (sel : Option Channel) (mv : Option SelectorMove)
    (stroke : Option Nat) : State :=
  { ready with
    dsu := { ready.dsu with state := st, batch := batch, waiting := waiting, selector := sel, move := mv, stroke := stroke } }

theorem witness_PrimesJoinAndResetEmptiesTheQueue :
    (Listens ready ∧ channelOfCode 4#8 = none ∧ (0#8 : Byte).toNat = 0 ∧ 40 < (41#8 : Byte).toNat)
      ∧ (1 ≤ (40#8 : Byte).toNat ∧ (40#8 : Byte).toNat ≤ 40 ∧ channelOfCode 1#8 = some .d1
        ∧ (reservoirOf ready.dsu .d1).fitted = true ∧ ready.seq.state = .idle
        ∧ (ready.dsu.batch ++ ready.dsu.waiting).any (fun r => r.channel == .d1 && r.origin == .hostPrime) = false)
      ∧ (Listens (dosing .gathering [] [prime .queued 0 1 0] none none none)
        ∧ ([] ++ [prime .queued 0 1 0] : List DoseReq).any (fun r => r.channel == .d1 && r.origin == .hostPrime) = true)
      ∧ (Listens (inSub .heat) ∧ (inSub .heat).seq.state ≠ .idle ∧ (inSub .heat).seq.state ≠ .ended
        ∧ (inSub .heat).seq.state ≠ .faulted)
      ∧ (Rests ready ∧ runningIn ready .dose = false)
      ∧ ((dosing .gathering [] [prime .queued 0 1 0] none none none).dsu.waiting.getLast? = some (prime .queued 0 1 0)) := by
  and_intros <;> decide +kernel

theorem witness_BatchesAndTheSelector :
    (Rests (dosing .gathering [] [prime .queued 0 1 0] none none none)
        ∧ (dosing .gathering [] [prime .queued 0 1 0] none none none).dsu.state = .gathering
        ∧ (dosing .gathering [] [prime .queued 0 1 0] none none none).dsu.pause = false
        ∧ (dosing .gathering [] [prime .queued 0 1 0] none none none).dsu.r1.empty = false
        ∧ (dosing .gathering [] [prime .queued 0 1 0] none none none).dsu.waiting ≠ [])
      ∧ (Rests (dosing .gathering [] [prime .queued 0 1 0] (some .d2) none none) ∧ (prime .queued 0 1 0).channel ≠ .d2)
      ∧ (Rests (dosing .gathering [] [prime .queued 0 1 0] (some .d1) none none)
        ∧ (prime .queued 0 1 0).strokeVolume ≤ (reservoirOf ready.dsu .d1).level)
      ∧ (∃ s : State, Rests s ∧ s.dsu.state = .gathering ∧ s.dsu.waiting.head? = some (prime .queued 0 1 0)
        ∧ (reservoirOf s.dsu .d1).level = 24 ∧ (reservoirOf s.dsu .d1).level < (prime .queued 0 1 0).strokeVolume)
      ∧ (Rests (dosing .serving [prime .active 0 1 0] [] none (some ⟨true, .d1, 5⟩) none)
        ∧ (dosing .serving [prime .active 0 1 0] [] none (some ⟨true, .d1, 5⟩) none).dsu.stroke = none
        ∧ (dosing .serving [prime .active 0 1 0] [] none (some ⟨true, .d1, 5⟩) none).part.homings.selector = false
        ∧ (prime .active 0 1 0).cancel = false)
      ∧ (∃ s : State, Rests s ∧ s.dsu.stroke = none ∧ s.dsu.pause = false ∧ s.dsu.move = some ⟨true, .d1, 0⟩
        ∧ s.part.homings.selector = true) := by
  refine ⟨by and_intros <;> decide +kernel, by and_intros <;> decide +kernel, by and_intros <;> decide +kernel,
    ⟨{ ready with dsu := { ready.dsu with
      state := .gathering, waiting := [prime .queued 0 1 0], r1 := ⟨true, 24, false, true, false⟩ } }, ?_⟩,
    by and_intros <;> decide +kernel,
    ⟨{ ready with
      dsu := { ready.dsu with move := some ⟨true, .d1, 0⟩, selector := none }
      part := { ready.part with homings := ⟨false, false, true, false⟩ } }, ?_⟩⟩ <;> and_intros <;> decide +kernel

theorem levels_dosing (st : DsuState) (b w : List DoseReq) (p : Option Channel) (m : Option SelectorMove) (k : Option Nat) :
    LevelsKept (dosing st b w p m k) := levels_ready

theorem witness_StrokesAreConfirmedOrMissed :
    (∀ r, LevelsKept (dosing .serving [r] [] (some .d1) none (some 400)))
      ∧ (Rests (dosing .serving [prime .active 1 2 1] [] (some .d1) none (some 400))
        ∧ (prime .active 1 2 1).confirmations < 2 ∧ (prime .active 1 2 1).commanded < (prime .active 1 2 1).target
        ∧ 50 ≤ (reservoirOf ready.dsu .d1).level ∧ ready.seq.state ≠ .running)
      ∧ (Rests (dosing .serving [prime .active 2 2 0] [] (some .d1) none (some 400))
        ∧ (prime .active 2 2 0).target ≤ (prime .active 2 2 0).commanded)
      ∧ (Rests (dosing .serving [dose 93 0] [] (some .d1) none (some 0)) ∧ (dose 93 0).origin = .sequencer 1
        ∧ (dose 93 0).target ≤ (dose 93 0).confirmed + 1)
      ∧ (Rests (dosing .serving [dose 9 2] [] (some .d1) none (some 400)) ∧ (dose 9 2).misses = 2) :=
  ⟨fun _ => levels_dosing _ _ _ _ _ _, by and_intros <;> decide +kernel, by and_intros <;> decide +kernel,
    by and_intros <;> decide +kernel, by and_intros <;> decide +kernel⟩

/-- The rows of Table 30 with a fill below and at 70 per cent of its volume. -/
theorem witness_DoseFactorsFollowTheirFormulas :
    0 < 4500 ∧ 2000 ≤ 4500 ∧ 10 * 2000 < 7 * 4500 ∧ ready.cfg.autoDry = true
      ∧ { ready.cfg with autoDry := false }.autoDry = false := by
  and_intros <;> decide +kernel

theorem witness_DosesAreRoundedLimitedAndCovered : 2 * (1 * 1000 * 500 * 700 * 142) < 100000000000 ∧ 0 < 25 := by
  and_intros <;> decide +kernel

/-! ## Witnesses: heating, circulation, the door, drying -/

/-- A heat request in HEAT or CIRCULATE, the temperature, the losses counted. -/
def heating (sub : SubStage) (req : Option HeatReq) (temp losses : Nat) (mark : Bool) : State :=
  { inSub sub with
    seq := { (inSub sub).seq with topUpMark := mark }
    htc := { ready.htc with temp := some temp, request := req, lossCount := losses, limitLeft := 9 }
    czs := { ready.czs with pump := true, lowTimer := some 5 } }

theorem witness_TemperatureChangesAreSupervised :
    (Rests ready ∧ ready.htc.valid = true ∧ ready.htc.temp = some (min 120 ((83 : Int) / 4).toNat))
      ∧ (ready.htc.temp ≠ some (min 120 ((84 : Int) / 4).toNat) ∧ ready.ddu.stage ≠ .waitCool
        ∧ min 120 ((351 : Int) / 4).toNat = 87 ∧ min 120 ((352 : Int) / 4).toNat = 88 ∧ min 120 ((9999 : Int) / 4).toNat = 120
        ∧ min 120 ((-4 : Int) / 4).toNat = 0)
      ∧ (Rests (heating .heat (some ⟨65, true⟩) 64 0 false) ∧ runningIn (heating .heat (some ⟨65, true⟩) 64 0 false) .heat = true
        ∧ currentWash (heating .heat (some ⟨65, true⟩) 64 0 false) = some wash ∧ 0 < wash.holdTime
        ∧ min 120 ((260 : Int) / 4).toNat = 65)
      ∧ (ready.htc.lockout = false ∧ ready.seq.state = .idle
        ∧ programHeats (heating .heat (some ⟨65, true⟩) 64 0 false) = true) := by
  and_intros <;> decide +kernel

/-- The sensor has failed. -/
def blind : State := { ready with htc := { ready.htc with temp := none, valid := false, faultKind := some .openCircuit } }

theorem witness_SensorFailsAndRecovers :
    (Rests blind ∧ blind.ddu.stage ≠ .waitCool ∧ blind.htc.valid = false ∧ blind.htc.request = none
        ∧ min 120 ((319 : Int) / 4).toNat < 80)
      ∧ (Rests ready ∧ ready.htc.valid = true ∧ runningIn ready .heat = false)
      ∧ (Rests (heating .heat (some ⟨65, true⟩) 64 0 false) ∧ runningIn (heating .heat (some ⟨65, true⟩) 64 0 false) .heat = true
        ∧ currentWash (heating .heat (some ⟨65, true⟩) 64 0 false) = some wash ∧ 0 < wash.holdTime) := by
  and_intros <;> decide +kernel

theorem witness_HeatLimitAndPressureLosses :
    (Rests (heating .heat (some ⟨65, true⟩) 64 0 false) ∧ (heating .heat (some ⟨65, true⟩) 64 0 false).htc.valid = true
        ∧ runningIn (heating .heat (some ⟨65, true⟩) 64 0 false) .heat = true
        ∧ currentWash (heating .heat (some ⟨65, true⟩) 64 0 false) = some wash)
      ∧ (ready.czs.reading = false ∧ ready.czs.reading ≠ true)
      ∧ (Rests { ready with czs := { ready.czs with pump := true, lowTimer := some 5 } })
      ∧ ((heating .heat (some ⟨65, true⟩) 64 0 false).czs.lowTimer.isSome = true
        ∧ (heating .heat (some ⟨65, true⟩) 64 0 false).czs.episode = false
        ∧ (heating .heat (some ⟨65, true⟩) 64 0 false).htc.lossCount = 0
        ∧ (heating .heat (some ⟨65, true⟩) 64 0 false).seq.topUpMark = false
        ∧ (heating .heat (some ⟨65, true⟩) 64 0 false).wpc.inhibit = false
        ∧ (heating .heat (some ⟨65, true⟩) 64 0 false).wpc.burst = none
        ∧ (heating .heat (some ⟨65, true⟩) 64 0 false).wpc.highLevel = false)
      ∧ (Rests (heating .dose none 20 0 false) ∧ runningIn (heating .dose none 20 0 false) .dose = true)
      ∧ (Rests (heating .circulate (some ⟨65, false⟩) 64 1 true)
        ∧ runningIn (heating .circulate (some ⟨65, false⟩) 64 1 true) .circulate = true
        ∧ (heating .circulate (some ⟨65, false⟩) 64 1 true).htc.lossCount = 1
        ∧ (heating .circulate (some ⟨65, false⟩) 64 1 true).seq.topUpMark = true)
      ∧ (Rests (heating .heat (some ⟨65, true⟩) 64 1 true) ∧ runningIn (heating .heat (some ⟨65, true⟩) 64 1 true) .heat = true
        ∧ 0 < wash.holdTime) := by
  and_intros <;> decide +kernel

/-- The schedule at a zone with slots given, an arm stalled so often, the diverter fixed or not. -/
def spraying (given stalls : Nat) (fixed : Bool) : State :=
  { ready with
    czs := { ready.czs with
      pump := true, reading := true, confirmed := true, started := true, weights := ⟨2, 1, 0, 1⟩, slotLength := 30
      zone := some .z1, position := some .z1, slotsGiven := given, slotTime := 30, fixed := fixed, stall1 := stalls
      arm1 := some 8 } }

/-- The diverter on its way. -/
def diverting (homing : Bool) (z : Zone) : State :=
  { spraying 1 0 false with
    czs := { (spraying 1 0 false).czs with zone := some .z2, position := none, move := some ⟨homing, z, 6⟩, arm1 := none } }

theorem witness_SlotsTheDiverterAndTheArms :
    (Rests (spraying 1 0 false) ∧ slotCounts (spraying 1 0 false) = true ∧ (spraying 1 0 false).czs.zone = some .z1
        ∧ (spraying 1 0 false).czs.position = some .z1
        ∧ (spraying 1 0 false).czs.slotsGiven < perZoneGet (spraying 1 0 false).czs.weights .z1)
      ∧ (Rests (spraying 2 0 false) ∧ slotCounts (spraying 2 0 false) = true
        ∧ perZoneGet (spraying 2 0 false).czs.weights .z1 ≤ (spraying 2 0 false).czs.slotsGiven
        ∧ (zonesAfter .z1).find? (fun y => decide (0 < perZoneGet (spraying 2 0 false).czs.weights y)) = some .z2)
      ∧ (Rests (diverting true .z1) ∧ (diverting true .z1).czs.move = some ⟨true, .z1, 6⟩ ∧ (.z1 : Zone) ≠ .z4
        ∧ (diverting true .z1).part.homings.diverter = false)
      ∧ (Rests (diverting false .z2)) ∧ (spraying 1 0 false).czs.move = none
      ∧ (armSupervised ready .z1 = false ∧ armSupervised (spraying 1 0 false) .z1 = true
        ∧ (armTimer (spraying 1 0 false).czs .z1).isSome = true ∧ armStalls (spraying 1 0 false).czs .z1 = 0)
      ∧ (Rests (spraying 1 1 false) ∧ armStalls (spraying 1 1 false).czs .z1 = 1
        ∧ armSupervised (spraying 1 1 false) .z1 = true)
      ∧ (Rests (spraying 1 1 true) ∧ armSupervised (spraying 1 1 true) .z1 = true ∧ (spraying 1 1 true).czs.fixed = true) := by
  and_intros <;> decide +kernel

/-- A drying in a stage at a count. -/
def drying (st : DryStage) (drive : Drive) (count : Nat) (formOpen retried door : Bool) : State :=
  { ready with
    pins := { ready.pins with home := false }
    ddu := { ready.ddu with
      fitted := true, stage := st, drive := drive, stall := if drive = .stopped then none else some 300, count := count
      formOpen := formOpen, retryUsed := retried, doorOpen := door, gapTarget := 800, gapHeld := 800, openTime := 1
      openLimit := 55 } }

/-- The same in DRY. -/
def inDry (s : State) : State :=
  { s with
    seq := { (inSub .dry).seq with idx := 2, count := 3, table := table3 none none (some (.dry s.ddu.dwell s.ddu.openTime)) } }

theorem witness_DoorEventsReachTheirBlocks :
    (Rests ready ∧ ready.ddu.doorOpen = false)
      ∧ (Rests (inSub .drain) ∧ (inSub .drain).ddu.doorOpen = false ∧ (inSub .drain).seq.state = .running
        ∧ (inSub .drain).seq.sub ≠ .dry ∧ dryingRuns (inSub .drain).ddu = false)
      ∧ (Rests (drying .dwell .stopped 0 true false false) ∧ (drying .dwell .stopped 0 true false false).seq.state ≠ .running
        ∧ (drying .dwell .stopped 0 true false false).seq.state ≠ .waitWater
        ∧ (drying .dwell .stopped 0 true false false).seq.state ≠ .suspended
        ∧ (drying .dwell .stopped 0 true false false).ddu.awaited = false
        ∧ (drying .dwell .stopped 0 true false false).ddu.pendingStart = none)
      ∧ (Rests (inDry (drying .opening .outward 149 true false false))
        ∧ runningIn (inDry (drying .opening .outward 149 true false false)) .dry = true
        ∧ (inDry (drying .opening .outward 149 true false false)).ddu.stage = .opening
        ∧ (inDry (drying .opening .outward 149 true false false)).pins.home = false
        ∧ (inDry (drying .opening .outward 149 true false false)).ddu.count < 150)
      ∧ (150 ≤ (inDry (drying .opening .outward 150 true false false)).ddu.count
        ∧ (inDry (drying .opening .outward 150 true false false)).ddu.retryPause = none)
      ∧ (Rests (drying .none .stopped 0 true false true) ∧ (drying .none .stopped 0 true false true).ddu.doorOpen = true) := by
  and_intros <;> decide +kernel

theorem witness_TheActuatorIsCountedHomedAndStalls :
    (Rests (drying .none .stopped 1200 true false false) ∧ (drying .none .stopped 1200 true false false).ddu.fitted = true)
      ∧ (Rests (drying .opening .outward 798 true false false) ∧ 798 + 1 < 800)
      ∧ (Rests (drying .opening .outward 799 true false false) ∧ 800 ≤ 799 + 1
        ∧ 0 < (drying .opening .outward 799 true false false).ddu.openTime)
      ∧ (Rests (drying .ajar .stopped 781 true false false) ∧ 781 - 1 + 20 ≤ 800
        ∧ (drying .ajar .stopped 781 true false false).pins.home = false)
      ∧ (Rests (drying .none .inward 9 true false false) ∧ (drying .none .inward 9 true false false).ddu.stage ≠ .retracting
        ∧ (drying .none .inward 9 true false false).part.homings.actuator = false)
      ∧ (Rests (drying .retracting .inward 9 true false false)
        ∧ (drying .retracting .inward 9 true false false).ddu.stage = .retracting
        ∧ (drying .retracting .inward 9 true false false).ddu.awaited = false
        ∧ (drying .retracting .inward 9 true false false).ddu.pendingStart = none
        ∧ (drying .retracting .inward 9 true false false).ddu.outcome ≠ .interrupted)
      ∧ (Rests (drying .opening .outward 150 true false false)
        ∧ (drying .opening .outward 150 true false false).ddu.stall.isSome = true)
      ∧ (Rests (drying .opening .outward 149 true false false)
        ∧ (drying .opening .outward 149 true false false).ddu.retryUsed = false)
      ∧ (Rests (drying .opening .outward 149 true true false)
        ∧ (drying .opening .outward 149 true true false).ddu.retryUsed = true) := by
  and_intros <;> decide +kernel

theorem witness_DryingStagesEnd :
    (Rests (drying .dwell .stopped 0 false false false) ∧ (drying .dwell .stopped 0 false false false).ddu.stage = .dwell
        ∧ (drying .dwell .stopped 0 false false false).ddu.formOpen = false
        ∧ (drying .dwell .stopped 0 false false false).ddu.awaited = false)
      ∧ (∃ s : State, Rests s ∧ s.ddu.stage = .dwell ∧ s.ddu.formOpen = false ∧ s.ddu.awaited = true
        ∧ runningIn s .dry = true ∧ currentPhase s = some (.dry s.ddu.dwell s.ddu.openTime)
        ∧ s.seq.count ≤ s.seq.idx + 1)
      ∧ (Rests (drying .dwell .stopped 0 true false false) ∧ (drying .dwell .stopped 0 true false false).ddu.formOpen = true)
      ∧ (Rests (drying .waitCool .stopped 0 true false false)
        ∧ (drying .waitCool .stopped 0 true false false).ddu.stage = .waitCool)
      ∧ (Rests (drying .ajar .stopped 800 true false false) ∧ (drying .ajar .stopped 800 true false false).ddu.stage = .ajar
        ∧ (drying .ajar .stopped 800 true false false).pins.home = false)
      ∧ (Listens (drying .ajar .stopped 800 true false false)
        ∧ (drying .ajar .stopped 800 true false false).ddu.pendingStart = none
        ∧ (drying .ajar .stopped 800 true false false).ddu.fitted = true)
      ∧ (∃ s : State, Rests s ∧ Listens s ∧ s.ddu.pendingStart = none ∧ s.ddu.fitted = false ∧ dryingRuns s.ddu = false) := by
  refine ⟨by and_intros <;> decide +kernel,
    ⟨{ inDry (drying .dwell .stopped 0 false false false) with
      ddu := { (drying .dwell .stopped 0 false false false).ddu with awaited := true } }, ?_⟩,
    by and_intros <;> decide +kernel, by and_intros <;> decide +kernel, by and_intros <;> decide +kernel,
    by and_intros <;> decide +kernel, ⟨{ ready with ddu := { ready.ddu with fitted := false } }, ?_⟩⟩
    <;> and_intros <;> decide +kernel

/-! ## Witnesses: the whole machine -/

/-- A command of each side at a state, and the state after it. -/
theorem witness_SettingsAndFaultedHaveTheirCommands :
    exec (.hold 7#8) (faulted true none) = .next (after (.hold 7#8) (faulted true none))
      ∧ writesSettings (.hold 7#8) = false ∧ mayLeaveFaulted (.hold 7#8) = false
      ∧ (faulted true none).seq.state = .faulted :=
  ⟨rfl, rfl, rfl, rfl⟩

/-- The invariants hold together in a state with a command waiting, whose step answers a next state. -/
def queued : State := { State.reset with pending := [.linkEnable 1#8] }

theorem witness_step_answers : ∃ t, step queued = .next t := ⟨_, rfl⟩

theorem witness_GrantsAgreeIsKept : GrantsAgree queued ∧ GrantsAgree drawing ∧ GrantsAgree (filling .main 0) := by
  and_intros <;> decide +kernel

theorem witness_LinkNoticesAndStoreAreKept : LinkCounts queued ∧ NoticesKept queued ∧ StoreKept queued := by
  refine ⟨?_, ?_, ?_⟩
  · refine ⟨by decide, by decide, by decide, rfl, ?_⟩
    intro n h
    cases h
  · refine ⟨by decide +kernel, ?_, ?_⟩
    · intro n h
      simp [queued, State.reset] at h
      subst h
      rfl
    · intro h
      exact ⟨rfl, rfl, fun h => by cases h⟩
  · refine ⟨by decide, ?_, ?_, by decide, by decide +kernel, rfl⟩
    · intro h hh
      cases hh
    · intro h hh
      cases hh
      decide

/-- A program runs in `inSub .drain`, so the last part says something there. -/
theorem witness_RecordsAndProgramsAreKept :
    ConfigInRange queued ∧ LevelsKept queued ∧ ProgramKept queued ∧ programRuns (inSub .drain) = true
      ∧ ProgramKept (inSub .drain) ∧ TableInRange queued := by
  refine ⟨?_, ?_, fun h => absurd h (by decide +kernel), by decide +kernel,
    fun _ => ⟨by decide +kernel, by decide +kernel, by decide +kernel, by decide +kernel⟩, by decide, ?_⟩
  · have all : ∀ id : Fin 28, ((paramRange id.val).all fun r =>
        decide (r.1 ≤ paramGet queued.cfg id.val ∧ paramGet queued.cfg id.val ≤ r.2)) = true := by decide +kernel
    intro id r h
    simpa [h] using all id
  · intro ch
    cases ch <;> decide +kernel
  · intro i p h
    have none : ∀ i : Fin 12, queued.seq.table[i].isNone = true := by decide +kernel
    simpa [h] using none i

theorem witness_ColumnsAndFloodAreKept : GrantsAgree queued ∧ ColumnsPlaced queued ∧ FloodHeld queued := by
  refine ⟨by and_intros <;> decide +kernel, ⟨by decide +kernel, by decide +kernel, by decide +kernel, by decide +kernel,
    by decide +kernel, ?_, ?_⟩, by and_intros <;> decide +kernel⟩ <;> intro c hc <;> cases hc

theorem witness_OutputsFollowTheirConditions : OutputsFollow queued ∧ OutputsFollow ready := by
  constructor <;> and_intros <;> decide +kernel

theorem witness_DryingIsKept : DryingKept queued ∧ DryingKept (inDry (drying .dwell .stopped 0 true false false)) := by
  constructor <;> and_intros <;> decide +kernel

theorem witness_AFrameDoesWhatItsRequestRowDoes :
    ready.lnk.assembling = false ∧ (Instr.setConfig 7#8 4#8 100#32).request? = some (7#8, .setConfig 4#8 100#32) :=
  ⟨rfl, rfl⟩

/-! ## Witnesses: clauses beside those above -/

/-- HOLDING after the phase given, the door open or not. -/
def heldAfter (idx : Nat) (door : Bool) (errors : Nat) : State :=
  { linked .degraded errors (seqIn .holding .none) with
    seq := { (seqIn .holding .none).seq with idx := idx }, ddu := { ready.ddu with doorOpen := door } }

/-- The wash phase, the wash phase before an open door, the DRY phase; the error count at both its bounds. -/
theorem witness_LossReleasesAHold :
    (Rests (heldAfter 0 false 120) ∧ (heldAfter 0 false 120).lnk.assembling = false
        ∧ linkSends (heldAfter 0 false 120) = true ∧ (heldAfter 0 false 120).seq.state = .holding
        ∧ (heldAfter 0 false 120).lnk.silence.isSome = true ∧ (heldAfter 0 false 120).lnk.errors = 120
        ∧ phaseAt (heldAfter 0 false 120).seq ((heldAfter 0 false 120).seq.idx + 1) = some (.wash .rinse plain)
        ∧ (heldAfter 0 false 120).wpc.inhibit = false ∧ (heldAfter 0 false 120).wpc.burst = none
        ∧ (heldAfter 0 false 120).wpc.highLevel = false)
      ∧ (Rests (heldAfter 0 true 247) ∧ (heldAfter 0 true 247).ddu.doorOpen = true
        ∧ (heldAfter 0 true 247).lnk.errors = 247 ∧ linkSends (heldAfter 0 true 247) = true)
      ∧ (Rests (heldAfter 1 false 120)
        ∧ phaseAt (heldAfter 1 false 120).seq ((heldAfter 1 false 120).seq.idx + 1) = some (.dry 300 1800)
        ∧ (heldAfter 1 false 120).ddu.awaited = false ∧ (heldAfter 1 false 120).ddu.stage ≠ .retracting) := by
  and_intros <;> decide +kernel

/-- The last write of a shutdown while the diverter moves. -/
def lastWriteDiverting : State := { lastWrite with czs := { ready.czs with move := some ⟨true, .z1, 6⟩ } }

theorem witness_RetainedWriteEnds_diverter :
    lastWrite.czs.move = none
      ∧ (lastWriteDiverting.part.powered = true ∧ lastWriteDiverting.rst.writing = some (.faults [])
        ∧ lastWriteDiverting.part.state = .shuttingDown ∧ lastWriteDiverting.part.writesAsked = true
        ∧ lastWriteDiverting.part.abrupt = false ∧ lastWriteDiverting.rst.pendingWrites = []
        ∧ lastWriteDiverting.reports = [] ∧ lastWriteDiverting.czs.move = some ⟨true, .z1, 6⟩
        ∧ lastWriteDiverting.wpc.holder = .none ∧ lastWriteDiverting.wpc.fill = none
        ∧ lastWriteDiverting.wpc.regen = none ∧ lastWriteDiverting.rge.state = .idle) := by
  and_intros <;> decide +kernel

/-- Three columns, asked anew out of place, and two. -/
theorem witness_FittedColumns_inForce :
    Listens (inSub .heat) ∧ (inSub .heat).cfg.fitted = (3#32 : Word).toNat ∧ (inSub .heat).seq.state ≠ .idle
      ∧ (inSub .heat).seq.state ≠ .ended ∧ Listens dwelling ∧ dwelling.rge.state ≠ .idle := by
  and_intros <;> decide +kernel

/-- DSU PAUSED with a prime queued. -/
def pausedPrime : State :=
  { dosing .paused [prime .queued 0 1 0] [] none none none with
    dsu := { (dosing .paused [prime .queued 0 1 0] [] none none none).dsu with pause := true } }

theorem witness_ShutdownNormal_primes :
    Listens pausedPrime ∧ Rests pausedPrime ∧ pausedPrime.seq.state = .idle ∧ pausedPrime.dsu.stroke = none
      ∧ pausedPrime.dsu.move = none ∧ pausedPrime.dsu.state ≠ .idle
      ∧ pausedPrime.dsu.batch ++ pausedPrime.dsu.waiting ≠ []
      ∧ (pausedPrime.dsu.batch ++ pausedPrime.dsu.waiting).getLast? = some (prime .queued 0 1 0) := by
  and_intros <;> decide +kernel

theorem witness_ResetSequencer_faulted :
    Listens (faulted false (some ⟨.pumping 5, false⟩)) ∧ Rests (faulted false (some ⟨.pumping 5, false⟩))
      ∧ (faulted false (some ⟨.pumping 5, false⟩)).seq.state = .faulted := by
  and_intros <;> decide +kernel

/-- The boundary into the next phase, from CIRCULATE, from an extension, from a drain that has run on. -/
theorem witness_NextPhase :
    (Awake (circulating plain 2 false) ∧ GrantsAgree (circulating plain 2 false)
        ∧ (circulating plain 2 false).seq.state = .running ∧ currentWash (circulating plain 2 false) = some plain
        ∧ (circulating plain 2 false).seq.sub = .circulate ∧ plain.drain = false
        ∧ nextPhaseStays (circulating plain 2 false) = true ∧ (circulating plain 2 false).seq.holdPending = false
        ∧ (circulating plain 2 false).seq.idx + 1 < (circulating plain 2 false).seq.count
        ∧ currentPhase (circulating plain 2 false) = some (.wash .main plain)
        ∧ phaseAt (circulating plain 2 false).seq 1 = some (.wash .rinse plain)
        ∧ (circulating plain 2 false).ddu.doorOpen = false ∧ (circulating plain 2 false).wpc.burst = none)
      ∧ (Awake (extending 2 false) ∧ GrantsAgree (extending 2 false) ∧ nextPhaseStays (extending 2 false) = true
        ∧ (extending 2 false).seq.extension.isSome = true ∧ (extending 2 false).seq.holdPending = false
        ∧ (extending 2 false).seq.idx + 1 < (extending 2 false).seq.count)
      ∧ (Awake (draining (extending 2 false) (.runOn 15) false) ∧ GrantsAgree (draining (extending 2 false) (.runOn 15) false)
        ∧ (draining (extending 2 false) (.runOn 15) false).wpc.seqDrain = some ⟨.runOn 15, false⟩
        ∧ runningIn (draining (extending 2 false) (.runOn 15) false) .drain = true
        ∧ extensionHolds (draining (extending 2 false) (.runOn 15) false) = false
        ∧ (draining (extending 2 false) (.runOn 15) false).sfu.regenQ = [])
      ∧ (draining (extending 1 false) (.runOn 15) false).sfu.regenQ = [] := by
  and_intros <;> decide +kernel

/-- SUSPENDED in a phase given, the door closed for the settling time. -/
def settlingIn (w : WashRecord) (what : Remembered) (begun : Bool) (placed : List Nat) : State :=
  { settling what with
    seq := { (settling what).seq with
      fillBegun := begun, placed := placed, table := table3 (some (.wash .main w)) (some (.wash .rinse plain)) none, count := 2 } }

/-- The sequencer's dose paused in its place. -/
def settlingDose (sel : Channel) : State :=
  { settlingIn wash (.sub .dose) true [0] with
    dsu := { ready.dsu with state := .paused, pause := true, batch := [dose 9 0], selector := some sel } }

/-- A HEAT to resume at its target, with no hold time, with or without a drain to follow. -/
def instant (drain : Bool) : WashRecord := { wash with target := 30, holdTime := 0, drain := drain, sample := false }
def hot (drain : Bool) : State :=
  { settlingIn (instant drain) (.sub .heat) true [] with htc := { ready.htc with temp := some 30, lastValid := some 30 } }

theorem witness_SettlingResumesDoseHeatAndANewFill :
    (Rests (settlingIn wash (.sub .fill) false []) ∧ (settlingIn wash (.sub .fill) false []).seq.state = .suspended
        ∧ (settlingIn wash (.sub .fill) false []).seq.settling.isSome = true
        ∧ (settlingIn wash (.sub .fill) false []).ddu.doorOpen = false
        ∧ currentWash (settlingIn wash (.sub .fill) false []) = some wash
        ∧ (settlingIn wash (.sub .fill) false []).seq.remembered = .sub .fill
        ∧ (settlingIn wash (.sub .fill) false []).seq.fillBegun = false
        ∧ (settlingIn wash (.sub .fill) false []).wpc.inhibit = false
        ∧ (settlingIn wash (.sub .fill) false []).wpc.burst = none
        ∧ (settlingIn wash (.sub .fill) false []).wpc.highLevel = false
        ∧ (settlingIn wash (.sub .fill) false []).sfu.fill.isOpen = false)
      ∧ (Rests (settlingIn wash (.sub .dose) true [0]) ∧ (settlingIn wash (.sub .dose) true [0]).seq.placed ≠ []
        ∧ (settlingIn wash (.sub .dose) true [0]).dsu.state ≠ .paused)
      ∧ (Rests (settlingDose .d1) ∧ (settlingDose .d1).seq.placed ≠ [] ∧ (settlingDose .d1).dsu.stroke = none
        ∧ (settlingDose .d1).dsu.move = none ∧ (settlingDose .d1).dsu.batch.head? = some (dose 9 0)
        ∧ (dose 9 0).state = .active ∧ (settlingDose .d1).dsu.selector = some (dose 9 0).channel
        ∧ (dose 9 0).strokeVolume ≤ (reservoirOf (settlingDose .d1).dsu .d1).level)
      ∧ (Rests (settlingDose .d2) ∧ (settlingDose .d2).dsu.selector = some .d2 ∧ (.d2 : Channel) ≠ (dose 9 0).channel)
      ∧ (Rests (settlingIn plain (.sub .dose) true []) ∧ (settlingIn plain (.sub .dose) true []).seq.placed = []
        ∧ (settlingIn plain (.sub .dose) true []).dsu.state ≠ .paused ∧ 0 < plain.holdTime ∧ plain.target = 0)
      ∧ (Rests (hot true) ∧ (hot true).seq.remembered = .sub .heat ∧ (instant true).holdTime = 0
        ∧ currentWash (hot true) = some (instant true) ∧ (hot true).htc.temp = some 30 ∧ (instant true).target ≤ 30
        ∧ (instant true).drain = true)
      ∧ (Rests (hot false) ∧ currentWash (hot false) = some (instant false) ∧ (instant false).drain = false
        ∧ nextPhaseStays (hot false) = true) := by
  and_intros <;> decide +kernel

/-- Column A in service at a record, a main fill under way at one millilitre a pulse, the ready queue given. -/
def servingAt (count : Nat) (a : ColRec) (readyQ retired : List Column) (blend : Nat) : State :=
  let s := filling .main count
  { s with
    wpc := { s.wpc with latchedK := 1000 }
    sfu := { s.sfu with colA := a, ready := readyQ, retired := retired, rho := 80, blend := blend } }

/-- The switch reserve met and passed: 670320 hundredths a millilitre and 80 kept are 6704 nmol. -/
theorem witness_TheServingColumnIsExhausted :
    (Awake (servingAt 2834 ⟨1006704, false, 40, false⟩ [] [.b, .c] 69)
        ∧ GrantsAgree (servingAt 2834 ⟨1006704, false, 40, false⟩ [] [.b, .c] 69)
        ∧ (servingAt 2834 ⟨1006704, false, 40, false⟩ [] [.b, .c] 69).rge.state = .idle
        ∧ (servingAt 2834 ⟨1006704, false, 40, false⟩ [] [.b, .c] 69).sfu.regenQ = []
        ∧ (servingAt 2834 ⟨1006704, false, 40, false⟩ [] [.b, .c] 69).wpc.residue < 1000
        ∧ ((servingAt 2834 ⟨1006704, false, 40, false⟩ [] [.b, .c] 69).wpc.residue + 1000) / 1000 = 1
        ∧ (servingAt 2834 ⟨1006704, false, 40, false⟩ [] [.b, .c] 69).wpc.fill = some ⟨3000, .main, true⟩
        ∧ (servingAt 2834 ⟨1006704, false, 40, false⟩ [] [.b, .c] 69).sfu.service = some .a
        ∧ (servingAt 2834 ⟨1006704, false, 40, false⟩ [] [.b, .c] 69).sfu.valveFault = false
        ∧ (servingAt 2834 ⟨1006704, false, 40, false⟩ [] [.b, .c] 69).wpc.grantCount + 1 < 3000
        ∧ 1006704 - (80 + 720 * (1000 - 69)) / 100 = 1000000
        ∧ 1000000 ≤ (servingAt 2834 ⟨1006704, false, 40, false⟩ [] [.b, .c] 69).cfg.reserve)
      ∧ (Awake (servingAt 2834 ⟨1006704, false, 40, false⟩ [.b] [.c] 69)
        ∧ GrantsAgree (servingAt 2834 ⟨1006704, false, 40, false⟩ [.b] [.c] 69)
        ∧ (servingAt 2834 ⟨1006704, false, 40, false⟩ [.b] [.c] 69).sfu.ready.head? = some .b ∧ (.b : Column) ≠ .a)
      ∧ (Awake (servingAt 2998 ⟨0, true, 40, false⟩ [] [.b, .c] 69)
        ∧ GrantsAgree (servingAt 2998 ⟨0, true, 40, false⟩ [] [.b, .c] 69)
        ∧ (servingAt 2998 ⟨0, true, 40, false⟩ [] [.b, .c] 69).wpc.grantCount + 1 < 3000
        ∧ (servingAt 2998 ⟨0, true, 40, false⟩ [] [.b, .c] 69).sfu.fill.breakthrough = 0)
      ∧ (Awake (servingAt 2999 ⟨0, true, 40, false⟩ [] [.b, .c] 69)
        ∧ GrantsAgree (servingAt 2999 ⟨0, true, 40, false⟩ [] [.b, .c] 69)
        ∧ (servingAt 2999 ⟨0, true, 40, false⟩ [] [.b, .c] 69).wpc.grantCount < 3000
        ∧ 3000 ≤ (servingAt 2999 ⟨0, true, 40, false⟩ [] [.b, .c] 69).wpc.grantCount + 1
        ∧ runningIn (servingAt 2999 ⟨0, true, 40, false⟩ [] [.b, .c] 69) .fill = true
        ∧ (servingAt 2999 ⟨0, true, 40, false⟩ [] [.b, .c] 69).sfu.fill.isOpen = true
        ∧ currentWash (servingAt 2999 ⟨0, true, 40, false⟩ [] [.b, .c] 69) = some wash ∧ 0 < wash.holdTime) := by
  and_intros <;> decide +kernel

/-- DRAIN of phase 0 under an extension or not, the engine in a state at its volumes. -/
def inDrain (s : State) (ext : Option Nat) : State :=
  { s with
    seq := { (inSub .drain).seq with extension := ext, permit := true }
    wpc := { s.wpc with seqDrain := some ⟨.kept, false⟩, drainPump := true } }

theorem witness_TheEngineMeetsAProgramDrain :
    (∀ e ∈ ([none, some 3] : List (Option Nat)),
        Awake (inDrain (drawnTo 159) e) ∧ GrantsAgree (inDrain (drawnTo 159) e)
        ∧ regenMayFlow (inDrain (drawnTo 159) e) = true ∧ (inDrain (drawnTo 159) e).wpc.fill = none
        ∧ (inDrain (drawnTo 159) e).wpc.floodReq = none ∧ permitCondition (inDrain (drawnTo 159) e) = true
        ∧ (inDrain (drawnTo 159) e).wpc.drainPump = pumpAsked (inDrain (drawnTo 159) e).wpc
        ∧ runningIn (inDrain (drawnTo 159) e) .drain = true ∧ (inDrain (drawnTo 159) e).sfu.fill.isOpen = false
        ∧ (inDrain (drawnTo 159) e).wpc.residue < (inDrain (drawnTo 159) e).wpc.latchedK
        ∧ (inDrain (drawnTo 159) e).rge.brineDrawn < (inDrain (drawnTo 159) e).rge.brineTarget
        ∧ (inDrain (drawnTo 159) e).rge.brineTarget ≤ (inDrain (drawnTo 159) e).rge.brineDrawn + 2
        ∧ (inDrain (drawnTo 159) e).seq.extension = e ∧ (inDrain (drawnTo 159) e).rge.column = some .b)
      ∧ (∀ e ∈ ([none, some 3] : List (Option Nat)),
        Awake (inDrain (rinsedTo 319) e) ∧ GrantsAgree (inDrain (rinsedTo 319) e)
        ∧ regenMayFlow (inDrain (rinsedTo 319) e) = true ∧ permitCondition (inDrain (rinsedTo 319) e) = true
        ∧ (inDrain (rinsedTo 319) e).wpc.drainPump = pumpAsked (inDrain (rinsedTo 319) e).wpc
        ∧ (inDrain (rinsedTo 319) e).rge.state = .rinse ∧ (inDrain (rinsedTo 319) e).rge.saltMark = false
        ∧ (inDrain (rinsedTo 319) e).rge.rinseDelivered < (inDrain (rinsedTo 319) e).rge.rinseTarget
        ∧ (inDrain (rinsedTo 319) e).rge.rinseTarget ≤ (inDrain (rinsedTo 319) e).rge.rinseDelivered + 2
        ∧ (inDrain (rinsedTo 319) e).rge.timeout = .none
        ∧ (inDrain (rinsedTo 319) e).cfg.reserve < (inDrain (rinsedTo 319) e).cfg.nominal * 1000000
        ∧ (inDrain (rinsedTo 319) e).sfu.regenQ = [] ∧ (inDrain (rinsedTo 319) e).sfu.service = some .a
        ∧ (.a : Column) ≠ .b ∧ (columnRec (inDrain (rinsedTo 319) e).sfu .a).exhausted = false) := by
  decide +kernel

theorem witness_StageLimitsInAProgramDrain :
    ∀ e ∈ ([none, some 3] : List (Option Nat)),
      (Awake (inDrain drawing e) ∧ GrantsAgree (inDrain drawing e) ∧ (inDrain drawing e).wpc.fill = none
        ∧ (inDrain drawing e).sfu.regenQ = [] ∧ (inDrain drawing e).sfu.ready = []
        ∧ runningIn (inDrain drawing e) .drain = true ∧ (inDrain drawing e).sfu.fill.isOpen = false
        ∧ (inDrain drawing e).rge.column = some .b ∧ (inDrain drawing e).rge.state = .brineDraw)
      ∧ (Awake (inDrain rinsing e) ∧ GrantsAgree (inDrain rinsing e) ∧ (inDrain rinsing e).rge.state = .rinse) := by
  decide +kernel

/-- A column waiting behind a valve fault; the engine's column in a program's drain under an extension. -/
def waitingB : State := { ready with sfu := { ready.sfu with ready := [], regenQ := [.b], valveFault := true } }

theorem witness_RetireTakesAColumn_more :
    (Listens waitingB ∧ Awake waitingB ∧ columnState waitingB .b = .waiting ∧ waitingB.wpc.holder = .none
        ∧ waitingB.wpc.fill = none ∧ waitingB.wpc.regen = none ∧ waitingB.rge.state = .idle
        ∧ waitingB.sfu.valveFault = true ∧ waitingB.sfu.regenQ.filter (· ≠ .b) = [])
      ∧ (Listens (inDrain drawing (some 3)) ∧ GrantsAgree (inDrain drawing (some 3))
        ∧ columnState (inDrain drawing (some 3)) .b = .regenerating ∧ (inDrain drawing (some 3)).sfu.regenQ = []
        ∧ runningIn (inDrain drawing (some 3)) .drain = true ∧ (inDrain drawing (some 3)).wpc.fill = none
        ∧ (inDrain drawing (some 3)).seq.extension.isSome = true)
      ∧ (drawing.seq.extension = none ∧ drawing.wpc.highLevel = false) := by
  and_intros <;> decide +kernel

/-- STARTING with the valve's homing alone or beside another. -/
def homingIn (selector : Bool) (p : ValvePos) : State :=
  { ready with
    part := { ready.part with state := .starting, homings := ⟨true, false, selector, false⟩, homingFaults := [.selector] }
    sfu := { ready.sfu with ready := [], retired := [.b, .c], valvePos := none, valveMove := some ⟨p, 8, true⟩ } }

theorem witness_TheLastHomingEndsStarting :
    ∀ other : Bool, (homingIn other (.column .a)).part.powered = true ∧ (homingIn other (.column .a)).part.state = .starting
      ∧ (homingIn other (.column .a)).reports = [] ∧ (homingIn other (.column .a)).wpc.holder = .none
      ∧ (homingIn other (.column .a)).wpc.fill = none ∧ (homingIn other (.column .a)).wpc.regen = none
      ∧ (homingIn other (.column .a)).rge.state = .idle ∧ (homingIn other (.column .a)).sfu.regenQ = []
      ∧ (homingIn other (.column .a)).sfu.ready = [] ∧ (homingIn other (.column .a)).part.homings.valve = true
      ∧ (homingIn other (.column .a)).sfu.valveMove = some ⟨.column .a, 8, true⟩
      ∧ ((homingIn other (.column .a)).part.homings = ⟨true, false, false, false⟩ ↔ other = false) := by
  decide +kernel

/-- STANDBY, woken by the salt lid and by the door. -/
theorem witness_WakesOfSwitches :
    ((partIn .standby ready).part.powered = true ∧ (partIn .standby ready).part.state = .standby
        ∧ Still { partIn .standby ready with part := { (partIn .standby ready).part with state := .ready } }
        ∧ (partIn .standby ready).seq.state = .idle ∧ (partIn .standby ready).rge.lidOpen ≠ true
        ∧ (partIn .standby ready).ddu.doorOpen ≠ true ∧ (partIn .standby ready).ddu.stage = .none)
      ∧ ready.rge.lidOpen = false := by
  and_intros <;> decide +kernel

/-- A prime whose stroke is the last or the third in turn; a request of the sequencer at each of its ends, in RUNNING DOSE;
the volumes at both ends of their range. -/
def stroking (r : DoseReq) : State :=
  { dosing .serving [r] [] (some .d1) none (some 400) with
    seq := { (inSub .dose).seq with placed := [r.arrival], permit := false } }

theorem witness_Strokes_running (v : Nat) (h : v = 10 ∨ v = 50) :
    (∀ r ∈ ([prime .active 1 2 1, prime .active 3 9 2, prime .active 2 2 0, dose 9 0, dose 93 0, dose 9 1, dose 9 2] : List DoseReq),
      Rests (stroking { r with strokeVolume := v }) ∧ (stroking { r with strokeVolume := v }).dsu.stroke.isSome = true
      ∧ (stroking { r with strokeVolume := v }).dsu.move = none ∧ (stroking { r with strokeVolume := v }).dsu.pause = false
      ∧ (stroking { r with strokeVolume := v }).dsu.waiting = []
      ∧ (stroking { r with strokeVolume := v }).dsu.batch.head? = some { r with strokeVolume := v }
      ∧ (stroking { r with strokeVolume := v }).dsu.batch.tail = [] ∧ r.cancel = false ∧ r.state = .active
      ∧ 10 ≤ v ∧ v ≤ 50 ∧ (stroking { r with strokeVolume := v }).dsu.selector = some r.channel
      ∧ runningIn (stroking { r with strokeVolume := v }) .dose = true
      ∧ currentWash (stroking { r with strokeVolume := v }) = some wash ∧ 0 < wash.holdTime
      ∧ 2 * v ≤ (reservoirOf (stroking { r with strokeVolume := v }).dsu .d1).level
      ∧ (stroking { r with strokeVolume := v }).seq.placed = [0])
      ∧ ((prime .active 1 2 1).confirmations < 2 ∧ (prime .active 1 2 1).commanded < (prime .active 1 2 1).target)
      ∧ (2 ≤ (prime .active 3 9 2).confirmations ∧ (prime .active 2 2 0).target ≤ (prime .active 2 2 0).commanded)
      ∧ ((dose 9 0).confirmed + 1 < (dose 9 0).target ∧ (dose 93 0).target ≤ (dose 93 0).confirmed + 1)
      ∧ ((dose 9 1).misses < 2 ∧ (dose 9 2).misses = 2)
      ∧ (0 < wash.target ∧ ready.seq.heaterOff = false ∧ ready.htc.valid = true ∧ 0 < wash.heatLimit
        ∧ ready.htc.temp = some 20 ∧ 20 < wash.target ∧ [0].erase (dose 9 2).arrival = []) := by
  rcases h with rfl | rfl <;> refine ⟨?_, by decide +kernel⟩ <;> decide +kernel

/-- The pulse that ends a main fill in bypass service, with the doses of the wash phase and with none. -/
def lastPulse (w : WashRecord) : State :=
  { served 2999 none {} 0 with seq := { (served 2999 none {} 0).seq with table := table3 (some (.wash .main w)) none none } }

theorem witness_TheFillLeadsToTheDose :
    ∀ w ∈ ([wash, plain] : List WashRecord),
      Awake (lastPulse w) ∧ GrantsAgree (lastPulse w) ∧ (lastPulse w).rge.state = .idle ∧ (lastPulse w).sfu.regenQ = []
      ∧ (lastPulse w).sfu.service = none ∧ (lastPulse w).sfu.ready = [] ∧ 200 ≤ (lastPulse w).wpc.latchedK
      ∧ (lastPulse w).wpc.residue < (lastPulse w).wpc.latchedK
      ∧ (lastPulse w).wpc.fill = some ⟨3000, .main, true⟩ ∧ (lastPulse w).wpc.grantCount < 3000
      ∧ 3000 ≤ (lastPulse w).wpc.grantCount + ((lastPulse w).wpc.residue + 1000) / (lastPulse w).wpc.latchedK
      ∧ runningIn (lastPulse w) .fill = true ∧ (lastPulse w).sfu.fill.isOpen = true ∧ (lastPulse w).seq.placed = []
      ∧ (lastPulse w).dsu.state = .idle ∧ (lastPulse w).dsu.batch = [] ∧ (lastPulse w).dsu.waiting = []
      ∧ (lastPulse w).dsu.next < 256 ∧ currentWash (lastPulse w) = some w ∧ 0 < w.holdTime ∧ w.refs.length ≤ 2
      ∧ (w.refs.map (·.channel)).Nodup := by
  decide +kernel

/-- D1 at the worked hardness of 276 and soil index 4, in the order of the references; a reference to a reservoir that is
not fitted is passed over. -/
theorem test_doses_asked :
    dosesAsked { ready with seq := { ready.seq with soil := 4 } } { wash with fillVolume := 4500, refs := [⟨.d1, 200, 400⟩] } 4500 276
        = [(.d1, doseOf 200 (hardnessFactor ready.cfg .d1 276) (soilFactor ready.cfg .d1 4) 1000 1000 400)]
      ∧ dosesAsked (noBooster ready) { wash with refs := [⟨.d3, 200, 400⟩] } 3000 276 = [] := by
  decide +kernel

/-- A stall begun this second, a pulse of this second. -/
theorem witness_SlotsAndArms_together :
    (Rests { spraying 1 0 false with czs := { (spraying 1 0 false).czs with slotOfStall := true } }
        ∧ (spraying 1 0 false).czs.slotOfStall = false ∧ (spraying 1 0 false).czs.pulsed ≠ some .z1)
      ∧ (Rests (spraying 1 0 false) ∧ (spraying 1 0 false).czs.zone = some (zoneOfArm .z1)
        ∧ (spraying 1 0 false).czs.fixed = false)
      ∧ (anyWeight (perZoneSet (spraying 1 1 false).czs.weights (zoneOfArm .z1) 0) = true) := by
  and_intros <;> decide +kernel

/-- A drying whose end the program awaits, in DRY. -/
def awaitedDry (st : DryStage) (drive : Drive) (count : Nat) (door : Bool) : State :=
  { inDry (drying st drive count true false door) with
    ddu := { (drying st drive count true false door).ddu with awaited := true } }

theorem witness_DoorEvents_running :
    (Rests (awaitedDry .dwell .stopped 0 false) ∧ (awaitedDry .dwell .stopped 0 false).ddu.doorOpen = false
        ∧ runningIn (awaitedDry .dwell .stopped 0 false) .dry = true
        ∧ (awaitedDry .dwell .stopped 0 false).seq.count ≤ (awaitedDry .dwell .stopped 0 false).seq.idx + 1
        ∧ (awaitedDry .dwell .stopped 0 false).ddu.awaited = true
        ∧ (awaitedDry .dwell .stopped 0 false).ddu.pendingStart = none
        ∧ (currentPhase (awaitedDry .dwell .stopped 0 false)).isSome = true)
      ∧ (Rests (awaitedDry .waitCool .stopped 0 false) ∧ (awaitedDry .waitCool .stopped 0 false).ddu.stage = .waitCool)
      ∧ (Rests (awaitedDry .ajar .stopped 800 false) ∧ runningIn (awaitedDry .ajar .stopped 800 false) .dry = true
        ∧ (awaitedDry .ajar .stopped 800 false).ddu.stage = .ajar)
      ∧ (Rests waiting ∧ waiting.seq.state = .waitWater ∧ waiting.ddu.doorOpen = false ∧ dryingRuns waiting.ddu = false)
      ∧ (Rests (settling (.sub .drain)) ∧ (settling (.sub .drain)).seq.state = .suspended
        ∧ dryingRuns (settling (.sub .drain)).ddu = false)
      ∧ (Rests { settling (.sub .drain) with ddu := { ready.ddu with doorOpen := true } }) := by
  and_intros <;> decide +kernel

theorem witness_HomeInAjar :
    (Rests (awaitedDry .ajar .stopped 800 false) ∧ (awaitedDry .ajar .stopped 800 false).ddu.fitted = true
        ∧ (awaitedDry .ajar .stopped 800 false).ddu.stage = .ajar
        ∧ (awaitedDry .ajar .stopped 800 false).ddu.drive = .stopped
        ∧ 20 ≤ (awaitedDry .ajar .stopped 800 false).ddu.gapHeld
        ∧ (awaitedDry .ajar .stopped 800 false).ddu.pendingStart = none
        ∧ (awaitedDry .ajar .stopped 800 false).ddu.awaited = true
        ∧ runningIn (awaitedDry .ajar .stopped 800 false) .dry = true
        ∧ (awaitedDry .ajar .stopped 800 false).seq.count ≤ (awaitedDry .ajar .stopped 800 false).seq.idx + 1)
      ∧ (Rests (drying .ajar .stopped 800 true false false) ∧ (drying .ajar .stopped 800 true false false).ddu.awaited = false)
      := by
  and_intros <;> decide +kernel

/-- R156: the pulse that comes with the stall voids it; the stall that comes with the slot's end voids that. -/
theorem test_pulse_voids_stall :
    (after (.armTimerExpiry .z1) (after (.armRotationPulse .z1) (spraying 1 0 false))).czs.stall1 = 0 := by decide +kernel

theorem test_stall_voids_slot_end :
    (after .slotTimeExpiry (after (.armTimerExpiry .z1) (spraying 1 0 false))).czs.zone
      = (after (.armTimerExpiry .z1) (spraying 1 0 false)).czs.zone := by decide +kernel

/-- R126: a cancellation that finds no request leaves the pause. -/
theorem test_cancel_finds_none : (cancelSequencerDoses pausedPrime).dsu = pausedPrime.dsu := by decide +kernel

/-- Table 44: a payload of 198 bytes gives the length 200. -/
theorem test_longest_frame : (Frame.mk 1#8 2#8 (List.replicate 198 0#8)).body.head? = some 200#8 := by decide +kernel

/-! ## Witnesses: boundaries that rest, homings, door and shutdown -/

/-- A boundary rests behind the last phase, behind a hold, and before a phase whose fill runs. -/
theorem witness_BoundaryRests :
    (BoundaryRests (circulating plain 1 false) ∧ BoundaryRests (circulating plain 2 true)
        ∧ BoundaryRests (circulating plain 2 false) ∧ (circulating plain 2 false).seq.holdPending = false)
      ∧ (Awake (extending 2 false) ∧ GrantsAgree (extending 2 false) ∧ BoundaryRests (extending 2 false))
      ∧ BoundaryRests (draining (extending 2 false) (.runOn 15) false)
      ∧ (Rests (hot false) ∧ (instant false).drain = false ∧ BoundaryRests (hot false)) := by
  and_intros <;> decide +kernel

theorem witness_ResetSequencer_ended :
    Listens { seqIn .ended .none with wpc := { ready.wpc with seqDrain := some ⟨.runOn 3, false⟩ } }
      ∧ Rests { seqIn .ended .none with wpc := { ready.wpc with seqDrain := some ⟨.runOn 3, false⟩ } } := by
  and_intros <;> decide +kernel

theorem witness_LinkEnable_inShut :
    ∀ st ∈ ([(.up, 95), (.degraded, 127), (.down, 0), (.lost, 128)] : List (LinkState × Nat)),
      (linked st.1 st.2 (partIn .shut ready)).part.powered = true ∧ (linked st.1 st.2 (partIn .shut ready)).reports = []
      ∧ (linked st.1 st.2 (partIn .shut ready)).lnk.awaiting = none
      ∧ (linked st.1 st.2 (partIn .shut ready)).part.state = .shut
      ∧ (linkSends (linked st.1 st.2 (partIn .shut ready)) = true → (linked st.1 st.2 (partIn .shut ready)).lnk.errors < 128)
      ∧ (linked st.1 st.2 (partIn .shut ready)).wpc.holder = .none ∧ (linked st.1 st.2 (partIn .shut ready)).wpc.fill = none
      ∧ (linked st.1 st.2 (partIn .shut ready)).wpc.regen = none
      ∧ (linked st.1 st.2 (partIn .shut ready)).rge.state = .idle := by
  decide +kernel

/-- The engine's regeneration, with no fill, under a valve fault or none. -/
theorem witness_RetireAndResetSoftener_rest :
    (∀ v : Bool, Listens { drawing with sfu := { drawing.sfu with valveFault := v } }
        ∧ GrantsAgree { drawing with sfu := { drawing.sfu with valveFault := v } }
        ∧ columnState { drawing with sfu := { drawing.sfu with valveFault := v } } .b = .regenerating)
      ∧ (drawing.wpc.fill = none ∧ drawing.rge.timeout = .none ∧ drawing.seq.extension = none
        ∧ drawing.rge.column = some .b ∧ drawing.sfu.regenQ = [] ∧ drawing.wpc.highLevel = false)
      ∧ ((inDrain drawing (some 3)).sfu.fill.isOpen = false ∧ BoundaryRests (inDrain drawing (some 3))
        ∧ (inDrain drawing (some 3)).wpc.highLevel = false) := by
  and_intros <;> decide +kernel

/-- STARTING with all the homings of the diverter, the selector and the actuator, or with one of them alone. -/
def startingWith (h : Homings) : State :=
  { ready with
    part := { ready.part with state := .starting, homings := h, homingFaults := [.columnValve] }
    czs := { ready.czs with position := none, move := some ⟨true, .z1, 8⟩ }
    dsu := { ready.dsu with selector := none, move := some ⟨true, .d1, 8⟩ }
    ddu := { ready.ddu with fitted := true, drive := .inward, stall := some 0, homed := false, count := 40 } }

theorem witness_HomingsEndInStarting :
    (∀ h ∈ ([⟨false, true, true, true⟩, ⟨false, true, false, false⟩, ⟨false, false, true, false⟩, ⟨false, false, false, true⟩]
        : List Homings),
      (startingWith h).part.powered = true ∧ (startingWith h).part.state = .starting ∧ (startingWith h).reports = []
      ∧ (startingWith h).wpc.holder = .none ∧ (startingWith h).wpc.fill = none ∧ (startingWith h).wpc.regen = none
      ∧ (startingWith h).rge.state = .idle ∧ (startingWith h).sfu.regenQ = [] ∧ (startingWith h).dsu.batch = []
      ∧ (startingWith h).part.homings = h ∧ (startingWith h).czs.move = some ⟨true, .z1, 8⟩
      ∧ (startingWith h).dsu.move = some ⟨true, .d1, 8⟩ ∧ (startingWith h).ddu.fitted = true
      ∧ (startingWith h).ddu.drive = .inward ∧ (startingWith h).ddu.stage ≠ .retracting
      ∧ (startingWith h).ddu.stall.isSome = true)
      ∧ (({ diverter := true } : Homings) ≠ {} ∧ { (⟨false, true, false, false⟩ : Homings) with diverter := false } = {}
        ∧ { (⟨false, true, true, true⟩ : Homings) with diverter := false } ≠ {}) := by
  and_intros <;> decide +kernel

/-- RETRACTING in the DRY phase of a program, its end awaited, or a start waiting for it, to be dropped or taken up. -/
def retractingInDry (awaited : Bool) (start : Option DryStart) (drop : Bool) : State :=
  { inDry (drying .retracting .inward 9 true false false) with
    ddu := { (drying .retracting .inward 9 true false false).ddu with
      awaited := awaited, pendingStart := start, dropPending := drop } }

/-- A drying awaited by a program, or none, at home or without an actuator. -/
def atHome (fitted home awaited : Bool) (st : DryStage) : State :=
  { inDry (drying st .stopped 0 true false false) with
    pins := { ready.pins with home := home }
    ddu := { (drying st .stopped 0 true false false).ddu with fitted := fitted, awaited := awaited } }

theorem witness_ResetDoorAtHomeAndPendingStarts :
    (Rests (atHome true true false .done) ∧ Listens (atHome true true false .done)
        ∧ (atHome true true false .done).pins.home = true ∧ (atHome true true false .done).ddu.pendingStart = none
        ∧ dryingRuns (atHome true true false .done).ddu = false)
      ∧ (∀ a : Bool, Rests (atHome true true a .ajar) ∧ Listens (atHome true true a .ajar)
        ∧ dryingRuns (atHome true true a .ajar).ddu = true ∧ runningIn (atHome true true a .ajar) .dry = true
        ∧ (atHome true true a .ajar).seq.count ≤ (atHome true true a .ajar).seq.idx + 1)
      ∧ (Rests (retractingInDry false (some ⟨3, 5⟩) false) ∧ Listens (retractingInDry false (some ⟨3, 5⟩) false)
        ∧ (retractingInDry false (some ⟨3, 5⟩) false).ddu.fitted = true
        ∧ (retractingInDry false (some ⟨3, 5⟩) false).pins.home = false
        ∧ (retractingInDry false (some ⟨3, 5⟩) false).ddu.pendingStart = some ⟨3, 5⟩
        ∧ (retractingInDry false (some ⟨3, 5⟩) false).ddu.stage = .retracting)
      ∧ (∀ a : Bool, Rests (atHome false false a .dwell) ∧ Listens (atHome false false a .dwell)
        ∧ (atHome false false a .dwell).ddu.fitted = false ∧ (atHome false false a .dwell).ddu.pendingStart = none
        ∧ runningIn (atHome false false a .dwell) .dry = true)
      ∧ (Rests (retractingInDry true none false) ∧ (retractingInDry true none false).ddu.drive = .inward
        ∧ runningIn (retractingInDry true none false) .dry = true
        ∧ (retractingInDry true none false).seq.count ≤ (retractingInDry true none false).seq.idx + 1)
      ∧ (∀ drop : Bool, Rests (retractingInDry false (some ⟨1, 5⟩) drop)
        ∧ (retractingInDry false (some ⟨1, 5⟩) drop).ddu.awaited = false
        ∧ (retractingInDry false (some ⟨1, 5⟩) drop).ddu.dropPending = drop
        ∧ (retractingInDry false (some ⟨1, 5⟩) drop).ddu.doorOpen = false) := by
  and_intros <;> decide +kernel

/-- A write under way in a shutdown that has not asked the four writes, its program ENDING or over. -/
def firstWrite (st : SeqState) : State :=
  { lastWrite with part := { lastWrite.part with writesAsked := false }, seq := { ready.seq with state := st } }

theorem witness_AWriteEndsInAShutdown :
    (∀ st ∈ ([.ending, .idle, .ended, .faulted] : List SeqState),
      (firstWrite st).part.powered = true ∧ (firstWrite st).rst.writing = some (.faults [])
      ∧ (firstWrite st).part.state = .shuttingDown ∧ (firstWrite st).reports = [] ∧ (firstWrite st).wpc.holder = .none
      ∧ (firstWrite st).wpc.fill = none ∧ (firstWrite st).wpc.regen = none ∧ (firstWrite st).rge.state = .idle
      ∧ (firstWrite st).part.writesAsked = false ∧ (firstWrite st).part.abrupt = false ∧ (firstWrite st).seq.state = st
      ∧ (firstWrite st).wpc.seqDrain = none ∧ (firstWrite st).wpc.leak = none ∧ (firstWrite st).dsu.state = .idle
      ∧ (firstWrite st).ddu.drive = .stopped)
      ∧ (lastWrite.part.writesAsked = true ∧ lastWrite.rst.pendingWrites = [] ∧ lastWrite.czs.move = none
        ∧ noticeEnabled lastWrite.lnk.mask 20 = true) := by
  and_intros <;> decide +kernel

/-- R50: the recovery drain that stands in ENDED goes with RESET UNIT SEQUENCER. -/
theorem test_reset_in_ended :
    (after (.resetUnitSequencer 1#8)
      { seqIn .ended .none with wpc := { ready.wpc with seqDrain := some ⟨.runOn 3, false⟩ } }).wpc.seqDrain = none := by
  decide +kernel

/-! ## Witnesses: a sound part -/

@[reducible] def waterKept? : DecidablePred WaterKept := fun s => by unfold WaterKept; infer_instance
@[reducible] def floodHeld? : DecidablePred FloodHeld := fun s => by unfold FloodHeld; infer_instance
@[reducible] def programKept? : DecidablePred ProgramKept := fun s => by unfold ProgramKept; infer_instance
@[reducible] def sequencerKept? : DecidablePred SequencerKept := fun s => by unfold SequencerKept; infer_instance
@[reducible] def dryingKept? : DecidablePred DryingKept := fun s => by unfold DryingKept; infer_instance

/-- Whether a part is sound. -/
@[reducible] def sound? : DecidablePred Sound := fun s => by
  unfold Sound
  haveI := waterKept? s
  haveI := floodHeld? s
  haveI := programKept? s
  haveI := sequencerKept? s
  haveI := dryingKept? s
  infer_instance

theorem sound_of_all (l : List State) (h : l.all (fun s => @decide (Sound s) (sound? s)) = true) : ∀ s ∈ l, Sound s :=
  fun s hs => @of_decide_eq_true _ (sound? s) (List.all_eq_true.mp h s hs)

/-- A top-up under way in HEAT. -/
def toppingUp : State := { filling .topUp 299 with seq := (inSub .heat).seq, sfu := ready.sfu }

theorem witness_toppingUp :
    Awake toppingUp ∧ toppingUp.wpc.fill = some ⟨3000, .topUp, true⟩ ∧ toppingUp.seq.sub = .heat := by
  and_intros <;> decide +kernel

/-- The states of the clauses on the water, the engine and the drains. -/
theorem witness_Sound_water : ∀ s ∈ ([filling .main 0, secondLimit, toppingUp, waiting, drawing, rinsing, effluent,
      { drawing with sfu := { drawing.sfu with valveFault := true } }, inDrain drawing none, inDrain drawing (some 3),
      inDrain rinsing none, inDrain rinsing (some 3), draining (inSub .drain) (.pumping 120) true,
      draining wantsDrain (.runOn 15) false, draining (extending 1 false) (.runOn 15) false,
      draining (extending 2 false) (.runOn 15) false, draining (seqIn .ending .none) (.runOn 15) false,
      draining (seqIn .faulted .none) (.runOn 15) false] : List State), Sound s :=
  sound_of_all _ (by decide +kernel)

/-- The states of the clauses on the sequencer's timers. -/
theorem witness_Sound_timers : ∀ s ∈ ([circulating wash 1 false, circulating plain 1 false, circulating plain 2 true,
      circulating plain 2 false, extending 1 false, extending 2 false, extending 2 true, settling .waitWater,
      settling (.sub .drain), settling (.sub .circulate), settling (.sub .heat), settling (.sub .fill),
      settlingIn wash (.sub .fill) false [], settlingIn wash (.sub .dose) true [0], settlingIn plain (.sub .dose) true [],
      settlingDose .d1, settlingDose .d2, hot true, hot false] : List State), Sound s :=
  sound_of_all _ (by decide +kernel)

/-- A DRY phase alone, the part at rest or RETRACTING, the drying mode and the temperature given. -/
def dryAlone (dwell openTime : Nat) (auto door retracting : Bool) (temp : Nat) : State :=
  { noProgram 1 (some (.dry dwell openTime)) with
    cfg := { ready.cfg with autoDry := auto }
    htc := { ready.htc with temp := some temp, lastValid := some temp }
    ddu := { ready.ddu with
      doorOpen := door, stage := if retracting then .retracting else .none
      drive := if retracting then .inward else .stopped, stall := if retracting then some 0 else none } }

/-- START PROGRAM and LINK ENABLE: a part at rest, before an open door, with the DRY phases of every clause, DOWN, SHUT. -/
theorem witness_Sound_requests : ∀ s ∈ ([ready, { ready with ddu := { ready.ddu with doorOpen := true } },
      dryAlone 1 0 true false false 20, dryAlone 0 0 true false false 55, dryAlone 0 0 true false false 56,
      dryAlone 0 0 false false false 20, dryAlone 0 1 false false false 20, dryAlone 3 4 true true false 20,
      dryAlone 3 4 true false true 20, dryAlone 3 4 true true true 20, State.reset, linked .down 0 (partIn .down ready),
      linked .lost 128 (partIn .shut ready)] : List State), Sound s :=
  sound_of_all _ (by decide +kernel)

theorem witness_StartProgram_dry : ∀ s ∈ ([dryAlone 1 0 true false false 20, dryAlone 0 0 true false false 55,
      dryAlone 0 0 true false false 56, dryAlone 0 0 false false false 20, dryAlone 0 1 false false false 20,
      dryAlone 3 4 true true false 20, dryAlone 3 4 true false true 20, dryAlone 3 4 true true true 20] : List State),
    Listens s ∧ Rests s ∧ s.seq.state = .idle ∧ s.seq.count = 1 ∧ (phaseAt s.seq 0).isSome = true
      ∧ slotBad s.dsu.r3.fitted s.seq 1 0 = false ∧ s.wpc.inhibit = false ∧ s.wpc.burst = none
      ∧ s.wpc.highLevel = false := by
  decide +kernel

/-- R162 to R164 and R169: the drying of a DRY phase 0 in each of its beginnings. -/
theorem test_start_dry :
    (after (.startProgram 1#8) (dryAlone 3 4 true true false 20)).seq.state = .ended
      ∧ (after (.startProgram 1#8) (dryAlone 3 4 true false true 20)).ddu.pendingStart = some ⟨3, 4⟩
      ∧ (after (.startProgram 1#8) (dryAlone 0 0 true false false 55)).ddu.stage = .opening
      ∧ (after (.startProgram 1#8) (dryAlone 0 0 true false false 56)).ddu.stage = .waitCool := by
  and_intros <;> decide +kernel

/-- A meter in its ranges, at a fill in service and at reset. -/
theorem witness_MeterKept :
    MeterKept (served 0 (some .a) ⟨1013407, false, 0, false⟩ 0) ∧ MeterKept queued := by
  unfold MeterKept
  decide +kernel

/-- The premises of the steps that keep a part sound, with a command waiting and in the middle of each block's work. -/
theorem witness_Sound_steps : ∀ s ∈ ([queued, filling .main 0, drawing, inSub .drain, inDry (drying .dwell .stopped 0 true false false),
      flooded true .active] : List State), Sound s :=
  sound_of_all _ (by decide +kernel)

/-- R89: GET STATUS shows the column in the engine with its capacity as taken. -/
theorem test_engine_column_shown :
    (snapshotOf { rinsing with sfu := { rinsing.sfu with colB := ⟨3000000, true, 41, false⟩ } }).regen.remaining
        = some 3000000
      ∧ (snapshotOf ready).regen.remaining = none := by
  and_intros <;> decide +kernel

/-! ## Witnesses: beside a regeneration, and what ends otherwise -/

/-- A part with the engine, its requests and its burst as another has them, no column ready. -/
def beside (s e : State) : State :=
  { s with
    rge := e.rge
    wpc := { s.wpc with
      regen := e.wpc.regen, burst := e.wpc.burst, drainPump := s.wpc.drainPump || e.wpc.drainPump
      holder := if s.wpc.holder = .fill then .fill else e.wpc.holder
      inletValve := s.wpc.holder == .fill || e.wpc.inletValve, brineValve := e.wpc.brineValve }
    sfu := { s.sfu with ready := [] } }

def brineWaiting : State := engineIn .brineWait (some ⟨.brine, false⟩) .none none
def rinseWaiting : State := engineIn .rinseWait (some ⟨.rinse, false⟩) .none none

/-- The door open. -/
def openDoor (s : State) : State := { s with ddu := { s.ddu with doorOpen := true } }

/-- The high-level switch at HIGH. -/
def atHigh (s : State) : State := { s with wpc := { s.wpc with highLevel := true } }

/-- The run-on of a flood, the inlet inhibited. -/
def inRunOn (s : State) : State :=
  { s with wpc := { s.wpc with floodReq := some (.runOn 60), inhibit := true, drainPump := true } }

/-- A fill that waits behind a drain burst. -/
def behindBurst : State :=
  { beside (filling .main 0) effluent with
    wpc := { (beside (filling .main 0) effluent).wpc with
      fill := some ⟨3000, .main, false⟩, holder := .none, inletValve := false, fillTimer := none } }

/-- DOSE with the Dosing Unit as given, the sequencer waiting for request 0. -/
def inDose (s : State) : State :=
  { s with seq := { (inSub .dose).seq with placed := [0] } }

/-- A top-up of 300 mL in HEAT, at a count, with a mark. -/
def topUpAt (count : Nat) (a : ColRec) (service : Option Column) : State :=
  let s := served count service a 0
  { s with
    seq := (inSub .heat).seq
    wpc := { s.wpc with fill := some ⟨300, .topUp, true⟩ }
    sfu := { s.sfu with fill := { s.sfu.fill with isOpen := false } } }

theorem witness_TheDoorSuspendsEverySubStage :
    (∀ s ∈ ([filling .main 5, behindBurst, topUpAt 0 {} none, inDose (dosing .serving [dose 9 0] [] (some .d1) none (some 4)),
        inDose (dosing .serving [dose 9 0] [] (some .d1) none none), inDose (dosing .gathering [] [dose 0 0] none none none),
        inSub .heat, circulating wash 2 true, draining (inSub .drain) (.pumping 3) false, inDrain drawing none] : List State),
      Awake s ∧ s.ddu.doorOpen = false ∧ s.seq.state = .running ∧ s.seq.sub ≠ .dry
        ∧ (s.dsu.state = .serving → s.dsu.batch ≠ []))
      ∧ ∀ s ∈ ([filling .main 5, behindBurst, topUpAt 0 {} none, inDose (dosing .serving [dose 9 0] [] (some .d1) none (some 4)),
        inDose (dosing .serving [dose 9 0] [] (some .d1) none none), inDose (dosing .gathering [] [dose 0 0] none none none),
        inSub .heat, circulating wash 2 true, draining (inSub .drain) (.pumping 3) false, inDrain drawing none] : List State),
      Sound s :=
  ⟨by decide +kernel, sound_of_all _ (by decide +kernel)⟩

/-- R24: a fill is interrupted with its volume kept. -/
theorem test_door_in_fill :
    (after (.doorSwitchChange true) (filling .main 5)).sfu.fill.v = 5
      ∧ (after (.doorSwitchChange true) (filling .main 5)).seq.remembered = .sub .fill
      ∧ (after (.doorSwitchChange true) (filling .main 5)).wpc.fill = none := by
  and_intros <;> decide +kernel

/-- Only primes; a window; a stroke in progress; at rest with nothing left, with a prime left at its position or not. -/
theorem witness_CancelledDosesEnd :
    ∀ d ∈ ([dosing .serving [prime .active 0 1 0] [] (some .d1) none (some 4), dosing .gathering [] [dose 0 0] none none none,
        dosing .gathering [] [dose 0 0, prime .queued 0 1 0] none none none,
        dosing .serving [dose 9 0] [prime .queued 0 1 0] (some .d1) none (some 4), dosing .paused [dose 9 0] [] (some .d1) none none,
        dosing .paused [dose 9 0] [prime .queued 0 1 0] (some .d1) none none,
        dosing .paused [dose 9 0] [prime .queued 0 1 0] (some .d2) none none,
        dosing .paused [dose 9 0] [prime .queued 0 1 0] none none none] : List State),
      Listens (inDose d) ∧ Awake (inDose d) ∧ GrantsAgree (inDose d) ∧ (inDose d).seq.state = .running
        ∧ (inDose d).seq.sub ≠ .dry ∧ programRuns (inDose d) = true ∧ runningIn (inDose d) .dry = false
        ∧ (inDose d).wpc.flood = false ∧ (∀ p ∈ (batchLeft d.dsu).head?, p.strokeVolume ≤ (reservoirOf d.dsu p.channel).level) := by
  decide +kernel

/-- R126: a queued dose ends CANCELLED with its confirmed volume in the summary; a prime stays. -/
theorem test_abort_cancels :
    (after (.abortProgram 1#8) (inDose (dosing .paused [dose 9 0] [prime .queued 0 1 0] (some .d1) none none))).dsu.batch
        = [{ prime .active 1 1 0 with commanded := 1 }]
      ∧ perChannelGet (after (.abortProgram 1#8)
          (inDose (dosing .paused [dose 9 0] [] (some .d1) none none))).seq.summary.dose .d1 = 225 := by
  and_intros <;> decide +kernel

/-- The water wait over with the switch HIGH, the record open, and behind a burst. -/
def waitingOpen : State := { waiting with sfu := { waiting.sfu with fill := { isOpen := true, v := 40, g := 28800, hFill := 0, breakthrough := 0 } } }

theorem witness_TheHighLevelEndsAFill :
    (∀ s ∈ ([filling .main 5, topUpAt 0 {} none] : List State),
      Awake s ∧ s.wpc.highLevel = false ∧ (s.wpc.fill.map (·.held)) = some true ∧ currentWash s = some wash ∧ 0 < wash.holdTime
        ∧ s.seq.placed = [] ∧ s.dsu.state = .idle ∧ s.dsu.batch = [] ∧ s.dsu.waiting = [] ∧ s.dsu.next < 256
        ∧ wash.refs.length ≤ 2 ∧ (wash.refs.map (·.channel)).Nodup)
      ∧ ((filling .main 5).sfu.fill.isOpen = true ∧ dosesAsked (filling .main 5) wash 5 0 ≠ [])
      ∧ (Awake (atHigh waitingOpen) ∧ (atHigh waitingOpen).seq.state = .waitWater ∧ (atHigh waitingOpen).wpc.burst = none
        ∧ (atHigh waitingOpen).sfu.fill.isOpen = true ∧ currentWash (atHigh waitingOpen) = some wash)
      ∧ (Awake (beside waitingOpen effluent) ∧ (beside waitingOpen effluent).seq.state = .waitWater
        ∧ (beside waitingOpen effluent).wpc.burst.isSome = true)
      ∧ ∀ s ∈ ([filling .main 5, topUpAt 0 {} none, atHigh waitingOpen, beside waitingOpen effluent] : List State), Sound s :=
  ⟨by decide +kernel, by and_intros <;> decide +kernel, by and_intros <;> decide +kernel, by and_intros <;> decide +kernel,
    sound_of_all _ (by decide +kernel)⟩

/-- The sump not empty, the permit withdrawn. -/
def sumpFull (s : State) : State :=
  { s with wpc := { s.wpc with sumpEmpty := false }, seq := { s.seq with permit := false } }

theorem witness_TheConditionsOfTheGrantReturn :
    (∀ s ∈ ([drawing, rinsing, dwelling, brineWaiting] : List State),
      Awake s ∧ s.wpc.fill = none ∧ permitCondition { s with wpc := { s.wpc with sumpEmpty := true } } = true
        ∧ runningIn s .drain = false ∧ s.wpc.sumpEmpty = true ∧ s.rge.state ≠ .idle)
      ∧ (∀ s ∈ ([sumpFull brineWaiting, sumpFull (openLid { brineWaiting with wpc := { brineWaiting.wpc with regen := none } }),
          sumpFull rinseWaiting, sumpFull dwelling, sumpFull effluent] : List State),
        Awake s ∧ s.wpc.fill = none ∧ permitCondition { s with wpc := { s.wpc with sumpEmpty := true } } = true
          ∧ runningIn s .drain = false ∧ s.wpc.sumpEmpty = false ∧ s.wpc.flood = false ∧ s.wpc.inhibit = false
          ∧ s.wpc.highLevel = false)
      ∧ (∀ s ∈ ([atHigh brineWaiting, atHigh rinseWaiting] : List State),
        Awake s ∧ s.wpc.fill = none ∧ s.wpc.highLevel = true ∧ s.wpc.flood = false ∧ s.wpc.inhibit = false
          ∧ permitCondition s = true ∧ s.wpc.drainPump = pumpAsked s.wpc)
      ∧ (∀ s ∈ ([inRunOn brineWaiting, inRunOn rinseWaiting] : List State),
        Awake s ∧ s.wpc.fill = none ∧ s.wpc.floodReq = some (.runOn 60) ∧ s.wpc.flood = false ∧ s.wpc.highLevel = false
          ∧ runningIn s .drain = false ∧ permitCondition s = true)
      ∧ (∀ s ∈ ([draining (inDrain drawing none) (.pumping 120) false, draining (inDrain rinsing none) (.pumping 120) false]
          : List State),
        Awake s ∧ s.wpc.fill = none ∧ runningIn s .drain = true ∧ s.wpc.leak = none ∧ s.wpc.floodReq = none
          ∧ s.wpc.seqDrain = some ⟨.pumping 120, false⟩)
      ∧ (∀ s ∈ ([draining wantsDrain (.paused 30) false, draining (beside (inSub .drain) rinseWaiting) (.paused 30) false]
          : List State),
        Awake s ∧ s.wpc.fill = none ∧ runningIn s .drain = true ∧ s.wpc.leak = none ∧ s.wpc.floodReq = none
          ∧ s.wpc.seqDrain = some ⟨.paused 30, false⟩ ∧ s.wpc.highLevel = false ∧ s.wpc.inhibit = false ∧ s.wpc.flood = false)
      ∧ ∀ s ∈ ([drawing, rinsing, dwelling, brineWaiting, sumpFull brineWaiting,
          sumpFull (openLid { brineWaiting with wpc := { brineWaiting.wpc with regen := none } }), sumpFull rinseWaiting,
          sumpFull dwelling, sumpFull effluent, atHigh brineWaiting, atHigh rinseWaiting, inRunOn brineWaiting,
          inRunOn rinseWaiting, draining (inDrain drawing none) (.pumping 120) false,
          draining (inDrain rinsing none) (.pumping 120) false, draining wantsDrain (.paused 30) false,
          draining (beside (inSub .drain) rinseWaiting) (.paused 30) false] : List State), Sound s :=
  ⟨by decide +kernel, by decide +kernel, by decide +kernel, by decide +kernel, by decide +kernel, by decide +kernel,
    sound_of_all _ (by decide +kernel)⟩

/-- R39: the switch leaves EMPTY and the draw gives way; back at EMPTY it draws on. -/
theorem test_permit_follows_sump :
    (after (.sumpEmptySwitchChange false) drawing).rge.state = .brineWait
      ∧ (after (.sumpEmptySwitchChange true) (after (.sumpEmptySwitchChange false) drawing)).rge.state = .brineDraw := by
  and_intros <;> decide +kernel

/-- 55 and 56 degrees against the limit of 55; 87 and 88. -/
theorem witness_TheCoolWait :
    (∀ q ∈ ([220, 224, 348] : List Int),
      Rests (awaitedDry .waitCool .stopped 0 false) ∧ (awaitedDry .waitCool .stopped 0 false).htc.valid = true
        ∧ (awaitedDry .waitCool .stopped 0 false).htc.temp ≠ some (min 120 (q / 4).toNat)
        ∧ (awaitedDry .waitCool .stopped 0 false).ddu.stage = .waitCool ∧ min 120 (q / 4).toNat < 88
        ∧ (awaitedDry .waitCool .stopped 0 false).htc.request = none)
      ∧ (min 120 ((220 : Int) / 4).toNat = 55 ∧ (awaitedDry .waitCool .stopped 0 false).ddu.openLimit = 55)
      ∧ (∀ st ∈ ([.waitCool, .dwell, .ajar] : List DryStage),
        Rests (awaitedDry st .stopped 800 false) ∧ runningIn (awaitedDry st .stopped 800 false) .dry = true
          ∧ (awaitedDry st .stopped 800 false).htc.lockout = false ∧ 88 ≤ min 120 ((352 : Int) / 4).toNat
          ∧ (awaitedDry st .stopped 800 false).ddu.openLimit < min 120 ((352 : Int) / 4).toNat
          ∧ (awaitedDry st .stopped 800 false).htc.temp ≠ some (min 120 ((352 : Int) / 4).toNat))
      ∧ (∀ q ∈ ([220, 224, 319] : List Int),
        Rests { awaitedDry .waitCool .stopped 0 false with htc := blind.htc } ∧ blind.htc.valid = false
          ∧ blind.htc.request = none ∧ min 120 (q / 4).toNat < 80)
      ∧ runningIn (awaitedDry .waitCool .stopped 0 false) .heat = false := by
  and_intros <;> decide +kernel

/-- R164: the wait ends at the limit, by the reading or without one. -/
theorem test_cool_wait_ends :
    (after (.sumpTemperatureChange 220) (awaitedDry .waitCool .stopped 0 false)).ddu.drive = .outward
      ∧ (after (.sumpTemperatureChange 224) (awaitedDry .waitCool .stopped 0 false)).ddu.stage = .waitCool
      ∧ (after (.sensorIndication .openCircuit) (awaitedDry .waitCool .stopped 0 false)).ddu.stage = .opening := by
  and_intros <;> decide +kernel

/-- The pause set. -/
def underPause (s : State) : State := { s with dsu := { s.dsu with pause := true } }

/-- The EMPTY mark of D1, or its level. -/
def emptyD1 (s : State) : State := { s with dsu := { s.dsu with r1 := { s.dsu.r1 with empty := true } } }
def lowD1 (n : Nat) (s : State) : State := { s with dsu := { s.dsu with r1 := { s.dsu.r1 with level := n, lowNotified := true } } }

/-- A request that waits. -/
def waitingDose : DoseReq := { dose 0 0 with state := .queued, commanded := 0 }

theorem witness_TheWindowMeetsEmptyChannels :
    (Rests (underPause (dosing .gathering [] [waitingDose, prime .queued 0 1 0] (some .d2) none none)))
      ∧ (∀ sel ∈ ([.d1, .d2] : List Channel),
        Rests (dosing .gathering [] [waitingDose, { prime .queued 0 1 0 with channel := .d2 }] (some sel) none none)
          ∧ (inSweep (some sel) [waitingDose, { prime .queued 0 1 0 with channel := .d2 }]).map (·.channel)
              = (if sel = .d1 then [.d1, .d2] else [.d2, .d1])
          ∧ waitingDose.strokeVolume ≤ ready.dsu.r1.level ∧ ready.dsu.r1.empty = false)
      ∧ (∀ s ∈ ([emptyD1 (dosing .gathering [] [waitingDose] none none none),
          inDose (emptyD1 (dosing .gathering [] [waitingDose] none none none))] : List State),
        Rests s ∧ s.dsu.waiting.head? = some waitingDose ∧ waitingDose.state = .queued ∧ waitingDose.origin ≠ .hostPrime
          ∧ (reservoirOf s.dsu .d1).empty = true ∧ s.dsu.pause = false ∧ (runningIn s .dose = true → currentWash s = some wash))
      ∧ (∀ s ∈ ([lowD1 24 (dosing .gathering [] [waitingDose] (some .d1) none none),
          lowD1 24 (dosing .gathering [] [prime .queued 0 1 0] (some .d1) none none)] : List State),
        Rests s ∧ s.dsu.selector = some .d1 ∧ (reservoirOf s.dsu .d1).level < waitingDose.strokeVolume
          ∧ (reservoirOf s.dsu .d1).empty = false) := by
  and_intros <;> decide +kernel

/-- R120: a dose on an EMPTY channel ends without a move; log entry 61: under the pause it waits. -/
theorem test_empty_channel :
    (after .gatherWindowExpiry (emptyD1 (dosing .gathering [] [waitingDose] none none none))).dsu.batch = []
      ∧ (after .gatherWindowExpiry (underPause (emptyD1 (dosing .gathering [] [waitingDose] none none none)))).dsu.batch
          = [waitingDose] := by
  and_intros <;> decide +kernel

/-- A homing, a move: a request marked, paused, at its position, to be moved on, at a low level. -/
theorem witness_TheMoveEndsForEitherOrigin :
    ∀ s ∈ ([dosing .serving [{ dose 0 0 with cancel := true }] [] none (some ⟨true, .d1, 5⟩) none,
        underPause (dosing .serving [dose 0 0] [] none (some ⟨false, .d1, 5⟩) none),
        dosing .serving [{ dose 0 0 with channel := .d2 }] [] none (some ⟨true, .d1, 5⟩) none,
        dosing .serving [dose 0 0] [] none (some ⟨false, .d1, 5⟩) none,
        lowD1 24 (dosing .serving [dose 0 0] [] none (some ⟨true, .d1, 5⟩) none),
        inDose (dosing .serving [dose 0 0] [] none (some ⟨false, .d1, 5⟩) none)] : List State),
      Rests s ∧ s.dsu.stroke = none ∧ s.part.homings.selector = false ∧ s.dsu.waiting = []
        ∧ (s.dsu.move.map (·.target)) = some .d1 ∧ (s.dsu.batch.head?.map (·.state)) = some .active ∧ s.dsu.batch.tail = []
        ∧ (runningIn s .dose = true → currentWash s = some wash) := by
  decide +kernel

/-- Low after the stroke, low after a miss, marked, paused, at the target; the strokes of 10 and of 50. -/
def endings (v : Nat) : List (DoseReq × State) :=
  ([dose 9 0, dose 9 2, dose 93 0, { dose 9 0 with cancel := true }, { dose 93 0 with cancel := true }, prime .active 1 2 1,
    prime .active 2 2 0, { prime .active 1 2 1 with cancel := true }] : List DoseReq).flatMap fun r =>
      let s := stroking { r with strokeVolume := v }
      [(r, s), (r, underPause s), (r, lowD1 (2 * v - 1) s), (r, lowD1 (v - 1) s)]

theorem witness_StrokesEndLowCancelledOrPaused (v : Nat) (h : v = 10 ∨ v = 50) :
    (∀ e ∈ endings v, Rests e.2)
      ∧ ∀ e ∈ endings v, e.2.dsu.stroke.isSome = true ∧ e.2.dsu.move = none
          ∧ e.2.dsu.batch.head? = some { e.1 with strokeVolume := v } ∧ 10 ≤ v ∧ v ≤ 50 ∧ e.2.dsu.selector = some e.1.channel
          ∧ currentWash e.2 = some wash ∧ e.2.dsu.batch.tail = [] ∧ e.2.dsu.waiting = []
          ∧ (e.2.dsu.r1.level ≤ 45000 ∧ (e.2.dsu.r1.level ≤ 4000 → e.2.dsu.r1.lowNotified = true)) := by
  rcases h with rfl | rfl <;> exact ⟨by decide +kernel, by decide +kernel⟩

/-- LevelsKept of them, and a second request behind the one that ends. -/
theorem witness_Strokes_levels :
    LevelsKept (stroking (dose 9 0)) ∧ LevelsKept (lowD1 49 (stroking (dose 9 0)))
      ∧ (Rests (dosing .serving [dose 93 0, { prime .queued 0 1 0 with channel := .d2 }] [] (some .d1) none (some 4))
        ∧ Rests (dosing .serving [dose 93 0] [{ prime .queued 0 1 0 with channel := .d2 }] (some .d1) none (some 4))) := by
  refine ⟨fun ch => ?_, fun ch => ?_, by and_intros <;> decide +kernel⟩ <;> cases ch <;> decide +kernel

/-- The valve homing under its fault, in READY or STARTING: a ready column and an empty or exhausted service, columns
waiting, an engine at work. -/
def clearing (starting : Bool) (service : Option Column) (rq gq : List Column) (e : State) : State :=
  let s := if starting then homingIn false .bypass else { valveMoves true with part := ready.part }
  { s with
    rge := e.rge
    wpc := { s.wpc with regen := e.wpc.regen, burst := e.wpc.burst, drainPump := e.wpc.drainPump }
    sfu := { s.sfu with
      service := service, colA := ⟨0, true, 4, false⟩, ready := rq, regenQ := gq, retired := [], valveFault := true
      valveMove := some ⟨.bypass, 8, true⟩ } }

theorem witness_TheClearedValveFaultLetsGoOn :
    (∀ st : Bool, ∀ s ∈ ([clearing st none [.b] [.c] ready, clearing st (some .a) [.b] [.c] ready,
        clearing st (some .a) [.b] [] ready, clearing st none [.c] [] dwelling, clearing st none [] [.b, .c] ready,
        clearing st none [] [] ready, clearing st (some .b) [.c] [] ready] : List State),
      s.part.powered = true ∧ s.reports = []
        ∧ (s.part.state = .ready ∨ (s.part.state = .starting ∧ s.part.homings.valve = true))
        ∧ s.sfu.valveMove = some ⟨.bypass, 8, true⟩)
      ∧ (∀ o, (clearing true (some .a) [.b] [.c] ready).sfu.service = some o →
          (columnRec (clearing true (some .a) [.b] [.c] ready).sfu o).exhausted = true)
      ∧ (columnRec (clearing true (some .b) [.c] [] ready).sfu .b).exhausted = false
      ∧ ∀ s ∈ ([clearing false none [.b] [.c] ready, clearing true (some .a) [.b] [.c] ready, clearing true none [.c] [] dwelling,
          clearing false none [] [.b, .c] ready, clearing true (some .b) [.c] [] ready] : List State), Sound s :=
  ⟨by decide +kernel, by decide +kernel, by decide +kernel, sound_of_all _ (by decide +kernel)⟩

/-- R64, R65: the ready column enters the empty service, the idle engine takes the waiting one. -/
theorem test_cleared_fault :
    (after (.columnValveConfirmation .bypass) (clearing false none [.b] [.c] ready)).sfu.service = some .b
      ∧ (after (.columnValveConfirmation .bypass) (clearing false none [.b] [.c] ready)).rge.column = some .c := by
  and_intros <;> decide +kernel

/-- START PROGRAM and CONTINUE beside a draw, a burst, a high level, an inhibited inlet, an open door. -/
theorem witness_StartAndContinueMeetTheInlet :
    (∀ s ∈ ([drawing, rinsing, dwelling, effluent, atHigh ready, inRunOn ready, openDoor drawing, openDoor effluent]
        : List State),
      Listens s ∧ s.seq.state = .idle ∧ 0 < s.seq.count ∧ phaseAt s.seq 0 = some (.wash .main wash) ∧ 0 < wash.holdTime
        ∧ (∀ k : Fin 12, k.val < s.seq.count → slotBad s.dsu.r3.fitted s.seq s.seq.count k.val = false))
      ∧ (∀ i ∈ ([0, 1] : List Nat), ∀ s ∈ ([drawing, rinsing, dwelling, effluent, atHigh ready, inRunOn ready, openDoor drawing]
          : List State),
        Listens { s with seq := { (heldAfter i false 0).seq with permit := true } }
          ∧ (heldAfter i false 0).seq.state = .holding
          ∧ phaseAt (heldAfter i false 0).seq (i + 1) = some (if i = 0 then .wash .rinse plain else .dry 300 1800)
          ∧ 0 < plain.holdTime ∧ s.ddu.stage ≠ .retracting)
      ∧ ∀ s ∈ ([drawing, rinsing, dwelling, effluent, atHigh ready, inRunOn ready, openDoor drawing, openDoor effluent,
          { drawing with seq := { (heldAfter 0 false 0).seq with permit := true } },
          { effluent with seq := { (heldAfter 0 false 0).seq with permit := true } },
          { inRunOn ready with seq := { (heldAfter 0 false 0).seq with permit := true } },
          { drawing with seq := { (heldAfter 1 false 0).seq with permit := true } }] : List State), Sound s :=
  ⟨by decide +kernel, by decide +kernel, sound_of_all _ (by decide +kernel)⟩

/-- R38: the main fill takes the inlet from the draw. -/
theorem test_fill_preempts :
    (after (.startProgram 1#8) drawing).rge.state = .brineWait
      ∧ (after (.startProgram 1#8) drawing).wpc.holder = .fill
      ∧ (after (.startProgram 1#8) effluent).wpc.fill = some ⟨3000, .main, false⟩
      ∧ (after (.startProgram 1#8) (inRunOn ready)).seq.state = .faulted := by
  and_intros <;> decide +kernel

/-- The burst over: its result good, at the reserve, timed out, with columns waiting and an empty or exhausted service. -/
def finishing (left : Nat) (timeout : TimeoutMark) (service : Option Column) (gq : List Column) : State :=
  { effluent with
    rge := { effluent.rge with result := some ⟨left, false⟩, timeout := timeout }
    sfu := { effluent.sfu with service := service, colA := ⟨0, true, 4, false⟩, regenQ := gq, retired := [] } }

theorem witness_TheFinishServesWhatWaited :
    (∀ s ∈ ([finishing 80000000 .none none [], finishing 80000000 .none (some .a) [.c], finishing 1000000 .none none [.c],
        finishing 0 .none none [], finishing 80000000 .brine none [.c], behindBurst] : List State),
      Awake s ∧ s.rge.state = .effluentDrain ∧ s.wpc.burst = some (.running 0) ∧ s.wpc.highLevel = false ∧ s.sfu.ready = []
        ∧ s.rge.column = some .b ∧ s.sfu.service ≠ some .b)
      ∧ (finishing 1000000 .none none []).cfg.reserve = 1000000
      ∧ (∀ o, (finishing 80000000 .none (some .a) [.c]).sfu.service = some o →
          (columnRec (finishing 80000000 .none (some .a) [.c]).sfu o).exhausted = true)
      ∧ ∀ s ∈ ([finishing 80000000 .none none [], finishing 80000000 .none (some .a) [.c], finishing 1000000 .none none [.c],
        finishing 0 .none none [], finishing 80000000 .brine none [.c], behindBurst] : List State), Sound s :=
  ⟨by decide +kernel, by decide +kernel, by decide +kernel, sound_of_all _ (by decide +kernel)⟩

/-- The end of the hold time and the end of the settling time, the drain to follow. -/
theorem witness_TheDrainMeetsTheEngine :
    (∀ e ∈ ([brineWaiting, rinseWaiting, dwelling, finishing 80000000 .none (some .a) [], finishing 80000000 .brine none []]
        : List State),
      (Awake (beside (circulating wash 2 false) e) ∧ (beside (circulating wash 2 false) e).seq.state = .running
        ∧ (beside (circulating wash 2 false) e).seq.sub = .circulate ∧ wash.drain = true
        ∧ (beside (circulating wash 2 false) e).seq.extension = none
        ∧ currentWash (beside (circulating wash 2 false) e) = some wash)
      ∧ (Awake (beside (settling (.sub .drain)) e) ∧ (beside (settling (.sub .drain)) e).seq.state = .suspended
        ∧ (beside (settling (.sub .drain)) e).seq.settling.isSome = true
        ∧ (beside (settling (.sub .drain)) e).ddu.doorOpen = false
        ∧ (beside (settling (.sub .drain)) e).seq.remembered = .sub .drain
        ∧ (beside (settling (.sub .drain)) e).wpc.highLevel = false))
      ∧ ∀ s ∈ ([beside (circulating wash 2 false) brineWaiting, beside (circulating wash 2 false) rinseWaiting,
          beside (circulating wash 2 false) dwelling, beside (circulating wash 2 false) (finishing 80000000 .none (some .a) []),
          beside (circulating wash 2 false) (finishing 80000000 .brine none []), beside (settling (.sub .drain)) brineWaiting,
          beside (settling (.sub .drain)) rinseWaiting, beside (settling (.sub .drain)) dwelling,
          beside (settling (.sub .drain)) (finishing 80000000 .none (some .a) []),
          beside (settling (.sub .drain)) (finishing 80000000 .brine none [])] : List State), Sound s :=
  ⟨by decide +kernel, sound_of_all _ (by decide +kernel)⟩

/-- R90: the burst goes with the sequencer's DRAIN, and the engine finishes. -/
theorem test_drain_ends_burst :
    (after .holdTimerExpiry (beside (circulating wash 2 false) effluent)).rge.state = .idle
      ∧ (after .holdTimerExpiry (beside (circulating wash 2 false) rinseWaiting)).rge.state = .rinse := by
  and_intros <;> decide +kernel

/-- Columns above, at and below a raised reserve of 5000000. -/
def reserved (service : Option Column) (a b c : ColRec) (rq : List Column) (e : State) : State :=
  { ready with
    rge := e.rge
    wpc := e.wpc
    sfu := { ready.sfu with service := service, colA := a, colB := b, colC := some c, ready := rq, retired := [] } }

theorem witness_TheRaisedReserveMovesColumns :
    (∀ s ∈ ([reserved (some .a) ⟨40000000, false, 4, false⟩ ⟨5000001, false, 4, false⟩ ⟨5000000, false, 4, false⟩ [.b, .c] ready,
        reserved (some .a) ⟨5000000, false, 4, false⟩ ⟨5000001, false, 4, false⟩ ⟨2000000, false, 4, false⟩ [.c, .b] ready,
        reserved (some .a) ⟨5000000, false, 4, false⟩ ⟨4000000, false, 4, false⟩ ⟨2000000, false, 4, false⟩ [.c, .b] ready,
        reserved none ⟨40000000, false, 4, false⟩ ⟨4000000, false, 4, false⟩ ⟨2000000, false, 4, false⟩ [.a, .c] dwelling] : List State),
      Listens s ∧ Rests s ∧ (5000000#32 : Word).toNat ≤ 10000000 ∧ s.cfg.reserve < (5000000#32 : Word).toNat)
      ∧ (reserved (some .a) ⟨5000000, false, 4, false⟩ ⟨5000001, false, 4, false⟩ ⟨2000000, false, 4, false⟩ [.c, .b]
          ready).sfu.ready.filter (fun x => decide (5000000 < (columnRec (reserved (some .a) ⟨5000000, false, 4, false⟩
            ⟨5000001, false, 4, false⟩ ⟨2000000, false, 4, false⟩ [.c, .b] ready).sfu x).remaining)) = [.b]
      ∧ ∀ s ∈ ([reserved (some .a) ⟨40000000, false, 4, false⟩ ⟨5000001, false, 4, false⟩ ⟨5000000, false, 4, false⟩ [.b, .c] ready,
        reserved (some .a) ⟨5000000, false, 4, false⟩ ⟨5000001, false, 4, false⟩ ⟨2000000, false, 4, false⟩ [.c, .b] ready,
        reserved none ⟨40000000, false, 4, false⟩ ⟨4000000, false, 4, false⟩ ⟨2000000, false, 4, false⟩ [.a, .c] dwelling] : List State), Sound s :=
  ⟨by decide +kernel, by decide +kernel, sound_of_all _ (by decide +kernel)⟩

/-- R74: the head of the ready queue at the new reserve waits behind nothing and is taken; the next one enters service. -/
theorem test_raised_reserve :
    (after (.setConfigSwitchReserve 1#8 5000000#32) (reserved (some .a) ⟨5000000, false, 4, false⟩ ⟨5000001, false, 4, false⟩
        ⟨2000000, false, 4, false⟩ [.c, .b] ready)).sfu.service = some .b
      ∧ (after (.setConfigSwitchReserve 1#8 5000000#32) (reserved (some .a) ⟨5000000, false, 4, false⟩
        ⟨5000001, false, 4, false⟩ ⟨2000000, false, 4, false⟩ [.c, .b] ready)).rge.column = some .c := by
  and_intros <;> decide +kernel

/-- Column C in service, a column ready, none, or a valve fault. -/
def servingC (rq : List Column) (fault : Bool) : State :=
  { ready with sfu := { ready.sfu with service := some .c, ready := rq, retired := if rq = [] then [.a, .b] else [.a], valveFault := fault } }

theorem witness_ColumnCLeavesItsService :
    (∀ s ∈ ([servingC [.b] false, servingC [] false, servingC [.b] true] : List State),
      Listens s ∧ s.seq.state = .idle ∧ s.rge.state = .idle ∧ s.sfu.regenQ = [] ∧ s.cfg.fitted = 3
        ∧ s.sfu.service = some .c)
      ∧ ∀ s ∈ ([servingC [.b] false, servingC [] false, servingC [.b] true] : List State), Sound s :=
  ⟨by decide +kernel, sound_of_all _ (by decide +kernel)⟩

/-- With no copy retained, the five first clauses decide. -/
theorem columnsPlaced_of_no_copies {s : State} (hr : s.rst.columns = none) (hw : s.rst.writing = none)
    (h : (placesOf s).count .a = 1 ∧ (placesOf s).count .b = 1 ∧ (placesOf s).count .c = (if s.cfg.fitted = 3 then 1 else 0)
      ∧ s.sfu.colC.isSome = (s.cfg.fitted == 3) ∧ (s.cfg.fitted = 2 ∨ s.cfg.fitted = 3)) : ColumnsPlaced s :=
  ⟨h.1, h.2.1, h.2.2.1, h.2.2.2.1, h.2.2.2.2, fun _ hc => by simp [hr] at hc, fun _ hc => by simp [hw] at hc⟩

/-- Every column of those parts stands in one place. -/
theorem witness_ColumnsPlaced : ∀ s ∈ ([servingC [.b] false, servingC [] false, servingC [.b] true,
    reserved (some .a) ⟨40000000, false, 4, false⟩ ⟨5000001, false, 4, false⟩ ⟨5000000, false, 4, false⟩ [.b, .c] ready,
    reserved (some .a) ⟨5000000, false, 4, false⟩ ⟨5000001, false, 4, false⟩ ⟨2000000, false, 4, false⟩ [.c, .b] ready,
    reserved (some .a) ⟨5000000, false, 4, false⟩ ⟨4000000, false, 4, false⟩ ⟨2000000, false, 4, false⟩ [.c, .b] ready,
    reserved none ⟨40000000, false, 4, false⟩ ⟨4000000, false, 4, false⟩ ⟨2000000, false, 4, false⟩ [.a, .c] dwelling]
    : List State), ColumnsPlaced s := by
  have h : ∀ s ∈ ([servingC [.b] false, servingC [] false, servingC [.b] true,
      reserved (some .a) ⟨40000000, false, 4, false⟩ ⟨5000001, false, 4, false⟩ ⟨5000000, false, 4, false⟩ [.b, .c] ready,
      reserved (some .a) ⟨5000000, false, 4, false⟩ ⟨5000001, false, 4, false⟩ ⟨2000000, false, 4, false⟩ [.c, .b] ready,
      reserved (some .a) ⟨5000000, false, 4, false⟩ ⟨4000000, false, 4, false⟩ ⟨2000000, false, 4, false⟩ [.c, .b] ready,
      reserved none ⟨40000000, false, 4, false⟩ ⟨4000000, false, 4, false⟩ ⟨2000000, false, 4, false⟩ [.a, .c] dwelling]
      : List State), s.rst.columns = none ∧ s.rst.writing = none ∧ (placesOf s).count .a = 1 ∧ (placesOf s).count .b = 1
        ∧ (placesOf s).count .c = (if s.cfg.fitted = 3 then 1 else 0) ∧ s.sfu.colC.isSome = (s.cfg.fitted == 3)
        ∧ (s.cfg.fitted = 2 ∨ s.cfg.fitted = 3) := by
    decide +kernel
  exact fun s hs => columnsPlaced_of_no_copies (h s hs).1 (h s hs).2.1 (h s hs).2.2

/-- A fitted actuator away from home, or at home without its flag. -/
def awayFrom (count : Nat) (homed home : Bool) : State :=
  { ready with
    pins := { ready.pins with home := home }, ddu := { ready.ddu with fitted := true, count := count, homed := homed } }

theorem witness_ShutdownNormalMeetsTheBlocks :
    (∀ s ∈ ([drawing, rinsing, brineWaiting, rinseWaiting, dwelling, effluent, behindBurst, beside (filling .main 0) dwelling,
        dosing .serving [dose 9 0, prime .queued 0 1 0] [] (some .d1) none (some 4),
        dosing .paused [dose 9 0] [prime .queued 0 1 0] none (some ⟨true, .d1, 5⟩) none,
        awaitedDry .dwell .stopped 0 false, awaitedDry .waitCool .stopped 0 false, awaitedDry .opening .outward 9 false,
        awaitedDry .ajar .stopped 800 false, awaitedDry .retracting .inward 9 false, seqIn .faulted .none, seqIn .ending .none,
        awayFrom 9 true false, awayFrom 0 false true] : List State), Listens s ∧ s.seq.extension = none)
      ∧ (drawing.rge.column = some .b ∧ drawing.rge.timeout = .none ∧ (awaitedDry .opening .outward 9 false).pins.home = false
        ∧ (awayFrom 9 true false).ddu.stage = .none)
      ∧ ∀ s ∈ ([drawing, rinsing, brineWaiting, rinseWaiting, dwelling, effluent, behindBurst, beside (filling .main 0) dwelling,
        dosing .serving [dose 9 0, prime .queued 0 1 0] [] (some .d1) none (some 4),
        dosing .paused [dose 9 0] [prime .queued 0 1 0] none (some ⟨true, .d1, 5⟩) none,
        awaitedDry .dwell .stopped 0 false, awaitedDry .waitCool .stopped 0 false, awaitedDry .opening .outward 9 false,
        awaitedDry .ajar .stopped 800 false, awaitedDry .retracting .inward 9 false, seqIn .faulted .none, seqIn .ending .none,
        awayFrom 9 true false, awayFrom 0 false true] : List State), Sound s :=
  ⟨by decide +kernel, by and_intros <;> decide +kernel, sound_of_all _ (by decide +kernel)⟩

/-- R95, R92: the draw is abandoned, its column at the head; R173: the actuator goes home. -/
theorem test_shutdown_blocks :
    (after (.shutdownNormal 1#8) drawing).sfu.regenQ = [.b] ∧ (after (.shutdownNormal 1#8) drawing).rge.state = .idle
      ∧ (after (.shutdownNormal 1#8) dwelling).rge.state = .dwell
      ∧ (after (.shutdownNormal 1#8) (awayFrom 9 true false)).ddu.drive = .inward := by
  and_intros <;> decide +kernel

/-- The engine's last work in a shutdown, alone or beside the sequencer's drain. -/
theorem witness_TheEngineEndsInAShutdown :
    (∀ s ∈ ([partIn .shuttingDown dwelling, partIn .shuttingDown (finishing 80000000 .none none []),
        partIn .shuttingDown (finishing 80000000 .brine none []),
        partIn .shuttingDown { dwelling with seq := (seqIn .ending .none).seq }] : List State),
      s.part.powered = true ∧ s.part.state = .shuttingDown ∧ s.part.abrupt = false ∧ s.reports = [] ∧ s.part.writesAsked = false ∧ s.wpc.fill = none
        ∧ s.rge.column = some .b ∧ s.seq.state ≠ .running ∧ s.wpc.seqDrain = none ∧ s.dsu.state = .idle
        ∧ s.ddu.drive = .stopped ∧ s.wpc.leak = none)
      ∧ ∀ s ∈ ([partIn .shuttingDown dwelling, partIn .shuttingDown (finishing 80000000 .none none []),
        partIn .shuttingDown (finishing 80000000 .brine none []),
        partIn .shuttingDown { dwelling with seq := (seqIn .ending .none).seq }] : List State), Sound s :=
  ⟨by decide +kernel, sound_of_all _ (by decide +kernel)⟩

/-- A top-up's first pulse and a later one: in bypass service, through a column above the reserve, meeting it, empty. -/
theorem witness_TopUpPulsesRunTheColumnDown :
    ∀ n ∈ ([0, 1, 297] : List Nat), ∀ s ∈ ([topUpAt n {} none, topUpAt n ⟨1013407, false, 0, false⟩ (some .a),
        { topUpAt n ⟨1006704, false, 40, false⟩ (some .a) with
          wpc := { (topUpAt n {} none).wpc with latchedK := 1000 }, sfu := { (topUpAt n ⟨1006704, false, 40, false⟩ (some .a)).sfu with rho := 80 } },
        topUpAt n ⟨0, true, 0, false⟩ (some .a)] : List State),
      Rests s ∧ GrantsAgree s ∧ 200 ≤ s.wpc.latchedK ∧ s.wpc.residue < s.wpc.latchedK
        ∧ 0 < (s.wpc.residue + 1000) / s.wpc.latchedK ∧ s.wpc.fill = some ⟨300, .topUp, true⟩
        ∧ s.wpc.grantCount + (s.wpc.residue + 1000) / s.wpc.latchedK < 300 ∧ s.sfu.valveFault = false ∧ s.sfu.blend < 1000
        ∧ s.sfu.ready = [] := by
  decide +kernel

/-- R60, R61: the first millilitres of a top-up through an empty column. -/
theorem test_top_up_breakthrough :
    (after .flowMeterPulse (topUpAt 0 ⟨0, true, 0, false⟩ (some .a))).sfu.topUpCount = 2
      ∧ (after .flowMeterPulse (topUpAt 0 ⟨0, true, 0, false⟩ (some .a))).sfu.topUpMark = true
      ∧ (after .flowMeterPulse (topUpAt 0 ⟨0, true, 0, false⟩ (some .a))).sfu.fill
          = (topUpAt 0 ⟨0, true, 0, false⟩ (some .a)).sfu.fill := by
  and_intros <;> decide +kernel

/-- Retained columns with a ready queue above, at and below the reserve, one in the engine. -/
def storedReady : State :=
  { stored with
    rst := { stored.rst with
      columns := some ⟨⟨1000000, false, 1, false⟩, ⟨90000000, false, 2, false⟩, some ⟨5, true, 3, true⟩, none, [.a, .b], [], some .c,
        [], []⟩ } }

theorem witness_TheRestoredColumnsAreTested :
    Pins.quiet.flood = false ∧ (keptCopies storedReady.rst).columns = storedReady.rst.columns
      ∧ storedReady.rst.columns.isSome = true ∧ ([.a, .b] : List Column).Nodup := by
  and_intros <;> decide +kernel

/-- R56: the column at the reserve waits behind the one of the engine; the other is limited to the nominal capacity. -/
theorem test_restored_columns :
    (after (.powerOn Pins.quiet) storedReady).sfu.regenQ = [.c, .a]
      ∧ (after (.powerOn Pins.quiet) storedReady).sfu.ready = [.b]
      ∧ (after (.powerOn Pins.quiet) storedReady).sfu.colB.remaining = 80000000 := by
  and_intros <;> decide +kernel

theorem witness_TheDryingEndsInOneEvent :
    (∀ c ∈ ([799, 1199] : List Nat),
      Rests { awaitedDry .opening .outward c false with ddu := { (awaitedDry .opening .outward c false).ddu with openTime := 0 } }
        ∧ 800 ≤ c + 1 ∧ c < 1200 ∧ 150 ≤ c)
      ∧ (Rests (retractingInDry true none false) ∧ (retractingInDry true none false).ddu.stall.isSome = true
        ∧ (retractingInDry true none false).part.homings.actuator = false
        ∧ (retractingInDry true none false).seq.count ≤ (retractingInDry true none false).seq.idx + 1)
      ∧ (Rests (retractingInDry false (some ⟨0, 1⟩) false) ∧ runningIn (retractingInDry false (some ⟨0, 1⟩) false) .dry = true
        ∧ (retractingInDry false (some ⟨0, 1⟩) false).ddu.doorOpen = false) := by
  and_intros <;> decide +kernel

/-- A fill to resume, begun or not, with its record. -/
def resuming (begun : Bool) : State :=
  { settlingIn wash (.sub .fill) begun [] with
    sfu := { ready.sfu with fill := { isOpen := begun, v := if begun then 40 else 0, g := 0, hFill := 0, breakthrough := 0 } } }

theorem witness_TheResumedFillMeetsTheInlet :
    (∀ begun : Bool, ∀ s ∈ ([resuming begun, atHigh (resuming begun), beside (resuming begun) effluent, inRunOn (resuming begun),
        beside (resuming begun) rinseWaiting] : List State),
      Awake s ∧ s.seq.state = .suspended ∧ s.seq.settling.isSome = true ∧ s.ddu.doorOpen = false
        ∧ s.seq.remembered = .sub .fill ∧ currentWash s = some wash ∧ 0 < wash.holdTime)
      ∧ ∀ s ∈ ([resuming true, atHigh (resuming true), beside (resuming true) effluent, inRunOn (resuming true),
        beside (resuming true) rinseWaiting, resuming false, atHigh (resuming false), beside (resuming false) effluent,
        inRunOn (resuming false)] : List State), Sound s :=
  ⟨by decide +kernel, sound_of_all _ (by decide +kernel)⟩

/-- R25, R38: the rest of the fill waits behind the burst. -/
theorem test_resumed_fill :
    (after .settlingTimerExpiry (beside (resuming true) effluent)).wpc.fill = some ⟨2960, .main, false⟩
      ∧ (after .settlingTimerExpiry (inRunOn (resuming true))).seq.state = .faulted := by
  and_intros <;> decide +kernel

/-- The engine in use: columns restored, regenerated and retired beside it; its dwell over beside a held fill. -/
theorem witness_BesideABusyEngine :
    (Listens dwelling ∧ Rests dwelling ∧ dwelling.rge.state ≠ .idle ∧ columnState dwelling .c = .retired
        ∧ (.c : Column) ∈ dwelling.sfu.retired)
      ∧ (Awake (beside (filling .main 0) dwelling) ∧ GrantsAgree (beside (filling .main 0) dwelling)
        ∧ (beside (filling .main 0) dwelling).rge.state = .dwell
        ∧ (beside (filling .main 0) dwelling).wpc.fill = some ⟨3000, .main, true⟩)
      ∧ (Awake dwelling ∧ dwelling.wpc.fill = none ∧ waterFlows dwelling = true ∧ waterFlows (sumpFull dwelling) = false)
      ∧ (Listens { drawing with sfu := { drawing.sfu with regenQ := [.c], retired := [] } }
        ∧ columnState { drawing with sfu := { drawing.sfu with regenQ := [.c], retired := [] } } .b = .regenerating) := by
  and_intros <;> decide +kernel

theorem witness_TheWaterPathRests :
    ∀ s ∈ ([ready, drawing, rinsing, dwelling, effluent, filling .main 0, behindBurst] : List State),
      s.part.powered = true ∧ s.part.state = .ready ∧ WaterRests s := by
  decide +kernel

/-- An extended drain of phase 0 with the phases that follow it, the engine drawing. -/
def extendingTo (b c : Option Phase) (count : Nat) : State :=
  { inDrain drawing (some 3) with
    seq := { (inDrain drawing (some 3)).seq with table := table3 (some (.wash .main wash)) b c, count := count } }

/-- Edits that leave a wash phase, and edits that leave only a DRY one; the count in ENDING. -/
theorem witness_EditsMeetTheDrainExtension :
    (∀ e ∈ ([(extendingTo (some (.wash .rinse plain)) none 2, 2, 3), (extendingTo (some (.wash .rinse plain)) (some (.dry 3 4)) 3, 2, 3)]
        : List (State × Nat × Nat)),
      Listens e.1 ∧ editing e.1 = true ∧ Extending e.1 ∧ e.1.seq.idx < e.2.1 ∧ ¬ (e.2.1 + 1 < e.1.seq.count)
        ∧ washLater { e.1.seq with table := e.1.seq.table.setIfInBounds e.2.1 (some (.dry 3600 3600)) })
      ∧ (∀ b ∈ ([2, 3] : List Nat), Listens (extendingTo (some (.wash .rinse plain)) (some (.dry 3 4)) 3)
        ∧ (∀ j : Fin 12, 0 < j.val → j.val < b →
          slotBad true (extendingTo (some (.wash .rinse plain)) (some (.dry 3 4)) 3).seq b j.val = false)
        ∧ washLater { (extendingTo (some (.wash .rinse plain)) (some (.dry 3 4)) 3).seq with count := b })
      ∧ (∀ s ∈ ([extendingTo (some (.wash .rinse plain)) none 2, openDoor (extendingTo (some (.wash .rinse plain)) none 2)]
          : List State),
        Listens s ∧ editing s = true ∧ Extending s ∧ s.seq.idx < 1 ∧ ¬ (1 + 1 < s.seq.count)
          ∧ ¬ washLater { s.seq with table := s.seq.table.setIfInBounds 1 (some (.dry 3600 3600)) }
          ∧ BoundaryRests { s with seq := { s.seq with holdPending := true } } ∧ s.seq.idx + 1 < s.seq.count)
      ∧ (Listens (extendingTo (some (.dry 3 4)) none 2) ∧ editing (extendingTo (some (.dry 3 4)) none 2) = true
        ∧ Extending (extendingTo (some (.dry 3 4)) none 2)
        ∧ (∀ j : Fin 12, 0 < j.val → j.val < 2 → slotBad true (extendingTo (some (.dry 3 4)) none 2).seq 2 j.val = false)
        ∧ ¬ washLater { (extendingTo (some (.dry 3 4)) none 2).seq with count := 2 })
      ∧ (Listens (seqIn .ending .none) ∧ (12#8 : Byte).toNat ≤ 12)
      ∧ ∀ s ∈ ([extendingTo (some (.wash .rinse plain)) none 2, openDoor (extendingTo (some (.wash .rinse plain)) none 2),
          extendingTo (some (.dry 3 4)) none 2] : List State), Sound s :=
  ⟨by decide +kernel, by decide +kernel, by decide +kernel, by and_intros <;> decide +kernel, by and_intros <;> decide +kernel,
    sound_of_all _ (by decide +kernel)⟩

/-- R30, R18: with only a DRY phase left the extension is over and that phase is entered. -/
theorem test_edit_ends_extension :
    (after (.loadPhase 1#8 1#8 (payload 4#8 0#8 0#8 0#8)) (extendingTo (some (.wash .rinse plain)) none 2)).seq.sub = .dry
      ∧ (after (.loadPhase 1#8 1#8 (payload 4#8 0#8 0#8 0#8)) (extendingTo (some (.wash .rinse plain)) none 2)).seq.idx = 1 := by
  and_intros <;> decide +kernel

/-- A latched b of 1000. -/
def rawTarget (s : State) : State := { s with sfu := { s.sfu with blend := 1000, rho := 80 } }

/-- A column valve fault. -/
def valveFails (s : State) : State := { s with sfu := { s.sfu with valveFault := true } }

/-- Millilitres that charge no column: under a valve fault, with a b of 1000 above the reserve, and exhausted above 0; and
the one that finds the column at the reserve, with a b of 1000. -/
theorem witness_RawMillilitresLeaveTheColumn :
    (∀ s ∈ ([valveFails (served 0 (some .a) ⟨0, true, 0, false⟩ 0), rawTarget (served 0 (some .a) ⟨1000001, false, 0, false⟩ 0),
        rawTarget (served 2997 (some .a) ⟨1, true, 0, false⟩ 0)] : List State),
      Rests s ∧ GrantsAgree s ∧ s.wpc.latchedK = 480 ∧ s.wpc.residue < 480 ∧ (s.wpc.residue + 1000) / 480 = 2
        ∧ s.wpc.fill = some ⟨3000, .main, true⟩ ∧ s.wpc.grantCount + 2 < 3000 ∧ s.sfu.service = some .a
        ∧ (s.sfu.valveFault = true ∨ (s.sfu.blend = 1000 ∧ 0 < s.sfu.colA.remaining
          ∧ (s.cfg.reserve < s.sfu.colA.remaining ∨ s.sfu.colA.exhausted = true))))
      ∧ (∀ s ∈ ([valveFails (topUpAt 0 ⟨0, true, 0, false⟩ (some .a)), rawTarget (topUpAt 1 ⟨1000001, false, 0, false⟩ (some .a)),
          rawTarget (topUpAt 297 ⟨1, true, 0, false⟩ (some .a))] : List State),
        Rests s ∧ GrantsAgree s ∧ s.wpc.latchedK = 480 ∧ s.wpc.residue < 480 ∧ s.wpc.fill = some ⟨300, .topUp, true⟩
          ∧ s.wpc.grantCount + 2 < 300 ∧ s.sfu.service = some .a)
      ∧ (∀ s ∈ ([rawTarget (served 0 (some .a) ⟨1000000, false, 0, false⟩ 0),
          rawTarget { ready with
            wpc := (served 0 none {} 0).wpc, seq := (served 0 none {} 0).seq
            sfu := { ready.sfu with colA := ⟨1000000, false, 40, false⟩ } },
          rawTarget (topUpAt 0 ⟨1000000, false, 0, false⟩ (some .a))] : List State),
        Rests { s with wpc := { s.wpc with latchedK := 1000 } } ∧ GrantsAgree s ∧ s.wpc.residue < 1000
          ∧ (s.wpc.residue + 1000) / 1000 = 1 ∧ s.sfu.blend = 1000 ∧ s.sfu.rho < 100 ∧ 0 < s.sfu.colA.remaining
          ∧ s.sfu.colA.remaining - (s.sfu.rho + s.sfu.hRaw * (1000 - s.sfu.blend)) / 100 = s.cfg.reserve
          ∧ s.sfu.colA.exhausted = false) := by
  and_intros <;> decide +kernel

/-- R77, R59: under a valve fault and with a b of 1000 a millilitre is raw and the column keeps its capacity. -/
theorem test_raw_millilitres :
    (after .flowMeterPulse (valveFails (served 0 (some .a) ⟨0, true, 0, false⟩ 0))).sfu.fill = ⟨true, 2, 1440000, 0, 0⟩
      ∧ (after .flowMeterPulse (rawTarget (served 0 (some .a) ⟨1000001, false, 0, false⟩ 0))).sfu.colA
          = ⟨1000001, false, 0, false⟩ := by
  and_intros <;> decide +kernel

/-- C waits behind a busy engine, beside a held fill, and under a valve fault with the engine IDLE. -/
theorem witness_AWaitingColumnIsRetired :
    ∀ s ∈ ([drawing, effluent, beside (filling .main 0) dwelling, valveFails ready] : List State),
      Listens { s with sfu := { s.sfu with regenQ := [.c], retired := [] } }
        ∧ Rests { s with sfu := { s.sfu with regenQ := [.c], retired := [] } }
        ∧ columnState { s with sfu := { s.sfu with regenQ := [.c], retired := [] } } .c = .waiting ∧ s.cfg.fitted = 3 := by
  decide +kernel

/-- R71: the waiting column leaves the queue, the engine goes on. -/
theorem test_waiting_column_retired :
    (after (.retireColumn 1#8 3#8) { drawing with sfu := { drawing.sfu with regenQ := [.c], retired := [] } }).sfu.retired = [.c]
      ∧ (after (.retireColumn 1#8 3#8) { drawing with sfu := { drawing.sfu with regenQ := [.c], retired := [] } }).rge
          = drawing.rge := by
  and_intros <;> decide +kernel

/-- A timed-out effluent drain, its mark, the queue behind it, a valve fault. -/
def timedOut (gq : List Column) (fault : Bool) : State :=
  { effluent with
    rge := { effluent.rge with result := none, timeout := .brine }
    sfu := { effluent.sfu with regenQ := gq, retired := if gq = [] then [.c] else [], valveFault := fault } }

/-- RESET UNIT SOFTENER with a timeout mark, beside a held fill, and within a drain extension: without and under a fault,
with a mark, a hold pending, the door open. -/
theorem witness_TheSoftenerResetMeetsMarksAndExtensions :
    (∀ s ∈ ([timedOut [] false, timedOut [.c] false, timedOut [.c] true, beside (filling .main 0) dwelling] : List State),
      Listens s ∧ s.seq.extension = none ∧ s.wpc.highLevel = false ∧ s.rge.column = some .b)
      ∧ ((timedOut [.c] false).rge.timeout ≠ .none ∧ (beside (filling .main 0) dwelling).rge.timeout = .none)
      ∧ (∀ s ∈ ([inDrain drawing (some 3), valveFails (inDrain rinsing (some 3)), openDoor (inDrain drawing (some 3)),
          { inDrain drawing (some 3) with rge := { drawing.rge with timeout := .brine } }] : List State),
        Listens s ∧ Extending s ∧ s.rge.column = some .b ∧ BoundaryRests s)
      ∧ ∀ s ∈ ([timedOut [] false, timedOut [.c] false, timedOut [.c] true, beside (filling .main 0) dwelling,
          inDrain drawing (some 3), valveFails (inDrain rinsing (some 3)), openDoor (inDrain drawing (some 3)),
          { inDrain drawing (some 3) with rge := { drawing.rge with timeout := .brine } }] : List State), Sound s :=
  ⟨by decide +kernel, by and_intros <;> decide +kernel, by decide +kernel, sound_of_all _ (by decide +kernel)⟩

/-- R92, R93: the timed-out column joins the faulted set, and the next one is taken; in an extension the phase ends. -/
theorem test_softener_reset :
    (after (.resetUnitSoftener 1#8) (timedOut [.c] false)).sfu.faulted = [.b]
      ∧ (after (.resetUnitSoftener 1#8) (timedOut [.c] false)).rge.column = some .c
      ∧ (after (.resetUnitSoftener 1#8) (inDrain drawing (some 3))).seq.idx = 1 := by
  and_intros <;> decide +kernel

/-- RESET UNIT DOSING in DOSE with a stroke, with a window and a prime, and outside DOSE; the queue empty and at its six. -/
theorem witness_TheDosingResetEndsTheDoses :
    (∀ s ∈ ([inDose (dosing .serving [dose 9 0] [] (some .d1) none (some 4)),
        inDose (dosing .gathering [] [dose 0 0, prime .queued 0 1 0] none none none)] : List State),
      Listens s ∧ Rests s ∧ DosesKept s ∧ runningIn s .dose = true ∧ s.seq.placed ≠ [] ∧ currentWash s = some wash)
      ∧ (∀ s ∈ ([inDose (dosing .serving [dose 9 0] [] (some .d1) none (some 4)),
          inDose (dosing .gathering [] [dose 0 0, prime .queued 0 1 0] none none none)] : List State),
        0 < wash.holdTime ∧ 0 < wash.target ∧ s.seq.heaterOff = false ∧ s.htc.valid = true ∧ 0 < wash.heatLimit
          ∧ s.htc.temp = some 20 ∧ 20 < wash.target)
      ∧ (Listens (dosing .serving [dose 9 0] [] (some .d1) none (some 4)) ∧ Rests (dosing .serving [dose 9 0] [] (some .d1) none (some 4))
        ∧ DosesKept (dosing .serving [dose 9 0] [] (some .d1) none (some 4))
        ∧ runningIn (dosing .serving [dose 9 0] [] (some .d1) none (some 4)) .dose = false)
      ∧ DosesKept queued
      ∧ DosesKept (dosing .serving [dose 9 0, { dose 0 0 with channel := .d2 }, { dose 0 0 with channel := .d3 }]
          [prime .queued 0 1 0, { prime .queued 0 1 0 with channel := .d2 }, { prime .queued 0 1 0 with channel := .d3 }]
          (some .d1) none (some 4)) := by
  and_intros <;> decide +kernel

/-- R127, R11: the reset counts the confirmed strokes of the abandoned request, and DOSE is over. -/
theorem test_dosing_reset_in_dose :
    (after (.resetUnitDosing 1#8) (inDose (dosing .serving [dose 9 0] [] (some .d1) none (some 4)))).seq.sub = .heat
      ∧ perChannelGet (after (.resetUnitDosing 1#8)
          (inDose (dosing .serving [dose 9 0] [] (some .d1) none (some 4)))).seq.summary.dose .d1 = 225 := by
  and_intros <;> decide +kernel

/-- OPENING in a DRY phase: the retry pause under way, or a rod that has not left home. -/
def inRetryPause (used count : Nat) : State :=
  { awaitedDry .opening .stopped count false with
    ddu := { (awaitedDry .opening .stopped count false).ddu with retryUsed := true, retryPause := some used } }
def jammedAtHome : State :=
  { awaitedDry .opening .outward 3 false with
    pins := { ready.pins with home := true }, ddu := { (awaitedDry .opening .outward 3 false).ddu with retryUsed := true } }

/-- STARTING with the actuator's homing, and the homing or the retraction of a NORMAL shutdown, alone or beside other work. -/
def homesIn (st : PartState) (s : State) : State :=
  { s with
    part := { s.part with state := st, homings := ⟨false, false, false, st == .starting⟩ }
    pins := { s.pins with home := false }
    ddu := { s.ddu with drive := .inward, stall := some 0, count := 9, stage := if st == .starting then .none else s.ddu.stage } }

/-- The retry pause at its bounds, a stall at home, and the actuator outside READY. -/
theorem witness_TheRetryPauseAndTheActuatorOutsideReady :
    (∀ n ∈ ([0, 2] : List Nat), Rests (inRetryPause n 149) ∧ (inRetryPause n 149).ddu.retryPause.isSome = true
        ∧ (inRetryPause n 149).ddu.stall = none ∧ (inRetryPause n 149).ddu.drive = .stopped)
      ∧ (Rests jammedAtHome ∧ jammedAtHome.ddu.stall.isSome = true ∧ jammedAtHome.ddu.drive = .outward
        ∧ jammedAtHome.ddu.count < 150 ∧ jammedAtHome.ddu.retryUsed = true ∧ jammedAtHome.pins.home = true
        ∧ jammedAtHome.ddu.pendingStart = none ∧ runningIn jammedAtHome .dry = true
        ∧ jammedAtHome.seq.count ≤ jammedAtHome.seq.idx + 1)
      ∧ (Rests (atHome false false false .done) ∧ (atHome false false false .done).ddu.fitted = false)
      ∧ (∀ s ∈ ([homesIn .starting ready, homesIn .shuttingDown ready, homesIn .shuttingDown (drying .retracting .inward 9 true false false),
          homesIn .shuttingDown effluent] : List State),
        s.part.powered = true ∧ s.ddu.fitted = true ∧ s.ddu.drive = .inward ∧ s.part.writesAsked = false ∧ s.part.abrupt = false)
      ∧ ((homesIn .starting ready).part.homings ≠ {} ∧ (homesIn .shuttingDown ready).part.homings.actuator = false)
      ∧ ∀ s ∈ ([inRetryPause 0 149, inRetryPause 2 0, jammedAtHome, homesIn .starting ready, homesIn .shuttingDown ready,
          homesIn .shuttingDown (drying .retracting .inward 9 true false false), homesIn .shuttingDown effluent] : List State),
        Sound s :=
  ⟨by decide +kernel, by and_intros <;> decide +kernel, by and_intros <;> decide +kernel, by decide +kernel,
    by and_intros <;> decide +kernel, sound_of_all _ (by decide +kernel)⟩

/-- R166: the pause over, the rod is driven outward again; a second stall at home ends the drying there. R173, R198: home in a
shutdown lets the writes be asked. -/
theorem test_retry_pause :
    (after .retryPauseExpiry (inRetryPause 2 149)).ddu.drive = .outward
      ∧ (after .stallTimerExpiry jammedAtHome).ddu.stage = .done
      ∧ (after (.homeSwitchChange true) (homesIn .shuttingDown ready)).part.writesAsked = true := by
  and_intros <;> decide +kernel

/-! ## What falls together -/

/-- A state with commands in the queue. -/
def withPending (cs : List Instr) (s : State) : State := { s with pending := cs }

/-- A state with every mark of what falls together set. -/
def marked (s : State) : State := { s with ties := ⟨true, true, true, true, true, true, true⟩ }

/-- No mark is set and no cancelling command waits in the states of the witnesses above. -/
theorem witness_NothingFallsTogether :
    (∀ s ∈ ([ready, linked .degraded 120 ready, heldAfter 0 false 120, filling .main 0, secondLimit, toppingUp,
          valveMoves false, valveMoves true, homingIn false (.column .a), diverting true .z1, diverting false .z2,
          startingWith ⟨false, true, true, true⟩, dosing .serving [prime .active 0 1 0] [] none (some ⟨true, .d1, 5⟩) none,
          dosing .serving [dose 0 0] [] none (some ⟨false, .d1, 5⟩) none, drying .opening .outward 149 true false false,
          drying .retracting .inward 9 true false false, awaitedDry .opening .outward 9 false, jammedAtHome,
          homesIn .starting ready, homesIn .shuttingDown ready] : List State),
        s.ties = {} ∧ cancelledBehind s = false)
      ∧ (∀ r ∈ ([prime .active 1 2 1, prime .active 3 9 2, prime .active 2 2 0, dose 9 0, dose 93 0, dose 9 1, dose 9 2]
          : List DoseReq), cancelledBehind (stroking r) = false ∧ cancelledBehind (underPause (stroking r)) = false
            ∧ cancelledBehind (lowD1 24 (stroking r)) = false)
      ∧ cancelledBehind (dosing .serving [dose 93 0] [{ prime .queued 0 1 0 with channel := .d2 }] (some .d1) none (some 4))
        = false := by
  and_intros <;> decide +kernel

/-- A confirmation, a good frame or the end of a grant with the limit of its time behind it, and a limit marked void. -/
theorem witness_ALimitIsVoid :
    (Hears ready ∧ ready.lnk.assembling = false ∧ ready.lnk.silence.isSome = true)
      ∧ (∀ s ∈ ([filling .main 5, marked (filling .main 5), topUpAt 0 {} none,
          served 2999 none {} 0] : List State),
        Awake s ∧ (s.wpc.fill.map (·.held)) = some true ∧ s.wpc.highLevel = false ∧ 200 ≤ s.wpc.latchedK)
      ∧ ((served 2999 none {} 0).wpc.fill = some ⟨3000, .main, true⟩
        ∧ 3000 ≤ (served 2999 none {} 0).wpc.grantCount
            + ((served 2999 none {} 0).wpc.residue + 1000) / (served 2999 none {} 0).wpc.latchedK
        ∧ (served 2999 none {} 0).wpc.grantCount < 3000)
      ∧ (∀ s ∈ ([valveMoves true, marked (valveMoves false), clearing false none [.b] [.c] ready] : List State),
        Rests s ∧ s.sfu.valveMove.isSome = true)
      ∧ (∀ s ∈ ([dosing .serving [{ prime .active 0 1 0 with channel := .d2 }] [] none (some ⟨true, .d1, 5⟩) none,
            marked (dosing .serving [prime .active 0 1 0] [] none (some ⟨false, .d1, 5⟩) none)] : List State),
        Rests s ∧ s.dsu.stroke = none ∧ s.dsu.pause = false ∧ s.dsu.move.isSome = true)
      ∧ (∀ s ∈ ([diverting true .z1, marked (diverting false .z2)] : List State), Rests s ∧ s.czs.move.isSome = true)
      ∧ ∀ s ∈ ([filling .main 5, marked (filling .main 5), topUpAt 0 {} none,
          served 2999 none {} 0] : List State),
        Sound s :=
  ⟨by and_intros <;> decide +kernel, by decide +kernel, by decide +kernel, by decide +kernel, by decide +kernel,
    by decide +kernel, sound_of_all _ (by decide +kernel)⟩

/-- A stroke with the command that cancels its request behind it: below the target, reaching it, at its third miss, under the
pause; the strokes of 10 and of 50. -/
theorem witness_ACancellationBehindTheStroke (v : Nat) (h : v = 10 ∨ v = 50) :
    (∀ r ∈ ([dose 9 0, dose 9 2, dose 93 0] : List DoseReq), ∀ c ∈ ([.abortProgram 1#8, .resetUnitSequencer 2#8] : List Instr),
      Rests (withPending [c] (stroking { r with strokeVolume := v }))
        ∧ cancelledBehind (withPending [c] (stroking { r with strokeVolume := v })) = true
        ∧ (stroking { r with strokeVolume := v }).dsu.stroke.isSome = true ∧ r.cancel = false ∧ 10 ≤ v ∧ v ≤ 50
        ∧ currentWash (stroking { r with strokeVolume := v }) = some wash)
      ∧ ((dose 9 0).confirmed + 1 < (dose 9 0).target ∧ (dose 93 0).target ≤ (dose 93 0).confirmed + 1)
      ∧ (∀ c ∈ ([.strokeTimeout, .strokeConfirmationPulse] : List Instr), ∀ s ∈ ([stroking { dose 9 2 with strokeVolume := v },
          underPause (stroking { dose 9 0 with strokeVolume := v })] : List State),
        Listens (withPending [c, .abortProgram 1#8] s) ∧ Rests (withPending [c, .abortProgram 1#8] s)
          ∧ s.dsu.state = .serving ∧ programHeats s = true ∧ runningIn s .dry = false)
      ∧ (∀ s ∈ ([withPending [.strokeTimeout, .abortProgram 1#8] (stroking { dose 9 2 with strokeVolume := v }),
          withPending [.strokeConfirmationPulse, .abortProgram 1#8] (underPause (stroking { dose 9 0 with strokeVolume := v }))]
          : List State), Sound s)
      ∧ LevelsKept (withPending [.strokeTimeout, .abortProgram 1#8] (stroking { dose 9 2 with strokeVolume := v })) := by
  rcases h with rfl | rfl <;> exact ⟨by decide +kernel, by decide +kernel, by decide +kernel,
    sound_of_all _ (by decide +kernel), levels_dosing _ _ _ _ _ _⟩

/-- A slot with more to come in its zone, and the last one of its zone; an edge with the 300 ms behind it. -/
theorem witness_TheStopAndTheStallFallTogether :
    (∀ n ∈ ([1, 2] : List Nat), (spraying n 0 false).part.powered = true ∧ (spraying n 0 false).czs.pump = true
        ∧ slotCounts (spraying n 0 false) = true ∧ (spraying n 0 false).czs.zone = some .z1
        ∧ (spraying n 0 false).czs.position = some .z1)
      ∧ (1 < perZoneGet (⟨2, 1, 0, 1⟩ : PerZone Nat) .z1 ∧ perZoneGet (⟨2, 1, 0, 1⟩ : PerZone Nat) .z1 ≤ 2
        ∧ (zonesAfter .z1).find? (fun y => decide (0 < perZoneGet (⟨2, 1, 0, 1⟩ : PerZone Nat) y)) = some .z2)
      ∧ (∀ s ∈ ([drying .opening .outward 798 true false false, drying .opening .outward 799 true false false,
          drying .retracting .inward 9 true false false] : List State),
        s.part.powered = true ∧ senses s = true ∧ s.ddu.fitted = true ∧ s.ddu.stall.isSome = true) := by
  and_intros <;> decide +kernel

/-- R126: the third miss with ABORT PROGRAM behind it raises nothing and the dose ends CANCELLED, its 9 strokes counted. -/
theorem test_abort_with_third_miss :
    let t := after (.abortProgram 1#8) (after .strokeTimeout (withPending [.abortProgram 1#8] (stroking (dose 9 2))))
    t.dsu.batch = [] ∧ t.rst.history = ready.rst.history ∧ perChannelGet t.seq.summary.dose .d1 = 225 := by
  decide +kernel

/-- R146: the stop before the slot's end keeps the slot at its length; the pump on again, the next slot begins, once. -/
theorem test_stop_before_slot_end :
    let t := after .slotTimeExpiry (stopCirculation (spraying 1 0 false))
    t.czs.slotTime = 30 ∧ (runCirculation wash t).czs.slotsGiven = 2
      ∧ (after .slotTimeExpiry (runCirculation wash t)).czs.slotsGiven = 2 := by
  decide +kernel

/-- R151: the homing's confirmation before its limit succeeds, though the move to the zone has followed; the limit alone
fails. -/
theorem test_homing_before_limit :
    (after .diverterMoveTimeout (after (.diverterPositionReport .z1) (diverting true .z1))).czs.fixed = false
      ∧ (after .diverterMoveTimeout (diverting true .z1)).czs.position = none
      ∧ (after .diverterMoveTimeout (diverting true .z1)).rst.history ≠ ready.rst.history := by
  decide +kernel

/-- R160: with the 300 ms right behind the edge there is no stall; without it the next one is a stall. -/
theorem test_edge_before_stall :
    (after .stallTimerExpiry (after (.actuatorEncoderEdge true)
        (withPending [.stallTimerExpiry] (drying .opening .outward 148 true false false)))).ddu.drive = .outward
      ∧ (after .stallTimerExpiry (after (.actuatorEncoderEdge true)
        (drying .opening .outward 148 true false false))).ddu.drive = .stopped := by
  and_intros <;> decide +kernel

end Sys2Proof.Tests
end

section
/-! PROOFS. What every operation of a block keeps, whatever it does besides: the settings, the levels, the dose queue, the
meter, the pressure condition and the homings (`Blocks`), and, for all but the sequencer's own operations, the course of the
sequencer (`Aside`). One lemma for each operation, in the order of the model; invariants of every step are read off them. -/

/- One theorem at a time, as the tests have it: proofs that wait for the kernel cost a thread each. -/
set_option Elab.async false

namespace Sys2Proof.Proofs

open Sys2Proof.Machine
open Sys2Proof.Safety

/-! ## The relations -/

/-- What the host sets: it changes by a request, by power and by reset alone. -/
structure Settings where
  cfg : ConfigRec
  table : Vector (Option Phase) 12
  count : Nat
  mask : BitVec 22

def settings (s : State) : Settings := ⟨s.cfg, s.seq.table, s.seq.count, s.lnk.mask⟩

/-- The sequencer's fields that say where a program stands. -/
structure Course where
  state : SeqState
  sub : SubStage
  idx : Nat
  remembered : Remembered
  settling : Bool
  extension : Bool
  fault : Option FaultCode
  soil : Nat

/-- Where the program of a sequencer stands. -/
def courseOf (q : Seq) : Course :=
  ⟨q.state, q.sub, q.idx, q.remembered, q.settling.isSome, q.extension.isSome, q.fault, q.soil⟩

/-- Homings are under way only in STARTING (R195). -/
def HomingsKept (p : Part) : Prop := p.state ≠ .starting → p.homings = {}

/-- The pressure condition is CONFIRMED just while the pump runs and the switch reads PRESSURE (R147). -/
def PressureAgrees (z : Czs) : Prop := z.confirmed = (z.pump && z.reading)

/-- The configured pulses per litre lie in their range (Table 49). -/
def PulsesInRange (c : ConfigRec) : Prop := 200 ≤ c.k ∧ c.k ≤ 1000

/-- From `s` to `t` the settings stand, and what holds of levels, doses, meter, homings and pressure is kept. -/
structure Blocks (s t : State) : Prop where
  settings : settings t = settings s
  powered : t.part.powered = s.part.powered
  homings : HomingsKept s.part → HomingsKept t.part
  levels : LevelsKept s → LevelsKept t
  doses : DosesKept s → DosesKept t
  meter : PulsesInRange s.cfg → MeterKept s → MeterKept t
  pressure : PressureAgrees s.czs → PressureAgrees t.czs

/-- So it is, and the sequencer's course stands. -/
structure Aside (s t : State) : Prop extends Blocks s t where
  course : courseOf t.seq = courseOf s.seq

theorem Blocks.refl (s : State) : Blocks s s := ⟨rfl, rfl, id, id, id, fun _ => id, id⟩

theorem Blocks.cfg {s t : State} (h : Blocks s t) : t.cfg = s.cfg := congrArg Settings.cfg h.settings

theorem Blocks.table {s t : State} (h : Blocks s t) : t.seq.table = s.seq.table := congrArg Settings.table h.settings

theorem Blocks.count {s t : State} (h : Blocks s t) : t.seq.count = s.seq.count := congrArg Settings.count h.settings

theorem Blocks.mask {s t : State} (h : Blocks s t) : t.lnk.mask = s.lnk.mask := congrArg Settings.mask h.settings

theorem Blocks.trans {s t u : State} (h : Blocks s t) (k : Blocks t u) : Blocks s u where
  settings := k.settings.trans h.settings
  powered := k.powered.trans h.powered
  homings := k.homings ∘ h.homings
  levels := k.levels ∘ h.levels
  doses := k.doses ∘ h.doses
  meter := fun hk hm => k.meter (h.cfg ▸ hk) (h.meter hk hm)
  pressure := k.pressure ∘ h.pressure

namespace Aside

variable {s t u a b : State}

theorem refl (s : State) : Aside s s := ⟨.refl s, rfl⟩

theorem trans (h : Aside s t) (k : Aside t u) : Aside s u := ⟨h.toBlocks.trans k.toBlocks, k.course.trans h.course⟩

theorem ite {c : Prop} [Decidable c] (ha : c → Aside s a) (hb : ¬ c → Aside s b) : Aside s (if c then a else b) := by
  split
  · exact ha ‹_›
  · exact hb ‹_›

theorem state (h : Aside s t) : t.seq.state = s.seq.state := congrArg Course.state h.course

theorem sub (h : Aside s t) : t.seq.sub = s.seq.sub := congrArg Course.sub h.course

theorem idx (h : Aside s t) : t.seq.idx = s.seq.idx := congrArg Course.idx h.course

/-! ## Updates of one block -/

theorem onPart (h : Aside s t) (f : Part → Part) (hp : (f t.part).powered = t.part.powered := by rfl)
    (hh : HomingsKept t.part → HomingsKept (f t.part) := by exact id) : Aside s (onPart f t) :=
  h.trans ⟨⟨rfl, hp, hh, id, id, fun _ => id, id⟩, rfl⟩

theorem onPins (h : Aside s t) (f : Pins → Pins) : Aside s (onPins f t) :=
  h.trans ⟨⟨rfl, rfl, id, id, id, fun _ => id, id⟩, rfl⟩

theorem onLnk (h : Aside s t) (f : Lnk → Lnk) (hm : (f t.lnk).mask = t.lnk.mask := by rfl) : Aside s (onLnk f t) :=
  h.trans ⟨⟨by simp [Proofs.settings, Machine.onLnk, hm], rfl, id, id, id, fun _ => id, id⟩, rfl⟩

theorem onSeq (h : Aside s t) (f : Seq → Seq) (hc : courseOf (f t.seq) = courseOf t.seq := by rfl)
    (ht : (f t.seq).table = t.seq.table := by rfl) (hn : (f t.seq).count = t.seq.count := by rfl) :
    Aside s (onSeq f t) :=
  h.trans ⟨⟨by simp [Proofs.settings, Machine.onSeq, ht, hn], rfl, id, id, id, fun _ => id, id⟩, hc⟩

theorem onWpc (h : Aside s t) (f : Wpc → Wpc) (hk : (f t.wpc).latchedK = t.wpc.latchedK := by rfl) :
    Aside s (onWpc f t) :=
  h.trans ⟨⟨rfl, rfl, id, id, id, fun _ => by simp [MeterKept, Machine.onWpc, hk], id⟩, rfl⟩

theorem onSfu (h : Aside s t) (f : Sfu → Sfu) (hr : (f t.sfu).rho = t.sfu.rho := by rfl) : Aside s (onSfu f t) :=
  h.trans ⟨⟨rfl, rfl, id, id, id, fun _ => by simp [MeterKept, Machine.onSfu, hr], id⟩, rfl⟩

/-- A change of the softener that leaves a charge residue below 100 (R59). -/
theorem onSfu_rho (h : Aside s t) (f : Sfu → Sfu) (hr : (f t.sfu).rho < 100) : Aside s (Machine.onSfu f t) :=
  h.trans ⟨⟨rfl, rfl, id, id, id, fun _ hm => ⟨hm.1, hm.2.1, hr⟩, id⟩, rfl⟩

theorem onRge (h : Aside s t) (f : Rge → Rge) : Aside s (onRge f t) :=
  h.trans ⟨⟨rfl, rfl, id, id, id, fun _ => id, id⟩, rfl⟩

theorem onHtc (h : Aside s t) (f : Htc → Htc) : Aside s (onHtc f t) :=
  h.trans ⟨⟨rfl, rfl, id, id, id, fun _ => id, id⟩, rfl⟩

theorem onCzs (h : Aside s t) (f : Czs → Czs) (hp : PressureAgrees t.czs → PressureAgrees (f t.czs) := by exact id) :
    Aside s (onCzs f t) :=
  h.trans ⟨⟨rfl, rfl, id, id, id, fun _ => id, hp⟩, rfl⟩

theorem czs (h : Aside s t) {z : Czs} (hp : PressureAgrees t.czs → PressureAgrees z) : Aside s { t with czs := z } :=
  h.onCzs (fun _ => z) hp

theorem onDdu (h : Aside s t) (f : Ddu → Ddu) : Aside s (onDdu f t) :=
  h.trans ⟨⟨rfl, rfl, id, id, id, fun _ => id, id⟩, rfl⟩

theorem onRst (h : Aside s t) (f : Rst → Rst) : Aside s (onRst f t) :=
  h.trans ⟨⟨rfl, rfl, id, id, id, fun _ => id, id⟩, rfl⟩

theorem onTies (h : Aside s t) (f : Ties → Ties) : Aside s (onTies f t) :=
  h.trans ⟨⟨rfl, rfl, id, id, id, fun _ => id, id⟩, rfl⟩

theorem onReports (h : Aside s t) (f : List Report → List Report) : Aside s (onReports f t) :=
  h.trans ⟨⟨rfl, rfl, id, id, id, fun _ => id, id⟩, rfl⟩

/-- A change of the dosing unit that keeps levels and queue. -/
theorem onDsu (h : Aside s t) (f : Dsu → Dsu) (hl : LevelsKept t → LevelsKept (Machine.onDsu f t) := by exact id)
    (hd : DosesKept t → DosesKept (Machine.onDsu f t) := by exact id) : Aside s (Machine.onDsu f t) :=
  h.trans ⟨⟨rfl, rfl, id, hl, hd, fun _ => id, id⟩, rfl⟩

/-! ## Operations of Machine/Ops.lean -/

theorem raiseNotice (h : Aside s t) (c : Content) : Aside s (raiseNotice c t) :=
  .ite (fun _ => h.onLnk _) fun _ => h

theorem askWrite (h : Aside s t) (id : RecordId) : Aside s (askWrite id t) := h.onRst _

theorem askAllWrites (h : Aside s t) : Aside s (askAllWrites t) :=
  (((h.askWrite _).askWrite _).askWrite _).askWrite _

theorem beginWrite (h : Aside s t) : Aside s (beginWrite t) := by
  unfold Machine.beginWrite
  split
  · exact h.onRst _
  · exact h

theorem enterFault (h : Aside s t) (e : FaultEntry) : Aside s (enterFault e t) := by
  unfold Machine.enterFault
  exact (((h.onRst _).askWrite _).raiseNotice _).onLnk _

theorem raiseFault (h : Aside s t) (code : FaultCode) (d1 d2 : Detail) : Aside s (raiseFault code d1 d2 t) :=
  h.enterFault _

theorem report (h : Aside s t) (r : Report) : Aside s (report r t) := h.onReports _

theorem beginTransmit (h : Aside s t) : Aside s (beginTransmit t) := by
  simp only [Machine.beginTransmit]
  repeat' split
  all_goals first | exact h | exact h.onLnk _

theorem finish (h : Aside s t) : Aside s (finish t) := h.beginWrite.beginTransmit

/-! ## Circulation -/

theorem homeDiverter (h : Aside s t) : Aside s (homeDiverter t) := h.onCzs _

theorem commandDiverter (h : Aside s t) (z : Zone) : Aside s (commandDiverter z t) := by
  unfold Machine.commandDiverter
  split
  · exact h.homeDiverter
  · exact h.onCzs _

theorem beginSlot (h : Aside s t) (z : Zone) : Aside s (beginSlot z t) :=
  .ite (fun _ => h.onCzs _) fun _ => (h.onCzs _).commandDiverter _

theorem nextSlot (h : Aside s t) : Aside s (nextSlot t) := by
  unfold Machine.nextSlot
  split
  · exact h
  · split
    · split
      · exact (h.onCzs _).beginSlot _
      · exact h
    · exact h.beginSlot _

theorem circulationPhaseEntry (h : Aside s t) : Aside s (circulationPhaseEntry t) := h.onCzs _

theorem startPump (h : Aside s t) : Aside s (startPump t) :=
  h.onCzs _ fun _ => by simp [PressureAgrees]

theorem startSchedule (h : Aside s t) (w : PerZone Nat) (l : Nat) : Aside s (startSchedule w l t) := by
  simp only [Machine.startSchedule]
  split
  · exact h.onCzs _
  · exact .ite (fun _ => (h.onCzs _).onCzs _) fun _ => (h.onCzs _).beginSlot _

theorem resumeSlot (h : Aside s t) : Aside s (resumeSlot t) :=
  .ite (fun _ => h.nextSlot.onCzs _) fun _ => h

theorem runCirculation (h : Aside s t) (w : WashRecord) : Aside s (runCirculation w t) :=
  .ite (fun _ => h) fun _ => .ite (fun _ => h.startPump.resumeSlot) fun _ => (h.startSchedule _ _).startPump

theorem stopCirculation (h : Aside s t) : Aside s (stopCirculation t) :=
  .ite (fun _ => (h.onCzs _ fun _ => by simp [PressureAgrees]).onTies _) fun _ => h

theorem pressureChanged (h : Aside s t) (p : Bool) : Aside s (pressureChanged p t) := by
  simp only [Machine.pressureChanged]
  split
  · exact h
  · split
    · next hp =>
      have hp : t.czs.pump = true := hp
      split
      · next h1 => exact h.czs fun _ => by simp [PressureAgrees, hp, h1]
      · next h1 => exact h.czs fun _ => by simp [PressureAgrees, h1]
    · next hp =>
      have hp : t.czs.pump = false := by simpa using hp
      exact h.czs fun hc => by simp_all [PressureAgrees]

theorem diverterHomed (h : Aside s t) : Aside s (diverterHomed t) :=
  h.onPart _ rfl fun hh hs => by simp [hh hs]

theorem afterDiverterHoming (h : Aside s t) : Aside s (afterDiverterHoming t) := by
  unfold Machine.afterDiverterHoming
  split
  · exact .ite (fun _ => h.commandDiverter _) fun _ => h
  · exact h

theorem diverterReported (h : Aside s t) (z : Zone) : Aside s (diverterReported z t) := by
  unfold Machine.diverterReported
  split
  · exact .ite (fun _ => h.onCzs _) fun _ => h
  · exact .ite (fun _ => .ite (fun _ => (h.onCzs _).diverterHomed)
      fun _ => .ite (fun _ => (h.onCzs _).afterDiverterHoming) fun _ => h.onCzs _) fun _ => h

theorem diverterFailed (h : Aside s t) (m : DiverterMove) : Aside s (diverterFailed m t) :=
  .ite (fun _ => (((h.raiseFault _ _ _).onCzs _).onPart _).diverterHomed) fun _ => (h.raiseFault _ _ _).onCzs _

theorem refreshArms (h : Aside s t) : Aside s (refreshArms t) := h.onCzs _

theorem setArm_pressure {z : Czs} (arm : Arm) (n : Nat) (x : Option Nat) (h : PressureAgrees z) :
    PressureAgrees (setArmTimer (setArmStalls z arm n) arm x) := by cases arm <;> exact h

theorem firstStall (h : Aside s t) (arm : Arm) : Aside s (firstStall arm t) :=
  have h := (h.onCzs _ (setArm_pressure arm 1 (some 0))).raiseNotice _
  .ite (fun _ => h) fun _ => (h.onCzs _).nextSlot

theorem secondStall (h : Aside s t) (arm : Arm) : Aside s (secondStall arm t) :=
  have h := ((h.onCzs _ (setArm_pressure arm 2 none)).onCzs _).raiseNotice _
  .ite (fun _ => h) fun _ => h.nextSlot

theorem armStalled (h : Aside s t) (arm : Arm) : Aside s (armStalled arm t) := by
  unfold Machine.armStalled
  have h : Aside s (if armStalls t.czs arm = 0 then Machine.firstStall arm t else Machine.secondStall arm t) :=
    .ite (fun _ => h.firstStall arm) fun _ => h.secondStall arm
  exact h.onCzs _

theorem armPulsed (h : Aside s t) (arm : Arm) : Aside s (armPulsed arm t) :=
  h.onCzs _ fun hp => by cases arm <;> exact hp

theorem abruptCirculation (h : Aside s t) : Aside s (abruptCirculation t) := by
  simp only [Machine.abruptCirculation]
  split
  · exact h.stopCirculation
  · exact h.stopCirculation.onCzs _

end Aside

end Sys2Proof.Proofs
end

section
/-! PROOFS. The operations of the dosing unit leave the sequencer's course, keep the levels within their capacities with their
marks (R101, R104), and keep the dose queue free of two requests alike (R114). -/

/- One theorem at a time, as the tests have it: proofs that wait for the kernel cost a thread each. -/
set_option Elab.async false

namespace Sys2Proof.Proofs

open Sys2Proof.Machine
open Sys2Proof.Safety

/-! ## Levels -/

/-- A reservoir's level within its capacity, with the mark it gives (R101, R104). -/
def LevelKept (ch : Channel) (r : Reservoir) : Prop :=
  r.level ≤ Config.capacity ch ∧ r.lowNotified = decide (r.level ≤ Config.lowMark ch)

theorem levelsKept_iff (s : State) : LevelsKept s ↔ ∀ ch, LevelKept ch (reservoirOf s.dsu ch) := Iff.rfl

@[simp] theorem reservoirOf_setReservoir (d : Dsu) (ch c : Channel) (r : Reservoir) :
    reservoirOf (setReservoir d ch r) c = if c = ch then r else reservoirOf d c := by cases ch <;> cases c <;> rfl

@[simp] theorem setReservoir_batch (d : Dsu) (ch : Channel) (r : Reservoir) : (setReservoir d ch r).batch = d.batch := by
  cases ch <;> rfl

@[simp] theorem setReservoir_waiting (d : Dsu) (ch : Channel) (r : Reservoir) :
    (setReservoir d ch r).waiting = d.waiting := by cases ch <;> rfl

@[simp] theorem setReservoir_setReservoir (d : Dsu) (ch : Channel) (r r' : Reservoir) :
    setReservoir (setReservoir d ch r) ch r' = setReservoir d ch r' := by cases ch <;> rfl

/-- The low test of a reservoir gives its level the mark, with the notice where the mark was not set (R104). -/
theorem lowTest_setReservoir (ch : Channel) (r : Reservoir) (s : State) :
    let u := onDsu (fun d => setReservoir d ch { r with lowNotified := decide (r.level ≤ Config.lowMark ch) }) s
    lowTest ch (onDsu (fun d => setReservoir d ch r) s)
      = if r.level ≤ Config.lowMark ch ∧ r.lowNotified = false then raiseNotice (.reservoirLow ch r.level) u else u := by
  have hr : ∀ d, reservoirOf (setReservoir d ch r) ch = r := fun d => by simp
  by_cases hl : r.level ≤ Config.lowMark ch
  · cases hn : r.lowNotified with
    | false => simp [lowTest, onDsu, hr, hl, hn]
    | true =>
      have he : { r with lowNotified := true } = r := by cases r; simp_all
      simp [lowTest, onDsu, hr, hl, hn, he]
  · simp [lowTest, onDsu, hr, hl]

theorem levelsKept_setReservoir {s : State} {ch : Channel} {r : Reservoir} (h : LevelsKept s) (hr : LevelKept ch r) :
    LevelsKept (onDsu (fun d => setReservoir d ch r) s) := by
  rw [levelsKept_iff] at h ⊢
  intro c
  by_cases hc : c = ch
  · simp [hc, hr]
  · simpa [hc] using h c

/-! ## The dose queue -/

/-- What makes two requests alike: the channel, and whether the host placed it (R114, log entry 29). -/
def doseKey (r : DoseReq) : Channel × Bool := (r.channel, decide (r.origin = .hostPrime))

/-- The keys of the requests that stand in the queue. -/
def doseKeys (d : Dsu) : List (Channel × Bool) := (d.batch ++ d.waiting).map doseKey

/-- A list without two alike of channel and origin has at most 6 members. -/
theorem keys_length {l : List (Channel × Bool)} (h : l.Nodup) : l.length ≤ 6 := by
  have hs : l ⊆ [(.d1, true), (.d1, false), (.d2, true), (.d2, false), (.d3, true), (.d3, false)] := by
    rintro ⟨c, b⟩ -
    cases c <;> cases b <;> decide
  exact (h.subperm hs).length_le

theorem dosesKept_iff (s : State) : DosesKept s ↔ (doseKeys s.dsu).Nodup :=
  ⟨fun h => h.2, fun h => ⟨by simpa [doseKeys] using keys_length h, h⟩⟩

/-- A queue whose keys are among those of a kept one is kept. -/
theorem dosesKept_of_subperm {s t : State} (hk : (doseKeys t.dsu).Subperm (doseKeys s.dsu)) (h : DosesKept s) :
    DosesKept t := by
  rw [dosesKept_iff] at h ⊢
  obtain ⟨l, hp, hs⟩ := hk
  exact hp.nodup_iff.mp (h.sublist hs)

/-- A sweep has the requests of the list. -/
theorem sweep_perm (p : Option Channel) (l : List DoseReq) : (sweep p l).Perm l := by
  rw [List.perm_iff_count]
  intro r
  have hf : ∀ ch, (l.filter fun x => x.channel == ch).count r = if r.channel = ch then l.count r else 0 := by
    intro ch
    by_cases hc : r.channel = ch
    · simp [List.count_filter, hc]
    · simp only [hc, if_false, List.count_eq_zero]
      intro hm
      simp [hc] at hm
  cases p with
  | none => cases hr : r.channel <;> simp [sweep, sweepOrder, hf, hr]
  | some c => cases c <;> cases hr : r.channel <;> simp [sweep, sweepOrder, hf, hr]

theorem queued_eq_false {d : Dsu} {ch : Channel} {o : Origin} (h : queued d ch o = false) :
    (ch, decide (o = .hostPrime)) ∉ doseKeys d := by
  intro hm
  obtain ⟨r, hr, hk⟩ := List.mem_map.mp hm
  simp only [queued, List.any_eq_false, doseQueue] at h
  have h := h r hr
  simp only [doseKey, Prod.mk.injEq] at hk
  obtain ⟨h1, h2⟩ := hk
  cases ho : o <;> cases hq : r.origin <;> simp_all [sameOrigin]

namespace Aside

variable {s t : State}

/-- A change of a reservoir that keeps its level and its mark. -/
theorem setReservoir (h : Aside s t) (ch : Channel) (r : Reservoir)
    (hr : LevelKept ch (reservoirOf t.dsu ch) → LevelKept ch r) :
    Aside s (Machine.onDsu (fun d => setReservoir d ch r) t) :=
  h.onDsu _ (fun hl => levelsKept_setReservoir hl (hr (hl ch))) fun hd => by
    simpa only [DosesKept, Machine.onDsu, setReservoir_batch, setReservoir_waiting] using hd

theorem onDsu_queue (h : Aside s t) (f : Dsu → Dsu)
    (hl : LevelsKept t → LevelsKept (Machine.onDsu f t) := by exact id)
    (hk : (doseKeys (f t.dsu)).Subperm (doseKeys t.dsu) := by exact List.Subperm.refl _) :
    Aside s (Machine.onDsu f t) :=
  h.onDsu f hl (dosesKept_of_subperm hk)

/-! ## Reservoirs -/

theorem setLevel (h : Aside s t) (ch : Channel) (level : Nat)
    (hl : LevelKept ch (reservoirOf t.dsu ch) → level ≤ Config.capacity ch) : Aside s (setLevel ch level t) := by
  unfold Machine.setLevel
  split
  · exact h
  · have hs : Aside s (Machine.onDsu (fun d => Machine.setReservoir d ch { reservoirOf t.dsu ch with
        level := level, lowNotified := decide (level ≤ Config.lowMark ch) }) t) :=
      h.setReservoir _ _ fun hk => ⟨hl hk, rfl⟩
    have he := lowTest_setReservoir ch { reservoirOf t.dsu ch with level := level } t
    exact he ▸ .ite (fun _ => hs.raiseNotice _) fun _ => hs

theorem setEmpty (h : Aside s t) (ch : Channel) (e : Bool) : Aside s (setEmpty ch e t) :=
  .ite (fun _ => h) fun _ => (h.setReservoir _ { reservoirOf t.dsu ch with empty := e } id).askWrite _

theorem lowCorrection (h : Aside s t) (ch : Channel) : Aside s (lowCorrection ch t) :=
  .ite (fun _ => h.setLevel _ _ fun hk => by have := hk.1; omega) fun _ => h

theorem readLowSwitch (h : Aside s t) (ch : Channel) (low : Bool) : Aside s (readLowSwitch ch low t) :=
  .ite (fun _ => (h.onDsu _).lowCorrection _) fun _ => h.onDsu _

theorem lowSwitchChanged (h : Aside s t) (ch : Channel) (low : Bool) : Aside s (lowSwitchChanged ch low t) :=
  .ite (fun _ => h) fun _ => h.readLowSwitch _ _

theorem refill (h : Aside s t) (ch : Channel) : Aside s (refill ch t) :=
  (h.setReservoir ch { reservoirOf t.dsu ch with level := Config.capacity ch, empty := false, lowNotified := false }
    fun _ => ⟨le_refl _, by cases ch <;> rfl⟩).askWrite _

theorem capOpened (h : Aside s t) (ch : Channel) (b : Bool) :
    Aside s (Machine.onDsu (fun d => Machine.setReservoir d ch { reservoirOf d ch with capOpened := b }) t) :=
  h.setReservoir ch { reservoirOf t.dsu ch with capOpened := b } id

theorem capSwitchChanged (h : Aside s t) (ch : Channel) (b : Bool) : Aside s (capSwitchChanged ch b t) := by
  simp only [Machine.capSwitchChanged]
  have h := h.onDsu fun d => { d with capSw := perChannelSet d.capSw ch b }
  split
  · assumption
  · split
    · split
      · exact h.capOpened _ _
      · exact .capOpened (.ite (fun _ => h.refill _) fun _ => h) _ _
    · exact h

theorem readCapSwitch (h : Aside s t) (ch : Channel) (b : Bool) : Aside s (readCapSwitch ch b t) := by
  have h := h.onDsu fun d => { d with capSw := perChannelSet d.capSw ch b }
  exact h.setReservoir ch { reservoirOf t.dsu ch with capOpened := b } id

/-! ## Queue and service -/

theorem joinQueue (h : Aside s t) (ch : Channel) (o : Origin) (v n : Nat) (hq : queued t.dsu ch o = false) :
    Aside s (joinQueue ch o v n t) := by
  have hk : ∀ (d : Dsu) (r : DoseReq), r.channel = ch → r.origin = o → d.batch = t.dsu.batch →
      d.waiting = t.dsu.waiting ++ [r] → DosesKept t → (doseKeys d).Nodup := by
    intro d r hc ho hb hw hd
    have he : doseKeys d = doseKeys t.dsu ++ [(ch, decide (o = .hostPrime))] := by
      simp [doseKeys, hb, hw, doseKey, hc, ho]
    rw [he]
    exact ((dosesKept_iff t).mp hd).append (by simp) (by simpa using queued_eq_false hq)
  simp only [Machine.joinQueue]
  split
  all_goals exact h.onDsu _ id fun hd => (dosesKept_iff _).mpr (hk _ _ rfl rfl rfl rfl hd)

theorem placeDose (h : Aside s t) (p : Nat) (ch : Channel) (v : Nat) : Aside s (placeDose p ch v t) := by
  simp only [Machine.placeDose]
  split
  · exact h
  · next hn => exact (h.joinQueue _ _ _ _ (by simp at hn; exact hn.1.2)).onSeq _

theorem formBatch (h : Aside s t) : Aside s (formBatch t) :=
  h.onDsu_queue _ id <| by
    have hp : ((sweep t.dsu.selector t.dsu.waiting).map doseKey).Perm (t.dsu.waiting.map doseKey) :=
      (sweep_perm _ _).map _
    simpa [doseKeys] using hp.subperm.trans (List.sublist_append_right _ _).subperm

theorem addDose_course (ch : Channel) (v : Nat) (q : Seq) : courseOf (addDose ch v q) = courseOf q := by
  cases ch <;> rfl

theorem reportDose (h : Aside s t) (r : DoseReq) (o : DoseOutcome) (w : Option DoseReason) :
    Aside s (reportDose r o w t) := by
  have hr : Aside s (match r.origin with
      | .sequencer _ => Machine.report (.doseEnded r.arrival)
          (Machine.onSeq (fun q => addDose r.channel (r.confirmed * r.strokeVolume) q) t)
      | .hostPrime => t) := by
    split
    · exact (h.onSeq _ (addDose_course _ _ _) (Laws.addDose_table _ _ _) (Laws.addDose_count _ _ _)).report _
    · exact h
  unfold Machine.reportDose
  cases o <;> exact (hr.raiseNotice _).askWrite _

theorem foldl_reportDose (h : Aside s t) (o : DoseOutcome) (w : Option DoseReason) (l : List DoseReq) :
    Aside s (l.foldl (fun s r => Machine.reportDose r o w s) t) := by
  induction l generalizing t with
  | nil => exact h
  | cons r l ih => exact ih (h.reportDose r o w)

theorem endHead (h : Aside s t) (r : DoseReq) (o : DoseOutcome) (w : Option DoseReason) : Aside s (endHead r o w t) :=
  .reportDose (h.onDsu_queue (fun d => { d with batch := d.batch.tail }) id
    (((List.tail_sublist _).append (List.Sublist.refl _)).map _).subperm) _ _ _

/-- The head of the batch gives way to a request of its channel and origin. -/
theorem putHead (h : Aside s t) {r r' : DoseReq} {l : List DoseReq} (hb : t.dsu.batch = r' :: l)
    (hr : doseKey r = doseKey r') : Aside s (putHead r t) :=
  h.onDsu_queue _ id (by simp [doseKeys, hb, hr, List.Subperm.refl])

theorem homeSelector (h : Aside s t) : Aside s (homeSelector t) := h.onDsu _

theorem moveSelector (h : Aside s t) (ch : Channel) : Aside s (moveSelector ch t) := h.onDsu _

theorem serve (h : Aside s t) (n : Nat) : Aside s (serve n t) := by
  induction n generalizing t with
  | zero => exact h
  | succ n ih =>
    unfold Machine.serve
    split
    · exact h
    · split
      · exact .ite (fun _ => h.onDsu _) fun _ => ih h.formBatch
      · next r l hb =>
        have h := h.onDsu fun d => { d with state := .serving }
        have hp : Aside s (Machine.putHead { r with state := .active } _) := h.putHead (r' := r) hb rfl
        split
        · next h => exact ‹Aside s t›.onDsu _
        · dsimp only
          split
          · exact ih (h.endHead _ _ _)
          · split
            · exact hp.homeSelector
            · split
              · exact hp.moveSelector _
              · split
                · exact ih ((hp.setEmpty _ _).endHead _ _ _)
                · exact .putHead (hp.onDsu _) (r' := { r with state := .active }) rfl rfl

theorem serveOn (h : Aside s t) : Aside s (serveOn t) := h.serve 16

theorem windowCloses (h : Aside s t) : Aside s (windowCloses t) := (h.onDsu _).formBatch.serveOn

/-! ## Strokes and moves -/

theorem endCancelled (h : Aside s t) (r : DoseReq) : Aside s (endCancelled r t) := h.endHead _ _ _

theorem countConfirmed (h : Aside s t) {r : DoseReq} {l : List DoseReq} (hb : t.dsu.batch = r :: l) :
    Aside s (countConfirmed r t) := by
  have hp : Aside s (Machine.putHead (confirmStroke r) (Machine.onDsu (fun d => { d with stroke := none }) t)) :=
    (h.onDsu _).putHead (r' := r) hb rfl
  have hs := hp.setLevel r.channel
    ((reservoirOf (Machine.putHead (confirmStroke r) (Machine.onDsu (fun d => { d with stroke := none }) t)).dsu
      r.channel).level - r.strokeVolume) fun hk => by have := hk.1; omega
  unfold Machine.countConfirmed
  split
  · exact .ite (fun _ => hs.setEmpty _ _) fun _ => hs
  · exact hs

theorem countMissed (h : Aside s t) {r : DoseReq} {l : List DoseReq} (hb : t.dsu.batch = r :: l) :
    Aside s (countMissed r t) :=
  (h.onDsu _).putHead (r' := r) hb rfl

theorem strokeConfirmed (h : Aside s t) {r : DoseReq} {l : List DoseReq} (hb : t.dsu.batch = r :: l) :
    Aside s (strokeConfirmed r t) := by
  have h := h.countConfirmed hb
  unfold Machine.strokeConfirmed
  refine .ite (fun _ => (h.endCancelled _).serveOn) fun _ => ?_
  split
  · exact .ite (fun _ => (h.endHead _ _ _).serveOn) fun _ => h.serveOn
  · exact .ite (fun _ => (h.endHead _ _ _).serveOn) fun _ => h.serveOn

theorem strokeMissed (h : Aside s t) {r : DoseReq} {l : List DoseReq} (hb : t.dsu.batch = r :: l) :
    Aside s (strokeMissed r t) := by
  have h := h.countMissed hb
  unfold Machine.strokeMissed
  refine .ite (fun _ => (h.endCancelled _).serveOn) fun _ => ?_
  split
  · exact .ite (fun _ => (((h.raiseFault _ _ _).setEmpty _ _).endHead _ _ _).serveOn) fun _ => h.serveOn
  · exact .ite (fun _ => (h.endHead _ _ _).serveOn) fun _ => h.serveOn

theorem selectorHomed (h : Aside s t) : Aside s (selectorHomed t) := h.onPart _ rfl fun hh hs => by simp [hh hs]

theorem afterMove (h : Aside s t) : Aside s (afterMove t) := by
  unfold Machine.afterMove
  split
  · exact h.serveOn
  · exact .ite (fun _ => (h.endHead _ _ _).serveOn) fun _ => h.serveOn

theorem selectorReported (h : Aside s t) (p : Channel) : Aside s (selectorReported p t) := by
  unfold Machine.selectorReported
  split
  · exact h
  · exact .ite (fun _ => .ite (fun _ => (h.onDsu _).selectorHomed) fun _ => (h.onDsu _).afterMove) fun _ => h

theorem endUnmoved (h : Aside s t) : Aside s (endUnmoved t) := by
  unfold Machine.endUnmoved
  split
  · exact h.serveOn
  · exact .ite (fun _ => (h.endHead _ _ _).serveOn) fun _ => (h.endHead _ _ _).serveOn

theorem selectorFailed (h : Aside s t) (m : SelectorMove) : Aside s (selectorFailed m t) :=
  have h := (h.raiseFault .selector (.channel m.target) (currentChannel t)).onDsu fun d =>
    { d with move := none, selector := none }
  .ite (fun _ => (h.onPart _).selectorHomed) fun _ => h.endUnmoved

/-! ## Interruptions -/

theorem pauseDosing (h : Aside s t) : Aside s (pauseDosing t) :=
  .ite (fun _ => (h.onDsu _).serveOn) fun _ => h.onDsu _

theorem resumeDosing (h : Aside s t) : Aside s (resumeDosing t) :=
  .ite (fun _ => (h.onDsu _).serveOn) fun _ => h.onDsu _

/-- Requests left of a list, marked or not, have keys among the list's. -/
theorem map_filter_sublist (which keep : DoseReq → Bool) (l : List DoseReq) :
    (((l.filter keep).map fun r => if which r then { r with cancel := true } else r).map doseKey).Sublist
      (l.map doseKey) := by
  have he : (doseKey ∘ fun r : DoseReq => if which r then { r with cancel := true } else r) = doseKey := by
    funext r
    by_cases hw : which r <;> simp [hw, doseKey]
  rw [List.map_map, he]
  exact List.filter_sublist.map _

theorem cancelFound (h : Aside s t) (which : DoseReq → Bool) : Aside s (cancelFound which t) := by
  have hc := (h.onDsu_queue (fun d => { d with
      batch := (d.batch.filter fun r => !(which r && !staysMarked t.dsu r)).map fun r =>
        if which r then { r with cancel := true } else r
      waiting := (d.waiting.filter fun r => !(which r && !staysMarked t.dsu r)).map fun r =>
        if which r then { r with cancel := true } else r
      pause := false }) id (by
    simp only [doseKeys, List.map_append]
    exact ((map_filter_sublist _ _ _).append (map_filter_sublist _ _ _)).subperm)).foldl_reportDose .cancelled none
      ((doseQueue t.dsu).filter fun r => which r && !staysMarked t.dsu r)
  unfold Machine.cancelFound
  exact .ite (fun _ => .ite (fun _ => hc.onDsu _) fun _ => hc) fun _ => .ite (fun _ => hc) fun _ => hc.serveOn

theorem cancelWhere (h : Aside s t) (which : DoseReq → Bool) : Aside s (cancelWhere which t) :=
  .ite (fun _ => h.cancelFound _) fun _ => h

theorem cancelSequencerDoses (h : Aside s t) : Aside s (cancelSequencerDoses t) := h.cancelWhere _

theorem cancelAllDoses (h : Aside s t) : Aside s (cancelAllDoses t) := h.cancelWhere _

theorem resetDosing (h : Aside s t) : Aside s (resetDosing t) :=
  have h := (h.onDsu_queue (fun d => { d with
      state := .idle, windowLeft := 0, batch := [], waiting := [], next := 0, selector := none, move := none
      stroke := none, pause := false }) id (List.nil_sublist _).subperm).foldl_reportDose .cancelled none (doseQueue t.dsu)
  h.askWrite _

end Aside

end Sys2Proof.Proofs
end

section
/-! PROOFS. The operations of drying, heating, softener, water path and engine leave the sequencer's course and keep what every
operation keeps. -/

/- One theorem at a time, as the tests have it: proofs that wait for the kernel cost a thread each. -/
set_option Elab.async false

namespace Sys2Proof.Proofs

open Sys2Proof.Machine
open Sys2Proof.Safety

@[simp] theorem setColumnRec_rho (f : Sfu) (col : Column) (r : ColRec) : (setColumnRec f col r).rho = f.rho := by
  cases col <;> rfl

namespace Aside

variable {s t : State}

/-! ## Drying -/

theorem enterStage (h : Aside s t) (st : DryStage) (n : Nat) : Aside s (enterStage st n t) := (h.onDdu _).raiseNotice _

theorem reachDone (h : Aside s t) : Aside s (reachDone t) :=
  have h := (h.onDdu fun d => { d with awaited := false }).enterStage .done 0
  .ite (fun _ => h.report _) fun _ => h

theorem doneWith (h : Aside s t) (o : DryOutcome) : Aside s (doneWith o t) := (h.onDdu _).reachDone

theorem driveOutward (h : Aside s t) : Aside s (driveOutward t) := h.onDdu _

theorem stopDrive (h : Aside s t) : Aside s (stopDrive t) := h.onDdu _

theorem enterOpening (h : Aside s t) : Aside s (enterOpening t) := (h.enterStage _ _).driveOutward

theorem enterWaitCool (h : Aside s t) : Aside s (enterWaitCool t) :=
  have h := h.enterStage .waitCool 0
  .ite (fun _ => h.enterOpening) fun _ => h

theorem dwellEnds (h : Aside s t) : Aside s (dwellEnds t) :=
  .ite (fun _ => h.enterWaitCool) fun _ => h.doneWith _

theorem enterDwell (h : Aside s t) : Aside s (enterDwell t) :=
  have h := h.enterStage .dwell (if t.ddu.formOpen then t.ddu.dwell else t.ddu.dwell + t.ddu.openTime)
  .ite (fun _ => h.dwellEnds) fun _ => h

theorem takeStart (h : Aside s t) (p : DryStart) : Aside s (takeStart p t) :=
  .ite (fun _ => (h.onDdu _).doneWith _) fun _ => (h.onDdu _).enterDwell

theorem enterDone (h : Aside s t) : Aside s (enterDone t) := by
  simp only [Machine.enterDone]
  split
  · exact h.reachDone
  · exact .ite (fun _ => ((h.reachDone.onDdu _).onDdu _).report _) fun _ => (h.reachDone.onDdu _).takeStart _

theorem actuatorHomed (h : Aside s t) : Aside s (actuatorHomed t) := h.onPart _ rfl fun hh hs => by simp [hh hs]

theorem homeArrived (h : Aside s t) : Aside s (homeArrived t) :=
  have h := (h.onDdu fun d => { d with count := 0, homed := true }).stopDrive.actuatorHomed
  .ite (fun _ => h.enterDone) fun _ => h

theorem driveInward (h : Aside s t) : Aside s (driveInward t) := .ite (fun _ => h.homeArrived) fun _ => h.onDdu _

theorem retract (h : Aside s t) : Aside s (retract t) := (h.stopDrive.enterStage _ _).driveInward

theorem retractWith (h : Aside s t) (o : DryOutcome) : Aside s (retractWith o t) := (h.onDdu _).retract

theorem openTimeEnds (h : Aside s t) : Aside s (openTimeEnds t) := h.retractWith _

theorem enterAjar (h : Aside s t) (b : Bool) : Aside s (enterAjar b t) := by
  have h := (h.onDdu fun d => { d with gapHeld := d.count, gapShort := b }).stopDrive.enterStage .ajar
    (Machine.stopDrive (Machine.onDdu (fun d => { d with gapHeld := d.count, gapShort := b }) t)).ddu.openTime
  exact .ite (fun _ => h.openTimeEnds) fun _ => h

theorem countReached (h : Aside s t) : Aside s (countReached t) := by
  unfold Machine.countReached
  split
  · exact .ite (fun _ => h.enterAjar _) fun _ => h
  · exact .ite (fun _ => h.retractWith _) fun _ => h
  · exact h

theorem encoderEdge (h : Aside s t) (b : Bool) : Aside s (encoderEdge b t) :=
  .ite (fun _ => (h.onDdu _).countReached) fun _ => h

theorem homeReached (h : Aside s t) : Aside s (homeReached t) :=
  .ite (fun _ => .ite (fun _ => h.homeArrived) fun _ => (h.onDdu _).countReached) fun _ => h

theorem outwardStalls (h : Aside s t) : Aside s (outwardStalls t) :=
  .ite (fun _ => h.stopDrive.enterAjar _) fun _ =>
    .ite (fun _ => (h.stopDrive.raiseFault _ _ _).retractWith _) fun _ => h.stopDrive.onDdu _

theorem actuatorHomingFailed (h : Aside s t) : Aside s (actuatorHomingFailed t) :=
  .ite (fun _ => (h.onPart _).actuatorHomed) fun _ => h

theorem inwardStalls (h : Aside s t) : Aside s (inwardStalls t) := by
  have h := ((h.stopDrive.raiseFault .doorActuator (.stage (Machine.stopDrive t).ddu.stage)
    (.num (Machine.stopDrive t).ddu.count)).onDdu fun d => { d with homed := false }).actuatorHomingFailed
  exact .ite (fun _ => .ite (fun _ => h.enterDone) fun _ => (h.onDdu _).enterDone) fun _ => h

theorem driveStalls (h : Aside s t) : Aside s (driveStalls t) := by
  unfold Machine.driveStalls
  split
  · exact h.outwardStalls
  · exact h.inwardStalls
  · exact h

theorem openingMeetsDrying (h : Aside s t) : Aside s (openingMeetsDrying t) := by
  unfold Machine.openingMeetsDrying
  split
  · exact h.doneWith _
  · exact h.doneWith _
  · exact .ite (fun _ => h.retractWith _) fun _ => h
  all_goals exact h

theorem doorChanged (h : Aside s t) (b : Bool) : Aside s (doorChanged b t) :=
  .ite (fun _ => h) fun _ => by
    have h := ((h.onDdu fun d => { d with doorOpen := b }).report (if b then .doorOpened else .doorClosed)).raiseNotice
      (.door b t.ddu.count t.ddu.stage)
    exact .ite (fun _ => h.openingMeetsDrying) fun _ => h

theorem coolCheck (h : Aside s t) : Aside s (coolCheck t) := .ite (fun _ => h.enterOpening) fun _ => h

theorem endDrying (h : Aside s t) : Aside s (endDrying t) := by
  simp only [Machine.endDrying]
  split
  · split
    · exact (h.onDdu _).reachDone
    · exact (h.onDdu _).reachDone
    · exact (h.onDdu _).retract
    · exact (h.onDdu _).retract
    all_goals exact h.onDdu _
  · exact h.onDdu _

theorem startDrying (h : Aside s t) (p : DryStart) : Aside s (startDrying p t) := by
  have h : Aside s (if t.ddu.awaited then Machine.endDrying t else t) := .ite (fun _ => h.endDrying) fun _ => h
  exact .ite (fun _ => h.onDdu _) fun _ => h.takeStart _

theorem resetDoor (h : Aside s t) : Aside s (resetDoor t) := by
  simp only [Machine.resetDoor]
  exact .ite (fun _ => .ite (fun _ => (h.onDdu _).retract) fun _ => (h.onDdu _).stopDrive.driveInward)
    fun _ => .ite (fun _ => (h.onDdu _).enterDone) fun _ => h.onDdu _

theorem shutdownDoor (h : Aside s t) : Aside s (shutdownDoor t) := .ite (fun _ => h.driveInward) fun _ => h

theorem abruptDoor (h : Aside s t) : Aside s (abruptDoor t) :=
  .ite (fun _ => ((h.onDdu _).onDdu _).stopDrive.doneWith _) fun _ => ((h.onDdu _).onDdu _).stopDrive

/-! ## Heating -/

theorem toRegulating (h : Aside s t) : Aside s (toRegulating t) := h.onHtc _

theorem heatExpires (h : Aside s t) (n : Nat) : Aside s (heatExpires n t) := by
  unfold Machine.heatExpires
  exact ((h.onHtc _).raiseNotice _).toRegulating.report _

theorem reachTarget (h : Aside s t) : Aside s (reachTarget t) := h.toRegulating.report _

theorem placeRegulating (h : Aside s t) (n : Nat) : Aside s (placeRegulating n t) := h.onHtc _

theorem placeHeating (h : Aside s t) (n l : Nat) : Aside s (placeHeating n l t) :=
  .ite (fun _ => (h.onHtc _).report _) fun _ => .ite (fun _ => (h.onHtc _).reachTarget) fun _ =>
    .ite (fun _ => (h.onHtc _).heatExpires _) fun _ => h.onHtc _

theorem withdrawHeat (h : Aside s t) : Aside s (withdrawHeat t) := by
  unfold Machine.withdrawHeat
  split
  · exact h
  · exact (h.onHtc _).onSeq _

theorem warningBand (h : Aside s t) (n : Nat) : Aside s (warningBand n t) :=
  .ite (fun _ => (h.onHtc _).raiseNotice _) fun _ => .ite (fun _ => h.onHtc _) fun _ => h

theorem lockoutCheck (h : Aside s t) (n : Nat) : Aside s (lockoutCheck n t) :=
  .ite (fun _ => ((h.onHtc _).raiseFault _ _ _).report _) fun _ => .ite (fun _ => h.onHtc _) fun _ => h

theorem targetTest (h : Aside s t) (n : Nat) : Aside s (targetTest n t) := by
  unfold Machine.targetTest
  split
  · exact .ite (fun _ => h.reachTarget) fun _ => h
  · exact h

theorem followDemand (h : Aside s t) (n : Nat) : Aside s (followDemand n t) := by
  unfold Machine.followDemand
  split
  · exact h.onHtc _
  · exact h

theorem temperatureChanged (h : Aside s t) (n : Nat) : Aside s (temperatureChanged n t) := by
  unfold Machine.temperatureChanged
  exact (((((h.onHtc _).followDemand _).warningBand _).lockoutCheck _).targetTest _).coolCheck

theorem sensorFails (h : Aside s t) (k : SensorKind) : Aside s (sensorFails k t) := by
  simp only [Machine.sensorFails]
  exact .coolCheck (.ite (fun _ => (((h.onHtc _).raiseFault _ _ _).onHtc _).report _)
    fun _ => (h.onHtc _).raiseFault _ _ _)

theorem indicated (h : Aside s t) (k : SensorKind) : Aside s (indicated k t) := .ite (fun _ => h.sensorFails _) fun _ => h

theorem sensorRecovers (h : Aside s t) (n : Nat) : Aside s (sensorRecovers n t) := (h.onHtc _).temperatureChanged _

theorem firstReading (h : Aside s t) (x : SensorSignal) : Aside s (firstReading x t) := by
  unfold Machine.firstReading
  split
  · exact h.indicated _
  · exact .ite (fun _ => h.temperatureChanged _) fun _ => h.sensorRecovers _

theorem heatingProgramStart (h : Aside s t) : Aside s (heatingProgramStart t) := (h.onHtc _).onSeq _

theorem heatingPhaseEntry (h : Aside s t) : Aside s (heatingPhaseEntry t) := h.onHtc _

theorem secondLoss (h : Aside s t) : Aside s (secondLoss t) := by
  simp only [Machine.secondLoss]
  split
  · exact ((h.onHtc _).raiseFault _ _ _).toRegulating.report _
  · exact (h.onHtc _).raiseFault _ _ _

theorem countLoss (h : Aside s t) : Aside s (countLoss t) :=
  .ite (fun _ => .ite (fun _ => h.onHtc _) fun _ => .ite (fun _ => h.secondLoss) fun _ => h) fun _ => h

theorem abruptHeating (h : Aside s t) : Aside s (abruptHeating t) := h.onHtc _

theorem refreshHeater (h : Aside s t) : Aside s (refreshHeater t) := h.onHtc _

/-! ## The softener -/

theorem commandValve (h : Aside s t) (p : ValvePos) : Aside s (commandValve p t) := by
  unfold Machine.commandValve
  exact h.onSfu _

theorem homeValve (h : Aside s t) : Aside s (homeValve t) := h.onSfu _

theorem setDuty (h : Aside s t) : Aside s (setDuty t) := h.onSfu _

theorem switchService (h : Aside s t) (r : SwitchReason) : Aside s (switchService r t) := by
  unfold Machine.switchService
  have h := h.onSfu_rho (fun _ => { joinPlace r t.sfu.service t.sfu with
    service := if t.sfu.valveFault then none else t.sfu.ready.head?
    ready := if t.sfu.valveFault then (joinPlace r t.sfu.service t.sfu).ready
      else (joinPlace r t.sfu.service t.sfu).ready.tail
    rho := 0 }) (Nat.succ_pos 99)
  exact ((Aside.ite (fun _ => h) fun _ => h.commandValve _).setDuty.raiseNotice _).askWrite _

theorem readyTest (h : Aside s t) : Aside s (readyTest t) := .ite (fun _ => h.switchService _) fun _ => h

theorem markExhausted (h : Aside s t) (col : Column) : Aside s (markExhausted col t) :=
  (h.onSfu _ (setColumnRec_rho _ _ _)).askWrite _

theorem exhaustionCheck (h : Aside s t) : Aside s (exhaustionCheck t) := by
  simp only [Machine.exhaustionCheck]
  split
  · exact h
  · exact .ite (fun _ => .ite (fun _ => h.markExhausted _) fun _ => (h.markExhausted _).switchService _) fun _ => h

theorem releaseRule (h : Aside s t) : Aside s (releaseRule t) := by
  unfold Machine.releaseRule
  split
  · exact h
  · exact .ite (fun _ => h.switchService _) fun _ => h

theorem admitColumn (h : Aside s t) (col : Column) : Aside s (admitColumn col t) := by
  unfold Machine.admitColumn
  exact (h.onSfu _ (by dsimp only; split <;> exact setColumnRec_rho _ _ _)).askWrite _

theorem closeFill (h : Aside s t) : Aside s (closeFill t) :=
  .ite (fun _ => ((h.onSfu _).askWrite _).releaseRule) fun _ => h

theorem openFill (h : Aside s t) : Aside s (openFill t) := (h.closeFill.onSfu _).setDuty

theorem endTopUp (h : Aside s t) : Aside s (endTopUp t) := (h.askWrite _).releaseRule

theorem drawFrom (h : Aside s t) (col : Column) : Aside s (Machine.onSeq (fun q => drawFrom col q) t) :=
  h.onSeq _ (by unfold Machine.drawFrom; split <;> rfl) (by unfold Machine.drawFrom; split <;> rfl)
    (by unfold Machine.drawFrom; split <;> rfl)

theorem chargeColumn (h : Aside s t) (col : Column) : Aside s (chargeColumn col t) := by
  unfold Machine.chargeColumn
  exact (h.onSfu_rho _ (Nat.mod_lt _ (by decide))).drawFrom _

theorem addG (h : Aside s t) (k : FillKind) (n : Nat) : Aside s (addG k n t) := by
  unfold Machine.addG
  split
  · exact h.onSfu _
  · exact h

theorem breakthroughMl (h : Aside s t) (k : FillKind) (col : Column) : Aside s (breakthroughMl k col t) := by
  cases k
  · exact .ite (fun _ => ((h.onSeq _).onSfu _).raiseNotice _) fun _ => (h.onSeq _).onSfu _
  · exact .ite (fun _ => h.onSeq _) fun _ => ((h.onSeq _).onSfu _).raiseNotice _

theorem softenMl (h : Aside s t) (k : FillKind) : Aside s (softenMl k t) := by
  unfold Machine.softenMl
  split
  · exact h.addG _ _
  · exact .ite (fun _ => h.addG _ _) fun _ => .ite (fun _ => (h.addG _ _).breakthroughMl _ _) fun _ =>
      .ite (fun _ => (h.chargeColumn _).addG _ _) fun _ => h.addG _ _

theorem accountMl (h : Aside s t) (k : FillKind) (b : Bool) : Aside s (accountMl k b t) := by
  cases k
  · exact ((h.onSfu _).softenMl _).exhaustionCheck
  · have h : Aside s (if b then Machine.onSfu (fun f => { f with topUpCount := 1, topUpMark := false }) t
        else Machine.onSfu (fun f => { f with topUpCount := f.topUpCount + 1 }) t) :=
      .ite (fun _ => h.onSfu _) fun _ => h.onSfu _
    exact (h.softenMl _).exhaustionCheck

theorem clampColumns (h : Aside s t) : Aside s (clampColumns t) := by
  unfold Machine.clampColumns
  exact h.onSfu _

theorem nominalChanged (h : Aside s t) : Aside s (nominalChanged t) :=
  .ite (fun _ => h.clampColumns.askWrite _) fun _ => h

theorem sweepReady (h : Aside s t) (l : List Column) : Aside s (sweepReady l t) := by
  induction l generalizing t with
  | nil => exact h
  | cons col l ih =>
    exact ih (.ite (fun _ => (h.onSfu _ (setColumnRec_rho _ _ _)).askWrite _) fun _ => h)

theorem reserveRaised (h : Aside s t) : Aside s (reserveRaised t) := (h.sweepReady _).exhaustionCheck

theorem removeColumnC (h : Aside s t) : Aside s (removeColumnC t) := by
  have h : Aside s (if t.sfu.service = some .c then Machine.switchService .fittedColumns t else t) :=
    .ite (fun _ => h.switchService _) fun _ => h
  exact (h.onSfu _).askWrite _

theorem createColumnC (h : Aside s t) : Aside s (createColumnC t) := (h.onSfu _).askWrite _

theorem toRegenQueue (h : Aside s t) (col : Column) : Aside s (toRegenQueue col t) := (h.onSfu _).askWrite _

theorem toRetiredSet (h : Aside s t) (col : Column) : Aside s (toRetiredSet col t) := (h.onSfu _).askWrite _

/-! ## Grants and requests of the water path -/

theorem beginGrant (h : Aside s t) (x : Holder) : Aside s (beginGrant x t) :=
  h.trans ⟨⟨rfl, rfl, id, id, id, fun hk hm => ⟨hk.1, hk.2, hm.2.2⟩, id⟩, rfl⟩

theorem closeInlet (h : Aside s t) : Aside s (closeInlet t) := h.onWpc _

theorem startBurst (h : Aside s t) : Aside s (startBurst t) := by
  unfold Machine.startBurst
  split
  · exact h.onWpc _
  · exact h

theorem endFill (h : Aside s t) (r : FillEnd) : Aside s (endFill r t) := by
  simp only [Machine.endFill]
  split
  · exact h
  · split
    · exact ((h.report _).onWpc _).closeInlet.startBurst
    · exact ((h.report _).onWpc _).closeInlet.startBurst.endTopUp

theorem grantFill (h : Aside s t) (r : FillReq) : Aside s (grantFill r t) :=
  .ite (fun _ => ((h.beginGrant _).onWpc _).endFill _) fun _ => (h.beginGrant _).onWpc _

theorem revokeRegen (h : Aside s t) : Aside s (revokeRegen t) := by
  unfold Machine.revokeRegen
  split
  · exact (h.onWpc _).closeInlet.onRge _
  · exact (h.onWpc _).closeInlet.onRge _
  all_goals exact h

theorem withdrawFill (h : Aside s t) : Aside s (withdrawFill t) := by
  unfold Machine.withdrawFill
  split
  · exact h
  · exact .ite (fun _ => h.endFill _) fun _ => h.onWpc _

theorem offerFill (h : Aside s t) (r : FillReq) : Aside s (offerFill r t) :=
  .ite (fun _ => (h.onWpc _).report _) fun _ => .ite (fun _ => h.onWpc _) fun _ => h.revokeRegen.grantFill _

theorem placeFill (h : Aside s t) (n : Nat) (k : FillKind) : Aside s (placeFill n k t) := h.withdrawFill.offerFill _

theorem grantDeferred (h : Aside s t) : Aside s (grantDeferred t) := by
  unfold Machine.grantDeferred
  split
  · exact .ite (fun _ => h.offerFill _) fun _ => h
  · exact h

theorem placeDrain (h : Aside s t) : Aside s (placeDrain t) := h.onWpc _

theorem dropDrain (h : Aside s t) : Aside s (dropDrain t) := h.onWpc _

theorem withdrawRegen (h : Aside s t) : Aside s (withdrawRegen t) := by
  simp only [Machine.withdrawRegen]
  split
  · exact h
  · exact .ite (fun _ => (h.onWpc _).closeInlet) fun _ => h.onWpc _

theorem withdrawBurst (h : Aside s t) : Aside s (withdrawBurst t) := h.onWpc _

theorem placeRegen (h : Aside s t) (k : RegenKind) : Aside s (placeRegen k t) := h.onWpc _

/-! ## The engine -/

theorem markSaltLow (h : Aside s t) : Aside s (markSaltLow t) := by
  unfold Machine.markSaltLow
  split
  · exact .ite (fun _ => h) fun _ => (h.onRge _).raiseNotice _
  · exact h

theorem grantRegen (h : Aside s t) : Aside s (grantRegen t) := by
  simp only [Machine.grantRegen]
  split
  · exact .ite (fun _ => .ite (fun _ => (((h.onWpc _).beginGrant _).onRge _).markSaltLow)
      fun _ => ((h.onWpc _).beginGrant _).onRge _) fun _ => h
  · exact .ite (fun _ => ((h.onWpc _).beginGrant _).onRge _) fun _ => h
  · exact h

theorem takeColumn (h : Aside s t) (col : Column) : Aside s (takeColumn col t) :=
  .ite (fun _ => h.onRge _) fun _ => (h.onRge _).placeRegen _

theorem handOver (h : Aside s t) : Aside s (handOver t) := by
  unfold Machine.handOver
  split
  · exact h
  · exact .ite (fun _ => ((h.onSfu _).takeColumn _).askWrite _) fun _ => h

theorem regenDone (h : Aside s t) (col : Column) (o : RegenOutcome) (p : ColPlace) : Aside s (regenDone col o p t) :=
  h.raiseNotice _

theorem enterResult (h : Aside s t) (col : Column) : Aside s (enterResult col t) := by
  unfold Machine.enterResult
  exact h.onSfu _ (setColumnRec_rho _ _ _)

theorem joinFaulted (h : Aside s t) (col : Column) : Aside s (joinFaulted col t) := h.onSfu _

theorem finishRegen (h : Aside s t) : Aside s (finishRegen t) := by
  simp only [Machine.finishRegen]
  split
  · exact h
  · refine (((Aside.onRge ?_ _).askWrite _).report _).readyTest
    exact .ite (fun _ => ((h.enterResult _).admitColumn _).regenDone _ _ _) fun _ => (h.joinFaulted _).regenDone _ _ _

theorem enterEffluent (h : Aside s t) : Aside s (enterEffluent t) :=
  .ite (fun _ => ((h.onRge _).report _).finishRegen) fun _ => ((h.onRge _).report _).onWpc _

theorem abandonRegen (h : Aside s t) : Aside s (abandonRegen t) := by
  simp only [Machine.abandonRegen]
  split
  · exact h
  · refine ((Aside.onRge ?_ _).askWrite _).report _
    exact .ite (fun _ => (h.withdrawRegen.withdrawBurst.onSfu _).regenDone _ _ _)
      fun _ => (h.withdrawRegen.withdrawBurst.joinFaulted _).regenDone _ _ _

theorem dropRegen (h : Aside s t) (col : Column) : Aside s (dropRegen col t) := by
  unfold Machine.dropRegen
  exact ((((h.withdrawRegen.withdrawBurst.onSfu _).regenDone _ _ _).onRge _).askWrite _).report _

theorem brineMl (h : Aside s t) : Aside s (brineMl t) :=
  .ite (fun _ => ((h.onRge _).withdrawRegen.onRge _).report _) fun _ => h.onRge _

theorem rinseMl (h : Aside s t) : Aside s (rinseMl t) :=
  .ite (fun _ => ((h.onRge _).withdrawRegen.onRge _).enterEffluent) fun _ => h.onRge _

theorem brineTimedOut (h : Aside s t) (col : Column) : Aside s (brineTimedOut col t) :=
  ((h.raiseFault _ _ _).onRge _).withdrawRegen.enterEffluent

theorem rinseTimedOut (h : Aside s t) (col : Column) : Aside s (rinseTimedOut col t) :=
  ((h.raiseFault _ _ _).onRge _).withdrawRegen.enterEffluent

theorem dwellOver (h : Aside s t) : Aside s (dwellOver t) :=
  .ite (fun _ => (h.onRge _).abandonRegen) fun _ => (h.onRge _).placeRegen _

theorem lidChanged (h : Aside s t) (b : Bool) : Aside s (lidChanged b t) := by
  simp only [Machine.lidChanged]
  split
  · exact h
  · split
    · exact .ite (fun _ => (h.onRge _).withdrawRegen) fun _ => (h.onRge _).placeRegen _
    · exact .ite (fun _ => ((h.onRge _).onRge _).withdrawRegen) fun _ => h.onRge _
    all_goals exact h.onRge _

theorem saltLowChanged (h : Aside s t) (b : Bool) : Aside s (saltLowChanged b t) :=
  .ite (fun _ => (h.onRge _).markSaltLow) fun _ => h.onRge _

/-! ## Flood, switches, metering -/

theorem floodBegins (h : Aside s t) : Aside s (floodBegins t) := by
  simp only [Machine.floodBegins]
  split
  · exact (((((h.onWpc _).endFill _).onWpc _).closeInlet).raiseFault _ _ _).report _
  · exact (((((h.onWpc _).revokeRegen).onWpc _).closeInlet).raiseFault _ _ _).report _

theorem floodChanged (h : Aside s t) (b : Bool) : Aside s (floodChanged b t) := by
  simp only [Machine.floodChanged]
  split
  · exact h
  · split
    · exact (h.onWpc _).floodBegins
    · split
      · exact (h.onWpc _).onWpc _
      · exact h.onWpc _

theorem sumpEmptyChanged (h : Aside s t) (b : Bool) : Aside s (sumpEmptyChanged b t) := by
  simp only [Machine.sumpEmptyChanged]
  split
  · exact h
  · split
    · exact .ite (fun _ => (h.onWpc _).onWpc _) fun _ => h.onWpc _
    · exact h.onWpc _

theorem heaterCoverChanged (h : Aside s t) (b : Bool) : Aside s (heaterCoverChanged b t) := h.onWpc _

theorem highLevelChanged (h : Aside s t) (b : Bool) : Aside s (highLevelChanged b t) := by
  simp only [Machine.highLevelChanged]
  split
  · exact h
  · split
    · split
      · exact (h.onWpc _).endFill _
      · exact (h.onWpc _).revokeRegen
    · exact h.onWpc _

theorem inletLeaks (h : Aside s t) : Aside s (inletLeaks t) := by
  unfold Machine.inletLeaks
  exact ((h.raiseFault _ _ _).onWpc _).report _

theorem strayMl (h : Aside s t) : Aside s (strayMl t) := .ite (fun _ => (h.onWpc _).inletLeaks) fun _ => h.onWpc _

theorem fillMl (h : Aside s t) (r : FillReq) : Aside s (fillMl r t) :=
  .ite (fun _ => ((h.onSeq _).accountMl _ _).endFill _) fun _ => (h.onSeq _).accountMl _ _

theorem grantMl (h : Aside s t) : Aside s (grantMl t) := by
  simp only [Machine.grantMl]
  split
  · exact h.onWpc _
  · split
    · exact (h.onWpc _).fillMl _
    · exact h.onWpc _
  · exact (h.onWpc _).brineMl
  · exact (h.onWpc _).rinseMl

theorem emitGrant (h : Aside s t) (n : Nat) (x : Holder) : Aside s (emitGrant n x t) := by
  induction n generalizing t with
  | zero => exact h
  | succ n ih => exact .ite (fun _ => ih (h.onWpc _).grantMl) fun _ => h

theorem emitStray (h : Aside s t) (n : Nat) : Aside s (emitStray n t) := by
  induction n generalizing t with
  | zero => exact h
  | succ n ih => exact .ite (fun _ => ih (h.onWpc _).strayMl) fun _ => h

theorem meterPulse (h : Aside s t) : Aside s (meterPulse t) :=
  .ite (fun _ => (h.onWpc _).emitStray _) fun _ => (h.onWpc _).emitGrant _ _

/-! ## The water settles -/

theorem refreshPump (h : Aside s t) : Aside s (refreshPump t) := by
  unfold Machine.refreshPump
  exact (h.onWpc _).onSeq _

theorem effluentMeetsDrain (h : Aside s t) : Aside s (effluentMeetsDrain t) :=
  .ite (fun _ => h.withdrawBurst.finishRegen) fun _ => h

theorem revokeUnlessFlows (h : Aside s t) : Aside s (revokeUnlessFlows t) := .ite (fun _ => h) fun _ => h.revokeRegen

theorem waterSettle (h : Aside s t) : Aside s (waterSettle t) :=
  h.grantDeferred.refreshPump.effluentMeetsDrain.refreshPump.revokeUnlessFlows.refreshPump.handOver.grantRegen

end Aside

end Sys2Proof.Proofs
end

section
/-! PROOFS. The sequencer's own operations move its course, and keep what a running program needs: its phase in the table (R4,
R5) and the agreement of state, sub-stage, extension, settling time and remembered sub-stage (R7, R8, R24, R25, R30). A FAULTED
sequencer stays as it is (R26, R28). -/

/- One theorem at a time, as the tests have it: proofs that wait for the kernel cost a thread each. -/
set_option Elab.async false

namespace Sys2Proof.Proofs

open Sys2Proof.Machine
open Sys2Proof.Safety

/-! ## What the course keeps -/

/-- The sequencer's part of `SequencerKept`. -/
def CourseAgrees (s : State) : Prop :=
  (s.seq.sub = .none ↔ s.seq.state ≠ .running)
    ∧ (s.seq.state = .running → (s.seq.sub = .dry ↔ currentWash s = none))
    ∧ (s.seq.extension.isSome = true → runningIn s .drain = true)
    ∧ (s.seq.settling.isSome = true ∨ s.seq.remembered ≠ .none → s.seq.state = .suspended)
    ∧ (s.seq.state = .suspended → s.seq.remembered ∉ ([.none, .sub .none, .sub .dry] : List Remembered))
    ∧ (s.seq.state = .suspended ∨ s.seq.state = .waitWater → (currentWash s).isSome = true)

theorem sequencerKept_iff (s : State) :
    SequencerKept s ↔ CourseAgrees s ∧ s.seq.count ≤ 12 ∧ HomingsKept s.part := by
  simp only [SequencerKept, CourseAgrees, HomingsKept, and_assoc]

/-- The count lies in the table, and a running program has its phases in it. -/
def Programmed (s : State) : Prop := s.seq.count ≤ 12 ∧ ProgramKept s

/-- The current phase stands in the table below the count, and every later one below the count is sound (R4, R5). -/
def Entering (s : State) : Prop :=
  (currentPhase s).isSome = true ∧ s.seq.idx < s.seq.count
    ∧ ∀ i : Fin 12, s.seq.idx < i.val → i.val < s.seq.count → slotBad true s.seq s.seq.count i.val = false

theorem phaseAt_congr {q r : Seq} (h : q.table = r.table) (i : Nat) : phaseAt q i = phaseAt r i := by simp [phaseAt, h]

theorem slotBad_congr {q r : Seq} (h : q.table = r.table) (b : Bool) (n i : Nat) : slotBad b q n i = slotBad b r n i := by
  simp [slotBad, phaseAt_congr h]

theorem currentPhase_congr {s t : State} (ht : t.seq.table = s.seq.table) (hi : t.seq.idx = s.seq.idx) :
    currentPhase t = currentPhase s := by simp [currentPhase, hi, phaseAt_congr ht]

theorem currentWash_congr {s t : State} (ht : t.seq.table = s.seq.table) (hi : t.seq.idx = s.seq.idx) :
    currentWash t = currentWash s := by simp [currentWash, currentPhase_congr ht hi]

theorem entering_congr {s t : State} (ht : t.seq.table = s.seq.table) (hn : t.seq.count = s.seq.count)
    (hi : t.seq.idx = s.seq.idx) (h : Entering s) : Entering t := by
  simpa only [Entering, currentPhase_congr ht hi, hn, hi, slotBad_congr ht] using h

theorem programKept_of_entering {s : State} (h : Entering s)
    (hh : s.seq.state = .holding → s.seq.idx + 1 < s.seq.count) : ProgramKept s :=
  fun _ => ⟨h.1, h.2.1, hh, h.2.2⟩

theorem entering_of_programKept {s : State} (h : ProgramKept s) (hr : programRuns s = true) : Entering s := by
  obtain ⟨h1, h2, -, h4⟩ := h hr
  exact ⟨h1, h2, h4⟩

theorem programKept_of_not_runs {s : State} (h : programRuns s = false) : ProgramKept s := by simp [ProgramKept, h]

/-- The phase after the current one stands, where the count has one. -/
theorem entering_next {s t : State} (h : Programmed s) (hr : programRuns s = true) (hn : s.seq.idx + 1 < s.seq.count)
    (ht : t.seq.table = s.seq.table) (hc : t.seq.count = s.seq.count) (hi : t.seq.idx = s.seq.idx + 1) : Entering t := by
  obtain ⟨-, -, hl⟩ := entering_of_programKept h.2 hr
  have h12 := h.1
  refine ⟨?_, by omega, fun i h1 h2 => ?_⟩
  · have hb := hl ⟨s.seq.idx + 1, by omega⟩ (by simp) hn
    cases hp : phaseAt s.seq (s.seq.idx + 1) with
    | none => simp [slotBad, hp] at hb
    | some p => simp [currentPhase, hi, phaseAt_congr ht, hp]
  · rw [hc, slotBad_congr ht]
    exact hl i (by omega) (by omega)

/-- What the agreement says of a sequencer that neither runs, nor is suspended, nor waits for water. -/
theorem courseAgrees_rest {s : State} (hs : s.seq.state ∉ ([.running, .suspended, .waitWater] : List SeqState))
    (hb : s.seq.sub = .none) (hr : s.seq.remembered = .none) (ht : s.seq.settling.isSome = false)
    (he : s.seq.extension.isSome = false) : CourseAgrees s := by
  simp only [List.mem_cons, List.not_mem_nil, or_false, not_or] at hs
  simp [CourseAgrees, hs, hb, hr, ht, he]

theorem courseAgrees_running {s : State} (hs : s.seq.state = .running) (hb : s.seq.sub ≠ .none)
    (hw : s.seq.sub = .dry ↔ currentWash s = none) (hr : s.seq.remembered = .none) (ht : s.seq.settling.isSome = false)
    (he : s.seq.extension.isSome = true → s.seq.sub = .drain) : CourseAgrees s := by
  simp only [CourseAgrees, runningIn]
  simp [hs, hb, hr, ht, hw]
  exact he

theorem courseAgrees_waitWater {s : State} (hs : s.seq.state = .waitWater) (hb : s.seq.sub = .none)
    (hw : (currentWash s).isSome = true) (hr : s.seq.remembered = .none) (ht : s.seq.settling.isSome = false)
    (he : s.seq.extension.isSome = false) : CourseAgrees s := by
  simp [CourseAgrees, hs, hb, hr, ht, he, hw]

theorem courseAgrees_suspended {s : State} (hs : s.seq.state = .suspended) (hb : s.seq.sub = .none)
    (hw : (currentWash s).isSome = true)
    (hr : s.seq.remembered ∉ ([.none, .sub .none, .sub .dry] : List Remembered))
    (he : s.seq.extension.isSome = false) : CourseAgrees s := by
  refine ⟨by simp [hs, hb], by simp [hs], by simp [he], fun _ => hs, fun _ => hr, fun _ => hw⟩

/-- From `s` to `t` the blocks are kept, a FAULTED sequencer stays, and a program and its course stay sound. -/
structure Follows (s t : State) : Prop extends Blocks s t where
  faulted : s.seq.state = .faulted →
    t.seq.state = .faulted ∧ t.seq.fault = s.seq.fault ∧ t.seq.idx = s.seq.idx ∧ t.seq.soil = s.seq.soil
  program : Programmed s → ProgramKept t
  agrees : Programmed s → CourseAgrees s → CourseAgrees t

theorem Blocks.programmed {s t : State} (h : Blocks s t) (hs : Programmed s) (ht : ProgramKept t) : Programmed t :=
  ⟨by rw [h.count]; exact hs.1, ht⟩

theorem Blocks.onSeq {s t : State} (h : Blocks s t) (f : Seq → Seq) (ht : (f t.seq).table = t.seq.table := by rfl)
    (hn : (f t.seq).count = t.seq.count := by rfl) : Blocks s (onSeq f t) :=
  h.trans ⟨by simp [Proofs.settings, Machine.onSeq, ht, hn], rfl, id, id, id, fun _ => id, id⟩

/-- The six fields on which program and agreement depend stand. -/
theorem Blocks.follows_of_same {s t : State} (h : Blocks s t) (hf : s.seq.state ≠ .faulted)
    (hs : t.seq.state = s.seq.state) (hb : t.seq.sub = s.seq.sub) (hi : t.seq.idx = s.seq.idx)
    (hr : t.seq.remembered = s.seq.remembered) (ht : t.seq.settling.isSome = s.seq.settling.isSome)
    (he : t.seq.extension.isSome = s.seq.extension.isSome) : Follows s t where
  toBlocks := h
  faulted := fun h => absurd h hf
  program := fun hp hr => by
    obtain ⟨h1, h2, h3, h4⟩ := hp.2 (by simpa [programRuns, hs] using hr)
    exact ⟨by rwa [currentPhase_congr h.table hi], by rwa [h.count, hi], by rwa [h.count, hi, hs],
      fun i => by rw [slotBad_congr h.table, h.count, hi]; exact h4 i⟩
  agrees := fun _ ha => by
    simpa only [CourseAgrees, runningIn, hs, hb, hr, ht, he, currentWash_congr h.table hi] using ha

theorem Aside.remembered {s t : State} (h : Aside s t) : t.seq.remembered = s.seq.remembered :=
  congrArg Course.remembered h.course

theorem Aside.settling {s t : State} (h : Aside s t) : t.seq.settling.isSome = s.seq.settling.isSome :=
  congrArg Course.settling h.course

theorem Aside.extension {s t : State} (h : Aside s t) : t.seq.extension.isSome = s.seq.extension.isSome :=
  congrArg Course.extension h.course

theorem Aside.runningIn {s t : State} (h : Aside s t) (b : SubStage) :
    Machine.runningIn t b = Machine.runningIn s b := by simp [Machine.runningIn, h.state, h.sub]

theorem Aside.follows {s t : State} (h : Aside s t) : Follows s t := by
  by_cases hf : s.seq.state = .faulted
  · refine ⟨h.toBlocks, fun _ => ⟨h.state.trans hf, congrArg Course.fault h.course, h.idx, congrArg Course.soil h.course⟩,
      fun _ => programKept_of_not_runs (by simp [programRuns, h.state, hf]), fun _ ha => ?_⟩
    simpa only [CourseAgrees, Machine.runningIn, h.state, h.sub, h.remembered, h.settling, h.extension,
      currentWash_congr h.table h.idx] using ha
  · exact h.toBlocks.follows_of_same hf h.state h.sub h.idx h.remembered h.settling h.extension

namespace Follows

variable {s t u a b : State}

theorem refl (s : State) : Follows s s := (Aside.refl s).follows

theorem trans (h : Follows s t) (k : Follows t u) : Follows s u where
  toBlocks := h.toBlocks.trans k.toBlocks
  faulted := fun hf => by
    obtain ⟨h1, h2, h3, h4⟩ := h.faulted hf
    obtain ⟨k1, k2, k3, k4⟩ := k.faulted h1
    exact ⟨k1, k2.trans h2, k3.trans h3, k4.trans h4⟩
  program := fun hp => k.program (h.programmed hp (h.program hp))
  agrees := fun hp ha => k.agrees (h.programmed hp (h.program hp)) (h.agrees hp ha)

theorem aside (h : Follows s t) (k : Aside t u) : Follows s u := h.trans k.follows

theorem ite {c : Prop} [Decidable c] (ha : c → Follows s a) (hb : ¬ c → Follows s b) :
    Follows s (if c then a else b) := by
  split
  · exact ha ‹_›
  · exact hb ‹_›

end Follows

/-! ## Within a phase -/

/-- `t` stands in the same phase as the program of `s`, its timers and what it remembered gone. -/
structure Within (s t : State) : Prop extends Blocks s t where
  live : programHeats s = true
  idx : t.seq.idx = s.seq.idx
  clear : Programmed s → CourseAgrees s →
    t.seq.remembered = .none ∧ t.seq.settling.isSome = false ∧ t.seq.extension.isSome = false

theorem programHeats_iff (s : State) : programHeats s = true ↔
    s.seq.state = .running ∨ s.seq.state = .holding ∨ s.seq.state = .suspended ∨ s.seq.state = .waitWater := by
  cases h : s.seq.state <;> simp [programHeats, h]

theorem runningIn_iff (s : State) (b : SubStage) : runningIn s b = true ↔ s.seq.state = .running ∧ s.seq.sub = b := by
  simp [runningIn]

namespace Within

variable {s t u : State}

theorem aside (h : Within s t) (k : Aside t u) : Within s u where
  toBlocks := h.toBlocks.trans k.toBlocks
  live := h.live
  idx := k.idx.trans h.idx
  clear := fun hp ha => by
    obtain ⟨h1, h2, h3⟩ := h.clear hp ha
    exact ⟨k.remembered.trans h1, k.settling.trans h2, k.extension.trans h3⟩

/-- A change of the sequencer's fields that leaves the phase and sets no timer. -/
theorem onSeq (h : Within s t) (f : Seq → Seq) (hi : (f t.seq).idx = t.seq.idx := by rfl)
    (hc : t.seq.remembered = .none → t.seq.settling.isSome = false → t.seq.extension.isSome = false →
      (f t.seq).remembered = .none ∧ (f t.seq).settling.isSome = false ∧ (f t.seq).extension.isSome = false := by
        exact fun h1 h2 h3 => ⟨h1, h2, h3⟩)
    (ht : (f t.seq).table = t.seq.table := by rfl) (hn : (f t.seq).count = t.seq.count := by rfl) :
    Within s (onSeq f t) where
  toBlocks := h.toBlocks.onSeq f ht hn
  live := h.live
  idx := hi.trans h.idx
  clear := fun hp ha => by
    obtain ⟨h1, h2, h3⟩ := h.clear hp ha
    exact hc h1 h2 h3

theorem seqTo (h : Within s t) (st : SeqState) (b : SubStage) : Within s (seqTo st b t) := h.onSeq _

theorem runs (h : Within s t) : programRuns s = true := by
  have hl := h.live
  cases hs : s.seq.state <;> simp_all [programRuns, programHeats]

theorem not_faulted (h : Within s t) : s.seq.state ≠ .faulted := by
  have hl := h.live
  intro hf
  simp [programHeats, hf] at hl

theorem entering (h : Within s t) (hp : Programmed s) : Entering t :=
  entering_congr h.table h.count h.idx (entering_of_programKept hp.2 h.runs)

theorem wash (h : Within s t) : currentWash t = currentWash s := currentWash_congr h.table h.idx

/-- A program whose sub-stage is none of DRAIN is clear of timers as it runs. -/
theorem of_running {b : SubStage} (hr : runningIn s b = true) (hb : b ≠ .drain) : Within s s where
  toBlocks := .refl s
  live := by rw [programHeats_iff]; exact .inl ((runningIn_iff _ _).mp hr).1
  idx := rfl
  clear := fun _ ha => by
    obtain ⟨h1, h2⟩ := (runningIn_iff _ _).mp hr
    obtain ⟨-, -, a3, a4, -⟩ := ha
    simp [h1, runningIn, h2, hb] at a3 a4
    exact ⟨a4.2, by simp [a4.1], by simp [a3]⟩

/-- A program that waits for water, or holds, is clear of timers. -/
theorem of_state (hr : s.seq.state = .waitWater ∨ s.seq.state = .holding) : Within s s where
  toBlocks := .refl s
  live := by rw [programHeats_iff]; tauto
  idx := rfl
  clear := fun _ ha => by
    obtain ⟨-, -, a3, a4, -⟩ := ha
    rcases hr with hr | hr <;>
    · simp [hr, runningIn] at a3 a4
      exact ⟨a4.2, by simp [a4.1], by simp [a3]⟩

/-- A program all of whose timers have been cleared. -/
theorem of_cleared (hl : programHeats s = true) (hb : Blocks s t) (hi : t.seq.idx = s.seq.idx)
    (hr : t.seq.remembered = .none) (ht : t.seq.settling.isSome = false) (he : t.seq.extension.isSome = false) :
    Within s t := ⟨hb, hl, hi, fun _ _ => ⟨hr, ht, he⟩⟩

/-- The program goes on in a sub-stage of its wash phase. -/
theorem follows_running (h : Within s t) (hw : (currentWash s).isSome = true) (hs : t.seq.state = .running)
    (hb : t.seq.sub ∉ ([.none, .dry] : List SubStage)) : Follows s t where
  toBlocks := h.toBlocks
  faulted := fun hf => absurd hf h.not_faulted
  program := fun hp => programKept_of_entering (h.entering hp) (by simp [hs])
  agrees := fun hp ha => by
    obtain ⟨h1, h2, h3⟩ := h.clear hp ha
    simp only [List.mem_cons, List.not_mem_nil, or_false, not_or] at hb
    refine courseAgrees_running hs hb.1 ?_ h1 h2 (by simp [h3])
    rw [h.wash]
    simp [hb.2, ← Option.isNone_iff_eq_none, Option.isNone_eq_false_iff.mpr hw]

theorem follows_waitWater (h : Within s t) (hw : CourseAgrees s → (currentWash s).isSome = true) (hs : t.seq.state = .waitWater)
    (hb : t.seq.sub = .none) : Follows s t where
  toBlocks := h.toBlocks
  faulted := fun hf => absurd hf h.not_faulted
  program := fun hp => programKept_of_entering (h.entering hp) (by simp [hs])
  agrees := fun hp ha => by
    obtain ⟨h1, h2, h3⟩ := h.clear hp ha
    exact courseAgrees_waitWater hs hb (by rw [h.wash]; exact hw ha) h1 h2 h3

/-- The program stands at a boundary, drains for its end, or has ended. -/
theorem follows_rest (h : Within s t) (hs : t.seq.state ∈ ([.ending, .ended, .faulted] : List SeqState))
    (hb : t.seq.sub = .none) : Follows s t where
  toBlocks := h.toBlocks
  faulted := fun hf => absurd hf h.not_faulted
  program := fun hp => programKept_of_entering (h.entering hp) (by intro hh; simp [hh] at hs)
  agrees := fun hp ha => by
    obtain ⟨h1, h2, h3⟩ := h.clear hp ha
    refine courseAgrees_rest ?_ hb h1 h2 h3
    intro hx
    simp only [List.mem_cons, List.not_mem_nil, or_false] at hs hx
    rcases hs with hs | hs | hs <;> simp [hs] at hx

end Within

/-! ## The entry of a phase and its boundary -/

/-- What each phase entry sets and raises, before what its kind asks (R8). -/
def marked (p : Phase) (s : State) : State :=
  circulationPhaseEntry (heatingPhaseEntry (raiseNotice (.phaseBegin s.seq.idx (phaseKind p))
    (onSeq (fun q => phaseMarks q) s)))

theorem enterPhase_dry {s : State} {d o : Nat} (h : currentPhase s = some (.dry d o)) :
    enterPhase s = startDrying ⟨d, o⟩ (seqTo .running .dry (marked (.dry d o) s)) := by
  unfold enterPhase
  rw [h]
  rfl

@[simp] theorem marked_ddu (p : Phase) (s : State) : (marked p s).ddu = s.ddu := by
  unfold marked raiseNotice
  split <;> rfl

theorem enterPhase_suspended {s : State} {k : WashKind} {w : WashRecord} (h : currentPhase s = some (.wash k w))
    (hd : s.ddu.doorOpen = true) :
    enterPhase s = onSeq (fun q => { q with remembered := .sub .fill }) (seqTo .suspended .none (marked (.wash k w) s)) := by
  have hm : (marked (.wash k w) s).ddu.doorOpen = true := by simp [hd]
  unfold enterPhase
  rw [h]
  exact if_pos hm

theorem enterPhase_fill {s : State} {k : WashKind} {w : WashRecord} (h : currentPhase s = some (.wash k w))
    (hd : s.ddu.doorOpen = false) : enterPhase s = beginFill w (seqTo .running .fill (marked (.wash k w) s)) := by
  have hm : ¬ (marked (.wash k w) s).ddu.doorOpen = true := by simp [hd]
  unfold enterPhase
  rw [h]
  exact if_neg hm

theorem marked_aside (p : Phase) (s : State) : Aside (onSeq (fun q => phaseMarks q) s) (marked p s) :=
  ((Aside.refl _).raiseNotice _).heatingPhaseEntry.circulationPhaseEntry

/-- PHASE_END of the current phase (R18). -/
def phaseEndRaised (s : State) : State :=
  match currentPhase s with
  | some p => raiseNotice (.phaseEnd s.seq.idx (phaseKind p)) s
  | none => s

theorem phaseEndRaised_aside (s : State) : Aside s (phaseEndRaised s) := by
  unfold phaseEndRaised
  split
  · exact (Aside.refl _).raiseNotice _
  · exact .refl _

theorem endPhase_eq (s : State) :
    endPhase s = if (phaseEndRaised s).seq.count ≤ (phaseEndRaised s).seq.idx + 1 then completeProgram (phaseEndRaised s)
      else if (phaseEndRaised s).seq.holdPending then holdAtBoundary (phaseEndRaised s)
      else enterNext (phaseEndRaised s) := rfl

theorem Aside.beginFill {s t : State} (h : Aside s t) (w : WashRecord) : Aside s (beginFill w t) :=
  (h.onSeq fun q => { q with fillBegun := true }).openFill.placeFill _ _

theorem Aside.continueFill {s t : State} (h : Aside s t) (w : WashRecord) : Aside s (continueFill w t) := h.placeFill _ _

/-- The entry of a phase that stands in the table. -/
theorem follows_enterPhase {s t : State} (h : Blocks s t) (hf : s.seq.state ≠ .faulted)
    (hp : Programmed s → Entering t) : Follows s (enterPhase t) := by
  cases hc : currentPhase t with
  | none =>
    have hn : ¬ Programmed s := fun hs => by simpa [hc] using (hp hs).1
    have he : enterPhase t = t := by unfold enterPhase; rw [hc]
    rw [he]
    exact ⟨h, fun hx => absurd hx hf, fun hs => absurd hs hn, fun hs => absurd hs hn⟩
  | some p =>
    have hm := marked_aside p t
    have hb : Blocks s (marked p t) := (h.onSeq _).trans hm.toBlocks
    have ht : (marked p t).seq.table = t.seq.table := hm.table
    have hi : (marked p t).seq.idx = t.seq.idx := hm.idx
    have hn : (marked p t).seq.count = t.seq.count := hm.count
    have hx : ∀ b : Prop, (marked p t).seq.extension.isSome = true → b := fun b he => by
      simp [hm.extension, onSeq, phaseMarks] at he
    have hw : ∀ st sub, currentWash (seqTo st sub (marked p t)) = currentWash t :=
      fun _ _ => currentWash_congr ht hi
    have hE : ∀ st sub, Programmed s → Entering (seqTo st sub (marked p t)) :=
      fun _ _ hs => entering_congr ht hn hi (hp hs)
    cases p with
    | dry d o =>
      rw [enterPhase_dry hc]
      refine Follows.aside (t := seqTo .running .dry (marked (.dry d o) t)) ⟨hb.onSeq _, fun hx => absurd hx hf,
        fun hs => programKept_of_entering (hE _ _ hs) (by simp [seqTo]),
        fun _ _ => courseAgrees_running rfl (by simp [seqTo]) ?_ hm.remembered hm.settling (hx _)⟩
        ((Aside.refl _).startDrying _)
      rw [hw]
      simp [seqTo, currentWash, hc]
    | wash k w =>
      have hws : currentWash t = some w := by simp [currentWash, hc]
      cases hd : t.ddu.doorOpen with
      | true =>
        rw [enterPhase_suspended hc hd]
        exact ⟨(hb.onSeq _).onSeq _, fun hx => absurd hx hf,
          fun hs => programKept_of_entering (hE .suspended .none hs) (by simp [seqTo, onSeq]),
          fun _ _ => courseAgrees_suspended rfl rfl (Option.isSome_of_mem ((hw .suspended .none).trans hws)) (by simp)
            hm.extension⟩
      | false =>
        rw [enterPhase_fill hc hd]
        refine Follows.aside (t := seqTo .running .fill (marked (.wash k w) t)) ⟨hb.onSeq _, fun hx => absurd hx hf,
          fun hs => programKept_of_entering (hE _ _ hs) (by simp [seqTo]),
          fun _ _ => courseAgrees_running rfl (by simp [seqTo]) ?_ hm.remembered hm.settling (hx _)⟩
          ((Aside.refl _).beginFill _)
        rw [hw, hws]
        simp [seqTo]

namespace Within

variable {s t : State}

/-- The entry of the next phase, where the count has one. -/
theorem enterNext (h : Within s t) (hn : Programmed s → s.seq.idx + 1 < s.seq.count) : Follows s (enterNext t) :=
  follows_enterPhase (h.toBlocks.onSeq _) h.not_faulted fun hp =>
    entering_next hp h.runs (hn hp) h.table h.count (congrArg (· + 1) h.idx)

theorem completeProgram (h : Within s t) : Follows s (completeProgram t) := by
  have hc := h.onSeq fun q => { q with state := .ended, sub := .none, holdPending := false }
  exact (hc.follows_rest (by simp) rfl).aside (((Aside.refl _).onSeq _).raiseNotice _)

theorem holdAtBoundary (h : Within s t) (hn : s.seq.idx + 1 < s.seq.count) : Follows s (holdAtBoundary t) := by
  have hc := h.onSeq fun q => { q with state := .holding, sub := .none, holdPending := false }
  refine Follows.aside ⟨hc.toBlocks, fun hx => absurd hx h.not_faulted,
    fun hp => programKept_of_entering (hc.entering hp) fun _ => ?_, fun hp ha => ?_⟩ ((Aside.refl _).raiseNotice _)
  · rw [hc.count, hc.idx]
    exact hn
  · obtain ⟨h1, h2, h3⟩ := hc.clear hp ha
    exact courseAgrees_rest (by simp) rfl h1 h2 h3

theorem endPhase (h : Within s t) : Follows s (endPhase t) := by
  have hr : Within s (phaseEndRaised t) := h.aside (phaseEndRaised_aside t)
  rw [endPhase_eq]
  refine .ite (fun _ => hr.completeProgram) fun hn => ?_
  have hn : s.seq.idx + 1 < s.seq.count := by
    have h1 := hr.count
    have h2 := hr.idx
    omega
  exact .ite (fun _ => hr.holdAtBoundary hn) fun _ => hr.enterNext fun _ => hn

/-! ## The sub-stages -/

theorem enterDrain (h : Within s t) (hw : (currentWash s).isSome = true) : Follows s (enterDrain t) :=
  ((h.seqTo .running .drain).follows_running hw rfl (by simp [Machine.seqTo])).aside (Aside.refl _).placeDrain

theorem endCirculate (h : Within s t) (hw : (currentWash s).isSome = true) (w : WashRecord) :
    Follows s (endCirculate w t) := by
  have hs := h.aside (Aside.refl _).withdrawHeat.withdrawFill.stopCirculation
  have hs : Within s (if w.sample then Machine.onSeq (fun q => { q with
      soil := soilOf (transmission (stopCirculation (withdrawFill (withdrawHeat t))).pins.turbidity) })
      (stopCirculation (withdrawFill (withdrawHeat t))) else stopCirculation (withdrawFill (withdrawHeat t))) := by
    split
    · exact hs.onSeq _
    · exact hs
  exact .ite (fun _ => hs.enterDrain hw) fun _ => hs.endPhase

theorem enterCirculate (h : Within s t) (hw : (currentWash s).isSome = true) (w : WashRecord) :
    Follows s (enterCirculate w t) := by
  have hs := (h.seqTo .running .circulate).onSeq fun q => { q with holdTimer := 0 }
  exact .ite (fun _ => hs.endCirculate hw w) fun _ =>
    (hs.follows_running hw rfl (by simp [Machine.seqTo])).aside ((Aside.refl _).runCirculation w)

theorem enterHeat (h : Within s t) (hw : (currentWash s).isSome = true) (w : WashRecord) :
    Follows s (enterHeat w t) :=
  .ite (fun _ => ((h.seqTo .running .heat).follows_running hw rfl (by simp [Machine.seqTo])).aside
    (((Aside.refl _).runCirculation w).placeHeating _ _)) fun _ => h.enterCirculate hw w

end Within

theorem Aside.placeRef {s t : State} (h : Aside s t) (w : WashRecord) (r : DoseRef) : Aside s (placeRef w t r) := by
  unfold Machine.placeRef
  split
  · exact h
  · exact h.placeDose _ _ _

theorem placeDoses_cons (w : WashRecord) (r : DoseRef) (l : List DoseRef) (s : State) :
    placeDoses w (r :: l) s = placeDoses w l (placeRef w s r) := by simp only [placeDoses, List.foldl_cons]

theorem Aside.placeDoses {s t : State} (h : Aside s t) (w : WashRecord) (l : List DoseRef) : Aside s (placeDoses w l t) := by
  induction l generalizing t with
  | nil => exact h
  | cons r l ih =>
    rw [placeDoses_cons]
    exact ih (h.placeRef w r)

namespace Within

variable {s t : State}

theorem enterDose (h : Within s t) (hw : (currentWash s).isSome = true) (w : WashRecord) :
    Follows s (enterDose w t) := by
  have ha := ((Aside.refl (Machine.seqTo .running .dose t)).runCirculation w).placeDoses w w.refs
  exact .ite (fun _ => h.enterHeat hw w) fun _ =>
    .ite (fun _ => ((h.seqTo _ _).aside ha).enterHeat hw w)
      fun _ => ((h.seqTo _ _).follows_running hw rfl (by simp [Machine.seqTo])).aside ha

theorem resumeHeat (h : Within s t) (hw : (currentWash s).isSome = true) (w : WashRecord) :
    Follows s (resumeHeat w t) :=
  .ite (fun _ => h.enterCirculate hw w) fun _ =>
    .ite (fun _ => (h.aside ((Aside.refl _).placeRegulating _)).enterCirculate hw w) fun _ =>
      ((h.seqTo .running .heat).follows_running hw rfl (by simp [Machine.seqTo])).aside
        (((Aside.refl _).runCirculation w).placeHeating _ _)

theorem resumeCirculate (h : Within s t) (hw : (currentWash s).isSome = true) (w : WashRecord) :
    Follows s (resumeCirculate w t) := by
  refine ((h.seqTo .running .circulate).follows_running hw rfl (by simp [Machine.seqTo])).aside ?_
  exact Aside.runCirculation (.ite (fun _ => (Aside.refl _).placeRegulating _) fun _ => .refl _) w

theorem resumeDose (h : Within s t) (hw : (currentWash s).isSome = true) (w : WashRecord) :
    Follows s (resumeDose w t) := by
  have ha := ((Aside.refl (Machine.seqTo .running .dose t)).runCirculation w).resumeDosing
  exact .ite (fun _ => ((h.seqTo _ _).aside ha).enterHeat hw w)
    fun _ => ((h.seqTo _ _).follows_running hw rfl (by simp [Machine.seqTo])).aside ha

theorem resumeFill (h : Within s t) (hw : (currentWash s).isSome = true) (w : WashRecord) :
    Follows s (resumeSub .fill w t) :=
  ((h.seqTo .running .fill).follows_running hw rfl (by simp [Machine.seqTo])).aside
    (.ite (fun _ => (Aside.refl _).continueFill w) fun _ => (Aside.refl _).beginFill w)

theorem resumeSub (h : Within s t) (hw : (currentWash s).isSome = true) (w : WashRecord) {sub : SubStage}
    (hs : sub ∉ ([.none, .dry] : List SubStage)) : Follows s (resumeSub sub w t) := by
  cases sub with
  | fill => exact h.resumeFill hw w
  | dose => exact h.resumeDose hw w
  | heat => exact h.resumeHeat hw w
  | circulate => exact h.resumeCirculate hw w
  | drain => exact h.enterDrain hw
  | none => simp at hs
  | dry => simp at hs

end Within

end Sys2Proof.Proofs
end

section
/-! PROOFS. How the sequencer stops a program, takes the blocks' reports and follows the door, and what a step settles after its
command: each keeps the blocks, a FAULTED sequencer, a program's phases and the agreement of its course. -/

/- One theorem at a time, as the tests have it: proofs that wait for the kernel cost a thread each. -/
set_option Elab.async false

namespace Sys2Proof.Proofs

open Sys2Proof.Machine
open Sys2Proof.Safety

/-! ## Stopping a program -/

/-- Outside SUSPENDED and a program's DRAIN nothing is remembered and no timer of the course runs. -/
theorem courseAgrees_clear {s : State} (h : CourseAgrees s) (hs : s.seq.state ≠ .suspended)
    (hd : runningIn s .drain = false) :
    s.seq.remembered = .none ∧ s.seq.settling.isSome = false ∧ s.seq.extension.isSome = false := by
  obtain ⟨-, -, h3, h4, -⟩ := h
  simp [hs] at h4
  simp [hd] at h3
  simp [h3, h4]

/-- The sequencer, not FAULTED before, has no program: the course is clear. -/
theorem Blocks.follows_off {s t : State} (h : Blocks s t) (hf : s.seq.state ≠ .faulted)
    (hs : t.seq.state ∈ ([.idle, .ended, .faulted] : List SeqState)) (hb : CourseAgrees s → t.seq.sub = .none)
    (hc : CourseAgrees s →
      t.seq.remembered = .none ∧ t.seq.settling.isSome = false ∧ t.seq.extension.isSome = false) : Follows s t := by
  simp only [List.mem_cons, List.not_mem_nil, or_false] at hs
  refine ⟨h, fun hx => absurd hx hf, fun _ => programKept_of_not_runs ?_, fun _ ha => ?_⟩
  · rcases hs with hs | hs | hs <;> simp [programRuns, hs]
  · obtain ⟨h1, h2, h3⟩ := hc ha
    refine courseAgrees_rest ?_ (hb ha) h1 h2 h3
    rcases hs with hs | hs | hs <;> simp [hs]

/-- What is stopped with a program, before its timers are cleared (R21). -/
theorem stopProgram_eq (s : State) : ∃ t, Aside s t ∧ stopProgram s = onSeq (fun q => { q with
    holdTimer := 0, waterWait := none, settling := none, extension := none, remembered := .none
    holdPending := false }) t :=
  ⟨_, .ite (fun _ => (Aside.refl s).withdrawHeat.withdrawFill.closeFill.cancelSequencerDoses.stopCirculation.dropDrain)
    fun _ => (Aside.refl s).withdrawHeat.withdrawFill.closeFill.cancelSequencerDoses.stopCirculation, rfl⟩

theorem blocks_stopProgram (s : State) : Blocks s (stopProgram s) := by
  obtain ⟨t, ha, he⟩ := stopProgram_eq s
  rw [he]
  exact ha.toBlocks.onSeq _

theorem stopProgram_clear (s : State) : (stopProgram s).seq.remembered = .none
    ∧ (stopProgram s).seq.settling.isSome = false ∧ (stopProgram s).seq.extension.isSome = false := ⟨rfl, rfl, rfl⟩

theorem within_stopProgram {s : State} (hl : programHeats s = true) : Within s (stopProgram s) := by
  obtain ⟨t, ha, he⟩ := stopProgram_eq s
  rw [he]
  exact .of_cleared hl (ha.toBlocks.onSeq _) ha.idx rfl rfl rfl

namespace Within

variable {s t : State}

theorem holdCode (h : Within s t) (c : FaultCode) : Within s (holdCode c t) := h.onSeq _

theorem setOutcome (h : Within s t) (o : Outcome) : Within s (setOutcome o t) := h.onSeq _

theorem enterEnding (h : Within s t) : Follows s (enterEnding t) :=
  ((h.seqTo .ending .none).follows_rest (by simp [Machine.seqTo]) rfl).aside (Aside.refl _).placeDrain

theorem enterFaulted (h : Within s t) : Follows s (enterFaulted t) :=
  ((h.seqTo .faulted .none).follows_rest (by simp [Machine.seqTo]) rfl).aside ((Aside.refl _).raiseNotice _)

end Within

theorem within_dry {s : State} (h : runningIn s .dry = true) : Within s s := .of_running h (by simp)

theorem not_suspended_of_running {s : State} {b : SubStage} (h : runningIn s b = true) : s.seq.state ≠ .suspended := by
  intro hs
  simp [runningIn, hs] at h

theorem Aside.clear {s t : State} (h : Aside s t) (hs : s.seq.state ≠ .suspended) (hd : Machine.runningIn s .drain = false)
    (ha : CourseAgrees s) :
    t.seq.remembered = .none ∧ t.seq.settling.isSome = false ∧ t.seq.extension.isSome = false := by
  obtain ⟨h1, h2, h3⟩ := courseAgrees_clear ha hs hd
  exact ⟨h.remembered.trans h1, h.settling.trans h2, h.extension.trans h3⟩

theorem runningIn_of_ne {s : State} (h : s.seq.state ≠ .running) (b : SubStage) : runningIn s b = false := by
  simp [runningIn, h]

/-- A sequencer neither RUNNING nor SUSPENDED is clear. -/
theorem clear_of_ne {s : State} (h1 : s.seq.state ≠ .running) (h2 : s.seq.state ≠ .suspended) (ha : CourseAgrees s) :
    s.seq.remembered = .none ∧ s.seq.settling.isSome = false ∧ s.seq.extension.isSome = false :=
  courseAgrees_clear ha h2 (runningIn_of_ne h1 _)

theorem runningIn_drain_of_dry {s : State} (h : runningIn s .dry = true) : runningIn s .drain = false := by
  simp [runningIn] at h ⊢
  simp [h]

/-- A sequencer at rest that takes a program-ending code is FAULTED with it (R26). -/
theorem follows_faultAtRest {s : State} (hs : s.seq.state = .idle ∨ s.seq.state = .ended) (c : FaultCode) :
    Follows s (holdCode c (seqTo .faulted .none s)) :=
  (((Blocks.refl s).onSeq _).onSeq _).follows_off (by rcases hs with h | h <;> simp [h]) (by simp)
    (fun _ => rfl) (clear_of_ne (s := s) (by rcases hs with h | h <;> simp [h]) (by rcases hs with h | h <;> simp [h]))

/-- A running program that takes a program-ending code ends through the abort drain, or FAULTED (R26). -/
theorem follows_faultRunning {s : State} (hl : programHeats s = true) (c : FaultCode) :
    Follows s (if runningIn s .dry then
        enterFaulted (setOutcome .faulted (holdCode c (onSeq (fun q => { q with holdPending := false }) (endDrying s))))
      else if drainsAfter c then enterEnding (setOutcome .faulted (holdCode c (stopProgram s)))
        else enterFaulted (setOutcome .faulted (holdCode c (stopProgram s)))) := by
  refine .ite (fun hd => ?_) fun _ => ?_
  · exact ((((within_dry hd).aside (Aside.refl s).endDrying).onSeq _).holdCode c |>.setOutcome _).enterFaulted
  · have hw := ((within_stopProgram hl).holdCode c).setOutcome .faulted
    exact .ite (fun _ => hw.enterEnding) fun _ => hw.enterFaulted

/-- In ENDING a program-ending code is held; one after which no drain runs ends the abort drain (R26). -/
theorem follows_faultEnding {s : State} (hs : s.seq.state = .ending) (c : FaultCode) :
    Follows s (if drainsAfter c then setOutcome .faulted (holdCode c s)
      else enterFaulted (dropDrain (setOutcome .faulted (holdCode c s)))) := by
  have hb : Blocks s (setOutcome .faulted (holdCode c s)) := ((Blocks.refl s).onSeq _).onSeq _
  refine .ite (fun _ => hb.follows_of_same (by simp [hs]) rfl rfl rfl rfl rfl rfl) fun _ => ?_
  refine Follows.aside (t := seqTo .faulted .none (dropDrain (setOutcome .faulted (holdCode c s)))) ?_
    ((Aside.refl _).raiseNotice _)
  exact (Blocks.onSeq (hb.trans (Aside.refl _).dropDrain.toBlocks) _).follows_off (by simp [hs])
    (by simp) (fun _ => rfl) (clear_of_ne (s := s) (by simp [hs]) (by simp [hs]))

theorem follows_programFault (c : FaultCode) (s : State) : Follows s (programFault c s) := by
  unfold programFault
  split
  · next hs => exact follows_faultAtRest (.inl hs) c
  · next hs => exact follows_faultAtRest (.inr hs) c
  · next hs => exact follows_faultRunning (by simp [programHeats, hs]) c
  · next hs => exact follows_faultRunning (by simp [programHeats, hs]) c
  · next hs => exact follows_faultRunning (by simp [programHeats, hs]) c
  · next hs => exact follows_faultRunning (by simp [programHeats, hs]) c
  · next hs => exact follows_faultEnding hs c
  · exact .refl s

theorem editing_eq_programHeats (s : State) : editing s = programHeats s := by
  cases h : s.seq.state <;> simp [editing, programHeats, h]

theorem follows_abortProgram {s : State} (hl : programHeats s = true) : Follows s (abortProgram s) := by
  refine .ite (fun hd => ?_) fun _ => (within_stopProgram hl).enterEnding
  have hw := ((within_dry hd).aside (Aside.refl s).endDrying).onSeq fun q =>
    { q with state := .ended, sub := .none, holdPending := false }
  exact ((hw.setOutcome .aborted).follows_rest (by simp [setOutcome]) rfl).aside ((Aside.refl _).raiseNotice _)

/-- RESET UNIT SEQUENCER of a program (R32). -/
theorem follows_resetProgram {s : State} (hf : s.seq.state ≠ .faulted) :
    Follows s (onSeq (fun q => { q with state := .idle, sub := .none, idx := 0, holdPending := false, fault := none })
      (programEnd (setOutcome .aborted (dropDrain (if runningIn s .dry then endDrying s else stopProgram s))))) := by
  have hc : Blocks s (if runningIn s .dry then endDrying s else stopProgram s) ∧ (CourseAgrees s →
      (if runningIn s .dry then endDrying s else stopProgram s).seq.remembered = .none
      ∧ (if runningIn s .dry then endDrying s else stopProgram s).seq.settling.isSome = false
      ∧ (if runningIn s .dry then endDrying s else stopProgram s).seq.extension.isSome = false) := by
    split
    · next hd => exact ⟨(Aside.refl s).endDrying.toBlocks,
        (Aside.refl s).endDrying.clear (not_suspended_of_running hd) (runningIn_drain_of_dry hd)⟩
    · exact ⟨blocks_stopProgram s, fun _ => stopProgram_clear s⟩
  obtain ⟨hb, hc⟩ := hc
  generalize (if runningIn s .dry then endDrying s else stopProgram s) = t at hb hc ⊢
  have ha : Aside t (programEnd (setOutcome .aborted (dropDrain t))) :=
    ((Aside.refl t).dropDrain.onSeq _).raiseNotice _
  refine ((hb.trans ha.toBlocks).onSeq _).follows_off hf (by simp) (fun _ => rfl) fun hA => ?_
  obtain ⟨h1, h2, h3⟩ := hc hA
  exact ⟨ha.remembered.trans h1, ha.settling.trans h2, ha.extension.trans h3⟩

theorem follows_resetSequencer (s : State) : Follows s (resetSequencer s) := by
  unfold resetSequencer
  split
  · next hs => exact follows_resetProgram (by simp [hs])
  · next hs => exact follows_resetProgram (by simp [hs])
  · next hs => exact follows_resetProgram (by simp [hs])
  · next hs => exact follows_resetProgram (by simp [hs])
  · next hs => exact follows_resetProgram (by simp [hs])
  · next hs =>
    have hb := (Blocks.refl s).onSeq fun q => { q with state := .idle, idx := 0 }
    exact (hb.follows_off (by simp [hs]) (by simp) (fun ha => ha.1.mpr (by simp [hs]))
      (clear_of_ne (s := s) (by simp [hs]) (by simp [hs]))).aside (Aside.refl _).dropDrain
  · exact (Aside.refl s).dropDrain.follows
  · exact .refl s

/-! ## The door and the other reports -/

theorem follows_linkLostToSeq (s : State) : Follows s (linkLostToSeq s) := by
  have ha : Aside s (onSeq (fun q => { q with holdPending := false }) s) := (Aside.refl s).onSeq _
  refine .ite (fun hs => ?_) fun _ => ha.follows
  have hs : s.seq.state = .holding := hs
  exact ((Within.of_state (.inr hs)).aside ha).enterNext fun hp => (hp.2 (by simp [programRuns, hs])).2.2.1 hs

/-- The settling time of a SUSPENDED program begins or stops (R24, R25). -/
theorem follows_settling {s : State} (hs : s.seq.state = .suspended) (n : Option Nat) :
    Follows s (onSeq (fun q => { q with settling := n }) s) where
  toBlocks := (Blocks.refl s).onSeq _
  faulted := fun hx => by simp [hs] at hx
  program := fun hp => programKept_of_entering
    (entering_congr rfl rfl rfl (entering_of_programKept hp.2 (by simp [programRuns, hs]))) (by simp [onSeq, hs])
  agrees := fun _ ⟨h1, h2, h3, _, h5, h6⟩ => ⟨h1, h2, h3, fun _ => hs, h5, h6⟩

/-- A program that runs is SUSPENDED in its phase. -/
theorem Blocks.follows_suspended {s t : State} (h : Blocks s t) (hl : programHeats s = true) (hs : t.seq.state = .suspended)
    (hb : t.seq.sub = .none) (hi : t.seq.idx = s.seq.idx)
    (hc : CourseAgrees s → (currentWash s).isSome = true
      ∧ t.seq.remembered ∉ ([.none, .sub .none, .sub .dry] : List Remembered) ∧ t.seq.extension.isSome = false) :
    Follows s t where
  toBlocks := h
  faulted := fun hf => by simp [programHeats, hf] at hl
  program := fun hp => programKept_of_entering (entering_congr h.table h.count hi (entering_of_programKept hp.2 (by
    cases hx : s.seq.state <;> simp_all [programRuns, programHeats]))) (by simp [hs])
  agrees := fun _ ha => by
    obtain ⟨h1, h2, h3⟩ := hc ha
    exact courseAgrees_suspended hs hb (by rw [currentWash_congr h.table hi]; exact h1) h2 h3

/-- What SUSPENDED leaves of the sequencer, the sub-stage's requests stopped but for those of DOSE and DRAIN (R24). -/
def suspendedOnly (s : State) : State :=
  stopCirculation (withdrawHeat (withdrawFill (onSeq (fun q => { q with
    state := .suspended, sub := .none, remembered := .sub q.sub, settling := none }) s)))

theorem suspend_eq (s : State) : suspend s = match s.seq.sub with
    | .dose => pauseDosing (suspendedOnly s)
    | .drain => dropDrain (onSeq (fun q => { q with extension := none }) (suspendedOnly s))
    | .none | .fill | .heat | .circulate | .dry => suspendedOnly s := rfl

/-- SUSPENDED from a sub-stage of a running wash phase (R24). -/
theorem follows_suspend {s : State} (hr : s.seq.state = .running) (hd : s.seq.sub ≠ .dry) : Follows s (suspend s) := by
  have hl : programHeats s = true := by simp [programHeats, hr]
  have ha : Aside (onSeq (fun q => { q with
      state := .suspended, sub := .none, remembered := .sub q.sub, settling := none }) s) (suspendedOnly s) :=
    (Aside.refl _).withdrawFill.withdrawHeat.stopCirculation
  have hb : Blocks s (suspendedOnly s) := ((Blocks.refl s).onSeq _).trans ha.toBlocks
  have hc : CourseAgrees s → (currentWash s).isSome = true
      ∧ (suspendedOnly s).seq.remembered ∉ ([.none, .sub .none, .sub .dry] : List Remembered) := by
    intro ⟨h1, h2, _⟩
    refine ⟨Option.isSome_iff_ne_none.mpr fun hn => hd ((h2 hr).mpr hn), ?_⟩
    rw [ha.remembered]
    simp [onSeq, hd, show s.seq.sub ≠ .none from fun hn => h1.mp hn hr]
  have hf : s.seq.sub ≠ .drain → Follows s (suspendedOnly s) := fun hn =>
    hb.follows_suspended hl ha.state ha.sub ha.idx fun hA => ⟨(hc hA).1, (hc hA).2, by
      obtain ⟨-, -, h3, -⟩ := hA
      rw [ha.extension]
      simpa [runningIn, hn] using h3⟩
  rw [suspend_eq]
  split
  · next hs => exact (hf (by simp [hs])).aside (Aside.refl _).pauseDosing
  · have hx := (hb.onSeq fun q => { q with extension := none }).follows_suspended hl ha.state ha.sub ha.idx fun hA =>
      ⟨(hc hA).1, (hc hA).2, rfl⟩
    exact hx.aside (Aside.refl _).dropDrain
  all_goals next hs => exact hf (by simp [hs])

theorem follows_doorOpenedToSeq (s : State) : Follows s (doorOpenedToSeq s) := by
  unfold doorOpenedToSeq
  split
  · next hs => exact .ite (fun _ => .refl s) fun hd => follows_suspend hs hd
  · next hs =>
    refine ((Blocks.refl s).onSeq _).follows_suspended (by simp [programHeats, hs]) rfl rfl rfl
      fun ⟨_, _, h3, _, _, h6⟩ => ⟨h6 (.inr hs), by simp, ?_⟩
    simpa [runningIn, hs] using h3
  · next hs => exact follows_settling hs none
  all_goals exact .refl s

theorem follows_doorClosedToSeq (s : State) : Follows s (doorClosedToSeq s) :=
  .ite (fun hs => follows_settling hs (some 0)) fun _ => .refl s

/-- The sequencer resumes the program it has suspended (R25). -/
theorem follows_resumeProgram {s : State} (hs : s.seq.state = .suspended) : Follows s (resumeProgram s) := by
  have hl : programHeats s = true := by simp [programHeats, hs]
  have hw : Within s (onSeq (fun q => { q with settling := none, remembered := .none }) s) :=
    ⟨(Blocks.refl s).onSeq _, hl, rfl, fun _ ⟨_, _, h3, _⟩ => ⟨rfl, rfl, by simpa [runningIn, hs, onSeq] using h3⟩⟩
  have hcur : currentWash (onSeq (fun q => { q with settling := none, remembered := .none }) s) = currentWash s := hw.wash
  -- what cannot be resumed is not remembered
  have hno : (CourseAgrees s → False) →
      Follows s (onSeq (fun q => { q with settling := none, remembered := .none }) s) := fun hn =>
    ⟨hw.toBlocks, fun hx => by simp [hs] at hx,
      fun hp => programKept_of_entering (hw.entering hp) (by simp [onSeq, hs]), fun _ hA => absurd hA hn⟩
  unfold resumeProgram
  dsimp only
  rw [hcur]
  split
  · exact (hw.seqTo _ _).follows_waitWater (fun ⟨_, _, _, _, _, h6⟩ => h6 (.inl hs)) rfl rfl
  · next sub w hrem hcw =>
    have hws : (currentWash s).isSome = true := Option.isSome_of_mem hcw
    by_cases hsub : sub ∈ ([.none, .dry] : List SubStage)
    · have he : resumeSub sub w (onSeq (fun q => { q with settling := none, remembered := .none }) s)
          = onSeq (fun q => { q with settling := none, remembered := .none }) s := by
        simp only [List.mem_cons, List.not_mem_nil, or_false] at hsub
        rcases hsub with rfl | rfl <;> rfl
      rw [he]
      refine hno fun ⟨_, _, _, _, h5, _⟩ => h5 hs ?_
      simp only [List.mem_cons, List.not_mem_nil, or_false] at hsub
      rcases hsub with rfl | rfl <;> simp [hrem]
    · exact hw.resumeSub hws w hsub
  · next hn1 hn2 =>
    refine hno fun ⟨_, _, _, _, h5, h6⟩ => ?_
    obtain ⟨w, hcw⟩ := Option.isSome_iff_exists.mp (h6 (.inl hs))
    cases hrem : s.seq.remembered with
    | none => exact h5 hs (by simp [hrem])
    | waitWater => exact hn1 hrem
    | sub b => exact hn2 b w hrem hcw

theorem within_drain {s : State} (hr : runningIn s .drain = true) :
    Within s (onSeq (fun q => { q with extension := none }) s) where
  toBlocks := (Blocks.refl s).onSeq _
  live := by rw [programHeats_iff]; exact .inl ((runningIn_iff _ _).mp hr).1
  idx := rfl
  clear := fun _ ⟨_, _, _, h4, _⟩ => by
    have hs := not_suspended_of_running hr
    simp [hs] at h4
    exact ⟨h4.2, by simp [onSeq, h4.1], rfl⟩

theorem follows_endDrain {s : State} (hr : runningIn s .drain = true) : Follows s (endDrain s) :=
  ((within_drain hr).aside (Aside.refl _).dropDrain).endPhase

theorem follows_drainNaturalEnd {s : State} (hr : runningIn s .drain = true) : Follows s (drainNaturalEnd s) := by
  refine .ite (fun _ => ?_) fun _ => follows_endDrain hr
  obtain ⟨h1, h2⟩ := (runningIn_iff _ _).mp hr
  refine ⟨(Blocks.refl s).onSeq _, fun hx => by simp [h1] at hx, fun hp => programKept_of_entering
    (entering_congr rfl rfl rfl (entering_of_programKept hp.2 (by simp [programRuns, h1]))) (by simp [onSeq, h1]),
    fun _ ⟨a1, a2, _, a4, a5, a6⟩ => ⟨a1, a2, fun _ => hr, a4, a5, a6⟩⟩

theorem follows_fillLimitReached {s : State} (hr : runningIn s .fill = true) (hw : (currentWash s).isSome = true) :
    Follows s (fillLimitReached s) := by
  have ha : Aside s (onSeq (fun q => { q with fillTimeouts := q.fillTimeouts + 1 }) s) := (Aside.refl s).onSeq _
  refine .ite (fun _ => ?_) fun _ => (ha.follows.aside ((Aside.refl _).raiseFault _ _ _)).trans (follows_programFault _ _)
  exact ((((Within.of_running hr (by simp)).aside ha).onSeq _).follows_waitWater (fun _ => hw) rfl rfl).aside
    ((Aside.refl _).raiseNotice _)

theorem follows_fillEnded (k : FillKind) (r : FillEnd) (s : State) : Follows s (fillEnded k r s) := by
  unfold fillEnded
  split
  · next w hw =>
    have hw : (currentWash s).isSome = true := Option.isSome_of_mem hw
    refine .ite (fun hr => ?_) fun _ => .refl s
    split
    · exact ((Within.of_running hr (by simp)).aside (Aside.refl s).closeFill).enterDose hw w
    · exact ((Within.of_running hr (by simp)).aside (Aside.refl s).closeFill).enterDose hw w
    · exact follows_fillLimitReached hr hw
    · exact .refl s
    · exact .refl s
  · exact .refl s

theorem follows_drainEnded (s : State) : Follows s (drainEnded s) := by
  refine .ite (fun hr => follows_drainNaturalEnd hr) fun _ => .ite (fun hs => ?_) fun _ => (Aside.refl s).dropDrain.follows
  have hc := clear_of_ne (s := s) (by simp [hs]) (by simp [hs])
  have hb : ∀ st : SeqState, Blocks s (seqTo st .none (dropDrain s)) := fun _ => (Aside.refl s).dropDrain.toBlocks.onSeq _
  refine .ite (fun _ => ?_) fun _ => ?_
  · exact ((hb .faulted).follows_off (by simp [hs]) (by simp [seqTo]) (fun _ => rfl) hc).aside ((Aside.refl _).raiseNotice _)
  · exact ((hb .ended).follows_off (by simp [hs]) (by simp [seqTo]) (fun _ => rfl) hc).aside
      (((Aside.refl _).onSeq _).raiseNotice _)

theorem follows_doseEnded (n : Nat) (s : State) : Follows s (doseEnded n s) := by
  have ha : Aside s (onSeq (fun q => { q with placed := q.placed.erase n }) s) := (Aside.refl s).onSeq _
  simp only [doseEnded]
  split
  · next w hw =>
    refine .ite (fun hr => ?_) fun _ => ha.follows
    have hr : runningIn s .dose = true := by rw [← ha.runningIn]; exact (Bool.and_eq_true_iff.mp hr).1
    exact ((Within.of_running hr (by simp)).aside ha).enterHeat (Option.isSome_of_mem hw) w
  · exact ha.follows

theorem follows_heatEnded (s : State) : Follows s (heatEnded s) := by
  unfold heatEnded
  split
  · next w hw =>
    exact .ite (fun hr => (Within.of_running hr (by simp)).enterCirculate (Option.isSome_of_mem hw) w) fun _ => .refl s
  · exact .refl s

theorem follows_sensorFailedToSeq (s : State) : Follows s (sensorFailedToSeq s) := by
  have ha : Aside s (onSeq (fun q => { q with heaterOff := true }) s) := (Aside.refl s).onSeq _
  simp only [sensorFailedToSeq]
  split
  · next w hw =>
    refine .ite (fun hr => ?_) fun _ => ha.follows
    have hr : runningIn s .heat = true := by rw [← ha.runningIn]; exact hr
    exact ((Within.of_running hr (by simp)).aside ha.withdrawHeat).enterCirculate (Option.isSome_of_mem hw) w
  · exact ha.follows

theorem Aside.pressureLowToSeq {s t : State} (h : Aside s t) : Aside s (pressureLowToSeq t) :=
  .ite (fun _ => (h.onSeq _).placeFill _ _) fun _ => h

theorem follows_dryingDone (s : State) : Follows s (dryingDone s) :=
  .ite (fun hr => (within_dry hr).endPhase) fun _ => .refl s

theorem follows_engineLeft (s : State) : Follows s (engineLeft s) :=
  .ite (fun hr => follows_endDrain (Bool.and_eq_true_iff.mp hr).1) fun _ => .refl s

theorem follows_takeReport (r : Report) (s : State) : Follows s (takeReport r s) := by
  cases r with
  | fillEnded k e n => exact follows_fillEnded k e s
  | fillRefused => exact .ite (fun _ => follows_programFault _ s) fun _ => .refl s
  | drainEnded => exact follows_drainEnded s
  | programFault c => exact follows_programFault c s
  | targetReached => exact follows_heatEnded s
  | heatLimitExpired => exact follows_heatEnded s
  | heatDisabled => exact follows_heatEnded s
  | sensorFailed => exact follows_sensorFailedToSeq s
  | doseEnded n => exact follows_doseEnded n s
  | pressureLow => exact (Aside.refl s).pressureLowToSeq.follows
  | doorOpened => exact follows_doorOpenedToSeq s
  | doorClosed => exact follows_doorClosedToSeq s
  | dryingDone o => exact follows_dryingDone s
  | engineLeft => exact follows_engineLeft s
  | linkLost => exact follows_linkLostToSeq s

/-! ## Settling -/

theorem follows_takeReports (n : Nat) (s : State) : Follows s (takeReports n s) := by
  induction n generalizing s with
  | zero => exact ((Aside.refl s).onReports _).follows
  | succ n ih =>
    unfold takeReports
    split
    · exact .refl s
    · exact ((((Aside.refl s).onReports _).follows.trans (follows_takeReport _ _)).aside
        (Aside.refl _).waterSettle).trans (ih _)

theorem homings_of_ended {s : State} (h : homingsEnded s = true) : s.part.homings = {} := by
  simp only [homingsEnded, Bool.and_eq_true, Bool.not_eq_true'] at h
  cases hx : s.part.homings
  simp_all

namespace Aside

variable {s t : State}

theorem restartSilence (h : Aside s t) : Aside s (restartSilence t) := h.onLnk _

theorem reachReady (h : Aside s t) : Aside s (reachReady t) := by
  refine .ite (fun hc => ?_) fun _ => h
  have he : t.part.homings = {} := homings_of_ended (Bool.and_eq_true_iff.mp hc).2
  exact ((h.onPart _ rfl fun _ _ => he).raiseNotice _).restartSilence

theorem enterShut (h : Aside s t) (hs : t.part.state = .shuttingDown) : Aside s (enterShut t) := by
  have hst : (Machine.stopCirculation t).part = t.part := by unfold Machine.stopCirculation; split <;> rfl
  unfold Machine.enterShut
  exact ((((h.stopCirculation.onPart _ rfl fun hh _ => hh (by simp [hst, hs])).onLnk _).onWpc _).onHtc _ |>.onSfu _).raiseNotice _

theorem advanceShutdown (h : Aside s t) : Aside s (advanceShutdown t) := by
  refine .ite (fun hs => ?_) fun _ => h
  have hs : t.part.state = .shuttingDown := by simpa using hs
  by_cases hc : (!t.part.writesAsked && shutdownWorkDone t) = true
  · simp only [hc, if_true]
    have h := (h.onPart fun p => { p with writesAsked := true }).askAllWrites
    exact .ite (fun _ => h.enterShut hs) fun _ => h
  · simp only [hc]
    exact .ite (fun _ => h.enterShut hs) fun _ => h

theorem outputs (h : Aside s t) : Aside s (outputs t) := h.refreshPump.refreshHeater.refreshArms

end Aside

theorem follows_settle (s : State) : Follows s (settle s) :=
  ((Aside.refl s).waterSettle.follows.trans (follows_takeReports _ _)).aside
    (Aside.refl _).reachReady.advanceShutdown.refreshPump.revokeUnlessFlows.refreshHeater.refreshArms

theorem follows_conclude (s : State) : Follows s (conclude s) := (follows_settle s).aside (Aside.refl _).finish

end Sys2Proof.Proofs
end

section
/-! PROOFS. The entries of the part, its fresh reads, the requests that write no settings, the receiver and the events. -/

/- One theorem at a time, as the tests have it: proofs that wait for the kernel cost a thread each. -/
set_option Elab.async false

namespace Sys2Proof.Proofs

open Sys2Proof.Machine
open Sys2Proof.Safety

/-! ## The link, the fresh reads and the entries -/

namespace Aside

variable {s t : State}

theorem loseLink (h : Aside s t) (c : LostCause) : Aside s (loseLink c t) := by
  unfold Machine.loseLink
  exact ((h.onLnk _).raiseFault _ _ _).report _

theorem followErrors (h : Aside s t) : Aside s (followErrors t) :=
  .ite (fun _ => .ite (fun _ => h.loseLink _) fun _ => h.onLnk _) fun _ => h

theorem readWater (h : Aside s t) (p : Pins) : Aside s (readWater p t) :=
  ((h.sumpEmptyChanged _).heaterCoverChanged _).highLevelChanged _

theorem readSalt (h : Aside s t) (p : Pins) : Aside s (readSalt p t) := (h.lidChanged _).saltLowChanged _

theorem readLowSwitches (h : Aside s t) (p : Pins) : Aside s (readLowSwitches p t) :=
  ((h.readLowSwitch _ _).readLowSwitch _ _).readLowSwitch _ _

theorem readCapSwitches (h : Aside s t) (p : Pins) : Aside s (readCapSwitches p t) :=
  ((h.readCapSwitch _ _).readCapSwitch _ _).readCapSwitch _ _

theorem readBooster (h : Aside s t) (p : Pins) : Aside s (readBooster p t) :=
  h.setReservoir .d3 { t.dsu.r3 with fitted := p.booster } id

theorem readActuator (h : Aside s t) (p : Pins) : Aside s (readActuator p t) := h.onDdu _

theorem readPressure (h : Aside s t) (p : Pins) : Aside s (readPressure p t) :=
  h.onCzs _ fun _ => rfl

theorem enterStarting (h : Aside s t) : Aside s (enterStarting t) := by
  simp only [Machine.enterStarting]
  have h := (((((((h.onPart (fun x => { x with
    state := .starting
    shutdown := .none
    startedFrom := x.state
    homings := ⟨true, true, true, t.pins.actuator⟩
    homingFaults := [] }) rfl fun _ hn => absurd rfl hn).restartSilence.readBooster t.pins).readLowSwitches
      t.pins).readCapSwitches t.pins).readActuator t.pins).doorChanged t.pins.doorOpen).readPressure t.pins).readWater
      t.pins |>.readSalt t.pins |>.firstReading t.pins.sensor |>.homeValve.homeDiverter.homeSelector
  exact .ite (fun _ => h.driveInward) fun _ => h

theorem enterStandby (h : Aside s t) (hs : t.part.state ≠ .starting) : Aside s (enterStandby t) :=
  ((h.onPart _ rfl fun hh _ => hh hs).onLnk _).onHtc _

theorem wake (h : Aside s t) (w : WakeSource) (hs : t.part.state ≠ .starting) : Aside s (wake w t) := by
  simp only [Machine.wake]
  exact ((((((h.onPart _ rfl fun hh _ => hh hs).raiseNotice _).restartSilence.readLowSwitches _).readPressure
    _).readWater _).saltLowChanged _).firstReading _

theorem wakeIf (h : Aside s t) (w : WakeSource) : Aside s (wakeIf w t) :=
  .ite (fun hs => h.wake w (by simp [beq_iff_eq.mp hs])) fun _ => h

end Aside

/-! ## Requests that write no settings -/

theorem Aside.recoverNotice {s t : State} (h : Aside s t) : Aside s (recoverNotice t) :=
  .ite (fun _ => h.raiseNotice _) fun _ => h

theorem Aside.enableLink {s t : State} (h : Aside s t) : Aside s (enableLink t) :=
  (h.recoverNotice.onLnk _).restartSilence

theorem Aside.resetLink {s t : State} (h : Aside s t) : Aside s (resetLink t) := (h.onLnk _).restartSilence

theorem Aside.shutdownEngine {s t : State} (h : Aside s t) : Aside s (shutdownEngine t) := by
  unfold Machine.shutdownEngine
  split
  all_goals first | exact h.abandonRegen | exact h

theorem Aside.abruptWater {s t : State} (h : Aside s t) : Aside s (abruptWater t) := by
  unfold Machine.abruptWater
  exact h.withdrawFill.withdrawRegen.onWpc _

theorem follows_serveLinkEnable (s : State) : Follows s (serveLinkEnable s).state := by
  have he := (Aside.refl s).enableLink
  simp only [serveLinkEnable]
  split
  · exact he.enterStarting.follows.trans (follows_settle _)
  · exact he.follows

theorem follows_shutdownSequencer (s : State) : Follows s (shutdownSequencer s) := by
  unfold shutdownSequencer
  split
  · next hs => exact follows_abortProgram (by simp [programHeats, hs])
  · next hs => exact follows_abortProgram (by simp [programHeats, hs])
  · next hs => exact follows_abortProgram (by simp [programHeats, hs])
  · next hs => exact follows_abortProgram (by simp [programHeats, hs])
  all_goals exact .refl s

theorem follows_shutdownNormal {s : State} (hs : s.part.state ≠ .starting) : Follows s (shutdownNormal s) :=
  ((((Aside.refl s).onPart _ rfl fun hh _ => hh hs).cancelAllDoses.follows.trans (follows_shutdownSequencer _)).aside
    (Aside.refl _).shutdownEngine.shutdownDoor)

theorem follows_shutdownAbrupt {s : State} (hs : s.part.state ≠ .starting) : Follows s (shutdownAbrupt s) :=
  ((Aside.refl s).onPart _ rfl fun hh _ => hh hs).abruptWater.abandonRegen.resetDosing.abruptHeating.abruptCirculation.abruptDoor.follows.trans
    (follows_resetSequencer _)

theorem follows_serveShutdown (m : Byte) {s : State} (hs : s.part.state ≠ .starting) :
    Follows s (serveShutdown m s).state := by
  unfold serveShutdown
  split
  · split
    · exact .refl s
    · exact (follows_shutdownNormal hs).trans (follows_settle _)
  · exact (follows_shutdownAbrupt hs).trans (follows_settle _)
  · exact .refl s

theorem follows_serveResetUnit (u : Byte) (s : State) : Follows s (serveResetUnit u s).state := by
  unfold serveResetUnit
  split
  · exact .refl s
  · exact (follows_resetSequencer s).trans (follows_settle _)
  · exact (Aside.refl s).abandonRegen.homeValve.follows.trans (follows_settle _)
  · exact (Aside.refl s).resetDosing.follows.trans (follows_settle _)
  · exact (Aside.refl s).resetDoor.follows.trans (follows_settle _)
  · exact (Aside.refl s).resetLink.follows

theorem follows_serveStandby {s : State} (hs : s.part.state ≠ .starting) : Follows s (serveStandby s).state := by
  unfold serveStandby
  split
  · exact ((Aside.refl s).enterStandby hs).follows
  · exact .refl s

/-- A slot that offends a program with every channel fitted offends it without (R5). -/
theorem slotBad_of_fitted {b : Bool} {q : Seq} {n i : Nat} (h : slotBad b q n i = false) : slotBad true q n i = false := by
  unfold slotBad at h ⊢
  split
  · next hp => simp [hp] at h
  · next hp => simpa [hp] using h
  · next p hn hp =>
    cases p with
    | dry d o => exact (hn d o rfl).elim
    | wash k w => rfl

theorem firstBadSlot_eq_none {b : Bool} {q : Seq} {lo n i : Nat} (h : firstBadSlot b q lo n = none) (hi : i < 12)
    (hl : lo ≤ i) (hn : i < n) : slotBad b q n i = false := by
  have := List.find?_eq_none.mp h i (List.mem_range.mpr hi)
  simpa [hl, hn] using this

/-- A program that START PROGRAM takes has its phase 0, and every later phase is sound (R5). -/
theorem entering_of_startOffends {s t : State} (h : startOffends s.dsu.r3.fitted s.seq = none) (h12 : s.seq.count ≤ 12)
    (ht : t.seq.table = s.seq.table) (hc : t.seq.count = s.seq.count) (hi : t.seq.idx = 0) : Entering t := by
  unfold startOffends at h
  split at h
  · simp at h
  · next h0 =>
    have hs : ∀ i < s.seq.count, slotBad s.dsu.r3.fitted s.seq s.seq.count i = false := fun i hn =>
      firstBadSlot_eq_none h (by omega) (by omega) hn
    refine ⟨?_, by omega, fun i _ hn => ?_⟩
    · have hb := hs 0 (by omega)
      cases hp : phaseAt s.seq 0 with
      | none => simp [slotBad, hp] at hb
      | some p => simp [currentPhase, hi, phaseAt_congr ht, hp]
    · rw [hc] at hn ⊢
      rw [slotBad_congr ht]
      exact slotBad_of_fitted (hs i hn)

theorem follows_startProgram {s : State} (hs : s.seq.state = .idle ∨ s.seq.state = .ended)
    (ho : startOffends s.dsu.r3.fitted s.seq = none) : Follows s (startProgram s) := by
  have hb := (Blocks.refl s).onSeq fun q => { q with
    summary := {}, holdPending := false, soil := s.cfg.defaultSoil, idx := 0, fault := none }
  have ha := (Aside.refl (onSeq (fun q => { q with
    summary := {}, holdPending := false, soil := s.cfg.defaultSoil, idx := 0, fault := none }) s)).heatingProgramStart
  exact follows_enterPhase (hb.trans ha.toBlocks) (by rcases hs with hs | hs <;> simp [hs]) fun hp =>
    entering_of_startOffends ho hp.1 ha.table ha.count ha.idx

theorem follows_serveStart (s : State) : Follows s (serveStart s).state := by
  unfold serveStart
  split
  · next hs =>
    split
    · exact .refl s
    · next ho => exact (follows_startProgram hs ho).trans (follows_settle _)
  · exact .refl s

theorem follows_setHold (b : Bool) (s : State) : Follows s (onSeq (fun q => { q with holdPending := b }) s) :=
  ((Aside.refl s).onSeq _).follows

theorem follows_serveHold (s : State) : Follows s (serveHold s).state := by
  unfold serveHold
  split
  case h_1 | h_2 | h_3 => exact follows_setHold _ s
  all_goals exact .refl s

theorem follows_serveContinue (s : State) : Follows s (serveContinue s).state := by
  unfold serveContinue
  split
  · next hs =>
    exact ((Within.of_state (.inr hs)).enterNext fun hp => (hp.2 (by simp [programRuns, hs])).2.2.1 hs).trans
      (follows_settle _)
  case h_5 | h_6 | h_7 | h_8 => exact .refl s
  all_goals
    split
    · exact follows_setHold _ s
    · exact .refl s

theorem follows_serveAbort (s : State) : Follows s (serveAbort s).state := by
  unfold serveAbort
  split
  · next he => exact (follows_abortProgram (editing_eq_programHeats s ▸ he)).trans (follows_settle _)
  · exact .refl s

theorem follows_acted {s t : State} (h : Aside s t) (st : Status) (b : ReplyBody) : Follows s (acted st b t).state :=
  h.follows.trans (follows_settle t)

theorem follows_serveRegenerate (c : Byte) (s : State) : Follows s (serveRegenerate c s).state := by
  unfold serveRegenerate
  split
  · exact .refl s
  · split
    · exact follows_acted ((Aside.refl s).toRegenQueue _) _ _
    · split
      · exact .refl s
      · exact follows_acted ((Aside.refl s).switchService _) _ _
    all_goals exact .refl s

theorem follows_serveRetire (c : Byte) (s : State) : Follows s (serveRetire c s).state := by
  unfold serveRetire
  split
  · exact .refl s
  · split
    · exact follows_acted ((Aside.refl s).switchService _) _ _
    · exact follows_acted ((Aside.refl s).toRetiredSet _) _ _
    · exact follows_acted ((Aside.refl s).toRetiredSet _) _ _
    · exact follows_acted ((Aside.refl s).toRetiredSet _) _ _
    · exact follows_acted ((Aside.refl s).dropRegen _) _ _
    · exact .refl s

theorem follows_serveRestore (c : Byte) (s : State) : Follows s (serveRestore c s).state := by
  unfold serveRestore
  split
  · exact .refl s
  · split
    · exact follows_acted ((Aside.refl s).toRegenQueue _) _ _
    · exact follows_acted ((Aside.refl s).toRegenQueue _) _ _
    all_goals exact .refl s

theorem follows_serveSetLevel (c : Byte) (l : Half) (s : State) : Follows s (serveSetLevel c l s).state := by
  unfold serveSetLevel
  split
  · exact .refl s
  · next ch _ =>
    split
    · exact (((Aside.refl s).setLevel ch _ fun _ => min_le_left _ _).askWrite _).follows
    · exact .refl s

theorem ite_state {c : Prop} [Decidable c] {a b : Served} {s : State} (ha : c → Follows s a.state)
    (hb : ¬ c → Follows s b.state) : Follows s (if c then a else b).state := by
  split
  · exact ha ‹_›
  · exact hb ‹_›

theorem follows_servePrime (c n : Byte) (s : State) : Follows s (servePrime c n s).state := by
  unfold servePrime
  split
  · exact .refl s
  · next ch _ =>
    refine ite_state (fun _ => .refl s) fun _ => ite_state (fun _ => .refl s) fun _ => ite_state (fun _ => .refl s)
      fun _ => ite_state (fun _ => .refl s) fun hq => ?_
    exact ((Aside.refl s).joinQueue ch .hostPrime 0 n.toNat (by simpa using hq)).follows

/-- The requests that write settings (R2 to R4, R184, R189), and ACKNOWLEDGE FAULT, which leads out of FAULTED (R28). -/
def writes : Request → Bool
  | .setConfig .. | .setNoticeMask .. | .loadPhase .. | .setPhaseCount .. | .clearProgram => true
  | _ => false

theorem follows_serveOwner {r : Request} {s : State} (hw : writes r = false) (ha : r ≠ .acknowledgeFault)
    (hs : s.part.state ≠ .starting ∨ r ≠ .standby ∧ ∀ m, r ≠ .shutdown m) : Follows s (serveOwner r s).state := by
  unfold serveOwner
  cases r with
  | identify => exact .refl s
  | linkEnable => exact follows_serveLinkEnable s
  | getStatus => exact .refl s
  | setConfig i v => exact Bool.noConfusion hw
  | getConfig i => simp only [serveGetConfig]; split <;> exact .refl s
  | setNoticeMask m => exact Bool.noConfusion hw
  | standby => exact follows_serveStandby (hs.resolve_right fun h => h.1 rfl)
  | shutdown m => exact follows_serveShutdown m (hs.resolve_right fun h => h.2 m rfl)
  | resetUnit u => exact follows_serveResetUnit u s
  | readFaultHistory => exact .refl s
  | acknowledgeFault => exact absurd rfl ha
  | loadPhase i p => exact Bool.noConfusion hw
  | readPhase i => simp only [serveReadPhase]; split <;> exact .refl s
  | setPhaseCount n => exact Bool.noConfusion hw
  | clearProgram => exact Bool.noConfusion hw
  | startProgram => exact follows_serveStart s
  | hold => exact follows_serveHold s
  | continueProgram => exact follows_serveContinue s
  | abortProgram => exact follows_serveAbort s
  | readColumn c => simp only [serveReadColumn]; split <;> exact .refl s
  | regenerate c => exact follows_serveRegenerate c s
  | retireColumn c => exact follows_serveRetire c s
  | restoreColumn c => exact follows_serveRestore c s
  | readReservoir c => simp only [serveReadReservoir]; split <;> exact .refl s
  | setReservoirLevel c l => exact follows_serveSetLevel c l s
  | primeChannel c n => exact follows_servePrime c n s

end Sys2Proof.Proofs
end

section
/-! PROOFS. The receiver and the events: what they keep, for every relation that what the blocks and the sequencer do belongs
to. -/

/- One theorem at a time, as the tests have it: proofs that wait for the kernel cost a thread each. -/
set_option Elab.async false

namespace Sys2Proof.Proofs

open Sys2Proof.Machine
open Sys2Proof.Safety

/-! ## The receiver -/

/-- A relation of a state and a later one to which all belongs that leaves the settings and keeps what a program needs. -/
structure Closed (R : State → State → Prop) : Prop where
  trans : ∀ {s t u}, R s t → R t u → R s u
  of_follows : ∀ {s t}, Follows s t → R s t

theorem closed_follows : Closed Follows := ⟨Follows.trans, id⟩

theorem closed_blocks : Closed Blocks := ⟨Blocks.trans, Follows.toBlocks⟩

theorem follows_settleReports (s : State) : Follows s (settleReports s) := .ite (fun _ => .refl s) fun _ => follows_settle s

theorem follows_countGood (s : State) : Follows s (countGood s) :=
  ((Aside.refl s).onLnk _).followErrors.follows.trans (follows_settleReports _)

theorem follows_countBad (s : State) : Follows s (countBad s) :=
  ((Aside.refl s).onLnk _).followErrors.follows.trans (follows_settleReports _)

theorem Aside.hunt {s t : State} (h : Aside s t) : Aside s (hunt t) := h.onLnk _

theorem Aside.frameEnds {s t : State} (h : Aside s t) : Aside s (frameEnds t) := h.hunt.onTies _

theorem follows_badFrame (s : State) : Follows s (badFrame s) :=
  (Aside.refl s).hunt.follows.trans (follows_countBad _)

theorem follows_breakFrame (s : State) : Follows s (breakFrame s) :=
  .ite (fun _ => follows_badFrame s) fun _ => .refl s

theorem follows_refuseBusy (k tag : Byte) (s : State) : Follows s (refuseBusy k tag s) := by
  unfold refuseBusy
  split
  · exact (((Aside.refl s).onLnk _).follows.trans (follows_countGood _)).aside (Aside.refl _).restartSilence
  · exact (follows_countBad s).aside (Aside.refl _).restartSilence

theorem follows_woken (s : State) : Follows s (if s.part.state = .standby then settle (wake .link s) else s) :=
  .ite (fun hs => ((Aside.refl s).wake _ (by simp [hs])).follows.trans (follows_settle _)) fun _ => .refl s

theorem follows_markerByte (s : State) : Follows s (markerByte s) := by
  unfold markerByte
  exact (follows_woken s).aside ((Aside.refl _).onLnk _)

theorem follows_transmitEnds (s : State) : Follows s (transmitEnds s) := by
  unfold transmitEnds
  split
  · exact .refl s
  all_goals exact ((Aside.refl s).onLnk _).follows

theorem follows_silenceExpires (s : State) : Follows s (silenceExpires s) := by
  unfold silenceExpires
  split
  · exact .ite (fun _ => ((Aside.refl s).loseLink _).follows.trans (follows_settleReports _)) fun _ => .refl s
  · exact .refl s

/-- The answer awaits the transmit line. -/
theorem aside_takeRequest (k tag : Byte) (p : Parsed) (s : State) :
    Aside (examine p s).state (takeRequest k tag p s) :=
  (Aside.refl _).onLnk fun l => { l with awaiting := some ⟨k, tag, (examine p s).answer⟩ }

namespace Closed

variable {R : State → State → Prop} (hR : Closed R)
include hR

theorem refl (s : State) : R s s := hR.of_follows (.refl s)

theorem aside {s t u : State} (h : R s t) (k : Aside t u) : R s u := hR.trans h (hR.of_follows k.follows)

/-- What a good frame does beside the owner's answer keeps the relation (R177, R178). -/
theorem goodFrame {p : Parsed} (hp : ∀ u, R u (examine p u).state) (k tag : Byte) (s : State) :
    R s (goodFrame k tag p s) := by
  have hf : R s (Machine.frameEnds s) := hR.of_follows (Aside.refl s).frameEnds.follows
  have hc := hR.trans hf (hR.of_follows (follows_countGood _))
  simp only [Machine.goodFrame]
  split
  · exact hR.aside hc (Aside.refl _).restartSilence
  · split
    · exact hR.trans hf (hR.of_follows (follows_refuseBusy _ _ _))
    · exact hR.aside (hR.aside (hR.trans hc (hp _)) (aside_takeRequest _ _ _ _)) (Aside.refl _).restartSilence

theorem receiveRequest {r : Request} (hp : ∀ u, R u (serveRequest r u).state) (tag : Byte) (s : State) :
    R s (receiveRequest tag r s) :=
  hR.trans (hR.of_follows (follows_woken s)) (hR.goodFrame (p := .request r) hp _ _ _)

theorem receiveByte (hp : ∀ p u, R u (examine p u).state) (b : Byte) (s : State) : R s (receiveByte b s) := by
  simp only [Machine.receiveByte]
  split
  · split
    · exact hR.of_follows ((Aside.refl s).onLnk _).follows
    · exact hR.of_follows (follows_badFrame s)
    · exact hR.goodFrame (hp _) _ _ _
  · split
    · exact hR.of_follows (follows_markerByte s)
    · exact hR.refl s

theorem receiveBytes (hp : ∀ p u, R u (examine p u).state) (l : List Byte) (s : State) : R s (receiveBytes l s) := by
  induction l generalizing s with
  | nil => exact hR.refl s
  | cons b l ih => exact hR.trans (hR.receiveByte hp b s) (ih _)

/-- Steps 3 to 5 of R178 keep what the owner's answer keeps where the part state admits the request. -/
theorem serveRequest {r : Request} (ho : ∀ u, admits u.part.state r = true → R u (serveOwner r u).state) (s : State) :
    R s (serveRequest r s).state := by
  unfold Machine.serveRequest
  split
  · exact hR.refl s
  · split
    · exact hR.refl s
    · next ha => exact ho s (by simpa using ha)

/-- The request of a row keeps what its owner keeps. -/
theorem hostRequest {r : Request} (ho : ∀ u, admits u.part.state r = true → R u (serveOwner r u).state) {tag : Byte}
    {s t : State} (h : hostRequest tag r s = .next t) : R s t := by
  simp only [Machine.hostRequest, whenPowered, Host.Outcome.next.injEq] at h
  rw [← h]
  split
  · exact hR.aside (hR.receiveRequest (hR.serveRequest ho) tag s) (Aside.refl _).finish
  · exact hR.refl s

end Closed

/-! ## The events -/

/-- The end of the valve's homing leaves none under way where none was. -/
theorem clear_valve {p : Part} {l : List FaultCode} (h : HomingsKept p) :
    HomingsKept { p with homings := { p.homings with valve := false }, homingFaults := l } :=
  fun hs => congrArg (fun x : Homings => { x with valve := false }) (h hs)

namespace Aside

variable {s t : State}

theorem valveConfirmed (h : Aside s t) (m : ValveMove) : Aside s (valveConfirmed m t) := by
  have h := h.onSfu fun f => { f with valvePos := some m.target, valveMove := none }
  exact .ite (fun _ => (((h.onSfu _).onPart _ rfl clear_valve).readyTest)) fun _ => h

theorem valveFailed (h : Aside s t) (m : ValveMove) : Aside s (valveFailed m t) := by
  have h := (h.raiseFault .columnValve (.valve m.target) (.num 0)).onSfu fun f => { f with
    valveFault := true, valvePos := none, valveMove := none, failedValve := some m.target }
  exact .ite (fun _ => h.onPart _ rfl clear_valve) fun _ => h

theorem drainBlocked (h : Aside s t) : Aside s (drainBlocked t) := (h.dropDrain.raiseFault _ _ _).report _

theorem warnPower (h : Aside s t) : Aside s (warnPower t) :=
  ((h.onPart fun p => { p with pfw := true }).onPins fun p => { p with pfw := true }).askAllWrites

theorem tick (a : Ambient) (s : State) : Aside s (tick a s) where
  settings := rfl
  powered := rfl
  homings := id
  levels := id
  doses := id
  meter := fun _ => id
  pressure := id
  course := by simp [courseOf, Machine.tick, tickSeq]

end Aside

/-- A step of a part with power. -/
theorem Follows.whenPowered {f : State → State} {s t : State} (hf : Follows s (f s)) (h : whenPowered f s = .next t) :
    Follows s t := by
  simp only [Machine.whenPowered, Host.Outcome.next.injEq] at h
  rw [← h]
  exact .ite (fun _ => hf) fun _ => .refl s

theorem Aside.conclude {s t : State} (h : Aside s t) : Follows s (conclude t) := h.follows.trans (follows_conclude t)

theorem Follows.conclude {s t : State} (h : Follows s t) : Follows s (conclude t) := h.trans (follows_conclude t)

theorem follows_concludeFill {s t : State} (h : Aside s t) : Follows s (concludeFill s t) :=
  .ite (fun _ => h.conclude.aside ((Aside.refl _).onTies _)) fun _ => h.conclude

theorem follows_concludeSelector (p : Channel) (s : State) : Follows s (concludeSelector p s) :=
  have h := ((Aside.refl s).selectorReported p).conclude
  .ite (fun _ => h.aside ((Aside.refl _).onTies _)) fun _ => h

theorem follows_concludeDiverter (z : Zone) (s : State) : Follows s (concludeDiverter z s) :=
  have h := ((Aside.refl s).diverterReported z).conclude
  .ite (fun _ => h.aside ((Aside.refl _).onTies _)) fun _ => h

theorem follows_waterWaitOver {s : State} (hs : s.seq.state = .waitWater) (w : WashRecord) :
    Follows s (continueFill w (seqTo .running .fill (onSeq (fun q => { q with waterWait := none }) s))) := by
  have hw : Within s (seqTo .running .fill (onSeq (fun q => { q with waterWait := none }) s)) :=
    ((Within.of_state (.inl hs)).onSeq _).seqTo _ _
  exact Follows.aside ⟨hw.toBlocks, fun hx => by simp [hs] at hx,
    fun hp => programKept_of_entering (hw.entering hp) (by simp [seqTo]), fun hp ha => by
      have hc : (currentWash s).isSome = true := ha.2.2.2.2.2 (.inr hs)
      exact (hw.follows_running hc rfl (by simp [seqTo])).agrees hp ha⟩ ((Aside.refl _).continueFill w)

end Sys2Proof.Proofs
end

section
/-! PROOFS. Every command that writes no settings and may not lead out of FAULTED leaves the settings, keeps a FAULTED
sequencer, and keeps a program and its course. -/

/- One theorem at a time, as the tests have it: proofs that wait for the kernel cost a thread each. -/
set_option Elab.async false

namespace Sys2Proof.Proofs

open Sys2Proof.Machine
open Sys2Proof.Safety

/-! ## The requests -/

theorem not_starting_of_admits {part : PartState} {r : Request} (h : admits part r = true) :
    part ≠ .starting ∨ r ≠ .standby ∧ ∀ m, r ≠ .shutdown m := by
  by_cases hp : part = .starting
  · right
    subst hp
    constructor
    · rintro rfl
      exact Bool.noConfusion h
    · rintro m rfl
      exact Bool.noConfusion h
  · exact .inl hp

theorem follows_hostRequest {r : Request} {tag : Byte} {s t : State} (h : hostRequest tag r s = .next t)
    (hw : writes r = false) (ha : r ≠ .acknowledgeFault) : Follows s t :=
  closed_follows.hostRequest (fun _ hu => follows_serveOwner hw ha (not_starting_of_admits hu)) h

/-! ## The events of dosing, heating, circulation and the door -/

section
variable {s t : State}

theorem follows_ite_refl {c : Prop} [Decidable c] {a : State} (h : c → Follows s a) : Follows s (if c then a else s) :=
  .ite h fun _ => .refl s

/-- What an event makes of a change of its input, sensed or not. -/
theorem follows_sensed {c : Prop} [Decidable c] (f : Pins → Pins) {a : State}
    (h : c → Follows (onPins f s) a) : Follows s (if c then a else onPins f s) :=
  have hp : Follows s (onPins f s) := ((Aside.refl s).onPins f).follows
  .ite (fun hc => hp.trans (h hc)) fun _ => hp

theorem follows_gatherWindowExpiry (h : execGatherWindowExpiry s = .next t) : Follows s t :=
  Follows.whenPowered (follows_ite_refl fun _ => (Aside.refl s).windowCloses.conclude) h

theorem follows_selectorPositionReport {p : Channel} (h : execSelectorPositionReport p s = .next t) : Follows s t :=
  Follows.whenPowered (follows_ite_refl fun _ => follows_concludeSelector p s) h

theorem follows_selectorMoveTimeout (h : execSelectorMoveTimeout s = .next t) : Follows s t := by
  refine Follows.whenPowered ?_ h
  split
  · exact .ite (fun _ => .refl s) fun _ => ((Aside.refl s).selectorFailed _).conclude
  · exact .refl s

theorem follows_strokeConfirmationPulse (h : execStrokeConfirmationPulse s = .next t) : Follows s t := by
  refine Follows.whenPowered ?_ h
  split
  · next hb =>
    exact (Aside.ite (fun _ => (Aside.refl s).countConfirmed hb) fun _ => (Aside.refl s).strokeConfirmed hb).conclude
  · exact .refl s

theorem follows_strokeTimeout (h : execStrokeTimeout s = .next t) : Follows s t := by
  refine Follows.whenPowered ?_ h
  split
  · next hb =>
    exact (Aside.ite (fun _ => (Aside.refl s).countMissed hb) fun _ => (Aside.refl s).strokeMissed hb).conclude
  · exact .refl s

theorem follows_lowSwitchChange {ch : Channel} {b : Bool} (h : execLowSwitchChange ch b s = .next t) : Follows s t :=
  Follows.whenPowered (follows_sensed _ fun _ => ((Aside.refl _).lowSwitchChanged _ _).finish.follows) h

theorem follows_capSwitchChange {ch : Channel} {b : Bool} (h : execCapSwitchChange ch b s = .next t) : Follows s t := by
  refine Follows.whenPowered ?_ h
  have hp := (Aside.refl s).onPins fun p => { p with capOpen := perChannelSet p.capOpen ch b }
  refine .ite (fun hs => ?_) fun _ => follows_sensed _ fun _ => ((Aside.refl _).capSwitchChanged _ _).finish.follows
  exact ((hp.wake _ (by rw [hs.1]; decide)).capSwitchChanged _ _).conclude

theorem follows_sumpTemperatureChange {q : Int} (h : execSumpTemperatureChange q s = .next t) : Follows s t :=
  Follows.whenPowered (follows_sensed _ fun _ => ((Aside.refl _).temperatureChanged _).conclude) h

theorem follows_sensorIndication {k : SensorKind} (h : execSensorIndication k s = .next t) : Follows s t :=
  Follows.whenPowered (follows_sensed _ fun _ => ((Aside.refl _).sensorFails _).conclude) h

theorem follows_sensorRecovery {q : Int} (h : execSensorRecovery q s = .next t) : Follows s t :=
  Follows.whenPowered (follows_sensed _ fun _ => ((Aside.refl _).sensorRecovers _).conclude) h

theorem follows_heatLimitExpiry (h : execHeatLimitExpiry s = .next t) : Follows s t := by
  refine Follows.whenPowered ?_ h
  split
  · exact follows_ite_refl fun _ => ((Aside.refl s).heatExpires _).conclude
  · exact .refl s

theorem follows_pressureSwitchChange {b : Bool} (h : execPressureSwitchChange b s = .next t) : Follows s t :=
  Follows.whenPowered (follows_sensed _ fun _ => ((Aside.refl _).pressureChanged _).conclude) h

theorem follows_lowTimerExpiry (h : execLowTimerExpiry s = .next t) : Follows s t :=
  Follows.whenPowered (follows_ite_refl fun _ =>
    (((Aside.refl s).onCzs fun z => { z with lowTimer := some Config.lowTime, episode := true }).report
      .pressureLow).countLoss.conclude) h

theorem follows_slotTimeExpiry (h : execSlotTimeExpiry s = .next t) : Follows s t := by
  have hz := (Aside.refl s).onCzs fun z => { z with slotTime := z.slotLength }
  refine Follows.whenPowered ?_ h
  exact .ite (fun _ => hz.nextSlot.conclude) fun _ => follows_ite_refl fun _ => hz.follows

theorem follows_diverterPositionReport {z : Zone} (h : execDiverterPositionReport z s = .next t) : Follows s t :=
  Follows.whenPowered (follows_ite_refl fun _ => follows_concludeDiverter z s) h

theorem follows_diverterMoveTimeout (h : execDiverterMoveTimeout s = .next t) : Follows s t := by
  refine Follows.whenPowered ?_ h
  split
  · exact .ite (fun _ => .refl s) fun _ => ((Aside.refl s).diverterFailed _).conclude
  · exact .refl s

theorem follows_armRotationPulse {arm : Arm} (h : execArmRotationPulse arm s = .next t) : Follows s t :=
  Follows.whenPowered (follows_ite_refl fun _ => ((Aside.refl s).armPulsed arm).follows) h

theorem follows_armTimerExpiry {arm : Arm} (h : execArmTimerExpiry arm s = .next t) : Follows s t :=
  Follows.whenPowered (follows_ite_refl fun _ => ((Aside.refl s).armStalled arm).conclude) h

theorem follows_doorSwitchChange {b : Bool} (h : execDoorSwitchChange b s = .next t) : Follows s t :=
  Follows.whenPowered (follows_sensed _ fun _ => (((Aside.refl _).wakeIf _).doorChanged _).conclude) h

theorem follows_actuatorEncoderEdge {b : Bool} (h : execActuatorEncoderEdge b s = .next t) : Follows s t :=
  Follows.whenPowered (follows_ite_refl fun _ => ((Aside.refl s).encoderEdge b).conclude.aside ((Aside.refl _).onTies _)) h

theorem follows_homeSwitchChange {b : Bool} (h : execHomeSwitchChange b s = .next t) : Follows s t :=
  Follows.whenPowered (follows_sensed _ fun _ => (Aside.refl _).homeReached.conclude) h

theorem follows_stallTimerExpiry (h : execStallTimerExpiry s = .next t) : Follows s t := by
  refine Follows.whenPowered ?_ h
  exact .ite (fun _ => ((Aside.refl s).onTies _).follows) fun _ => follows_ite_refl fun _ =>
    (Aside.refl s).driveStalls.conclude

theorem follows_dryingDwellExpiry (h : execDryingDwellExpiry s = .next t) : Follows s t :=
  Follows.whenPowered (follows_ite_refl fun _ =>
    ((Aside.refl s).onDdu fun d => { d with stageTime := 0 }).dwellEnds.conclude) h

theorem follows_coolWaitExpiry (h : execCoolWaitExpiry s = .next t) : Follows s t :=
  Follows.whenPowered (follows_ite_refl fun _ =>
    ((Aside.refl s).onDdu fun d => { d with expired := true, stageTime := Config.coolWait }).enterOpening.conclude) h

theorem follows_retryPauseExpiry (h : execRetryPauseExpiry s = .next t) : Follows s t :=
  Follows.whenPowered (follows_ite_refl fun _ =>
    ((Aside.refl s).onDdu fun d => { d with retryPause := none }).driveOutward.conclude) h

theorem follows_openTimeExpiry (h : execOpenTimeExpiry s = .next t) : Follows s t :=
  Follows.whenPowered (follows_ite_refl fun _ => (Aside.refl s).openTimeEnds.conclude) h

/-! ## The events of the water path, the softener and the sequencer's timers -/

theorem follows_flowMeterPulse (h : execFlowMeterPulse s = .next t) : Follows s t :=
  Follows.whenPowered (follows_ite_refl fun _ => follows_concludeFill (Aside.refl s).meterPulse) h

theorem follows_sumpEmptySwitchChange {b : Bool} (h : execSumpEmptySwitchChange b s = .next t) : Follows s t :=
  Follows.whenPowered (follows_sensed _ fun _ => ((Aside.refl _).sumpEmptyChanged _).conclude) h

theorem follows_heaterCoverLevelChange {b : Bool} (h : execHeaterCoverLevelChange b s = .next t) : Follows s t :=
  Follows.whenPowered (follows_sensed _ fun _ => ((Aside.refl _).heaterCoverChanged _).conclude) h

theorem follows_highLevelSwitchChange {b : Bool} (h : execHighLevelSwitchChange b s = .next t) : Follows s t :=
  Follows.whenPowered (follows_sensed _ fun _ => follows_concludeFill ((Aside.refl _).highLevelChanged _)) h

theorem follows_floodSwitchChange {b : Bool} (h : execFloodSwitchChange b s = .next t) : Follows s t := by
  have hp := (Aside.refl s).onPins fun p => { p with flood := b }
  refine Follows.whenPowered ?_ h
  exact .ite (fun _ => hp.follows) fun _ => ((hp.wakeIf _).floodChanged _).conclude

theorem follows_floodRunOnExpiry (h : execFloodRunOnExpiry s = .next t) : Follows s t := by
  refine Follows.whenPowered ?_ h
  split
  · exact ((Aside.refl s).onWpc fun w => { w with floodReq := none, inhibit := false }).conclude
  · exact .refl s

theorem follows_leakDrainExpiry (h : execLeakDrainExpiry s = .next t) : Follows s t := by
  refine Follows.whenPowered ?_ h
  split
  · exact ((Aside.refl s).onWpc fun w => { w with leak := none }).conclude
  · exact .refl s

theorem follows_drainBurstExpiry (h : execDrainBurstExpiry s = .next t) : Follows s t := by
  refine Follows.whenPowered ?_ h
  split
  · have hw := (Aside.refl s).withdrawBurst
    exact (Aside.ite (fun _ => hw.finishRegen) fun _ => hw).conclude
  · exact .refl s

theorem follows_fillLimitExpiry (h : execFillLimitExpiry s = .next t) : Follows s t := by
  refine Follows.whenPowered ?_ h
  split
  · exact .ite (fun _ => .refl s) fun _ => ((Aside.refl s).endFill _).conclude
  · exact .refl s

theorem follows_drainRunOnExpiry (h : execDrainRunOnExpiry s = .next t) : Follows s t := by
  refine Follows.whenPowered ?_ h
  split
  · next b _ =>
    exact (((Aside.refl s).onWpc fun w => { w with seqDrain := some ⟨.kept, b⟩ }).report .drainEnded).conclude
  · exact .refl s

theorem follows_drainAttemptLimit (h : execDrainAttemptLimit s = .next t) : Follows s t := by
  refine Follows.whenPowered ?_ h
  split
  · exact ((Aside.refl s).onWpc fun w => { w with seqDrain := some ⟨.paused 0, false⟩ }).conclude
  · exact (Aside.refl s).drainBlocked.conclude
  · exact .refl s

theorem follows_drainPauseExpiry (h : execDrainPauseExpiry s = .next t) : Follows s t := by
  refine Follows.whenPowered ?_ h
  split
  · exact ((Aside.refl s).onWpc fun w => { w with
      seqDrain := some ⟨if s.wpc.sumpEmpty then .runOn 0 else .pumping 0, true⟩ }).conclude
  · exact .refl s

theorem follows_holdTimerExpiry (h : execHoldTimerExpiry s = .next t) : Follows s t := by
  refine Follows.whenPowered ?_ h
  split
  · next w hw =>
    exact follows_ite_refl fun hr => (((Within.of_running hr (by decide)).onSeq fun q => { q with
      holdTimer := w.holdTime }).endCirculate (Option.isSome_of_mem hw) w).conclude
  · exact .refl s

theorem follows_settlingTimerExpiry (h : execSettlingTimerExpiry s = .next t) : Follows s t :=
  Follows.whenPowered (follows_ite_refl fun hs => (follows_resumeProgram hs.1).conclude) h

theorem follows_waterWaitExpiry (h : execWaterWaitExpiry s = .next t) : Follows s t := by
  refine Follows.whenPowered ?_ h
  split
  · exact follows_ite_refl fun hs => (follows_waterWaitOver hs _).conclude
  · exact .refl s

theorem follows_drainExtensionExpiry (h : execDrainExtensionExpiry s = .next t) : Follows s t :=
  Follows.whenPowered (follows_ite_refl fun hs => (follows_endDrain (Bool.and_eq_true_iff.mp hs).1).conclude) h

theorem follows_saltLidSwitchChange {b : Bool} (h : execSaltLidSwitchChange b s = .next t) : Follows s t :=
  Follows.whenPowered (follows_sensed _ fun _ => (((Aside.refl _).wakeIf _).lidChanged _).conclude) h

theorem follows_saltLowSwitchChange {b : Bool} (h : execSaltLowSwitchChange b s = .next t) : Follows s t :=
  Follows.whenPowered (follows_sensed _ fun _ => ((Aside.refl _).saltLowChanged _).finish.follows) h

theorem follows_brineStageTimeLimit (h : execBrineStageTimeLimit s = .next t) : Follows s t := by
  refine Follows.whenPowered ?_ h
  split
  · exact ((Aside.refl s).brineTimedOut _).conclude
  · exact .refl s

theorem follows_rinseStageTimeLimit (h : execRinseStageTimeLimit s = .next t) : Follows s t := by
  refine Follows.whenPowered ?_ h
  split
  · exact ((Aside.refl s).rinseTimedOut _).conclude
  · exact .refl s

theorem follows_regenDwellExpiry (h : execRegenDwellExpiry s = .next t) : Follows s t :=
  Follows.whenPowered (follows_ite_refl fun _ => (Aside.refl s).dwellOver.conclude) h

theorem follows_columnValveConfirmation {p : ValvePos} (h : execColumnValveConfirmation p s = .next t) : Follows s t := by
  refine Follows.whenPowered (follows_ite_refl fun _ => ?_) h
  split
  · exact follows_ite_refl fun _ => ((Aside.refl s).valveConfirmed _).conclude.aside ((Aside.refl _).onTies _)
  · exact follows_ite_refl fun _ => ((Aside.refl s).onSfu _).follows

theorem follows_columnValveMoveTimeout (h : execColumnValveMoveTimeout s = .next t) : Follows s t := by
  refine Follows.whenPowered ?_ h
  split
  · exact .ite (fun _ => .refl s) fun _ => ((Aside.refl s).valveFailed _).conclude
  · exact .refl s

/-! ## The events of the line and the supply -/

theorem follows_frameTransmitEnd (h : execFrameTransmitEnd s = .next t) : Follows s t :=
  Follows.whenPowered ((follows_transmitEnds s).aside (Aside.refl _).finish) h

theorem follows_silenceTimeout (h : execSilenceTimeout s = .next t) : Follows s t :=
  Follows.whenPowered ((follows_silenceExpires s).aside (Aside.refl _).finish) h

theorem follows_timeStampTick {a : Ambient} (h : execTimeStampTick a s = .next t) : Follows s t :=
  Follows.whenPowered (Aside.tick a s).follows h

theorem follows_pfwAssertion (h : execPfwAssertion s = .next t) : Follows s t := by
  refine Follows.whenPowered ?_ h
  exact .ite (fun _ => .refl s) fun _ => (Aside.refl s).warnPower.finish.follows

theorem follows_pfwRelease (h : execPfwRelease s = .next t) : Follows s t :=
  Follows.whenPowered (((Aside.refl s).onPart _).onPins _).follows h

theorem follows_retainedWriteEnd (h : execRetainedWriteEnd s = .next t) : Follows s t := by
  have hw := (Aside.refl s).onRst fun r => completeWrite r
  refine Follows.whenPowered ?_ h
  exact .ite (fun _ => hw.conclude) fun _ => hw.finish.follows

end

end Sys2Proof.Proofs
end

section
/-! PROOFS. The requests that write settings keep the ranges of Table 49 and of Table 6, and what a running program needs (R2 to
R4, R184). -/

/- One theorem at a time, as the tests have it: proofs that wait for the kernel cost a thread each. -/
set_option Elab.async false

namespace Sys2Proof.Proofs

open Sys2Proof.Machine
open Sys2Proof.Safety

/-! ## Parameters -/

theorem paramGet_soil (c : ConfigRec) (k : Fin 8) : paramGet c (13 + k.val) = c.soil[k] := by
  fin_cases k <;> rfl

theorem paramSet_soil (c : ConfigRec) (k : Fin 8) (v : Nat) :
    paramSet c (13 + k.val) v = { c with soil := c.soil.set k v } := by
  fin_cases k <;> rfl

theorem paramGet_outside (c : ConfigRec) {id : Nat} (h : ¬ (1 ≤ id ∧ id ≤ 27)) : paramGet c id = 0 := by
  unfold paramGet
  split
  case h_28 => rfl
  all_goals omega

theorem paramSet_outside (c : ConfigRec) {id : Nat} (v : Nat) (h : ¬ (1 ≤ id ∧ id ≤ 27)) : paramSet c id v = c := by
  unfold paramSet
  split
  case h_28 => rfl
  all_goals omega

theorem paramRange_isSome {id : Nat} {r : Nat × Nat} (h : paramRange id = some r) : 1 ≤ id ∧ id ≤ 27 := by
  by_contra hn
  unfold paramRange at h
  split at h
  case h_28 => cases h
  all_goals omega

/-- A parameter of the soil table, by its place in it. -/
theorem soil_index {id : Nat} (h : 13 ≤ id ∧ id ≤ 20) : ∃ k : Fin 8, id = 13 + k.val := ⟨⟨id - 13, by omega⟩, by simp; omega⟩

theorem paramGet_paramSet_ne (c : ConfigRec) {id j : Nat} (v : Nat) (h : j ≠ id) :
    paramGet (paramSet c id v) j = paramGet c j := by
  by_cases hi : 1 ≤ id ∧ id ≤ 27
  · by_cases hj : 1 ≤ j ∧ j ≤ 27
    · by_cases hs : (13 ≤ id ∧ id ≤ 20) ∧ 13 ≤ j ∧ j ≤ 20
      · obtain ⟨k, rfl⟩ := soil_index hs.1
        obtain ⟨l, rfl⟩ := soil_index hs.2
        have hkl : k.val ≠ l.val := by omega
        simp [paramSet_soil, paramGet_soil, Vector.getElem_set_ne, hkl]
      · obtain ⟨h1, h2⟩ := hi
        obtain ⟨h3, h4⟩ := hj
        interval_cases id <;> interval_cases j <;> first | omega | rfl
    · rw [paramGet_outside _ hj, paramGet_outside _ hj]
  · rw [paramSet_outside _ _ hi]

theorem paramGet_paramSet_same (c : ConfigRec) {id v : Nat} (h : 1 ≤ id ∧ id ≤ 27) (hv : id = 22 → v ≤ 1) :
    paramGet (paramSet c id v) id = v := by
  by_cases hs : 13 ≤ id ∧ id ≤ 20
  · obtain ⟨k, rfl⟩ := soil_index hs
    simp [paramSet_soil, paramGet_soil]
  · by_cases h22 : id = 22
    · subst h22
      have := hv rfl
      interval_cases v <;> rfl
    · obtain ⟨h1, h2⟩ := h
      interval_cases id <;> first | omega | rfl

/-- A parameter lies in its range, where it has one. -/
def ParamInRange (c : ConfigRec) (id : Nat) : Prop :=
  ∀ r : Nat × Nat, paramRange id = some r → r.1 ≤ paramGet c id ∧ paramGet c id ≤ r.2

theorem configInRange_iff (s : State) : ConfigInRange s ↔ ∀ id, ParamInRange s.cfg id := by
  refine ⟨fun h id r hr => ?_, fun h id r hr => h id r hr⟩
  have := paramRange_isSome hr
  exact h ⟨id, by omega⟩ r hr

theorem paramRange_ordered {id : Nat} {r : Nat × Nat} (h : paramRange id = some r) : r.1 ≤ r.2 := by
  unfold paramRange at h
  split at h
  all_goals cases h
  all_goals decide

theorem limitTo_mem {r : Nat × Nat} (h : r.1 ≤ r.2) (v : Nat) : r.1 ≤ limitTo r v ∧ limitTo r v ≤ r.2 := by
  unfold limitTo
  omega

/-- A value stored within its range keeps the parameters in theirs. -/
theorem paramInRange_paramSet {c : ConfigRec} {id j : Nat} {r : Nat × Nat} (hr : paramRange id = some r) (v : Nat)
    (h : j ≠ id → ParamInRange c j) : ParamInRange (paramSet c id (limitTo r v)) j := by
  intro r' hr'
  have hm := limitTo_mem (paramRange_ordered hr) v
  by_cases hj : j = id
  · subst hj
    obtain rfl : r' = r := Option.some.inj (hr'.symm.trans hr)
    rw [paramGet_paramSet_same c (paramRange_isSome hr)]
    · exact hm
    · rintro rfl
      cases hr
      exact hm.2
  · rw [paramGet_paramSet_ne c _ hj]
    exact h hj r' hr'

/-- The first `n` parameters limited to their ranges. -/
def limitFirst (n : Nat) (c : ConfigRec) : ConfigRec :=
  (List.range n).foldl (fun c i =>
    match paramRange (i + 1) with
    | some range => paramSet c (i + 1) (limitTo range (paramGet c (i + 1)))
    | none => c) c

theorem limitConfig_eq (c : ConfigRec) : limitConfig c = limitFirst 27 c := rfl

theorem limitFirst_succ (n : Nat) (c : ConfigRec) : limitFirst (n + 1) c = match paramRange (n + 1) with
    | some range => paramSet (limitFirst n c) (n + 1) (limitTo range (paramGet (limitFirst n c) (n + 1)))
    | none => limitFirst n c := by
  simp only [limitFirst, List.range_succ, List.foldl_append, List.foldl_cons, List.foldl_nil]

theorem paramInRange_limitFirst (c : ConfigRec) {n id : Nat} (h : id ≤ n) : ParamInRange (limitFirst n c) id := by
  induction n with
  | zero =>
    obtain rfl : id = 0 := by omega
    intro r hr
    simp [paramRange] at hr
  | succ n ih =>
    rw [limitFirst_succ]
    split
    · next r hr => exact paramInRange_paramSet hr _ fun hj => ih (by omega)
    · next hr =>
      by_cases hj : id = n + 1
      · intro r h
        rw [hj, hr] at h
        cases h
      · exact ih (by omega)

/-- A restored configuration lies in its ranges (R203). -/
theorem paramInRange_limitConfig (c : ConfigRec) (id : Nat) : ParamInRange (limitConfig c) id := by
  intro r hr
  exact paramInRange_limitFirst c (paramRange_isSome hr).2 r hr

theorem pulsesInRange {s : State} (h : ConfigInRange s) : PulsesInRange s.cfg := (configInRange_iff s).mp h 3 _ rfl

/-! ## Phase records -/

theorem limitTarget_mem (v : Nat) : limitTarget v = 0 ∨ 30 ≤ limitTarget v ∧ limitTarget v ≤ 75 := by
  unfold limitTarget limitTo
  split <;> omega

theorem refsOf_length {p : PhasePayload} {l : List (Channel × Nat × Nat)} (h : refsOf p = some l) : l.length ≤ 2 := by
  simp only [refsOf] at h
  split at h
  · cases h
    simp
  · obtain ⟨x, -, rfl⟩ := Option.map_eq_some_iff.mp h
    simp
  · split at h
    · split at h
      · cases h
      · cases h
        simp
    · cases h
  · cases h

theorem anyWeight_limit {w : PerZone Nat} (h : w ≠ ⟨0, 0, 0, 0⟩) :
    anyWeight ⟨min 7 w.z1, min 7 w.z2, min 7 w.z3, min 7 w.z4⟩ = true := by
  by_contra hn
  simp [anyWeight] at hn
  apply h
  cases w
  simp_all

theorem phaseInRange_limitWash {k : WashKind} {w : WashRecord} (hw : w.weights ≠ ⟨0, 0, 0, 0⟩) (hr : w.refs.length ≤ 2) :
    phaseInRange (.wash k (limitWash w)) = true := by
  have hs := limitTarget_mem w.target
  simp only [phaseInRange, Bool.and_eq_true, decide_eq_true_eq, List.all_eq_true]
  simp only [limitWash, anyWeight_limit hw, List.length_map, List.forall_mem_map, and_true]
  refine ⟨⟨⟨⟨⟨⟨⟨?_, hs⟩, ?_⟩, ?_⟩, ?_⟩, ?_⟩, hr⟩, fun r _ => ?_⟩
  · exact limitTo_mem (r := (1500, 6000)) (by decide) _
  · exact limitTo_mem (r := (60, 3600)) (by decide) _
  · exact (limitTo_mem (r := (0, 3600)) (by decide) _).2
  · omega
  · exact limitTo_mem (r := (10, 60)) (by decide) _
  · simp [limitTo]

/-- What the examination of a record stores lies in the ranges of Table 6 (R2). -/
theorem phaseInRange_of_examine {b c : Bool} {p : PhasePayload} {ph : Phase} (h : examinePhase b p = .stored ph c) :
    phaseInRange ph = true := by
  simp only [examinePhase] at h
  split at h
  · exact PhaseExam.noConfusion h
  · cases h
    simp [phaseInRange, limitTo]
  · split at h
    · exact PhaseExam.noConfusion h
    · next refs hrefs =>
      split at h
      · exact PhaseExam.noConfusion h
      · next hw =>
        split at h
        · exact PhaseExam.noConfusion h
        · cases h
          exact phaseInRange_limitWash hw (by simpa [rawWash] using refsOf_length hrefs)

end Sys2Proof.Proofs
end

section
/-! PROOFS. What every command keeps: the records' ranges, the levels, the dose queue, the program and its course (R2 to R5, R24,
R25, R30, R101, R104, R114, R184, R203), and what leads out of FAULTED (R28). -/

/- One theorem at a time, as the tests have it: proofs that wait for the kernel cost a thread each. -/
set_option Elab.async false

namespace Sys2Proof.Proofs

open Sys2Proof.Machine
open Sys2Proof.Safety

/-! ## What is kept -/

/-- From `s` to `t` the invariants of records, levels, queue, meter, pressure, homings, program and course are kept. -/
structure Keeps (s t : State) : Prop where
  config : ConfigInRange s → ConfigInRange t
  table : TableInRange s → TableInRange t
  levels : LevelsKept s → LevelsKept t
  doses : DosesKept s → DosesKept t
  meter : ConfigInRange s → MeterKept s → MeterKept t
  pressure : PressureAgrees s.czs → PressureAgrees t.czs
  homings : HomingsKept s.part → HomingsKept t.part
  program : Programmed s → Programmed t
  agrees : Programmed s → CourseAgrees s → CourseAgrees t

/-- A FAULTED sequencer stays FAULTED with its code, its phase index and its soil index (R26). -/
def Stays (s t : State) : Prop :=
  s.seq.state = .faulted →
    t.seq.state = .faulted ∧ t.seq.fault = s.seq.fault ∧ t.seq.idx = s.seq.idx ∧ t.seq.soil = s.seq.soil

theorem configInRange_congr {s t : State} (h : t.cfg = s.cfg) (hc : ConfigInRange s) : ConfigInRange t := by
  rw [configInRange_iff] at hc ⊢
  rwa [h]

theorem tableInRange_congr {s t : State} (ht : t.seq.table = s.seq.table) (hn : t.seq.count = s.seq.count)
    (h : TableInRange s) : TableInRange t := by
  simpa only [TableInRange, ht, hn] using h

theorem Follows.keeps {s t : State} (h : Follows s t) : Keeps s t where
  config := configInRange_congr h.cfg
  table := tableInRange_congr h.table h.count
  levels := h.levels
  doses := h.doses
  meter := fun hc => h.meter (pulsesInRange hc)
  pressure := h.pressure
  homings := h.homings
  program := fun hp => h.programmed hp (h.program hp)
  agrees := h.agrees

theorem Keeps.trans {s t u : State} (h : Keeps s t) (k : Keeps t u) : Keeps s u where
  config := k.config ∘ h.config
  table := k.table ∘ h.table
  levels := k.levels ∘ h.levels
  doses := k.doses ∘ h.doses
  meter := fun hc hm => k.meter (h.config hc) (h.meter hc hm)
  pressure := k.pressure ∘ h.pressure
  homings := k.homings ∘ h.homings
  program := k.program ∘ h.program
  agrees := fun hp ha => k.agrees (h.program hp) (h.agrees hp ha)

theorem closed_keeps : Closed Keeps := ⟨Keeps.trans, Follows.keeps⟩

theorem Stays.trans {s t u : State} (h : Stays s t) (k : Stays t u) : Stays s u := fun hs => by
  obtain ⟨h1, h2, h3, h4⟩ := h hs
  obtain ⟨k1, k2, k3, k4⟩ := k h1
  exact ⟨k1, k2.trans h2, k3.trans h3, k4.trans h4⟩

theorem closed_stays : Closed Stays := ⟨Stays.trans, Follows.faulted⟩

/-- What a request that writes settings keeps. -/
def Rewrites (s t : State) : Prop := Keeps s t ∧ Stays s t

theorem closed_rewrites : Closed Rewrites :=
  ⟨fun h k => ⟨h.1.trans k.1, h.2.trans k.2⟩, fun h => ⟨h.keeps, h.faulted⟩⟩

theorem Rewrites.follows {s t u : State} (h : Rewrites s t) (k : Follows t u) : Rewrites s u :=
  closed_rewrites.trans h (closed_rewrites.of_follows k)

theorem Rewrites.aside {s t u : State} (h : Rewrites s t) (k : Aside t u) : Rewrites s u := closed_rewrites.aside h k

theorem Rewrites.refl (s : State) : Rewrites s s := closed_rewrites.refl s

/-! ## SET CONFIG and SET NOTICE MASK -/

/-- A change of the configuration that keeps the ranges. -/
theorem rewrites_onCfg (f : ConfigRec → ConfigRec) (s : State) (h : ConfigInRange s → ConfigInRange (onCfg f s)) :
    Rewrites s (onCfg f s) :=
  ⟨⟨h, id, id, id, fun _ => id, id, id, id, fun _ => id⟩, fun hs => ⟨hs, rfl, rfl, rfl⟩⟩

theorem rewrites_paramSet {id v : Nat} {r : Nat × Nat} (hr : paramRange id = some r) (s : State) :
    Rewrites s (onCfg (fun c => paramSet c id (limitTo r v)) s) :=
  rewrites_onCfg _ s fun h => (configInRange_iff _).mpr fun j =>
    paramInRange_paramSet hr v fun _ => (configInRange_iff s).mp h j

theorem Aside.paramChanged {s t : State} (h : Aside s t) (id old : Nat) : Aside s (paramChanged id old t) := by
  unfold Machine.paramChanged
  split
  · exact h.nominalChanged
  · exact .ite (fun _ => h.reserveRaised) fun _ => h
  · exact .ite (fun _ => h.removeColumnC) fun _ => h.createColumnC
  · split
    · exact .ite (fun _ => h.loseLink _) fun _ => h
    · exact h
  · exact h

theorem rewrites_storeParam {id v : Nat} {r : Nat × Nat} (hr : paramRange id = some r) (s : State) :
    Rewrites s (storeParam id (limitTo r v) s) :=
  (rewrites_paramSet hr s).aside (((Aside.refl _).paramChanged _ _).askWrite _)

theorem rewrites_ite {c : Prop} [Decidable c] {a b : Served} {s : State} (ha : Rewrites s a.state)
    (hb : Rewrites s b.state) : Rewrites s (if c then a else b).state := by
  split
  · exact ha
  · exact hb

theorem rewrites_serveSetConfig (i : Byte) (v : Word) (s : State) : Rewrites s (serveSetConfig i v s).state := by
  simp only [serveSetConfig]
  split
  · exact .refl s
  · next r hr =>
    exact rewrites_ite (.refl s) (rewrites_ite (.refl s) (rewrites_ite (.refl s)
      (rewrites_ite ((rewrites_storeParam hr s).follows (follows_settle _)) (rewrites_storeParam hr s))))

theorem rewrites_serveSetMask (m : Triple) (s : State) : Rewrites s (serveSetMask m s).state :=
  ⟨⟨id, id, id, id, fun _ => id, id, id, id, fun _ => id⟩, fun hs => ⟨hs, rfl, rfl, rfl⟩⟩

/-! ## The program table -/

theorem rewrites_afterEdit (s : State) : Rewrites s (afterEdit s) := by
  unfold afterEdit
  split
  · next h =>
    simp only [Bool.and_eq_true] at h
    exact closed_rewrites.of_follows ((follows_endDrain h.1.1).trans (follows_settle _))
  · exact .refl s

/-- A program that runs can be edited or is ENDING. -/
theorem editing_of_programRuns {s : State} (h : programRuns s = true) : editing s = true ∨ s.seq.state = .ending := by
  cases hs : s.seq.state <;> simp_all [programRuns, editing]

theorem editing_of_wash_state {s : State} (h : s.seq.state = .running ∨ s.seq.state = .suspended ∨ s.seq.state = .waitWater) :
    editing s = true := by
  rcases h with h | h | h <;> simp [editing, h]

/-- An edit of table or count that leaves the rest of the sequencer, and a program's current phase where one runs. -/
theorem rewrites_edit {s : State} (f : Seq → Seq) (hc : courseOf (f s.seq) = courseOf s.seq)
    (ht : TableInRange s → TableInRange (onSeq f s)) (hn : s.seq.count ≤ 12 → (f s.seq).count ≤ 12)
    (hp : Programmed s → programRuns s = true → ProgramKept (onSeq f s))
    (hw : editing s = true → phaseAt (f s.seq) s.seq.idx = phaseAt s.seq s.seq.idx) : Rewrites s (onSeq f s) := by
  have h1 : (f s.seq).state = s.seq.state := congrArg Course.state hc
  have h2 : (f s.seq).sub = s.seq.sub := congrArg Course.sub hc
  have h3 : (f s.seq).idx = s.seq.idx := congrArg Course.idx hc
  have h4 : (f s.seq).remembered = s.seq.remembered := congrArg Course.remembered hc
  have h5 : (f s.seq).settling.isSome = s.seq.settling.isSome := congrArg Course.settling hc
  have h6 : (f s.seq).extension.isSome = s.seq.extension.isSome := congrArg Course.extension hc
  have hcw : editing s = true → currentWash (onSeq f s) = currentWash s := fun he => by
    simp [currentWash, currentPhase, onSeq, h3, hw he]
  have hE : ∀ st : SeqState, st = .running ∨ st = .suspended ∨ st = .waitWater → s.seq.state = st →
      currentWash (onSeq f s) = currentWash s := fun st ho hs => hcw (editing_of_wash_state (by rw [hs]; exact ho))
  refine ⟨⟨id, ht, id, id, fun _ => id, id, id, fun hP => ⟨hn hP.1, ?_⟩, fun _ ha => ?_⟩, fun hs =>
    ⟨h1.trans hs, congrArg Course.fault hc, h3, congrArg Course.soil hc⟩⟩
  · by_cases hr : programRuns s = true
    · exact hp hP hr
    · exact programKept_of_not_runs (by simpa [programRuns, onSeq, h1] using hr)
  · obtain ⟨a1, a2, a3, a4, a5, a6⟩ := ha
    simp only [CourseAgrees, runningIn, Laws.onSeq_seq, h1, h2, h4, h5, h6]
    refine ⟨a1, fun hs => ?_, a3, a4, a5, fun hs => ?_⟩
    · rw [hE _ (.inl rfl) hs]
      exact a2 hs
    · rcases hs with hs | hs
      · rw [hE _ (.inr (.inl rfl)) hs]
        exact a6 (.inl hs)
      · rw [hE _ (.inr (.inr rfl)) hs]
        exact a6 (.inr hs)

/-- The slots of the table after LOAD PHASE. -/
theorem phaseAt_writeSlot {s : State} {i : Nat} (hi : i < 12) (p : Phase) (j : Nat) :
    phaseAt (writeSlot i p s).seq j = if j = i then some p else phaseAt s.seq j := by
  simp only [phaseAt, writeSlot, Laws.onSeq_seq, Vector.getElem?_setIfInBounds]
  by_cases hj : i = j
  · subst hj
    simp [hi]
  · simp [hj, Ne.symm hj]

theorem loadAllowed_lt {s : State} {i : Nat} (h : loadAllowed s i = true) (he : editing s = true) : s.seq.idx < i := by
  cases hs : s.seq.state <;> simp_all [loadAllowed, editing]

theorem not_ending_of_loadAllowed {s : State} {i : Nat} (h : loadAllowed s i = true) : s.seq.state ≠ .ending := by
  intro hs
  simp [loadAllowed, hs] at h

/-- A slot of a program that offends by no missing and no misplaced record does not offend where every channel is fitted. -/
theorem slotBad_writeSlot {s : State} {i : Nat} (hi : i < 12) {p : Phase} (hd : dryMisplaced s i p = false) (n j : Nat)
    (hn : n = s.seq.count) (h : j ≠ i → slotBad true s.seq n j = false) :
    slotBad true (writeSlot i p s).seq n j = false := by
  simp only [slotBad, phaseAt_writeSlot hi]
  by_cases hj : j = i
  · subst hj hn
    cases p with
    | dry d o => simpa [dryMisplaced] using hd
    | wash k w => simp [refsUnfitted]
  · simpa [hj, slotBad] using h hj

theorem rewrites_writeSlot {s : State} {i : Nat} {p : Phase} (hi : i < 12) (hl : loadAllowed s i = true)
    (hp : phaseInRange p = true) (hd : editing s = true → dryMisplaced s i p = false) :
    Rewrites s (writeSlot i p s) := by
  have hat := phaseAt_writeSlot (s := s) hi p
  refine rewrites_edit _ rfl (fun ht => ⟨ht.1, fun j q hq => ?_⟩) id (fun hP hr => ?_) fun he => ?_
  · have hx : phaseAt (writeSlot i p s).seq j.val = some q := by
      simpa [phaseAt, writeSlot] using hq
    rw [hat] at hx
    split at hx
    · cases hx
      exact hp
    · exact ht.2 j q (by simpa [phaseAt] using hx)
  · have he := (editing_of_programRuns hr).resolve_right (not_ending_of_loadAllowed hl)
    have hlt := loadAllowed_lt hl he
    obtain ⟨h1, h2, h3, h4⟩ := hP.2 hr
    refine fun _ => ⟨?_, h2, h3, fun j hj hjn => slotBad_writeSlot hi (hd he) _ _ rfl fun _ => h4 j hj hjn⟩
    have := hat s.seq.idx
    rw [if_neg (by omega)] at this
    simpa [currentPhase, writeSlot] using (congrArg Option.isSome this).trans h1
  · have hlt := loadAllowed_lt hl he
    have := hat s.seq.idx
    rwa [if_neg (by omega)] at this

theorem rewrites_serveLoadPhase (i : Byte) (p : PhasePayload) (s : State) : Rewrites s (serveLoadPhase i p s).state := by
  simp only [serveLoadPhase]
  split
  · exact .refl s
  · next hl =>
    split
    · exact .refl s
    · next hi =>
      split
      · exact .refl s
      · exact .refl s
      · next ph c hx =>
        split
        · exact .refl s
        · next hd =>
          refine closed_rewrites.trans (rewrites_writeSlot (by omega) (by simpa using hl) (phaseInRange_of_examine hx)
            fun he => ?_) (rewrites_afterEdit _)
          simpa [he] using hd

/-- A count taken within a running program leaves its phase below, and every later slot sound (R4). -/
theorem rewrites_writeCount {s : State} {n : Nat} (hn : n ≤ 12) (he : s.seq.state ≠ .ending)
    (hl : editing s = true → s.seq.idx + 1 < n ∧ firstBadSlot s.dsu.r3.fitted s.seq (s.seq.idx + 1) n = none) :
    Rewrites s (writeCount n s) := by
  refine rewrites_edit _ rfl (fun ht => ⟨hn, ht.2⟩) (fun _ => hn) (fun hP hr => ?_) fun _ => rfl
  obtain ⟨hlt, hb⟩ := hl ((editing_of_programRuns hr).resolve_right he)
  obtain ⟨h1, h2, h3, h4⟩ := hP.2 hr
  exact fun _ => ⟨h1, by simp [onSeq]; omega, fun _ => by simpa [onSeq] using hlt, fun j hj hjn =>
    slotBad_of_fitted (firstBadSlot_eq_none hb j.isLt (by simp [onSeq] at hj; omega) hjn)⟩

theorem rewrites_serveSetCount (c : Byte) (s : State) : Rewrites s (serveSetCount c s).state := by
  simp only [serveSetCount]
  split
  · exact .refl s
  · next h12 =>
    split
    · exact .refl s
    · next hen =>
      split
      · split
        · exact .refl s
        · next hlt =>
          split
          · exact .refl s
          · next hb =>
            exact closed_rewrites.trans (rewrites_writeCount (by omega) hen fun _ => ⟨by omega, hb⟩)
              (rewrites_afterEdit _)
      · next he => exact rewrites_writeCount (by omega) hen fun h => absurd h he

theorem rewrites_serveClearProgram (s : State) : Rewrites s (serveClearProgram s).state := by
  unfold serveClearProgram
  split
  · next hr =>
    have hn : programRuns s = false := by
      cases hs : s.seq.state <;> simp_all [seqRests, programRuns]
    have he : editing s = false := by
      cases hs : s.seq.state <;> simp_all [seqRests, editing]
    exact rewrites_edit (fun q => { q with table := Vector.replicate 12 none, count := 0 }) rfl
      (fun _ => ⟨by simp [onSeq], fun j q hq => by simp [onSeq] at hq⟩) (fun _ => by simp)
      (fun _ h => by simp [hn] at h) fun h => by simp [he] at h
  · exact .refl s

/-! ## ACKNOWLEDGE FAULT -/

/-- The sequencer as it leaves FAULTED (R28). -/
def released (s : State) : State := onSeq (fun q => { q with state := .idle, sub := .none, idx := 0, fault := none }) s

theorem keeps_released {s : State} (hs : s.seq.state = .faulted) : Keeps s (released s) where
  config := id
  table := id
  levels := id
  doses := id
  meter := fun _ => id
  pressure := id
  homings := id
  program := fun h => ⟨h.1, programKept_of_not_runs rfl⟩
  agrees := fun _ ⟨_, _, a3, a4, _⟩ => by
    simp [hs, runningIn] at a3 a4
    exact courseAgrees_rest (by simp [released]) rfl a4.2 (by simp [released, a4.1]) (by simp [released, a3])

theorem keeps_serveAcknowledge (s : State) : Keeps s (serveAcknowledge s).state := by
  unfold serveAcknowledge
  split
  · next hs =>
    split
    · exact closed_keeps.refl s
    · split
      · exact (keeps_released hs).trans (follows_settle _).keeps
      · split
        · exact closed_keeps.refl s
        · exact (follows_acted (Aside.refl s).placeDrain _ _).keeps
  · exact closed_keeps.refl s

theorem blocks_serveAcknowledge (s : State) : Blocks s (serveAcknowledge s).state := by
  unfold serveAcknowledge
  split
  · split
    · exact .refl s
    · split
      · exact ((Blocks.refl s).onSeq _).trans (follows_settle _).toBlocks
      · split
        · exact .refl s
        · exact (follows_acted (Aside.refl s).placeDrain _ _).toBlocks
  · exact .refl s

/-! ## Every request -/

theorem rewrites_serveOwner {r : Request} {s : State} (ha : r ≠ .acknowledgeFault)
    (hu : admits s.part.state r = true) : Rewrites s (serveOwner r s).state := by
  by_cases hw : writes r = false
  · exact closed_rewrites.of_follows (follows_serveOwner hw ha (not_starting_of_admits hu))
  · cases r with
    | setConfig i v => exact rewrites_serveSetConfig i v s
    | setNoticeMask m => exact rewrites_serveSetMask m s
    | loadPhase i p => exact rewrites_serveLoadPhase i p s
    | setPhaseCount n => exact rewrites_serveSetCount n s
    | clearProgram => exact rewrites_serveClearProgram s
    | _ => exact absurd rfl hw

theorem keeps_serveOwner {r : Request} {s : State} (hu : admits s.part.state r = true) :
    Keeps s (serveOwner r s).state := by
  by_cases ha : r = .acknowledgeFault
  · subst ha
    exact keeps_serveAcknowledge s
  · exact (rewrites_serveOwner ha hu).1

theorem keeps_examine (p : Parsed) (s : State) : Keeps s (examine p s).state := by
  cases p with
  | unknownKind => exact closed_keeps.refl s
  | badLength => exact closed_keeps.refl s
  | request r => exact closed_keeps.serveRequest (fun _ hu => keeps_serveOwner hu) s

theorem keeps_receiveBytes (l : List Byte) (s : State) : Keeps s (receiveBytes l s) :=
  closed_keeps.receiveBytes keeps_examine l s

end Sys2Proof.Proofs
end

section
/-! PROOFS. Power and reset, and the whole machine: what every command keeps (O56), and which commands change what the host has
set and lead out of FAULTED (O53). -/

/- One theorem at a time, as the tests have it: proofs that wait for the kernel cost a thread each. -/
set_option Elab.async false

namespace Sys2Proof.Proofs

open Sys2Proof.Machine
open Sys2Proof.Safety

/-! ## Power and reset -/

theorem paramInRange_default (id : Nat) : ParamInRange {} id := by
  intro r hr
  obtain ⟨h1, h2⟩ := paramRange_isSome hr
  interval_cases id <;> cases hr <;> decide

theorem paramInRange_restored (r : Rst) (id : Nat) : ParamInRange (restoredConfig r) id := by
  unfold restoredConfig
  split
  · exact paramInRange_limitConfig _ id
  · exact paramInRange_default id

theorem levelKept_restored (ch : Channel) (b : Bool) (c : Option RetainedReservoirs) :
    LevelKept ch (restoredReservoir ch b c) := by
  unfold restoredReservoir
  split
  · exact ⟨min_le_left _ _, rfl⟩
  · exact ⟨Nat.zero_le _, by simp⟩

/-- A part at its reset values holds every invariant, whatever stood before (R193, R203). -/
theorem keeps_of_fresh (s : State) (pins : Pins) (r : Rst) (l : List Instr) : Keeps s (freshPart pins r l) where
  config := fun _ => (configInRange_iff _).mpr (paramInRange_restored r)
  table := fun _ => ⟨by simp [freshPart], fun i p hp => by simp [freshPart] at hp⟩
  levels := fun _ => (levelsKept_iff _).mpr fun ch => by cases ch <;> exact levelKept_restored _ _ _
  doses := fun _ => (dosesKept_iff _).mpr List.nodup_nil
  meter := fun _ _ => by
    have hk := paramInRange_restored r 3 _ rfl
    refine ⟨hk.1, hk.2, ?_⟩
    simp only [freshPart]
    split <;> simp [restoredColumns, defaultColumns]
  pressure := fun _ => rfl
  homings := fun _ _ => rfl
  program := fun _ => ⟨by simp [freshPart], programKept_of_not_runs rfl⟩
  agrees := fun _ _ => courseAgrees_rest (by simp [freshPart]) rfl rfl rfl rfl

theorem Aside.raiseInvalid {s t : State} (h : Aside s t) (n : Nat) (v : Bool) : Aside s (raiseInvalid n v t) :=
  .ite (fun _ => h) fun _ => h.raiseFault _ _ _

theorem Aside.askDefault {s t : State} (h : Aside s t) (id : RecordId) (v : Bool) : Aside s (askDefault id v t) :=
  .ite (fun _ => h) fun _ => h.askWrite _

theorem Aside.reportRestoration {s t : State} (h : Aside s t) (r : Rst) : Aside s (reportRestoration r t) :=
  ((((((((h.raiseInvalid _ _).raiseInvalid _ _).raiseInvalid _ _).raiseInvalid _ _).askDefault _ _).askDefault _
    _).askDefault _ _).askDefault _ _)

theorem Aside.testRestored {s t : State} (h : Aside s t) : Aside s (testRestored t) := h.clampColumns.sweepReady _

/-- What power-on makes of the part at its reset values (R193). -/
theorem resetPart_from_fresh (pins : Pins) (s : State) :
    Follows (freshPart pins (keptCopies s.rst) s.pending) (resetPart pins s) := by
  have hr := (Aside.refl (freshPart pins (keptCopies s.rst) s.pending)).testRestored.reportRestoration (keptCopies s.rst)
  have hf := Aside.ite (c := pins.flood = true) (fun _ => hr.floodBegins) fun _ => hr
  simp only [resetPart]
  exact (Aside.ite (fun _ => hf.warnPower) fun _ => hf).conclude

theorem keeps_resetPart (pins : Pins) (s : State) : Keeps s (resetPart pins s) :=
  (keeps_of_fresh s _ _ _).trans (resetPart_from_fresh pins s).keeps

theorem keeps_losePower (s : State) : Keeps s (losePower s) := by
  have h := keeps_of_fresh s s.pins {} s.pending
  exact ⟨h.config, h.table, h.levels, h.doses, h.meter, h.pressure, fun _ _ => rfl, h.program, h.agrees⟩

theorem Keeps.whenPowered {f : State → State} {s t : State} (hf : Keeps s (f s)) (h : whenPowered f s = .next t) :
    Keeps s t := by
  simp only [Machine.whenPowered, Host.Outcome.next.injEq] at h
  rw [← h]
  split
  · exact hf
  · exact closed_keeps.refl s

/-! ## Every command -/

/-- The command has a row that writes no settings and does not lead out of FAULTED. -/
theorem follows_exec {c : Instr} {s t : State} (hw : writesSettings c = false) (hf : mayLeaveFaulted c = false)
    (h : exec c s = .next t) : Follows s t := by
  cases c with
  | setConfig _ _ _ | setConfigNominalCapacity _ _ | setConfigSwitchReserve _ _ | setConfigFittedColumns _ _
  | setConfigSilenceLimit _ _ | setNoticeMask _ _ | loadPhase _ _ _ | setPhaseCount _ _ | clearProgram _ | frameGood _
  | frameBad _ _ | byteGapTimeout _ | standbyLinkWake | powerOn _ | resetLineAssertion _ | powerLoss =>
    exact Bool.noConfusion hw
  | acknowledgeFault _ => exact Bool.noConfusion hf
  | identify _ | linkEnable _ | getStatus _ | getConfig _ _ | standby _ | shutdownNormal _ | shutdownAbrupt _
  | resetUnitSequencer _ | resetUnitSoftener _ | resetUnitDosing _ | resetUnitDoor _ | resetUnitLink _
  | readFaultHistory _ | readPhase _ _ | startProgram _ | hold _ | continueProgram _ | abortProgram _ | readColumn _ _
  | regenerate _ _ | retireColumn _ _ | restoreColumn _ _ | readReservoir _ _ | setReservoirLevel _ _ _
  | primeChannel _ _ _ => exact follows_hostRequest h rfl nofun
  | frameTransmitEnd => exact follows_frameTransmitEnd h
  | silenceTimeout => exact follows_silenceTimeout h
  | timeStampTick _ => exact follows_timeStampTick h
  | pfwAssertion => exact follows_pfwAssertion h
  | pfwRelease => exact follows_pfwRelease h
  | retainedWriteEnd => exact follows_retainedWriteEnd h
  | flowMeterPulse => exact follows_flowMeterPulse h
  | sumpEmptySwitchChange _ => exact follows_sumpEmptySwitchChange h
  | heaterCoverLevelChange _ => exact follows_heaterCoverLevelChange h
  | highLevelSwitchChange _ => exact follows_highLevelSwitchChange h
  | floodSwitchChange _ => exact follows_floodSwitchChange h
  | floodRunOnExpiry => exact follows_floodRunOnExpiry h
  | leakDrainExpiry => exact follows_leakDrainExpiry h
  | drainBurstExpiry => exact follows_drainBurstExpiry h
  | fillLimitExpiry => exact follows_fillLimitExpiry h
  | drainRunOnExpiry => exact follows_drainRunOnExpiry h
  | drainAttemptLimit => exact follows_drainAttemptLimit h
  | drainPauseExpiry => exact follows_drainPauseExpiry h
  | holdTimerExpiry => exact follows_holdTimerExpiry h
  | settlingTimerExpiry => exact follows_settlingTimerExpiry h
  | waterWaitExpiry => exact follows_waterWaitExpiry h
  | drainExtensionExpiry => exact follows_drainExtensionExpiry h
  | saltLidSwitchChange _ => exact follows_saltLidSwitchChange h
  | saltLowSwitchChange _ => exact follows_saltLowSwitchChange h
  | brineStageTimeLimit => exact follows_brineStageTimeLimit h
  | rinseStageTimeLimit => exact follows_rinseStageTimeLimit h
  | regenDwellExpiry => exact follows_regenDwellExpiry h
  | columnValveConfirmation _ => exact follows_columnValveConfirmation h
  | columnValveMoveTimeout => exact follows_columnValveMoveTimeout h
  | gatherWindowExpiry => exact follows_gatherWindowExpiry h
  | selectorPositionReport _ => exact follows_selectorPositionReport h
  | selectorMoveTimeout => exact follows_selectorMoveTimeout h
  | strokeConfirmationPulse => exact follows_strokeConfirmationPulse h
  | strokeTimeout => exact follows_strokeTimeout h
  | lowSwitchChange _ _ => exact follows_lowSwitchChange h
  | capSwitchChange _ _ => exact follows_capSwitchChange h
  | sumpTemperatureChange _ => exact follows_sumpTemperatureChange h
  | sensorIndication _ => exact follows_sensorIndication h
  | sensorRecovery _ => exact follows_sensorRecovery h
  | heatLimitExpiry => exact follows_heatLimitExpiry h
  | pressureSwitchChange _ => exact follows_pressureSwitchChange h
  | lowTimerExpiry => exact follows_lowTimerExpiry h
  | slotTimeExpiry => exact follows_slotTimeExpiry h
  | diverterPositionReport _ => exact follows_diverterPositionReport h
  | diverterMoveTimeout => exact follows_diverterMoveTimeout h
  | armRotationPulse _ => exact follows_armRotationPulse h
  | armTimerExpiry _ => exact follows_armTimerExpiry h
  | doorSwitchChange _ => exact follows_doorSwitchChange h
  | actuatorEncoderEdge _ => exact follows_actuatorEncoderEdge h
  | homeSwitchChange _ => exact follows_homeSwitchChange h
  | stallTimerExpiry => exact follows_stallTimerExpiry h
  | dryingDwellExpiry => exact follows_dryingDwellExpiry h
  | coolWaitExpiry => exact follows_coolWaitExpiry h
  | retryPauseExpiry => exact follows_retryPauseExpiry h
  | openTimeExpiry => exact follows_openTimeExpiry h

theorem rewrites_hostRequest {r : Request} {tag : Byte} {s t : State} (h : hostRequest tag r s = .next t)
    (ha : r ≠ .acknowledgeFault) : Rewrites s t :=
  closed_rewrites.hostRequest (fun _ hu => rewrites_serveOwner ha hu) h

theorem blocks_acknowledgeFault {tag : Byte} {s t : State} (h : execAcknowledgeFault tag s = .next t) : Blocks s t :=
  closed_blocks.hostRequest (r := .acknowledgeFault) (fun u _ => blocks_serveAcknowledge u) h

theorem keeps_frameGood {l : List Byte} {s t : State} (h : execFrameGood l s = .next t) : Keeps s t :=
  Keeps.whenPowered (f := fun s => finish (receiveBytes l s))
    (closed_keeps.aside (keeps_receiveBytes l s) (Aside.refl _).finish) h

theorem keeps_frameBad {l : List Byte} {b : Bool} {s t : State} (h : execFrameBad l b s = .next t) : Keeps s t := by
  have hb := keeps_receiveBytes l s
  have hf : Keeps s (if b then breakFrame (receiveBytes l s) else receiveBytes l s) := by
    split
    · exact hb.trans (follows_breakFrame _).keeps
    · exact hb
  exact Keeps.whenPowered (f := fun s => finish (if b then breakFrame (receiveBytes l s) else receiveBytes l s))
    (closed_keeps.aside hf (Aside.refl _).finish) h

theorem keeps_byteGapTimeout {l : List Byte} {s t : State} (h : execByteGapTimeout l s = .next t) : Keeps s t :=
  Keeps.whenPowered (f := fun s => finish (breakFrame (receiveBytes l s)))
    (closed_keeps.aside ((keeps_receiveBytes l s).trans (follows_breakFrame _).keeps) (Aside.refl _).finish) h

theorem keeps_standbyLinkWake {s t : State} (h : execStandbyLinkWake s = .next t) : Keeps s t :=
  Keeps.whenPowered (f := fun s => finish (receiveByte frameMarker s))
    (closed_keeps.aside (closed_keeps.receiveByte keeps_examine frameMarker s) (Aside.refl _).finish) h

/-- Whatever a command does, what holds of records, program and course is kept. -/
theorem keeps_exec {c : Instr} {s t : State} (h : exec c s = .next t) : Keeps s t := by
  by_cases hw : writesSettings c = false
  · by_cases hf : mayLeaveFaulted c = false
    · exact (follows_exec hw hf h).keeps
    · cases c with
      | acknowledgeFault _ => exact closed_keeps.hostRequest (fun _ hu => keeps_serveOwner hu) h
      | frameGood _ | frameBad _ _ | byteGapTimeout _ | standbyLinkWake | powerOn _ | resetLineAssertion _
      | powerLoss => exact Bool.noConfusion hw
      | _ => exact absurd rfl hf
  · cases c with
    | setConfig _ _ _ | setConfigNominalCapacity _ _ | setConfigSwitchReserve _ _ | setConfigFittedColumns _ _
    | setConfigSilenceLimit _ _ | setNoticeMask _ _ | loadPhase _ _ _ | setPhaseCount _ _ | clearProgram _ =>
      exact (rewrites_hostRequest h nofun).1
    | frameGood l => exact keeps_frameGood h
    | frameBad l b => exact keeps_frameBad h
    | byteGapTimeout l => exact keeps_byteGapTimeout h
    | standbyLinkWake => exact keeps_standbyLinkWake h
    | powerOn pins =>
      cases h
      exact keeps_resetPart pins s
    | resetLineAssertion pins => exact Keeps.whenPowered (keeps_resetPart pins s) h
    | powerLoss => exact Keeps.whenPowered (keeps_losePower s) h
    | _ => exact absurd rfl hw

theorem stays_exec {c : Instr} {s t : State} (hf : mayLeaveFaulted c = false) (h : exec c s = .next t) : Stays s t := by
  by_cases hw : writesSettings c = false
  · exact (follows_exec hw hf h).faulted
  · cases c with
    | setConfig _ _ _ | setConfigNominalCapacity _ _ | setConfigSwitchReserve _ _ | setConfigFittedColumns _ _
    | setConfigSilenceLimit _ _ | setNoticeMask _ _ | loadPhase _ _ _ | setPhaseCount _ _ | clearProgram _ =>
      exact (rewrites_hostRequest h nofun).2
    | frameGood _ | frameBad _ _ | byteGapTimeout _ | standbyLinkWake | powerOn _ | resetLineAssertion _
    | powerLoss => exact Bool.noConfusion hf
    | _ => exact absurd rfl hw

theorem settings_exec {c : Instr} {s t : State} (hw : writesSettings c = false) (h : exec c s = .next t) :
    settings t = settings s := by
  by_cases hf : mayLeaveFaulted c = false
  · exact (follows_exec hw hf h).settings
  · cases c with
    | acknowledgeFault _ => exact (blocks_acknowledgeFault h).settings
    | frameGood _ | frameBad _ _ | byteGapTimeout _ | standbyLinkWake | powerOn _ | resetLineAssertion _
    | powerLoss => exact Bool.noConfusion hw
    | _ => exact absurd rfl hf

/-- A step keeps what its command keeps. -/
theorem keeps_step {s t : State} (h : step s = .next t) : Keeps s t := by
  unfold step at h
  split at h
  · cases h
    exact closed_keeps.refl s
  · next c rest _ =>
    have hk : Keeps s { s with pending := rest } := ⟨id, id, id, id, fun _ => id, id, id, id, fun _ => id⟩
    exact hk.trans (keeps_exec h)

/-- Settles O53, from what each command leaves: `Follows` for those that write nothing, `Rewrites` for those that write. -/
theorem settingsAndFaultedHaveTheirCommands : Obligations.SettingsAndFaultedHaveTheirCommands := by
  intro c s t h
  refine ⟨fun hw => ?_, fun hf => stays_exec hf h⟩
  have hs := settings_exec hw h
  exact ⟨congrArg Settings.cfg hs, congrArg Settings.table hs, congrArg Settings.count hs, congrArg Settings.mask hs⟩

/-- Settles O56, from what every step keeps. -/
theorem recordsAndProgramsAreKept : Obligations.RecordsAndProgramsAreKept := by
  intro s t h
  have k := keeps_step h
  refine ⟨k.config, k.table, k.levels, k.doses, fun hc hp => (k.program ⟨hc, hp⟩).2, k.meter, fun hs => ?_⟩
  obtain ⟨-, -, -, hp, hq, -⟩ := hs
  obtain ⟨ha, hc, hh⟩ := (sequencerKept_iff s).mp hq
  exact (sequencerKept_iff t).mpr ⟨k.agrees ⟨hc, hp⟩ ha, (k.program ⟨hc, hp⟩).1, k.homings hh⟩

end Sys2Proof.Proofs
end

section
/-! PROOFS. The outputs follow their conditions (R29, R46, R137, R147, R153): a settled state has them so, and what a command
does without settling leaves everything they depend on. -/

/- One theorem at a time, as the tests have it: proofs that wait for the kernel cost a thread each. -/
set_option Elab.async false

namespace Sys2Proof.Proofs

open Sys2Proof.Machine
open Sys2Proof.Safety

/-! ## The outputs of a settled state -/

/-- No report stands, and pump, heater, permit and arm timers are what their conditions give. -/
structure Tidy (s : State) : Prop where
  reports : s.reports = []
  pump : s.wpc.drainPump = pumpAsked s.wpc
  heater : s.htc.output = heaterOutput s
  permit : s.seq.permit = permitCondition s
  arm : ∀ a, (armTimer s.czs a).isSome = armSupervised s a

theorem outputsFollow_iff {s : State} (hp : s.part.powered = true) :
    OutputsFollow s ↔ Tidy s ∧ PressureAgrees s.czs := by
  constructor
  · rintro ⟨hr, h⟩
    obtain ⟨h1, h2, h3, h4, h5, h6⟩ := h hp
    exact ⟨⟨hr, h1, h2, h3, fun a => by cases a <;> assumption⟩, h4⟩
  · rintro ⟨h, h4⟩
    exact ⟨h.reports, fun _ => ⟨h.pump, h.heater, h.permit, h4, h.arm .z1, h.arm .z2⟩⟩

/-- From `s` to `t` nothing changes on which an output depends, nor an output, and no report is made. -/
structure Quiet (s t : State) : Prop where
  reports : t.reports = s.reports
  wpc : t.wpc = s.wpc
  htc : t.htc = s.htc
  czs : t.czs = s.czs
  ddu : t.ddu = s.ddu
  part : t.part.state = s.part.state
  state : t.seq.state = s.seq.state
  sub : t.seq.sub = s.seq.sub
  permit : t.seq.permit = s.seq.permit

theorem Quiet.refl (s : State) : Quiet s s := ⟨rfl, rfl, rfl, rfl, rfl, rfl, rfl, rfl, rfl⟩

theorem Quiet.trans {s t u : State} (h : Quiet s t) (k : Quiet t u) : Quiet s u :=
  ⟨k.reports.trans h.reports, k.wpc.trans h.wpc, k.htc.trans h.htc, k.czs.trans h.czs, k.ddu.trans h.ddu,
    k.part.trans h.part, k.state.trans h.state, k.sub.trans h.sub, k.permit.trans h.permit⟩

theorem Quiet.tidy {s t : State} (h : Quiet s t) (hs : Tidy s) : Tidy t where
  reports := h.reports.trans hs.reports
  pump := by rw [h.wpc]; exact hs.pump
  heater := by
    have he : heaterEnabled t = heaterEnabled s := by
      simp only [heaterEnabled, senses, runningIn, h.part, h.state, h.sub, h.htc, h.ddu, h.wpc, h.czs]
    rw [h.htc, hs.heater, heaterOutput, heaterOutput, he, h.htc]
  permit := by
    rw [h.permit, hs.permit]
    simp only [permitCondition, h.state, h.sub, h.wpc]
  arm := fun a => by
    rw [h.czs, hs.arm a]
    simp only [armSupervised, h.czs]

theorem supervise_isSome (b : Bool) (t : Option Nat) : (supervise b t).isSome = b := by cases b <;> rfl

/-- The three last operations of settling give the outputs their values. -/
theorem tidy_outputs {s : State} (hr : s.reports = []) :
    Tidy (refreshArms (refreshHeater (revokeUnlessFlows (refreshPump s)))) := by
  have hp : ∀ u, u = refreshPump s → u.reports = [] ∧ u.wpc.drainPump = pumpAsked u.wpc ∧ u.seq.permit = permitCondition u := by
    rintro u rfl
    exact ⟨hr, rfl, rfl⟩
  have hq : ∀ u : State, u.reports = [] → u.wpc.drainPump = pumpAsked u.wpc → u.seq.permit = permitCondition u →
      Tidy (refreshArms (refreshHeater u)) := fun u h1 h2 h3 =>
    ⟨h1, h2, rfl, h3, fun a => by cases a <;> exact supervise_isSome _ _⟩
  obtain ⟨h1, h2, h3⟩ := hp _ rfl
  unfold revokeUnlessFlows
  split
  · exact hq _ h1 h2 h3
  · unfold revokeRegen
    split
    · exact hq _ h1 h2 h3
    · exact hq _ h1 h2 h3
    · exact hq _ h1 h2 h3
    · exact hq _ h1 h2 h3

theorem takeReports_reports (n : Nat) (s : State) : (takeReports n s).reports = [] := by
  induction n generalizing s with
  | zero => rfl
  | succ n ih =>
    unfold takeReports
    split
    · assumption
    · exact ih _

namespace Quiet

variable {s t a b : State}

theorem ite {c : Prop} [Decidable c] (ha : c → Quiet s a) (hb : ¬ c → Quiet s b) : Quiet s (if c then a else b) := by
  split
  · exact ha ‹_›
  · exact hb ‹_›

theorem onLnk (h : Quiet s t) (f : Lnk → Lnk) : Quiet s (onLnk f t) := h.trans ⟨rfl, rfl, rfl, rfl, rfl, rfl, rfl, rfl, rfl⟩

theorem onRst (h : Quiet s t) (f : Rst → Rst) : Quiet s (onRst f t) := h.trans ⟨rfl, rfl, rfl, rfl, rfl, rfl, rfl, rfl, rfl⟩

theorem onPins (h : Quiet s t) (f : Pins → Pins) : Quiet s (onPins f t) :=
  h.trans ⟨rfl, rfl, rfl, rfl, rfl, rfl, rfl, rfl, rfl⟩

theorem onCfg (h : Quiet s t) (f : ConfigRec → ConfigRec) : Quiet s (onCfg f t) :=
  h.trans ⟨rfl, rfl, rfl, rfl, rfl, rfl, rfl, rfl, rfl⟩

theorem onSfu (h : Quiet s t) (f : Sfu → Sfu) : Quiet s (onSfu f t) := h.trans ⟨rfl, rfl, rfl, rfl, rfl, rfl, rfl, rfl, rfl⟩

theorem onRge (h : Quiet s t) (f : Rge → Rge) : Quiet s (onRge f t) := h.trans ⟨rfl, rfl, rfl, rfl, rfl, rfl, rfl, rfl, rfl⟩

theorem onDsu (h : Quiet s t) (f : Dsu → Dsu) : Quiet s (onDsu f t) := h.trans ⟨rfl, rfl, rfl, rfl, rfl, rfl, rfl, rfl, rfl⟩

theorem onTies (h : Quiet s t) (f : Ties → Ties) : Quiet s (onTies f t) :=
  h.trans ⟨rfl, rfl, rfl, rfl, rfl, rfl, rfl, rfl, rfl⟩

theorem onPart (h : Quiet s t) (f : Part → Part) (hf : (f t.part).state = t.part.state := by rfl) : Quiet s (onPart f t) :=
  h.trans ⟨rfl, rfl, rfl, rfl, rfl, hf, rfl, rfl, rfl⟩

theorem onSeq (h : Quiet s t) (f : Seq → Seq) (h1 : (f t.seq).state = t.seq.state := by rfl)
    (h2 : (f t.seq).sub = t.seq.sub := by rfl) (h3 : (f t.seq).permit = t.seq.permit := by rfl) : Quiet s (onSeq f t) :=
  h.trans ⟨rfl, rfl, rfl, rfl, rfl, rfl, h1, h2, h3⟩

theorem raiseNotice (h : Quiet s t) (c : Content) : Quiet s (raiseNotice c t) := .ite (fun _ => h.onLnk _) fun _ => h

theorem askWrite (h : Quiet s t) (id : RecordId) : Quiet s (askWrite id t) := h.onRst _

theorem askAllWrites (h : Quiet s t) : Quiet s (askAllWrites t) := (((h.askWrite _).askWrite _).askWrite _).askWrite _

theorem finish (h : Quiet s t) : Quiet s (finish t) := by
  have hw : Quiet s (beginWrite t) := by
    unfold beginWrite
    split
    · exact h.onRst _
    · exact h
  simp only [Machine.finish, beginTransmit]
  split
  · exact hw
  · split
    · exact hw.onLnk _
    · exact hw.onLnk _
    · split
      · exact hw
      · exact .ite (fun _ => hw.onLnk _) fun _ => hw

theorem restartSilence (h : Quiet s t) : Quiet s (restartSilence t) := h.onLnk _

theorem lowTest (h : Quiet s t) (ch : Channel) : Quiet s (lowTest ch t) := by
  simp only [Machine.lowTest]
  exact .ite (fun _ => .ite (fun _ => h) fun _ => (h.onDsu _).raiseNotice _) fun _ => h.onDsu _

theorem setLevel (h : Quiet s t) (ch : Channel) (n : Nat) : Quiet s (setLevel ch n t) :=
  .ite (fun _ => h) fun _ => (h.onDsu _).lowTest _

theorem lowSwitchChanged (h : Quiet s t) (ch : Channel) (b : Bool) : Quiet s (lowSwitchChanged ch b t) := by
  have hd := h.onDsu fun d => { d with lowSw := perChannelSet d.lowSw ch b }
  exact .ite (fun _ => h) fun _ => .ite (fun _ => .ite (fun _ => hd.setLevel _ _) fun _ => hd) fun _ => hd

theorem capSwitchChanged (h : Quiet s t) (ch : Channel) (b : Bool) : Quiet s (capSwitchChanged ch b t) := by
  simp only [Machine.capSwitchChanged]
  have hd := h.onDsu fun d => { d with capSw := perChannelSet d.capSw ch b }
  exact .ite (fun _ => h) fun _ => .ite (fun _ => .ite (fun _ => hd.onDsu _) fun _ =>
    (Quiet.ite (fun _ => (hd.onDsu _).askWrite _) fun _ => hd).onDsu _) fun _ => hd

theorem joinQueue (h : Quiet s t) (ch : Channel) (o : Origin) (v n : Nat) : Quiet s (joinQueue ch o v n t) := by
  simp only [Machine.joinQueue]
  exact .ite (fun _ => h.onDsu _) fun _ => h.onDsu _

theorem saltLowChanged (h : Quiet s t) (b : Bool) : Quiet s (saltLowChanged b t) := by
  have hr := h.onRge fun e => { e with saltLow := b }
  refine .ite (fun _ => ?_) fun _ => hr
  unfold markSaltLow
  split
  · exact .ite (fun _ => hr) fun _ => (hr.onRge _).raiseNotice _
  · exact hr

theorem enableLink (h : Quiet s t) : Quiet s (enableLink t) :=
  ((Quiet.ite (fun _ => h.raiseNotice _) fun _ => h).onLnk _).restartSilence

theorem resetLink (h : Quiet s t) : Quiet s (resetLink t) := (h.onLnk _).restartSilence

theorem frameEnds (h : Quiet s t) : Quiet s (frameEnds t) := (h.onLnk _).onTies _

end Quiet

/-! ## Settling -/

theorem stopCirculation_reports (s : State) : (stopCirculation s).reports = s.reports := by
  unfold stopCirculation
  split <;> rfl

theorem raiseNotice_reports (c : Content) (s : State) : (raiseNotice c s).reports = s.reports :=
  ((Quiet.refl s).raiseNotice c).reports

theorem reachReady_reports (s : State) : (reachReady s).reports = s.reports := by
  simp only [reachReady]
  split
  · exact raiseNotice_reports _ _
  · rfl

theorem enterShut_reports (s : State) : (enterShut s).reports = s.reports :=
  (raiseNotice_reports _ _).trans (stopCirculation_reports s)

theorem advanceShutdown_reports (s : State) : (advanceShutdown s).reports = s.reports := by
  simp only [advanceShutdown]
  have he : ∀ (c : Prop) [Decidable c] (u : State), (if c then enterShut u else u).reports = u.reports := fun c _ u => by
    split
    · exact enterShut_reports u
    · rfl
  split
  · rw [he]
    split <;> rfl
  · rfl

theorem tidy_settle (s : State) : Tidy (settle s) := by
  refine tidy_outputs ?_
  rw [advanceShutdown_reports, reachReady_reports, takeReports_reports]

theorem tidy_conclude (s : State) : Tidy (conclude s) := (Quiet.refl _).finish.tidy (tidy_settle s)

theorem tidy_ite {c : Prop} [Decidable c] {a b : State} (ha : c → Tidy a) (hb : ¬ c → Tidy b) :
    Tidy (if c then a else b) := by
  split
  · exact ha ‹_›
  · exact hb ‹_›

end Sys2Proof.Proofs
end

section
/-! PROOFS. Every command leaves the outputs at their conditions (O58): it settles, or it changes nothing they depend on. -/

/- One theorem at a time, as the tests have it: proofs that wait for the kernel cost a thread each. -/
set_option Elab.async false

namespace Sys2Proof.Proofs

open Sys2Proof.Machine
open Sys2Proof.Safety

/-! ## The receiver -/

theorem tidy_settleReports {s : State} (h : s.reports = [] → Tidy s) : Tidy (settleReports s) := by
  unfold settleReports
  split
  · next hr => exact h (List.isEmpty_iff.mp hr)
  · exact tidy_settle s

theorem loseLink_reports (c : LostCause) (s : State) : (loseLink c s).reports = s.reports ++ [.linkLost] := by
  simp only [loseLink, report, Laws.onReports_reports, raiseFault, enterFault, Laws.onLnk_reports, raiseNotice_reports,
    askWrite, Laws.onRst_reports]

theorem tidy_loseLink (c : LostCause) (s : State) : Tidy (settleReports (loseLink c s)) :=
  tidy_settleReports fun h => by simp [loseLink_reports] at h

theorem tidy_followErrors {s : State} (hs : Tidy s) : Tidy (settleReports (followErrors s)) := by
  have hq : ∀ {u : State}, Quiet s u → Tidy (settleReports u) := fun h => tidy_settleReports fun _ => h.tidy hs
  simp only [followErrors]
  split
  · split
    · exact tidy_loseLink _ _
    · exact hq ((Quiet.refl s).onLnk _)
  · exact hq (Quiet.refl s)

theorem tidy_countGood {s : State} (hs : Tidy s) : Tidy (countGood s) := by
  unfold countGood
  exact tidy_followErrors (((Quiet.refl s).onLnk _).tidy hs)

theorem tidy_countBad {s : State} (hs : Tidy s) : Tidy (countBad s) := by
  unfold countBad
  exact tidy_followErrors (((Quiet.refl s).onLnk _).tidy hs)

theorem tidy_badFrame {s : State} (hs : Tidy s) : Tidy (badFrame s) :=
  tidy_countBad (((Quiet.refl s).onLnk _).tidy hs)

theorem tidy_breakFrame {s : State} (hs : Tidy s) : Tidy (breakFrame s) := tidy_ite (fun _ => tidy_badFrame hs) fun _ => hs

theorem tidy_restartSilence {s : State} (hs : Tidy s) : Tidy (restartSilence s) := (Quiet.refl s).restartSilence.tidy hs

theorem tidy_refuseBusy (k tag : Byte) {s : State} (hs : Tidy s) : Tidy (refuseBusy k tag s) := by
  unfold refuseBusy
  split
  · exact tidy_restartSilence (tidy_countGood (((Quiet.refl s).onLnk _).tidy hs))
  · exact tidy_restartSilence (tidy_countBad hs)

theorem tidy_woken {s : State} (hs : Tidy s) : Tidy (if s.part.state = .standby then settle (wake .link s) else s) :=
  tidy_ite (fun _ => tidy_settle _) fun _ => hs

theorem tidy_markerByte {s : State} (hs : Tidy s) : Tidy (markerByte s) := by
  unfold markerByte
  exact ((Quiet.refl _).onLnk _).tidy (tidy_woken hs)

theorem quiet_takeRequest (k tag : Byte) (p : Parsed) (s : State) :
    Quiet (examine p s).state (takeRequest k tag p s) :=
  (Quiet.refl _).onLnk fun l => { l with awaiting := some ⟨k, tag, (examine p s).answer⟩ }

/-! ## The owners' answers -/

theorem tidy_enterStandby {s : State} (hs : Tidy s) : Tidy (enterStandby s) where
  reports := hs.reports
  pump := hs.pump
  heater := rfl
  permit := hs.permit
  arm := fun a => hs.arm a

theorem tidy_storeParam {id : Nat} (ha : paramActs id = false) (v : Nat) {s : State} (hs : Tidy s) :
    Tidy (storeParam id v s) := by
  have hq : ∀ old u, paramChanged id old u = u := fun old u => by
    unfold paramChanged
    split
    case h_5 => rfl
    all_goals simp [paramActs] at ha
  unfold storeParam
  simp only [hq]
  exact (((Quiet.refl s).onCfg _).askWrite _).tidy hs

theorem tidy_afterEdit {s : State} (hs : Tidy s) : Tidy (afterEdit s) := tidy_ite (fun _ => tidy_settle _) fun _ => hs

theorem tidy_served {c : Prop} [Decidable c] {a b : Served} (ha : c → Tidy a.state) (hb : ¬ c → Tidy b.state) :
    Tidy (if c then a else b).state := by
  split
  · exact ha ‹_›
  · exact hb ‹_›

theorem tidy_serveLinkEnable {s : State} (hs : Tidy s) : Tidy (serveLinkEnable s).state := by
  simp only [serveLinkEnable]
  exact tidy_served (fun _ => tidy_settle _) fun _ => (Quiet.refl s).enableLink.tidy hs

theorem tidy_serveSetConfig (i : Byte) (v : Word) {s : State} (hs : Tidy s) : Tidy (serveSetConfig i v s).state := by
  simp only [serveSetConfig]
  split
  · exact hs
  · exact tidy_served (fun _ => hs) fun _ => tidy_served (fun _ => hs) fun _ => tidy_served (fun _ => hs) fun _ =>
      tidy_served (fun _ => tidy_settle _) fun ha => tidy_storeParam (by simpa using ha) _ hs

theorem tidy_serveSetMask (m : Triple) {s : State} (hs : Tidy s) : Tidy (serveSetMask m s).state :=
  ((Quiet.refl s).onLnk fun l => { l with
    mask := storedMask m, notices := s.lnk.notices.filter fun n => noticeEnabled (storedMask m) (noticeCode n.content) }).tidy
    hs

theorem tidy_serveShutdown (m : Byte) {s : State} (hs : Tidy s) : Tidy (serveShutdown m s).state := by
  unfold serveShutdown
  split
  · exact tidy_served (fun _ => hs) fun _ => tidy_settle _
  · exact tidy_settle _
  · exact hs

theorem tidy_serveResetUnit (u : Byte) {s : State} (hs : Tidy s) : Tidy (serveResetUnit u s).state := by
  unfold serveResetUnit
  split
  · exact hs
  · exact tidy_settle _
  · exact tidy_settle _
  · exact tidy_settle _
  · exact tidy_settle _
  · exact (Quiet.refl s).resetLink.tidy hs

theorem tidy_serveAcknowledge {s : State} (hs : Tidy s) : Tidy (serveAcknowledge s).state :=
  tidy_served (fun _ => tidy_served (fun _ => hs) fun _ => tidy_served (fun _ => tidy_settle _) fun _ =>
    tidy_served (fun _ => hs) fun _ => tidy_settle _) fun _ => hs

theorem tidy_onSeq {s : State} (hs : Tidy s) (f : Seq → Seq) (h1 : (f s.seq).state = s.seq.state := by rfl)
    (h2 : (f s.seq).sub = s.seq.sub := by rfl) (h3 : (f s.seq).permit = s.seq.permit := by rfl) : Tidy (onSeq f s) :=
  ((Quiet.refl s).onSeq f h1 h2 h3).tidy hs

theorem tidy_serveLoadPhase (i : Byte) (p : PhasePayload) {s : State} (hs : Tidy s) :
    Tidy (serveLoadPhase i p s).state := by
  simp only [serveLoadPhase]
  refine tidy_served (fun _ => hs) fun _ => tidy_served (fun _ => hs) fun _ => ?_
  split
  · exact hs
  · exact hs
  · exact tidy_served (fun _ => hs) fun _ => tidy_afterEdit (tidy_onSeq hs _)

theorem tidy_serveSetCount (c : Byte) {s : State} (hs : Tidy s) : Tidy (serveSetCount c s).state := by
  have hw : Tidy (writeCount c.toNat s) := tidy_onSeq hs _
  simp only [serveSetCount]
  refine tidy_served (fun _ => hs) fun _ => tidy_served (fun _ => hs) fun _ => tidy_served (fun _ =>
    tidy_served (fun _ => hs) fun _ => ?_) fun _ => hw
  split
  · exact hs
  · exact tidy_afterEdit hw

theorem tidy_serveClearProgram {s : State} (hs : Tidy s) : Tidy (serveClearProgram s).state :=
  tidy_served (fun _ => tidy_onSeq hs fun q => { q with table := Vector.replicate 12 none, count := 0 }) fun _ => hs

theorem tidy_serveStart {s : State} (hs : Tidy s) : Tidy (serveStart s).state := by
  refine tidy_served (fun _ => ?_) fun _ => hs
  split
  · exact hs
  · exact tidy_settle _

theorem tidy_setHold {s : State} (hs : Tidy s) (b : Bool) : Tidy (onSeq (fun q => { q with holdPending := b }) s) :=
  tidy_onSeq hs _

theorem tidy_serveHold {s : State} (hs : Tidy s) : Tidy (serveHold s).state := by
  unfold serveHold
  split
  case h_1 | h_2 | h_3 => exact tidy_setHold hs _
  all_goals exact hs

theorem tidy_serveContinue {s : State} (hs : Tidy s) : Tidy (serveContinue s).state := by
  unfold serveContinue
  split
  case h_1 => exact tidy_settle _
  case h_2 | h_3 | h_4 => exact tidy_served (fun _ => tidy_setHold hs _) fun _ => hs
  all_goals exact hs

theorem tidy_serveRegenerate (c : Byte) {s : State} (hs : Tidy s) : Tidy (serveRegenerate c s).state := by
  unfold serveRegenerate
  split
  · exact hs
  · split
    · exact tidy_settle _
    · exact tidy_served (fun _ => hs) fun _ => tidy_settle _
    all_goals exact hs

theorem tidy_serveRetire (c : Byte) {s : State} (hs : Tidy s) : Tidy (serveRetire c s).state := by
  unfold serveRetire
  split
  · exact hs
  · split
    case h_6 => exact hs
    all_goals exact tidy_settle _

theorem tidy_serveRestore (c : Byte) {s : State} (hs : Tidy s) : Tidy (serveRestore c s).state := by
  unfold serveRestore
  split
  · exact hs
  · split
    case h_1 | h_2 => exact tidy_settle _
    all_goals exact hs

theorem tidy_serveSetLevel (c : Byte) (l : Half) {s : State} (hs : Tidy s) : Tidy (serveSetLevel c l s).state := by
  unfold serveSetLevel
  split
  · exact hs
  · exact tidy_served (fun _ => (((Quiet.refl s).setLevel _ _).askWrite _).tidy hs) fun _ => hs

theorem tidy_servePrime (c n : Byte) {s : State} (hs : Tidy s) : Tidy (servePrime c n s).state := by
  unfold servePrime
  split
  · exact hs
  · exact tidy_served (fun _ => hs) fun _ => tidy_served (fun _ => hs) fun _ => tidy_served (fun _ => hs) fun _ =>
      tidy_served (fun _ => hs) fun _ => ((Quiet.refl s).joinQueue _ _ _ _).tidy hs

theorem tidy_serveOwner (r : Request) {s : State} (hs : Tidy s) : Tidy (serveOwner r s).state := by
  unfold serveOwner
  cases r with
  | identify => exact hs
  | linkEnable => exact tidy_serveLinkEnable hs
  | getStatus => exact hs
  | setConfig i v => exact tidy_serveSetConfig i v hs
  | getConfig i => simp only [serveGetConfig]; split <;> exact hs
  | setNoticeMask m => exact tidy_serveSetMask m hs
  | standby => exact tidy_served (fun _ => tidy_enterStandby hs) fun _ => hs
  | shutdown m => exact tidy_serveShutdown m hs
  | resetUnit u => exact tidy_serveResetUnit u hs
  | readFaultHistory => exact hs
  | acknowledgeFault => exact tidy_serveAcknowledge hs
  | loadPhase i p => exact tidy_serveLoadPhase i p hs
  | readPhase i => exact tidy_served (fun _ => hs) fun _ => hs
  | setPhaseCount n => exact tidy_serveSetCount n hs
  | clearProgram => exact tidy_serveClearProgram hs
  | startProgram => exact tidy_serveStart hs
  | hold => exact tidy_serveHold hs
  | continueProgram => exact tidy_serveContinue hs
  | abortProgram => exact tidy_served (fun _ => tidy_settle _) fun _ => hs
  | readColumn c => simp only [serveReadColumn]; split <;> exact hs
  | regenerate c => exact tidy_serveRegenerate c hs
  | retireColumn c => exact tidy_serveRetire c hs
  | restoreColumn c => exact tidy_serveRestore c hs
  | readReservoir c => simp only [serveReadReservoir]; split <;> exact hs
  | setReservoirLevel c l => exact tidy_serveSetLevel c l hs
  | primeChannel c n => exact tidy_servePrime c n hs

theorem tidy_examine (p : Parsed) {s : State} (hs : Tidy s) : Tidy (examine p s).state := by
  cases p with
  | unknownKind => exact hs
  | badLength => exact hs
  | request r => exact tidy_served (fun _ => hs) fun _ => tidy_served (fun _ => hs) fun _ => tidy_serveOwner r hs

/-! ## Frames and bytes -/

theorem tidy_goodFrame (k tag : Byte) (p : Parsed) {s : State} (hs : Tidy s) : Tidy (goodFrame k tag p s) := by
  have hf := (Quiet.refl s).frameEnds.tidy hs
  simp only [goodFrame]
  exact tidy_ite (fun _ => tidy_restartSilence (tidy_countGood hf)) fun _ => tidy_ite (fun _ => tidy_refuseBusy _ _ hf)
    fun _ => tidy_restartSilence ((quiet_takeRequest _ _ _ _).tidy (tidy_examine p (tidy_countGood hf)))

theorem tidy_receiveByte (b : Byte) {s : State} (hs : Tidy s) : Tidy (receiveByte b s) := by
  simp only [receiveByte]
  refine tidy_ite (fun _ => ?_) fun _ => tidy_ite (fun _ => tidy_markerByte hs) fun _ => hs
  split
  · exact ((Quiet.refl s).onLnk _).tidy hs
  · exact tidy_badFrame hs
  · exact tidy_goodFrame _ _ _ hs

theorem tidy_receiveBytes (l : List Byte) {s : State} (hs : Tidy s) : Tidy (receiveBytes l s) := by
  induction l generalizing s with
  | nil => exact hs
  | cons b l ih => exact ih (tidy_receiveByte b hs)

theorem tidy_finish {s : State} (hs : Tidy s) : Tidy (finish s) := (Quiet.refl s).finish.tidy hs

theorem tidy_transmitEnds {s : State} (hs : Tidy s) : Tidy (transmitEnds s) := by
  unfold transmitEnds
  split
  · exact hs
  all_goals exact ((Quiet.refl s).onLnk _).tidy hs

theorem tidy_silenceExpires {s : State} (hs : Tidy s) : Tidy (silenceExpires s) := by
  unfold silenceExpires
  split
  · exact tidy_ite (fun _ => tidy_loseLink _ _) fun _ => hs
  · exact hs

/-! ## The seconds -/

theorem drainAsks_tick (d : Option SeqDrain) : drainAsks (d.map tickDrain) = drainAsks d := by
  rcases d with - | ⟨st, b⟩
  · rfl
  · cases st <;> rfl

theorem burstRuns_tick (b : Option Burst) : burstRuns (b.map tickBurst) = burstRuns b := by
  rcases b with - | b
  · rfl
  · cases b <;> rfl

theorem pumpAsked_tick (c : ConfigRec) (w : Wpc) : pumpAsked (tickWpc c w) = pumpAsked w := by
  simp [pumpAsked, tickWpc, drainAsks_tick, burstRuns_tick]

theorem tickHtc_heater (h : Htc) : (tickHtc h).output = h.output ∧ (tickHtc h).request = h.request
    ∧ (tickHtc h).valid = h.valid ∧ (tickHtc h).lockout = h.lockout ∧ (tickHtc h).phaseDisable = h.phaseDisable
    ∧ (tickHtc h).programDisable = h.programDisable ∧ (tickHtc h).demand = h.demand ∧ (tickHtc h).half = h.half := by
  unfold tickHtc
  split
  · split
    · exact ⟨rfl, rfl, rfl, rfl, rfl, rfl, rfl, rfl⟩
    · exact ⟨rfl, rfl, rfl, rfl, rfl, rfl, rfl, rfl⟩
  · exact ⟨rfl, rfl, rfl, rfl, rfl, rfl, rfl, rfl⟩

theorem armSupervised_congr {s t : State} {a : Arm} (h1 : t.czs.pump = s.czs.pump) (h2 : t.czs.position = s.czs.position)
    (h3 : t.czs.move.isNone = s.czs.move.isNone) (h4 : t.czs.weights = s.czs.weights)
    (h5 : t.czs.confirmed = s.czs.confirmed) : armSupervised t a = armSupervised s a := by
  simp only [armSupervised, h1, h2, h3, h4, h5]

theorem tidy_tick (a : Ambient) {s : State} (hs : Tidy s) : Tidy (tick a s) where
  reports := hs.reports
  pump := hs.pump.trans (pumpAsked_tick s.cfg s.wpc).symm
  heater := by
    obtain ⟨h1, h2, h3, h4, h5, h6, h7, h8⟩ := tickHtc_heater s.htc
    have he : heaterEnabled (tick a s) = heaterEnabled s := by
      simp only [heaterEnabled, senses, runningIn, tick, tickSeq, tickWpc, tickDdu, tickCzs, h2, h3, h4, h5, h6]
    have ho : (tick a s).htc = tickHtc s.htc := rfl
    rw [heaterOutput, he, ho, h1, h7, h8]
    exact hs.heater
  permit := hs.permit
  arm := fun arm => by
    have he : armSupervised (tick a s) arm = armSupervised s arm :=
      armSupervised_congr rfl rfl (by simp [tick, tickCzs]) rfl rfl
    rw [he, ← hs.arm arm]
    cases arm <;> simp [armTimer, tick, tickCzs]

/-! ## Events that do not settle -/

theorem tidy_armPulsed {arm : Arm} {s : State} (hs : Tidy s) (ha : armSupervised s arm = true) : Tidy (armPulsed arm s) where
  reports := hs.reports
  pump := hs.pump
  heater := by cases arm <;> exact hs.heater
  permit := hs.permit
  arm := fun a => by
    have h := hs.arm a
    cases arm <;> cases a <;> first | exact ha.symm | exact h

theorem tidy_slotTime {s : State} (hs : Tidy s) : Tidy (onCzs (fun z => { z with slotTime := z.slotLength }) s) :=
  ⟨hs.reports, hs.pump, hs.heater, hs.permit, fun a => by
    have he : armSupervised (onCzs (fun z => { z with slotTime := z.slotLength }) s) a = armSupervised s a :=
      armSupervised_congr rfl rfl rfl rfl rfl
    rw [he, ← hs.arm a]
    cases a <;> rfl⟩

theorem tidy_concludeFill (s u : State) : Tidy (concludeFill s u) :=
  tidy_ite (fun _ => ((Quiet.refl _).onTies _).tidy (tidy_conclude u)) fun _ => tidy_conclude u

theorem tidy_concludeSelector (p : Channel) (s : State) : Tidy (concludeSelector p s) :=
  tidy_ite (fun _ => ((Quiet.refl _).onTies _).tidy (tidy_conclude _)) fun _ => tidy_conclude _

theorem tidy_concludeDiverter (z : Zone) (s : State) : Tidy (concludeDiverter z s) :=
  tidy_ite (fun _ => ((Quiet.refl _).onTies _).tidy (tidy_conclude _)) fun _ => tidy_conclude _

theorem tidy_sensed {c : Prop} [Decidable c] {f : Pins → Pins} {s a : State} (hs : Tidy s) (h : Tidy (onPins f s) → Tidy a) :
    Tidy (if c then a else onPins f s) :=
  have hp := ((Quiet.refl s).onPins f).tidy hs
  tidy_ite (fun _ => h hp) fun _ => hp

end Sys2Proof.Proofs
end

section
/-! PROOFS. The outputs after every command, and their conditions spelled out (O58). -/

/- One theorem at a time, as the tests have it: proofs that wait for the kernel cost a thread each. -/
set_option Elab.async false

namespace Sys2Proof.Proofs

open Sys2Proof.Machine
open Sys2Proof.Safety

/-! ## Every command -/

theorem tidy_whenPowered {f : State → State} {s t : State} (h : whenPowered f s = .next t) (hs : Tidy s)
    (hf : Tidy (f s)) : Tidy t := by
  simp only [Machine.whenPowered, Host.Outcome.next.injEq] at h
  rw [← h]
  exact tidy_ite (fun _ => hf) fun _ => hs

theorem tidy_hostRequest {r : Request} {tag : Byte} {s t : State} (h : hostRequest tag r s = .next t) (hs : Tidy s) :
    Tidy t :=
  tidy_whenPowered h hs (tidy_finish (tidy_goodFrame _ _ _ (tidy_woken hs)))

theorem tidy_ite_self {c : Prop} [Decidable c] {s a : State} (hs : Tidy s) (h : c → Tidy a) : Tidy (if c then a else s) :=
  tidy_ite h fun _ => hs

/-- A command on a part with power, but for power and reset, leaves the outputs at their conditions. -/
theorem tidy_exec {c : Instr} {s t : State} (h : exec c s = .next t) (hs : Tidy s)
    (hp : c ≠ .powerLoss ∧ ∀ p, c ≠ .powerOn p ∧ c ≠ .resetLineAssertion p) : Tidy t := by
  unfold exec at h
  cases c with
  | identify _ | linkEnable _ | getStatus _ | setConfig _ _ _ | setConfigNominalCapacity _ _
  | setConfigSwitchReserve _ _ | setConfigFittedColumns _ _ | setConfigSilenceLimit _ _ | getConfig _ _
  | setNoticeMask _ _ | standby _ | shutdownNormal _ | shutdownAbrupt _ | resetUnitSequencer _ | resetUnitSoftener _
  | resetUnitDosing _ | resetUnitDoor _ | resetUnitLink _ | readFaultHistory _ | acknowledgeFault _ | loadPhase _ _ _
  | readPhase _ _ | setPhaseCount _ _ | clearProgram _ | startProgram _ | hold _ | continueProgram _ | abortProgram _
  | readColumn _ _ | regenerate _ _ | retireColumn _ _ | restoreColumn _ _ | readReservoir _ _ | setReservoirLevel _ _ _
  | primeChannel _ _ _ => exact tidy_hostRequest h hs
  | frameGood l => exact tidy_whenPowered h hs (tidy_finish (tidy_receiveBytes l hs))
  | frameBad l b =>
    exact tidy_whenPowered h hs (tidy_finish (tidy_ite (fun _ => tidy_breakFrame (tidy_receiveBytes l hs)) fun _ =>
      tidy_receiveBytes l hs))
  | byteGapTimeout l => exact tidy_whenPowered h hs (tidy_finish (tidy_breakFrame (tidy_receiveBytes l hs)))
  | frameTransmitEnd => exact tidy_whenPowered h hs (tidy_finish (tidy_transmitEnds hs))
  | silenceTimeout => exact tidy_whenPowered h hs (tidy_finish (tidy_silenceExpires hs))
  | timeStampTick a => exact tidy_whenPowered h hs (tidy_tick a hs)
  | standbyLinkWake => exact tidy_whenPowered h hs (tidy_finish (tidy_receiveByte _ hs))
  | powerLoss => exact absurd rfl hp.1
  | powerOn p => exact absurd rfl (hp.2 p).1
  | resetLineAssertion p => exact absurd rfl (hp.2 p).2
  | pfwAssertion =>
    exact tidy_whenPowered h hs (tidy_ite (fun _ => hs) fun _ =>
      (((Quiet.refl s).onPart fun p => { p with pfw := true }).onPins fun p =>
        { p with pfw := true }).askAllWrites.finish.tidy hs)
  | pfwRelease => exact tidy_whenPowered h hs (((Quiet.refl s).onPart _).onPins _ |>.tidy hs)
  | retainedWriteEnd =>
    exact tidy_whenPowered h hs (tidy_ite (fun _ => tidy_conclude _) fun _ => ((Quiet.refl s).onRst _).finish.tidy hs)
  | flowMeterPulse => exact tidy_whenPowered h hs (tidy_ite_self hs fun _ => tidy_concludeFill _ _)
  | sumpEmptySwitchChange _ | heaterCoverLevelChange _ | saltLidSwitchChange _ | sumpTemperatureChange _
  | sensorIndication _ | sensorRecovery _ | pressureSwitchChange _ | doorSwitchChange _ | homeSwitchChange _ =>
    exact tidy_whenPowered h hs (tidy_sensed hs fun _ => tidy_conclude _)
  | highLevelSwitchChange _ => exact tidy_whenPowered h hs (tidy_sensed hs fun _ => tidy_concludeFill _ _)
  | floodSwitchChange _ =>
    exact tidy_whenPowered h hs (tidy_ite (fun _ => ((Quiet.refl s).onPins _).tidy hs) fun _ => tidy_conclude _)
  | saltLowSwitchChange _ =>
    exact tidy_whenPowered h hs (tidy_sensed hs fun hq => ((Quiet.refl _).saltLowChanged _).finish.tidy hq)
  | lowSwitchChange _ _ =>
    exact tidy_whenPowered h hs (tidy_sensed hs fun hq => ((Quiet.refl _).lowSwitchChanged _ _).finish.tidy hq)
  | capSwitchChange _ _ =>
    exact tidy_whenPowered h hs (tidy_ite (fun _ => tidy_conclude _) fun _ => tidy_sensed hs fun hq =>
      ((Quiet.refl _).capSwitchChanged _ _).finish.tidy hq)
  | settlingTimerExpiry | drainExtensionExpiry | regenDwellExpiry | gatherWindowExpiry | lowTimerExpiry
  | armTimerExpiry _ | dryingDwellExpiry | coolWaitExpiry | retryPauseExpiry | openTimeExpiry =>
    exact tidy_whenPowered h hs (tidy_ite_self hs fun _ => tidy_conclude _)
  | selectorPositionReport _ => exact tidy_whenPowered h hs (tidy_ite_self hs fun _ => tidy_concludeSelector _ _)
  | diverterPositionReport _ => exact tidy_whenPowered h hs (tidy_ite_self hs fun _ => tidy_concludeDiverter _ _)
  | slotTimeExpiry =>
    exact tidy_whenPowered h hs (tidy_ite (fun _ => tidy_conclude _) fun _ => tidy_ite_self hs fun _ => tidy_slotTime hs)
  | armRotationPulse _ => exact tidy_whenPowered h hs (tidy_ite_self hs fun ha => tidy_armPulsed hs ha)
  | actuatorEncoderEdge _ =>
    exact tidy_whenPowered h hs (tidy_ite_self hs fun _ => ((Quiet.refl _).onTies _).tidy (tidy_conclude _))
  | stallTimerExpiry =>
    exact tidy_whenPowered h hs (tidy_ite (fun _ => ((Quiet.refl s).onTies _).tidy hs) fun _ =>
      tidy_ite_self hs fun _ => tidy_conclude _)
  | floodRunOnExpiry | leakDrainExpiry | drainBurstExpiry | drainRunOnExpiry | drainPauseExpiry | brineStageTimeLimit
  | rinseStageTimeLimit | strokeConfirmationPulse | strokeTimeout =>
    refine tidy_whenPowered h hs ?_
    split
    · exact tidy_conclude _
    · exact hs
  | fillLimitExpiry | columnValveMoveTimeout | selectorMoveTimeout | diverterMoveTimeout =>
    refine tidy_whenPowered h hs ?_
    split
    · exact tidy_ite (fun _ => hs) fun _ => tidy_conclude _
    · exact hs
  | holdTimerExpiry | waterWaitExpiry | heatLimitExpiry =>
    refine tidy_whenPowered h hs ?_
    split
    · exact tidy_ite_self hs fun _ => tidy_conclude _
    · exact hs
  | drainAttemptLimit =>
    refine tidy_whenPowered h hs ?_
    split
    · exact tidy_conclude _
    · exact tidy_conclude _
    · exact hs
  | columnValveConfirmation _ =>
    refine tidy_whenPowered h hs (tidy_ite_self hs fun _ => ?_)
    split
    · exact tidy_ite_self hs fun _ => ((Quiet.refl _).onTies _).tidy (tidy_conclude _)
    · exact tidy_ite_self hs fun _ => ((Quiet.refl s).onSfu _).tidy hs

/-! ## Power and reset -/

theorem outputsFollow_resetPart (pins : Pins) (s : State) : OutputsFollow (resetPart pins s) := by
  have ht : Tidy (resetPart pins s) := tidy_conclude _
  have hk : PressureAgrees (resetPart pins s).czs := (resetPart_from_fresh pins s).pressure rfl
  exact ⟨ht.reports, fun hp => ((outputsFollow_iff hp).mpr ⟨ht, hk⟩).2 hp⟩

theorem outputsFollow_losePower (s : State) : OutputsFollow (losePower s) := ⟨rfl, fun h => Bool.noConfusion h⟩

theorem whenPowered_unpowered {f : State → State} {s t : State} (hp : s.part.powered = false)
    (h : whenPowered f s = .next t) : t = s := by
  simpa [whenPowered, hp] using h.symm

theorem hostRequest_unpowered {r : Request} {tag : Byte} {s t : State} (hp : s.part.powered = false)
    (h : hostRequest tag r s = .next t) : t = s :=
  whenPowered_unpowered hp h

/-- A part without power does nothing but take power (R202). -/
theorem exec_unpowered {c : Instr} {s t : State} (hp : s.part.powered = false) (h : exec c s = .next t)
    (hc : ∀ p, c ≠ .powerOn p) : t = s := by
  unfold exec at h
  cases c with
  | powerOn p => exact absurd rfl (hc p)
  | identify _ | linkEnable _ | getStatus _ | setConfig _ _ _ | setConfigNominalCapacity _ _
  | setConfigSwitchReserve _ _ | setConfigFittedColumns _ _ | setConfigSilenceLimit _ _ | getConfig _ _
  | setNoticeMask _ _ | standby _ | shutdownNormal _ | shutdownAbrupt _ | resetUnitSequencer _ | resetUnitSoftener _
  | resetUnitDosing _ | resetUnitDoor _ | resetUnitLink _ | readFaultHistory _ | acknowledgeFault _ | loadPhase _ _ _
  | readPhase _ _ | setPhaseCount _ _ | clearProgram _ | startProgram _ | hold _ | continueProgram _ | abortProgram _
  | readColumn _ _ | regenerate _ _ | retireColumn _ _ | restoreColumn _ _ | readReservoir _ _ | setReservoirLevel _ _ _
  | primeChannel _ _ _ => exact hostRequest_unpowered hp h
  | _ => exact whenPowered_unpowered hp h

theorem outputsFollow_exec {c : Instr} {s t : State} (h : exec c s = .next t) (hs : OutputsFollow s) :
    OutputsFollow t := by
  by_cases hp : s.part.powered = true
  · by_cases hc : c ≠ .powerLoss ∧ ∀ p, c ≠ .powerOn p ∧ c ≠ .resetLineAssertion p
    · obtain ⟨ht, hz⟩ := (outputsFollow_iff hp).mp hs
      have ht := tidy_exec h ht hc
      exact ⟨ht.reports, fun hq => ((outputsFollow_iff hq).mpr ⟨ht, (keeps_exec h).pressure hz⟩).2 hq⟩
    · cases c with
      | powerLoss =>
        cases h
        rw [if_pos hp]
        exact outputsFollow_losePower s
      | powerOn pins =>
        cases h
        exact outputsFollow_resetPart pins s
      | resetLineAssertion pins =>
        cases h
        rw [if_pos hp]
        exact outputsFollow_resetPart pins s
      | _ => exact absurd ⟨nofun, fun _ => ⟨nofun, nofun⟩⟩ hc
  · by_cases hc : ∀ p, c ≠ .powerOn p
    · rw [exec_unpowered (by simpa using hp) h hc]
      exact hs
    · obtain ⟨pins, hc⟩ := not_forall.mp hc
      obtain rfl := not_not.mp hc
      cases h
      exact outputsFollow_resetPart pins s

/-! ## The conditions as the manual lists them -/

theorem permitCondition_iff (s : State) : permitCondition s = true ↔
    (s.seq.state = .running ∧ s.seq.sub = .drain ∧ s.wpc.drainPump = true)
      ∨ ((s.seq.state = .idle ∨ s.seq.state = .ended ∨ s.seq.state = .holding ∨ s.seq.state = .faulted)
          ∧ s.wpc.sumpEmpty = true)
      ∨ (s.seq.state = .running ∧ s.seq.sub = .dry ∧ s.wpc.sumpEmpty = true) := by
  unfold permitCondition
  cases s.seq.state <;> simp

theorem drainAsks_iff (o : Option SeqDrain) : drainAsks o = true ↔
    ∃ d, o = some d ∧ ((∃ n, d.stage = .pumping n) ∨ (∃ n, d.stage = .runOn n) ∨ d.stage = .kept) := by
  rcases o with - | ⟨st, b⟩
  · simp [drainAsks]
  · cases st <;> simp [drainAsks]

theorem burstRuns_iff (o : Option Burst) : burstRuns o = true ↔ ∃ n, o = some (.running n) := by
  rcases o with - | b
  · simp [burstRuns]
  · cases b <;> simp [burstRuns]

theorem floodReq_isSome_iff (o : Option FloodReq) : o.isSome = true ↔ o = some .active ∨ ∃ n, o = some (.runOn n) := by
  rcases o with - | f
  · simp
  · cases f <;> simp

theorem pumpAsked_iff (w : Wpc) : pumpAsked w = true ↔
    (∃ d, w.seqDrain = some d ∧ ((∃ n, d.stage = .pumping n) ∨ (∃ n, d.stage = .runOn n) ∨ d.stage = .kept))
      ∨ (∃ n, w.burst = some (.running n)) ∨ w.leak.isSome = true
      ∨ w.floodReq = some .active ∨ (∃ n, w.floodReq = some (.runOn n)) := by
  simp only [pumpAsked, Bool.or_eq_true, drainAsks_iff, burstRuns_iff, floodReq_isSome_iff, or_assoc]

theorem senses_iff (s : State) : senses s = true ↔
    s.part.state = .starting ∨ s.part.state = .ready ∨ s.part.state = .shuttingDown := by
  unfold senses
  cases s.part.state <;> simp

theorem heaterOutput_iff (s : State) : heaterOutput s = if
    (s.part.state = .starting ∨ s.part.state = .ready ∨ s.part.state = .shuttingDown)
      ∧ s.seq.state = .running ∧ (s.seq.sub = .heat ∨ s.seq.sub = .circulate) ∧ s.htc.request.isSome = true
      ∧ s.ddu.doorOpen = false ∧ s.wpc.heaterCover = true ∧ s.czs.confirmed = true ∧ s.htc.valid = true
      ∧ s.htc.lockout = false ∧ s.htc.programDisable = false ∧ s.htc.phaseDisable = false ∧ s.htc.demand = true
    then (if s.htc.half then .half else .full) else .off := by
  unfold heaterOutput
  refine if_congr ?_ rfl rfl
  simp only [heaterEnabled, Bool.and_eq_true, Bool.or_eq_true, Bool.not_eq_true', senses_iff, runningIn_iff]
  tauto

theorem armSupervised_iff (arm : Arm) (s : State) : armSupervised s arm = true ↔
    s.czs.pump = true ∧ s.czs.position = some (match arm with | .z1 => .z1 | .z2 => .z2) ∧ s.czs.move = none
      ∧ 0 < (match arm with | .z1 => s.czs.weights.z1 | .z2 => s.czs.weights.z2) ∧ s.czs.confirmed = true := by
  simp only [armSupervised, Bool.and_eq_true, decide_eq_true_eq, beq_iff_eq, Option.isNone_iff_eq_none, and_assoc]
  cases arm <;> exact Iff.rfl

/-- Settles O58: a settled state has its outputs at their conditions, and the other commands leave what these depend on. -/
theorem outputsFollowTheirConditions : Obligations.OutputsFollowTheirConditions := by
  refine ⟨fun s t hs h => ?_, fun arm s =>
    ⟨permitCondition_iff s, pumpAsked_iff s.wpc, heaterOutput_iff s, armSupervised_iff arm s⟩⟩
  unfold step at h
  split at h
  · cases h
    exact hs
  · exact outputsFollow_exec h hs

end Sys2Proof.Proofs
end

section
/-! PROOFS. A request's way to its answer (R177, R178): the state in which its owner meets it, and what a reply without an
action is. The reading requests (O13) and ACKNOWLEDGE FAULT (O26). -/

/- One theorem at a time, as the tests have it: proofs that wait for the kernel cost a thread each. -/
set_option Elab.async false

namespace Sys2Proof.Proofs

open Sys2Proof.Machine
open Sys2Proof.Safety

/-! ## The state in which the owner meets a request -/

/-- A good frame has ended and is counted; the silence timer is not yet restarted (R176, R180, R181). -/
def counted (s : State) : State :=
  onTies (fun x => { x with silence := s.lnk.silence.isSome }) <| onLnk (fun l => { l with
    assembling := false
    assembly := []
    errors := l.errors - 1
    state := if linkSends s then (if Config.degradedCount ≤ l.errors - 1 then .degraded else .up) else l.state }) s

section
variable (s : State)

@[simp] theorem counted_part : (counted s).part = s.part := rfl
@[simp] theorem counted_pins : (counted s).pins = s.pins := rfl
@[simp] theorem counted_cfg : (counted s).cfg = s.cfg := rfl
@[simp] theorem counted_seq : (counted s).seq = s.seq := rfl
@[simp] theorem counted_wpc : (counted s).wpc = s.wpc := rfl
@[simp] theorem counted_sfu : (counted s).sfu = s.sfu := rfl
@[simp] theorem counted_rge : (counted s).rge = s.rge := rfl
@[simp] theorem counted_dsu : (counted s).dsu = s.dsu := rfl
@[simp] theorem counted_htc : (counted s).htc = s.htc := rfl
@[simp] theorem counted_czs : (counted s).czs = s.czs := rfl
@[simp] theorem counted_ddu : (counted s).ddu = s.ddu := rfl
@[simp] theorem counted_rst : (counted s).rst = s.rst := rfl
@[simp] theorem counted_reports : (counted s).reports = s.reports := rfl
@[simp] theorem counted_mask : (counted s).lnk.mask = s.lnk.mask := rfl
@[simp] theorem counted_stamp : (counted s).lnk.stamp = s.lnk.stamp := rfl
@[simp] theorem counted_notices : (counted s).lnk.notices = s.lnk.notices := rfl
@[simp] theorem counted_tx : (counted s).lnk.tx = s.lnk.tx := rfl

end

theorem hears_of_listens {s : State} (h : Listens s) : Hears s := by
  obtain ⟨⟨h1, h2, h3⟩, h4, h5, h6⟩ := h
  exact ⟨h1, by simp [h2], h3, by rcases h4 with h4 | h4 <;> simp [h4], fun _ => h5, h6⟩

theorem countGood_frameEnds {s : State} (h : Hears s) : countGood (frameEnds s) = counted s := by
  rw [Laws.countGood_hears (s := frameEnds s) h]
  rfl

theorem linkSends_counted (s : State) : linkSends (counted s) = linkSends s := by
  have hx : (counted s).lnk.state = if linkSends s then
      (if Config.degradedCount ≤ s.lnk.errors - 1 then .degraded else .up) else s.lnk.state := rfl
  cases h : linkSends s with
  | false =>
    rw [h] at hx
    simpa [linkSends, hx] using h
  | true =>
    rw [h, if_pos rfl] at hx
    by_cases he : Config.degradedCount ≤ s.lnk.errors - 1
    · rw [linkSends, hx, if_pos he]
    · rw [linkSends, hx, if_neg he]

/-- The silence timer restarted as for the link and the part state of `s` (R182). -/
def silenced (s u : State) : State :=
  onLnk (fun l => { l with silence := if silenceCounts s then some 0 else none }) u

/-- The restart of the silence timer after what a request has done, where it leaves link and part state (R182). -/
theorem restartSilence_of {u s : State} (hl : u.lnk.state = (counted s).lnk.state) (hp : u.part.state = s.part.state) :
    restartSilence u = silenced s u := by
  have hs : silenceCounts u = silenceCounts s := by
    have h1 : linkSends u = linkSends s := by
      rw [← linkSends_counted s]
      simp only [linkSends, hl]
    simp only [silenceCounts, h1, senses, hp]
  rw [restartSilence, hs, silenced]

theorem silenced_counted (s : State) : silenced s (counted s) = heard s := rfl

theorem silenced_outputs (s u : State) : silenced s (outputs u) = outputs (silenced s u) := rfl

theorem silenced_onSeq (s u : State) (f : Seq → Seq) : silenced s (onSeq f u) = onSeq f (silenced s u) := rfl

theorem silenced_onWpc (s u : State) (f : Wpc → Wpc) : silenced s (onWpc f u) = onWpc f (silenced s u) := rfl

theorem restartSilence_counted (s : State) : restartSilence (counted s) = heard s := restartSilence_of rfl rfl

/-- The request of a row, examined in the counted state (R178). -/
theorem hostRequest_hears {r : Request} {tag : Byte} {s : State} (h : Hears s) :
    hostRequest tag r s = .next (finish (answering r.kind tag (serveRequest r (counted s)).answer.status
      (serveRequest r (counted s)).answer.body (restartSilence (serveRequest r (counted s)).state))) := by
  have hp : s.part.powered = true := h.1
  simp only [hostRequest, whenPowered, hp, if_true, Laws.receiveRequest_hears h, countGood_frameEnds h]
  rfl

theorem linkState_of_listens {s : State} (h : Listens s) : (counted s).lnk.state ≠ .down := by
  have hs : linkSends (counted s) = true := by
    rw [linkSends_counted]
    rcases h.2.1 with h | h <;> simp [linkSends, h]
  intro hd
  simp [linkSends, hd] at hs

theorem serveRequest_listens {r : Request} {s : State} (h : Listens s) :
    serveRequest r (counted s) = serveOwner r (counted s) := by
  have hr : s.part.state = .ready := h.1.2.1
  simp [serveRequest, linkState_of_listens h, hr, admits]

/-- A request answered without an action leaves its frame's effect on the link alone. -/
theorem hostRequest_replied {r : Request} {tag : Byte} {s : State} {st : Status} {b : ReplyBody} (h : Listens s)
    (hv : serveOwner r (counted s) = ⟨counted s, ⟨st, b⟩⟩) :
    hostRequest tag r s = .next (finish (answering r.kind tag st b (heard s))) := by
  rw [hostRequest_hears (hears_of_listens h), serveRequest_listens h, hv, ← restartSilence_counted]

/-- A request whose action leaves link and part state. -/
theorem hostRequest_acted {r : Request} {tag : Byte} {s u : State} {st : Status} {b : ReplyBody} (h : Listens s)
    (hv : serveOwner r (counted s) = ⟨u, ⟨st, b⟩⟩) (hl : u.lnk.state = (counted s).lnk.state)
    (hp : u.part.state = s.part.state) :
    hostRequest tag r s = .next (finish (answering r.kind tag st b (silenced s u))) := by
  rw [hostRequest_hears (hears_of_listens h), serveRequest_listens h, hv, restartSilence_of hl hp]

/-! ## The reading requests -/

theorem paramRange_isSome_iff (id : Nat) : (paramRange id).isSome = true ↔ 1 ≤ id ∧ id ≤ 27 := by
  constructor
  · intro h
    obtain ⟨r, hr⟩ := Option.isSome_iff_exists.mp h
    exact paramRange_isSome hr
  · rintro ⟨h1, h2⟩
    interval_cases id <;> rfl

theorem getConfig_answers (tag b : Byte) {s : State} (h : Listens s) :
    exec (.getConfig tag b) s = .next (finish (
      if 1 ≤ b.toNat ∧ b.toNat ≤ 27 then answering 0x05#8 tag .ok (.config b (paramGet s.cfg b.toNat)) (heard s)
      else answering 0x05#8 tag .badField .empty (heard s))) := by
  have he := paramRange_isSome_iff b.toNat
  cases hr : paramRange b.toNat with
  | none =>
    rw [if_neg (by rw [← he, hr]; simp)]
    exact hostRequest_replied (r := .getConfig b) h (by simp [serveOwner, serveGetConfig, hr, refuse])
  | some r =>
    rw [if_pos (by rw [← he, hr]; rfl)]
    exact hostRequest_replied (r := .getConfig b) h (by simp [serveOwner, serveGetConfig, hr, reply])

theorem phaseAt_eq {q : Seq} {i : Nat} (h : i < 12) : phaseAt q i = q.table[i] := by simp [phaseAt, h]

theorem readPhase_answers (tag b : Byte) {s : State} (h : Listens s) :
    exec (.readPhase tag b) s = .next (finish (
      if h : b.toNat < 12 then answering 0x11#8 tag .ok (.phaseRecord b s.seq.table[b.toNat]) (heard s)
      else answering 0x11#8 tag .badField .empty (heard s))) := by
  split
  · next hb =>
    rw [← phaseAt_eq hb]
    exact hostRequest_replied (r := .readPhase b) h
      (by simp [serveOwner, serveReadPhase, reply, show ¬ 11 < b.toNat by omega])
  · next hb =>
    exact hostRequest_replied (r := .readPhase b) h
      (by simp [serveOwner, serveReadPhase, refuse, show 11 < b.toNat by omega])

/-- A column is fitted but for C with two columns (R55). -/
theorem columnFitted_iff (s : State) (col : Column) : columnFitted s col = false ↔ col = .c ∧ s.cfg.fitted ≠ 3 := by
  cases col <;> simp [columnFitted]

theorem readColumn_answers (tag b : Byte) {s : State} (h : Listens s) {col : Column} (hb : columnOfCode b = some col) :
    exec (.readColumn tag b) s = .next (finish (
      if col = .c ∧ s.cfg.fitted ≠ 3 then answering 0x20#8 tag .notFitted .empty (heard s)
      else answering 0x20#8 tag .ok (.column (columnReply s col)) (heard s))) := by
  have hf := columnFitted_iff s col
  have hc : columnFitted (counted s) col = columnFitted s col := rfl
  split
  · next hx =>
    exact hostRequest_replied (r := .readColumn b) h
      (by simp [serveOwner, serveReadColumn, columnField, hb, hc, hf.mpr hx, refuse])
  · next hx =>
    have hx : columnFitted s col = true := by
      rw [← hf] at hx
      simpa using hx
    exact hostRequest_replied (r := .readColumn b) h
      (by simp [serveOwner, serveReadColumn, columnField, hb, hc, hx, reply]; rfl)

/-- Settles O13: the owners of the reading requests answer from the state and leave it. -/
theorem readsAnswerWhatStands : Obligations.ReadsAnswerWhatStands := by
  intro tag b s
  refine ⟨fun h => ?_, fun h => ?_⟩
  · have hi : ∀ r, r = Request.identify ∨ r = Request.getStatus →
        serveRequest r (counted s) = serveOwner r (counted s) := by
      rintro r (rfl | rfl)
      · cases hp : s.part.state <;> simp [serveRequest, servedInDown, admits, hp]
      · cases hp : s.part.state <;> simp [serveRequest, servedInDown, admits, hp]
    refine ⟨?_, ?_, rfl, rfl, rfl⟩
    · refine (hostRequest_hears (r := .identify) h).trans ?_
      rw [hi _ (.inl rfl), ← restartSilence_counted]
      rfl
    · refine (hostRequest_hears (r := .getStatus) h).trans ?_
      rw [hi _ (.inr rfl), ← restartSilence_counted]
      rfl
  · refine ⟨getConfig_answers tag b h, hostRequest_replied (r := .readFaultHistory) h rfl, readPhase_answers tag b h,
      fun col hc => readColumn_answers tag b h hc, fun hc => ?_⟩
    exact hostRequest_replied (r := .readColumn b) h (by simp [serveOwner, serveReadColumn, columnField, hc, refuse])

/-! ## ACKNOWLEDGE FAULT -/

/-- The frame's effect on the link leaves a resting part at rest. -/
theorem rests_counted {s : State} (h : Rests s) : Rests (counted s) := h

/-- In FAULTED and in IDLE the sump permit has the same condition, and no sub-stage runs (R29). -/
theorem rests_released {s : State} (h : Rests s) (hf : s.seq.state = .faulted) : Rests (released s) := by
  obtain ⟨ha, h1, h2, h3, h4, h5, h6, h7⟩ := h
  have hw : waterFlows (released s) = waterFlows s := by simp [waterFlows, permitCondition, released, onSeq, hf]
  have hn : s.wpc.fill = none := by
    cases hx : s.wpc.fill with
    | none => rfl
    | some q => simp [hx, hf] at h2
  refine ⟨ha, h1, by simp [released, onSeq, hn], ?_, ?_, h5, fun _ => by simp [runningIn, released, onSeq], h7⟩
  · rw [hw]
    exact h3
  · rw [hw]
    exact h4

/-- The recovery drain leaves a resting FAULTED part at rest: its permit does not read the pump (R29). -/
theorem rests_placeDrain {s : State} (h : Rests s) (hf : s.seq.state = .faulted) : Rests (placeDrain s) := by
  obtain ⟨ha, h1, h2, h3, h4, h5⟩ := h
  have hw : waterFlows (placeDrain s) = waterFlows s := by simp [waterFlows, permitCondition, placeDrain, onWpc, hf]
  refine ⟨ha, h1, h2, ?_, ?_, h5⟩
  · rw [hw]
    exact h3
  · rw [hw]
    exact h4

theorem placeDrain_pumping {s : State} (h : s.wpc.sumpEmpty = false) :
    placeDrain s = onWpc (fun w => { w with seqDrain := some ⟨.pumping 0, false⟩ }) s := by
  simp [placeDrain, onWpc, h]

/-- Settles O26, by the four cases of R28. -/
theorem acknowledgeReleasesFromFaulted : Obligations.AcknowledgeReleasesFromFaulted := by
  intro tag s h
  refine ⟨fun hf => ?_, fun hf => ⟨fun hb => ?_, fun hr h1 h2 h3 => ?_, fun hr h1 h2 => ?_⟩⟩
  · exact hostRequest_replied (r := .acknowledgeFault) h (by simp [serveOwner, serveAcknowledge, hf, refuse])
  · refine hostRequest_replied (r := .acknowledgeFault) h ?_
    rcases hb with hb | ⟨hb, hd⟩
    · simp [serveOwner, serveAcknowledge, hf, hb, refuse]
    · by_cases hx : s.wpc.flood = true <;> simp [serveOwner, serveAcknowledge, hf, hb, hd, hx, refuse]
  · have hv : serveOwner .acknowledgeFault (counted s) = ⟨outputs (placeDrain (counted s)), ⟨.busy, .empty⟩⟩ := by
      rw [← Laws.settle_rests (rests_placeDrain (rests_counted hr) hf)]
      simp [serveOwner, serveAcknowledge, hf, h1, h2, h3, acted]
    rw [placeDrain_pumping (s := counted s) h2] at hv
    refine (hostRequest_acted (r := .acknowledgeFault) h hv rfl rfl).trans ?_
    rw [silenced_outputs, silenced_onWpc, silenced_counted]
    rfl
  · have hv : serveOwner .acknowledgeFault (counted s) = ⟨outputs (released (counted s)), ⟨.ok, .empty⟩⟩ := by
      rw [← Laws.settle_rests (rests_released (rests_counted hr) hf)]
      simp [serveOwner, serveAcknowledge, hf, h1, h2, acted, released]
    refine (hostRequest_acted (r := .acknowledgeFault) h hv rfl rfl).trans ?_
    rw [silenced_outputs, released, silenced_onSeq, silenced_counted]
    rfl

end Sys2Proof.Proofs
end

section
/-! PROOFS. The end of CIRCULATE under a top-up (O27): a drain burst that waits behind the top-up begins with the grant's end (R49),
so it does not stand as it was when the next phase asks its fill. -/

/- One theorem at a time, as the tests have it: proofs that wait for the kernel cost a thread each. -/
set_option Elab.async false

namespace Sys2Proof.Proofs

open Sys2Proof.Machine
open Sys2Proof.Safety

/-- A rinse without heat, doses, drain and sample. -/
def bareRinse : WashRecord := ⟨3000, 0, 60, 300, ⟨1, 1, 0, 0⟩, 30, [], false, false⟩

/-- CIRCULATE of the first of two such phases, a top-up under way and a drain burst waiting behind it (R42, R49). -/
def burstBehindTopUp : State :=
  { State.reset with
    part := { State.reset.part with state := .ready }
    seq := { State.reset.seq with
      state := .running, sub := .circulate, count := 2, permit := false
      table := Vector.replicate 12 (some (.wash .rinse bareRinse)) }
    wpc := { State.reset.wpc with
      holder := .fill, fill := some ⟨300, .topUp, true⟩, inletValve := true, fillTimer := some 0, burst := some .waiting }
    rge := { State.reset.rge with state := .effluentDrain, column := some .a }
    sfu := { State.reset.sfu with regenQ := [.b, .c] } }

theorem burstBehindTopUp_sound : Sound burstBehindTopUp := by
  refine ⟨by decide +kernel, ?_, ?_, ?_, ?_, ?_⟩
  · unfold WaterKept; decide +kernel
  · unfold FloodHeld; decide +kernel
  · unfold ProgramKept; decide +kernel
  · unfold SequencerKept; decide +kernel
  · unfold DryingKept; decide +kernel

/-- The drain burst that a step leaves. -/
def burstAfter : Step → Option Burst
  | .next t => t.wpc.burst
  | _ => none

theorem burst_begins : burstAfter (exec .holdTimerExpiry burstBehindTopUp) = some (.running 0) := by decide +kernel

/-- Refutes O27: with the end of the top-up the waiting burst begins, so the next phase's fill waits behind another burst than
the one before the step. -/
theorem not_circulateAndExtensionEnd : ¬ Obligations.CirculateAndExtensionEnd := by
  intro h
  obtain ⟨t, ht, -, -, -, -, -, -, -, -, hp⟩ :=
    (h burstBehindTopUp (by decide +kernel) burstBehindTopUp_sound rfl bareRinse (by decide +kernel)).1 rfl
  obtain ⟨-, -, -, hn⟩ := hp rfl
  obtain ⟨-, hfill⟩ := (hn (by decide +kernel) rfl).1 .rinse bareRinse (by decide +kernel) |>.2 rfl rfl (.inl rfl)
  obtain ⟨-, -, -, -, -, hb, -⟩ := hfill.2.1 rfl rfl
  have hx := burst_begins
  rw [ht] at hx
  have hx : t.wpc.burst = some (.running 0) := hx
  rw [hx] at hb
  cases hb

end Sys2Proof.Proofs
end

section
/-! PROOFS. The expiry of the fill limit behind the last millilitre (O29): a residue carried beyond one pulse holds more millilitres
than a pulse emits, so the target within its reach is not reached, and the expiry ends the grant. -/

/- One theorem at a time, as the tests have it: proofs that wait for the kernel cost a thread each. -/
set_option Elab.async false

namespace Sys2Proof.Proofs

open Sys2Proof.Machine
open Sys2Proof.Safety

/-- FILL of a phase, 20 mL asked and none delivered, with a residue of 15 mL carried (R34). -/
def residueCarried : State :=
  { burstBehindTopUp with
    seq := { burstBehindTopUp.seq with sub := .fill }
    wpc := { State.reset.wpc with
      holder := .fill, fill := some ⟨20, .main, true⟩, inletValve := true, fillTimer := some 0
      latchedK := 200, residue := 3000 }
    rge := State.reset.rge }

theorem residueCarried_sound : Sound residueCarried := by
  refine ⟨by decide +kernel, ?_, ?_, ?_, ?_, ?_⟩
  · unfold WaterKept; decide +kernel
  · unfold FloodHeld; decide +kernel
  · unfold ProgramKept; decide +kernel
  · unfold SequencerKept; decide +kernel
  · unfold DryingKept; decide +kernel

/-- The FILL request that a pulse leaves, and the one that the limit's expiry then leaves. -/
def fillsAfter (s : State) : Option FillReq × Option FillReq :=
  match exec .flowMeterPulse s with
  | .next t =>
    match exec .fillLimitExpiry t with
    | .next u => (t.wpc.fill, u.wpc.fill)
    | _ => (none, none)
  | _ => (none, none)

theorem limit_ends_fill : fillsAfter residueCarried = (some ⟨20, .main, true⟩, none) := by decide +kernel

/-- Refutes O29: a pulse emits 10 mL at most, whatever residue it finds, so a target 20 mL away stands with its grant, and the
expiry that falls together with the pulse ends it. -/
theorem not_fillLimitWaitsThenFails : ¬ Obligations.FillLimitWaitsThenFails := by
  intro h
  obtain ⟨-, -, -, hv⟩ := h residueCarried (by decide +kernel) residueCarried_sound
  obtain ⟨-, hpulse, -⟩ := hv ⟨20, .main, true⟩ rfl rfl
  obtain ⟨t, ht, hu⟩ := hpulse (by decide +kernel) (by decide +kernel) (by decide +kernel)
  have hx : fillsAfter residueCarried = (t.wpc.fill, t.wpc.fill) := by simp only [fillsAfter, ht, hu]
  rw [limit_ends_fill] at hx
  obtain ⟨h1, h2⟩ := Prod.mk.inj hx
  rw [← h2] at h1
  cases h1

end Sys2Proof.Proofs
end

section
/-! PROOFS. What the water path and the softener make of a state, whatever they do in it: everything but the inlet, the columns,
the engine, the outputs and the notices of columns and engine stands (`Wets`). One lemma for each operation, in the order of the
model. -/

/- One theorem at a time, as the tests have it: proofs that wait for the kernel cost a thread each. -/
set_option Elab.async false

namespace Sys2Proof.Proofs

open Sys2Proof.Machine
open Sys2Proof.Safety

/-! ## Notices and writes asked -/

theorem notified_iff (c : Content) (s : State) : notified c s = true ↔
    (∃ n ∈ s.lnk.notices, n.content = c) ∨ ∃ n, s.lnk.tx = some (.notice n) ∧ n.content = c := by
  unfold notified
  rcases s.lnk.tx with _ | (_ | _ | _) <;> simp

/-- A notice of another kind leaves a notice in the set (R187). -/
theorem mem_enterNotice {c d : Content} {w : Word} {l : List Notice} (hc : noticeCode d ≠ noticeCode c)
    (h : ∃ n ∈ l, n.content = d) : ∃ n ∈ enterNotice c w l, n.content = d := by
  induction l with
  | nil => simp at h
  | cons m l ih =>
    obtain ⟨n, hn, hd⟩ := h
    unfold enterNotice
    rcases List.mem_cons.mp hn with rfl | hn
    · rw [if_neg (by rw [hd]; exact hc)]
      exact ⟨n, by simp, hd⟩
    · split
      · exact ⟨n, by simp [hn], hd⟩
      · obtain ⟨k, hk, hkd⟩ := ih ⟨n, hn, hd⟩
        exact ⟨k, by simp [hk], hkd⟩

theorem enterNotice_self (c : Content) (w : Word) (l : List Notice) : ∃ n ∈ enterNotice c w l, n.content = c := by
  induction l with
  | nil => exact ⟨_, List.mem_singleton.mpr rfl, rfl⟩
  | cons m l ih =>
    unfold enterNotice
    split
    · exact ⟨_, List.mem_cons_self, rfl⟩
    · obtain ⟨k, hk, hc⟩ := ih
      exact ⟨k, by simp [hk], hc⟩

/-- An enabled event stands in the set once raised (R187, R189). -/
theorem notified_raiseNotice {c : Content} {s : State} (h : noticeEnabled s.lnk.mask (noticeCode c) = true) :
    notified c (raiseNotice c s) = true := by
  rw [notified_iff, raiseNotice, if_pos h]
  exact .inl (enterNotice_self _ _ _)

theorem notified_raiseNotice_ne {c d : Content} {s : State} (hc : noticeCode d ≠ noticeCode c) (h : notified d s = true) :
    notified d (raiseNotice c s) = true := by
  rw [raiseNotice]
  split
  · rw [notified_iff] at h ⊢
    exact h.imp (fun h => mem_enterNotice hc h) id
  · exact h

/-- The transmitter takes a notice from the set to the line, where it still stands (R188). -/
theorem notified_finish {c : Content} {s : State} (h : notified c s = true) : notified c (finish s) = true := by
  have hb : ∀ u : State, notified c u = true → notified c (beginTransmit u) = true := by
    intro u hu
    unfold beginTransmit
    split
    · exact hu
    · next htx =>
      rw [notified_iff, htx] at hu
      have hu : ∃ n ∈ u.lnk.notices, n.content = c := hu.resolve_right (by simp)
      rw [notified_iff]
      split
      · exact .inl hu
      · exact .inl hu
      · split
        · exact .inl hu
        · next n rest hn =>
          split
          · rw [hn] at hu
            obtain ⟨m, hm, hmc⟩ := hu
            rcases List.mem_cons.mp hm with rfl | hm
            · exact .inr ⟨m, rfl, hmc⟩
            · exact .inl ⟨m, hm, hmc⟩
          · exact .inl hu
  refine hb _ ?_
  unfold beginWrite
  split
  · exact h
  · exact h

/-- The record that a captured copy is of. -/
def recordOf : Captured → RecordId
  | .config _ => .config
  | .faults _ => .faults
  | .columns _ => .columns
  | .reservoirs _ => .reservoirs

theorem writeAsked_iff (i : RecordId) (s : State) : writeAsked i s = true ↔
    i ∈ s.rst.pendingWrites ∨ ∃ c, s.rst.writing = some c ∧ recordOf c = i := by
  unfold writeAsked
  rcases s.rst.writing with _ | c
  · cases i <;> simp
  · cases c <;> cases i <;> simp [recordOf]

theorem writeAsked_askWrite {i j : RecordId} {s : State} (h : writeAsked i s = true) :
    writeAsked i (askWrite j s) = true := by
  rw [writeAsked_iff] at h ⊢
  unfold askWrite askRecord onRst
  dsimp only
  split
  · exact h
  · exact h.imp (fun h => List.mem_append_left _ h) id

theorem writeAsked_askWrite_self (i : RecordId) (s : State) : writeAsked i (askWrite i s) = true := by
  rw [writeAsked_iff]
  unfold askWrite askRecord onRst
  dsimp only
  split
  · exact .inl ‹_›
  · exact .inl (by simp)

theorem recordOf_captureRecord (s : State) (i : RecordId) : recordOf (captureRecord s i) = i := by cases i <;> rfl

/-- A write that begins is still under way (R201). -/
theorem writeAsked_finish {i : RecordId} {s : State} (h : writeAsked i s = true) : writeAsked i (finish s) = true := by
  have ht : ∀ u : State, (beginTransmit u).rst = u.rst := by
    intro u
    obtain ⟨f, l, he⟩ := Laws.beginTransmit_eq u
    rw [he]
  rw [writeAsked_iff, finish, ht, ← writeAsked_iff]
  unfold beginWrite
  split
  · next id rest hw hp =>
    rw [writeAsked_iff, hw, hp] at h
    rw [writeAsked_iff]
    have hi : i = id ∨ i ∈ rest := by simpa using h
    rcases hi with rfl | hi
    · exact .inr ⟨_, rfl, recordOf_captureRecord s i⟩
    · exact .inl hi
  · exact h

/-! ## The relation -/

/-- The inlet's valves agree with its holder (Table 13). -/
structure Piped (w : Wpc) : Prop where
  inlet : w.inletValve = (w.holder != .none)
  brine : w.brineValve = (w.holder == .brine)

/-- The kinds of the notices that columns and engine raise outside metering: COLUMN_SWITCH, REGEN_DONE, SALT_LOW. -/
def engineNotices : List Nat := [12, 14, 15]

/-- From `s` to `t` only the inlet, the columns, the engine, the outputs and their notices and writes have moved. -/
structure Wets (s t : State) : Prop where
  part : t.part = s.part
  pins : t.pins = s.pins
  cfg : t.cfg = s.cfg
  dsu : t.dsu = s.dsu
  ddu : t.ddu = s.ddu
  ties : t.ties = s.ties
  seq : t.seq = { s.seq with permit := t.seq.permit, placed := t.seq.placed }
  wpc : t.wpc = { s.wpc with
    holder := t.wpc.holder, fill := t.wpc.fill, regen := t.wpc.regen, latchedK := t.wpc.latchedK
    residue := t.wpc.residue, grantCount := t.wpc.grantCount, fillTimer := t.wpc.fillTimer
    strayResidue := t.wpc.strayResidue, strayCount := t.wpc.strayCount, burst := t.wpc.burst
    inletValve := t.wpc.inletValve, brineValve := t.wpc.brineValve, drainPump := t.wpc.drainPump }
  htc : t.htc = { s.htc with output := t.htc.output }
  czs : t.czs = { s.czs with
    arm1 := t.czs.arm1, arm2 := t.czs.arm2, pulsed := t.czs.pulsed, slotOfStall := t.czs.slotOfStall }
  mask : t.lnk.mask = s.lnk.mask
  stamp : t.lnk.stamp = s.lnk.stamp
  history : t.rst.history = s.rst.history
  asked : ∀ i, writeAsked i s = true → writeAsked i t = true
  noted : ∀ c, noticeCode c ∉ engineNotices → notified c s = true → notified c t = true
  piped : Piped s.wpc → Piped t.wpc
  undrained : .drainEnded ∉ s.reports → .drainEnded ∉ t.reports

namespace Wets

variable {s t u a b : State}

theorem refl (s : State) : Wets s s :=
  ⟨rfl, rfl, rfl, rfl, rfl, rfl, rfl, rfl, rfl, rfl, rfl, rfl, rfl, fun _ => id, fun _ _ => id, id, id⟩

theorem trans (h : Wets s t) (k : Wets t u) : Wets s u where
  part := k.part.trans h.part
  pins := k.pins.trans h.pins
  cfg := k.cfg.trans h.cfg
  dsu := k.dsu.trans h.dsu
  ddu := k.ddu.trans h.ddu
  ties := k.ties.trans h.ties
  seq := by rw [k.seq, h.seq]
  wpc := by rw [k.wpc, h.wpc]
  htc := by rw [k.htc, h.htc]
  czs := by rw [k.czs, h.czs]
  mask := k.mask.trans h.mask
  stamp := k.stamp.trans h.stamp
  history := k.history.trans h.history
  asked := fun i => k.asked i ∘ h.asked i
  noted := fun c hc => k.noted c hc ∘ h.noted c hc
  piped := k.piped ∘ h.piped
  undrained := k.undrained ∘ h.undrained

theorem ite {c : Prop} [Decidable c] (ha : c → Wets s a) (hb : ¬ c → Wets s b) : Wets s (if c then a else b) := by
  split
  · exact ha ‹_›
  · exact hb ‹_›

/-! ## Updates of one block -/

/-- A change of the inlet's fields that agrees with its holder. -/
theorem onWpc (h : Wets s t) (f : Wpc → Wpc) (hp : Piped t.wpc → Piped (f t.wpc))
    (hw : f t.wpc = { t.wpc with
      holder := (f t.wpc).holder, fill := (f t.wpc).fill, regen := (f t.wpc).regen, latchedK := (f t.wpc).latchedK
      residue := (f t.wpc).residue, grantCount := (f t.wpc).grantCount, fillTimer := (f t.wpc).fillTimer
      strayResidue := (f t.wpc).strayResidue, strayCount := (f t.wpc).strayCount, burst := (f t.wpc).burst
      inletValve := (f t.wpc).inletValve, brineValve := (f t.wpc).brineValve, drainPump := (f t.wpc).drainPump } := by
      rfl) : Wets s (onWpc f t) :=
  h.trans ⟨rfl, rfl, rfl, rfl, rfl, rfl, rfl, hw, rfl, rfl, rfl, rfl, rfl, fun _ => id, fun _ _ => id, hp, id⟩

theorem onSfu (h : Wets s t) (f : Sfu → Sfu) : Wets s (onSfu f t) :=
  h.trans ⟨rfl, rfl, rfl, rfl, rfl, rfl, rfl, rfl, rfl, rfl, rfl, rfl, rfl, fun _ => id, fun _ _ => id, id, id⟩

theorem onRge (h : Wets s t) (f : Rge → Rge) : Wets s (onRge f t) :=
  h.trans ⟨rfl, rfl, rfl, rfl, rfl, rfl, rfl, rfl, rfl, rfl, rfl, rfl, rfl, fun _ => id, fun _ _ => id, id, id⟩

theorem onReports (h : Wets s t) (f : List Report → List Report)
    (hf : .drainEnded ∉ t.reports → .drainEnded ∉ f t.reports) : Wets s (onReports f t) :=
  h.trans ⟨rfl, rfl, rfl, rfl, rfl, rfl, rfl, rfl, rfl, rfl, rfl, rfl, rfl, fun _ => id, fun _ _ => id, id, hf⟩

theorem report (h : Wets s t) (r : Report) (hr : r ≠ .drainEnded := by simp) : Wets s (report r t) :=
  h.onReports _ fun hx => by simpa using ⟨hx, fun he => hr he.symm⟩

/-- A change of the link that leaves mask, stamp and the notices on their way. -/
theorem onLnk (h : Wets s t) (f : Lnk → Lnk) (hm : (f t.lnk).mask = t.lnk.mask := by rfl)
    (hs : (f t.lnk).stamp = t.lnk.stamp := by rfl) (hn : (f t.lnk).notices = t.lnk.notices := by rfl)
    (hx : (f t.lnk).tx = t.lnk.tx := by rfl) : Wets s (onLnk f t) :=
  h.trans ⟨rfl, rfl, rfl, rfl, rfl, rfl, rfl, rfl, rfl, rfl, hm, hs, rfl, fun _ => id,
    fun c _ hc => by simpa only [notified_iff, Machine.onLnk, hn, hx] using hc, id, id⟩

theorem raiseNotice (h : Wets s t) (c : Content) (hc : noticeCode c ∈ engineNotices) : Wets s (raiseNotice c t) := by
  refine h.trans ⟨?_, ?_, ?_, ?_, ?_, ?_, ?_, ?_, ?_, ?_, ?_, ?_, ?_, ?_,
    fun d hd => notified_raiseNotice_ne fun hx => hd (hx ▸ hc), ?_, ?_⟩
  all_goals
    unfold Machine.raiseNotice
    split <;> first | rfl | exact fun _ => id | exact id

theorem askWrite (h : Wets s t) (i : RecordId) : Wets s (askWrite i t) := by
  refine h.trans ⟨rfl, rfl, rfl, rfl, rfl, rfl, rfl, rfl, rfl, rfl, rfl, rfl, ?_, fun _ => writeAsked_askWrite,
    fun _ _ => id, id, id⟩
  unfold Machine.askWrite askRecord
  simp only [onRst]
  split <;> rfl

theorem finish (h : Wets s t) : Wets s (finish t) := by
  refine h.trans ⟨?_, ?_, ?_, ?_, ?_, ?_, ?_, ?_, ?_, ?_, ?_, ?_, ?_, fun _ => writeAsked_finish,
    fun _ _ => notified_finish, ?_, ?_⟩
  all_goals
    obtain ⟨f, l, p, w, he⟩ := Laws.finish_eq t
    rw [he]
  · exact id
  · exact id

end Wets

/-! ## The columns -/

namespace Wets

variable {s t : State}

theorem commandValve (h : Wets s t) (p : ValvePos) : Wets s (commandValve p t) := by
  unfold Machine.commandValve
  exact h.onSfu _

theorem setDuty (h : Wets s t) : Wets s (setDuty t) := h.onSfu _

theorem switchService (h : Wets s t) (r : SwitchReason) : Wets s (switchService r t) := by
  unfold Machine.switchService
  have h := h.onSfu fun _ => { joinPlace r t.sfu.service t.sfu with
    service := if t.sfu.valveFault then none else t.sfu.ready.head?
    ready := if t.sfu.valveFault then (joinPlace r t.sfu.service t.sfu).ready
      else (joinPlace r t.sfu.service t.sfu).ready.tail
    rho := 0 }
  exact ((Wets.ite (fun _ => h) fun _ => h.commandValve _).setDuty.raiseNotice _
    (by simp [noticeCode, engineNotices])).askWrite _

theorem readyTest (h : Wets s t) : Wets s (readyTest t) := .ite (fun _ => h.switchService _) fun _ => h

theorem releaseRule (h : Wets s t) : Wets s (releaseRule t) := by
  unfold Machine.releaseRule
  split
  · exact h
  · exact .ite (fun _ => h.switchService _) fun _ => h

theorem admitColumn (h : Wets s t) (col : Column) : Wets s (admitColumn col t) := (h.onSfu _).askWrite _

theorem closeFill (h : Wets s t) : Wets s (closeFill t) := .ite (fun _ => ((h.onSfu _).askWrite _).releaseRule) fun _ => h

theorem openFill (h : Wets s t) : Wets s (openFill t) := (h.closeFill.onSfu _).setDuty

theorem endTopUp (h : Wets s t) : Wets s (endTopUp t) := (h.askWrite _).releaseRule

/-! ## The inlet -/

theorem closeInlet (h : Wets s t) : Wets s (closeInlet t) := h.onWpc _ fun _ => ⟨rfl, rfl⟩

theorem startBurst (h : Wets s t) : Wets s (startBurst t) := by
  unfold Machine.startBurst
  split
  · exact h.onWpc _ fun hp => ⟨hp.1, hp.2⟩
  · exact h

theorem endFill (h : Wets s t) (r : FillEnd) : Wets s (endFill r t) := by
  unfold Machine.endFill
  split
  · exact h
  · next q hq =>
    have hc : Wets s (Machine.startBurst (Machine.closeInlet (Machine.onWpc (fun w => { w with fill := none })
        (Machine.report (.fillEnded q.kind r t.wpc.grantCount) t)))) :=
      ((h.report _).onWpc _ fun hp => ⟨hp.1, hp.2⟩).closeInlet.startBurst
    cases hk : q.kind with
    | main => rw [hk] at hc; exact hc
    | topUp => rw [hk] at hc; exact hc.endTopUp

theorem beginGrant (h : Wets s t) (x : Holder) : Wets s (beginGrant x t) := h.onWpc _ fun _ => ⟨rfl, rfl⟩

theorem grantFill (h : Wets s t) (q : FillReq) : Wets s (grantFill q t) :=
  .ite (fun _ => ((h.beginGrant _).onWpc _ fun hp => ⟨hp.1, hp.2⟩).endFill _)
    fun _ => (h.beginGrant _).onWpc _ fun hp => ⟨hp.1, hp.2⟩

theorem revokeRegen (h : Wets s t) : Wets s (revokeRegen t) := by
  unfold Machine.revokeRegen
  split
  · exact (h.onWpc _ fun hp => ⟨hp.1, hp.2⟩).closeInlet.onRge _
  · exact (h.onWpc _ fun hp => ⟨hp.1, hp.2⟩).closeInlet.onRge _
  all_goals exact h

theorem setFill (h : Wets s t) (o : Option FillReq) : Wets s (Machine.onWpc (fun w => { w with fill := o }) t) :=
  h.onWpc _ fun hp => ⟨hp.1, hp.2⟩

theorem withdrawFill (h : Wets s t) : Wets s (withdrawFill t) := by
  unfold Machine.withdrawFill
  split
  · exact h
  · exact .ite (fun _ => h.endFill _) fun _ => h.setFill _

theorem offerFill (h : Wets s t) (q : FillReq) : Wets s (offerFill q t) :=
  .ite (fun _ => (h.setFill none).report _) fun _ => .ite (fun _ => h.setFill _) fun _ => h.revokeRegen.grantFill _

theorem placeFill (h : Wets s t) (n : Nat) (k : FillKind) : Wets s (placeFill n k t) := h.withdrawFill.offerFill _

theorem grantDeferred (h : Wets s t) : Wets s (grantDeferred t) := by
  unfold Machine.grantDeferred
  split
  · exact .ite (fun _ => h.offerFill _) fun _ => h
  · exact h

/-! ## The engine -/

theorem markSaltLow (h : Wets s t) : Wets s (markSaltLow t) := by
  unfold Machine.markSaltLow
  split
  · exact .ite (fun _ => h) fun _ => (h.onRge _).raiseNotice _ (by simp [noticeCode, engineNotices])
  · exact h

theorem setRegen (h : Wets s t) (o : Option RegenReq) : Wets s (Machine.onWpc (fun w => { w with regen := o }) t) :=
  h.onWpc _ fun hp => ⟨hp.1, hp.2⟩

theorem grantRegen (h : Wets s t) : Wets s (grantRegen t) := by
  simp only [Machine.grantRegen]
  split
  · exact .ite (fun _ => .ite (fun _ => (((h.setRegen _).beginGrant _).onRge _).markSaltLow)
      fun _ => ((h.setRegen _).beginGrant _).onRge _) fun _ => h
  · exact .ite (fun _ => ((h.setRegen _).beginGrant _).onRge _) fun _ => h
  · exact h

theorem placeRegen (h : Wets s t) (k : RegenKind) : Wets s (placeRegen k t) := h.onWpc _ fun hp => ⟨hp.1, hp.2⟩

theorem takeColumn (h : Wets s t) (col : Column) : Wets s (takeColumn col t) :=
  .ite (fun _ => h.onRge _) fun _ => (h.onRge _).placeRegen _

theorem handOver (h : Wets s t) : Wets s (handOver t) := by
  unfold Machine.handOver
  split
  · exact h
  · exact .ite (fun _ => ((h.onSfu _).takeColumn _).askWrite _) fun _ => h

theorem regenDone (h : Wets s t) (col : Column) (o : RegenOutcome) (p : ColPlace) : Wets s (regenDone col o p t) :=
  h.raiseNotice _ (by simp [noticeCode, engineNotices])

theorem finishRegen (h : Wets s t) : Wets s (finishRegen t) := by
  simp only [Machine.finishRegen]
  split
  · exact h
  · refine (((Wets.onRge ?_ _).askWrite _).report _).readyTest
    exact .ite (fun _ => Wets.regenDone (.admitColumn (h.onSfu _) _) _ _ _) fun _ => Wets.regenDone (h.onSfu _) _ _ _

theorem withdrawBurst (h : Wets s t) : Wets s (withdrawBurst t) := h.onWpc _ fun hp => ⟨hp.1, hp.2⟩

/-! ## The water settles -/

theorem refreshPump (h : Wets s t) : Wets s (refreshPump t) :=
  (h.onWpc (fun w => { w with drainPump := pumpAsked w }) fun hp => ⟨hp.1, hp.2⟩).trans
    ⟨rfl, rfl, rfl, rfl, rfl, rfl, rfl, rfl, rfl, rfl, rfl, rfl, rfl, fun _ => id, fun _ _ => id, id, id⟩

theorem effluentMeetsDrain (h : Wets s t) : Wets s (effluentMeetsDrain t) :=
  .ite (fun _ => h.withdrawBurst.finishRegen) fun _ => h

theorem revokeUnlessFlows (h : Wets s t) : Wets s (revokeUnlessFlows t) := .ite (fun _ => h) fun _ => h.revokeRegen

theorem refreshHeater (h : Wets s t) : Wets s (refreshHeater t) :=
  h.trans ⟨rfl, rfl, rfl, rfl, rfl, rfl, rfl, rfl, rfl, rfl, rfl, rfl, rfl, fun _ => id, fun _ _ => id, id, id⟩

theorem refreshArms (h : Wets s t) : Wets s (refreshArms t) :=
  h.trans ⟨rfl, rfl, rfl, rfl, rfl, rfl, rfl, rfl, rfl, rfl, rfl, rfl, rfl, fun _ => id, fun _ _ => id, id, id⟩

theorem waterSettle (h : Wets s t) : Wets s (waterSettle t) :=
  h.grantDeferred.refreshPump.effluentMeetsDrain.refreshPump.revokeUnlessFlows.refreshPump.handOver.grantRegen

end Wets

end Sys2Proof.Proofs
end

section
/-! PROOFS. How a step settles when no report makes the sequencer move: the water path drifts to its rest, a request that stands
keeps the inlet, an engine whose conditions have failed gives way (R29, R37 to R39, R83), and the step's end has the outputs at
their conditions. -/

/- One theorem at a time, as the tests have it: proofs that wait for the kernel cost a thread each. -/
set_option Elab.async false

namespace Sys2Proof.Proofs

open Sys2Proof.Machine
open Sys2Proof.Safety

/-! ## What the relation of the water path gives -/

namespace Wets

variable {s t : State}

theorem state (h : Wets s t) : t.seq.state = s.seq.state := by rw [h.seq]
theorem sub (h : Wets s t) : t.seq.sub = s.seq.sub := by rw [h.seq]
theorem idx (h : Wets s t) : t.seq.idx = s.seq.idx := by rw [h.seq]
theorem extension (h : Wets s t) : t.seq.extension = s.seq.extension := by rw [h.seq]
theorem seqDrain (h : Wets s t) : t.wpc.seqDrain = s.wpc.seqDrain := by rw [h.wpc]
theorem highLevel (h : Wets s t) : t.wpc.highLevel = s.wpc.highLevel := by rw [h.wpc]
theorem inhibit (h : Wets s t) : t.wpc.inhibit = s.wpc.inhibit := by rw [h.wpc]
theorem flood (h : Wets s t) : t.wpc.flood = s.wpc.flood := by rw [h.wpc]
theorem sumpEmpty (h : Wets s t) : t.wpc.sumpEmpty = s.wpc.sumpEmpty := by rw [h.wpc]

theorem runningIn (h : Wets s t) (b : SubStage) : runningIn t b = runningIn s b := by
  simp only [Machine.runningIn, h.state, h.sub]

theorem currentPhase (h : Wets s t) : currentPhase t = currentPhase s :=
  currentPhase_congr (by rw [h.seq]) (by rw [h.seq])

theorem currentWash (h : Wets s t) : currentWash t = currentWash s := currentWash_congr (by rw [h.seq]) (by rw [h.seq])

theorem waterFlows (h : Wets s t) (hb : t.wpc.burst = s.wpc.burst) : waterFlows t = waterFlows s := by
  have hp : pumpAsked t.wpc = pumpAsked s.wpc := by
    unfold pumpAsked
    rw [h.wpc, hb]
  simp only [Safety.waterFlows, permitCondition, h.state, h.sub, h.sumpEmpty, h.flood, h.inhibit, h.highLevel, hp]

end Wets

/-! ## The relation -/

/-- The engine stands with its request as it was, or its held grant has been revoked and waits again (R39, R83, R87). -/
def Yields (s t : State) : Prop :=
  (t.rge = s.rge ∧ t.wpc.regen = s.wpc.regen ∧ t.wpc.holder = s.wpc.holder)
    ∨ (s.wpc.holder = .brine ∧ t.rge = { s.rge with state := .brineWait } ∧ t.wpc.regen = some ⟨.brine, false⟩
        ∧ t.wpc.holder = .none)
    ∨ (s.wpc.holder = .rinse ∧ t.rge = { s.rge with state := .rinseWait } ∧ t.wpc.regen = some ⟨.rinse, false⟩
        ∧ t.wpc.holder = .none)

/-- An idle engine has no column to take (R65). -/
def Unqueued (s : State) : Prop := s.rge.state = .idle → s.sfu.regenQ = [] ∨ s.sfu.valveFault = true

/-- No end of a dose is reported. -/
def Doseless (s : State) : Prop := ∀ a, .doseEnded a ∉ s.reports

/-- The water path has gone on from `s` to `t`, the sequencer's request and its fill record as they were. -/
structure Drifts (s t : State) : Prop extends Wets s t where
  fill : t.wpc.fill = s.wpc.fill
  record : t.sfu.fill = s.sfu.fill ∧ t.sfu.hRaw = s.sfu.hRaw ∧ t.sfu.hTgt = s.sfu.hTgt ∧ t.sfu.blend = s.sfu.blend
  held : s.wpc.fill.isSome = true → s.wpc.holder ≠ .brine → s.wpc.holder ≠ .rinse →
    t.wpc = { s.wpc with drainPump := t.wpc.drainPump, regen := t.wpc.regen, burst := t.wpc.burst }
  free : s.wpc.fill = none → s.wpc.holder ≠ .fill → t.wpc.holder ≠ .fill
  burst : runningIn s .drain = false → t.wpc.burst = s.wpc.burst
  columns : runningIn s .drain = false → Unqueued s → t.sfu = s.sfu ∧ Unqueued t
  engine : runningIn s .drain = false → waterFlows s = false → s.rge.state ≠ .idle → Yields s t ∧ t.rge.state ≠ .idle
  count : runningIn s .drain = false → waterFlows s = false → t.wpc.grantCount = s.wpc.grantCount
  placed : Doseless s → t.seq.placed = s.seq.placed ∧ Doseless t

namespace Drifts

variable {s t u a b : State}

theorem refl (s : State) : Drifts s s :=
  ⟨.refl s, rfl, ⟨rfl, rfl, rfl, rfl⟩, fun _ _ _ => rfl, fun _ h => h, fun _ => rfl, fun _ h => ⟨rfl, h⟩,
    fun _ _ h => ⟨.inl ⟨rfl, rfl, rfl⟩, h⟩, fun _ _ => rfl, fun h => ⟨rfl, h⟩⟩

theorem yields_trans (h : Yields s t) (k : Yields t u) : Yields s u := by
  rcases h with ⟨h1, h2, h3⟩ | ⟨h0, h1, h2, h3⟩ | ⟨h0, h1, h2, h3⟩
  · simpa only [Yields, h1, h2, h3] using k
  · obtain ⟨k1, k2, k3⟩ : u.rge = t.rge ∧ u.wpc.regen = t.wpc.regen ∧ u.wpc.holder = t.wpc.holder := by
      simpa [Yields, h3] using k
    exact .inr (.inl ⟨h0, k1.trans h1, k2.trans h2, k3.trans h3⟩)
  · obtain ⟨k1, k2, k3⟩ : u.rge = t.rge ∧ u.wpc.regen = t.wpc.regen ∧ u.wpc.holder = t.wpc.holder := by
      simpa [Yields, h3] using k
    exact .inr (.inr ⟨h0, k1.trans h1, k2.trans h2, k3.trans h3⟩)

theorem trans (h : Drifts s t) (k : Drifts t u) : Drifts s u where
  toWets := h.toWets.trans k.toWets
  fill := k.fill.trans h.fill
  record := by
    obtain ⟨h1, h2, h3, h4⟩ := h.record
    obtain ⟨k1, k2, k3, k4⟩ := k.record
    exact ⟨k1.trans h1, k2.trans h2, k3.trans h3, k4.trans h4⟩
  held := fun hf h1 h2 => by
    have hw := h.held hf h1 h2
    have hh : t.wpc.holder = s.wpc.holder := by rw [hw]
    rw [k.held (by rw [h.fill]; exact hf) (by rw [hh]; exact h1) (by rw [hh]; exact h2), hw]
  free := fun hf hh => k.free (h.fill.trans hf) (h.free hf hh)
  burst := fun hr => (k.burst (by rw [h.runningIn]; exact hr)).trans (h.burst hr)
  columns := fun hr hq => by
    obtain ⟨h1, h2⟩ := h.columns hr hq
    obtain ⟨k1, k2⟩ := k.columns (by rw [h.runningIn]; exact hr) h2
    exact ⟨k1.trans h1, k2⟩
  engine := fun hr hw hi => by
    obtain ⟨h1, h2⟩ := h.engine hr hw hi
    obtain ⟨k1, k2⟩ := k.engine (by rw [h.runningIn]; exact hr) (by rw [h.waterFlows (h.burst hr)]; exact hw) h2
    exact ⟨yields_trans h1 k1, k2⟩
  count := fun hr hw => (k.count (by rw [h.runningIn]; exact hr) (by rw [h.waterFlows (h.burst hr)]; exact hw)).trans
    (h.count hr hw)
  placed := fun hd => by
    obtain ⟨h1, h2⟩ := h.placed hd
    obtain ⟨k1, k2⟩ := k.placed h2
    exact ⟨k1.trans h1, k2⟩

theorem ite {c : Prop} [Decidable c] (ha : c → Drifts s a) (hb : ¬ c → Drifts s b) :
    Drifts s (if c then a else b) := by
  split
  · exact ha ‹_›
  · exact hb ‹_›

/-- An operation that leaves inlet, columns and engine, and no report of a dose. -/
theorem of_same (h : Drifts s t) (hw : Wets t u) (h1 : u.wpc = { t.wpc with drainPump := u.wpc.drainPump }) (h2 : u.sfu = t.sfu)
    (h3 : u.rge = t.rge) (h4 : Doseless t → u.seq.placed = t.seq.placed ∧ Doseless u) : Drifts s u := by
  have e1 : u.wpc.fill = t.wpc.fill := by rw [h1]
  have e2 : u.wpc.burst = t.wpc.burst := by rw [h1]
  have e3 : u.wpc.regen = t.wpc.regen := by rw [h1]
  have e4 : u.wpc.holder = t.wpc.holder := by rw [h1]
  refine h.trans ⟨hw, e1, by simp [h2], fun _ _ _ => ?_, fun _ hh => by rw [e4]; exact hh, fun _ => e2, fun _ hq => ⟨h2, ?_⟩,
    fun _ _ hi => ⟨.inl ⟨h3, e3, e4⟩, by rw [h3]; exact hi⟩, fun _ _ => by rw [h1], h4⟩
  · rw [h1]
  · unfold Unqueued
    rw [h2, h3]
    exact hq

theorem refreshPump (h : Drifts s t) : Drifts s (refreshPump t) :=
  h.of_same (Wets.refl t).refreshPump rfl rfl rfl fun hd => ⟨rfl, hd⟩

theorem refreshHeater (h : Drifts s t) : Drifts s (refreshHeater t) :=
  h.of_same (Wets.refl t).refreshHeater rfl rfl rfl fun hd => ⟨rfl, hd⟩

theorem refreshArms (h : Drifts s t) : Drifts s (refreshArms t) :=
  h.of_same (Wets.refl t).refreshArms rfl rfl rfl fun hd => ⟨rfl, hd⟩

theorem onReports (h : Drifts s t) (f : List Report → List Report) (hf : ∀ r ∈ f t.reports, r ∈ t.reports) :
    Drifts s (onReports f t) :=
  h.of_same ((Wets.refl t).onReports f fun hx hr => hx (hf _ hr)) rfl rfl rfl fun hd => ⟨rfl, fun a ha => hd a (hf _ ha)⟩

theorem onLnk (h : Drifts s t) (f : Lnk → Lnk) (hm : (f t.lnk).mask = t.lnk.mask := by rfl)
    (hs : (f t.lnk).stamp = t.lnk.stamp := by rfl) (hn : (f t.lnk).notices = t.lnk.notices := by rfl)
    (hx : (f t.lnk).tx = t.lnk.tx := by rfl) : Drifts s (onLnk f t) :=
  h.of_same ((Wets.refl t).onLnk f hm hs hn hx) rfl rfl rfl fun hd => ⟨rfl, hd⟩

theorem finish (h : Drifts s t) : Drifts s (finish t) := by
  refine h.of_same (Wets.refl t).finish ?_ ?_ ?_ fun hd => ⟨?_, ?_⟩
  all_goals
    obtain ⟨f, l, p, w, he⟩ := Laws.finish_eq t
    rw [he]
  exact hd

theorem revokeRegen (h : Drifts s t) : Drifts s (revokeRegen t) := by
  refine h.trans ?_
  unfold Machine.revokeRegen
  split
  · next hh =>
    refine ⟨by simpa [Machine.revokeRegen, hh] using (Wets.refl t).revokeRegen, rfl, ⟨rfl, rfl, rfl, rfl⟩,
      fun _ hx => absurd hh hx, fun _ _ hx => (nomatch hx), fun _ => rfl, fun _ _ => ⟨rfl, fun hx => by cases hx⟩,
      fun _ _ _ => ⟨.inr (.inl ⟨hh, rfl, rfl, rfl⟩), fun hx => by cases hx⟩, fun _ _ => rfl, fun hd => ⟨rfl, hd⟩⟩
  · next hh =>
    refine ⟨by simpa [Machine.revokeRegen, hh] using (Wets.refl t).revokeRegen, rfl, ⟨rfl, rfl, rfl, rfl⟩,
      fun _ _ hx => absurd hh hx, fun _ _ hx => (nomatch hx), fun _ => rfl, fun _ _ => ⟨rfl, fun hx => by cases hx⟩,
      fun _ _ _ => ⟨.inr (.inr ⟨hh, rfl, rfl, rfl⟩), fun hx => by cases hx⟩, fun _ _ => rfl, fun hd => ⟨rfl, hd⟩⟩
  all_goals exact .refl t

theorem revokeUnlessFlows (h : Drifts s t) : Drifts s (revokeUnlessFlows t) := .ite (fun _ => h) fun _ => h.revokeRegen

end Drifts

/-! ## The softener's operations -/

/-- The softener has moved columns, with their notices and writes; the fill record and its latched values stand. -/
structure Serves (s t : State) : Prop where
  rest : t = { s with sfu := t.sfu, lnk := t.lnk, rst := t.rst }
  record : t.sfu.fill = s.sfu.fill ∧ t.sfu.hRaw = s.sfu.hRaw ∧ t.sfu.hTgt = s.sfu.hTgt ∧ t.sfu.blend = s.sfu.blend

namespace Serves

variable {s t u a b : State}

theorem refl (s : State) : Serves s s := ⟨rfl, rfl, rfl, rfl, rfl⟩

theorem trans (h : Serves s t) (k : Serves t u) : Serves s u := by
  obtain ⟨h0, h1, h2, h3, h4⟩ := h
  obtain ⟨k0, k1, k2, k3, k4⟩ := k
  refine ⟨?_, k1.trans h1, k2.trans h2, k3.trans h3, k4.trans h4⟩
  rw [h0] at k0
  exact k0

theorem ite {c : Prop} [Decidable c] (ha : c → Serves s a) (hb : ¬ c → Serves s b) : Serves s (if c then a else b) := by
  split
  · exact ha ‹_›
  · exact hb ‹_›

theorem onSfu (h : Serves s t) (f : Sfu → Sfu) (h1 : (f t.sfu).fill = t.sfu.fill := by rfl)
    (h2 : (f t.sfu).hRaw = t.sfu.hRaw := by rfl) (h3 : (f t.sfu).hTgt = t.sfu.hTgt := by rfl)
    (h4 : (f t.sfu).blend = t.sfu.blend := by rfl) : Serves s (onSfu f t) := h.trans ⟨rfl, h1, h2, h3, h4⟩

theorem raiseNotice (h : Serves s t) (c : Content) : Serves s (raiseNotice c t) :=
  .ite (fun _ => h.trans ⟨rfl, rfl, rfl, rfl, rfl⟩) fun _ => h

theorem askWrite (h : Serves s t) (i : RecordId) : Serves s (askWrite i t) := h.trans ⟨rfl, rfl, rfl, rfl, rfl⟩

theorem joinPlace_record (r : SwitchReason) (o : Option Column) (f : Sfu) : (joinPlace r o f).fill = f.fill
    ∧ (joinPlace r o f).hRaw = f.hRaw ∧ (joinPlace r o f).hTgt = f.hTgt ∧ (joinPlace r o f).blend = f.blend := by
  unfold joinPlace
  split <;> exact ⟨rfl, rfl, rfl, rfl⟩

theorem setColumnRec_record (f : Sfu) (col : Column) (r : ColRec) : (setColumnRec f col r).fill = f.fill
    ∧ (setColumnRec f col r).hRaw = f.hRaw ∧ (setColumnRec f col r).hTgt = f.hTgt
    ∧ (setColumnRec f col r).blend = f.blend := by
  cases col <;> exact ⟨rfl, rfl, rfl, rfl⟩

theorem switchService (h : Serves s t) (r : SwitchReason) : Serves s (switchService r t) := by
  unfold Machine.switchService
  obtain ⟨h1, h2, h3, h4⟩ := joinPlace_record r t.sfu.service t.sfu
  have h := h.onSfu (fun _ => { joinPlace r t.sfu.service t.sfu with
    service := if t.sfu.valveFault then none else t.sfu.ready.head?
    ready := if t.sfu.valveFault then (joinPlace r t.sfu.service t.sfu).ready
      else (joinPlace r t.sfu.service t.sfu).ready.tail
    rho := 0 }) h1 h2 h3 h4
  have hv : ∀ p, Serves s (commandValve p (Machine.onSfu (fun _ => { joinPlace r t.sfu.service t.sfu with
      service := if t.sfu.valveFault then none else t.sfu.ready.head?
      ready := if t.sfu.valveFault then (joinPlace r t.sfu.service t.sfu).ready
        else (joinPlace r t.sfu.service t.sfu).ready.tail
      rho := 0 }) t)) := fun p => by
    unfold commandValve
    exact h.onSfu _
  exact (((Serves.ite (fun _ => h) fun _ => hv _).onSfu _).raiseNotice _).askWrite _

theorem readyTest (h : Serves s t) : Serves s (readyTest t) := .ite (fun _ => h.switchService _) fun _ => h

theorem releaseRule (h : Serves s t) : Serves s (releaseRule t) := by
  unfold Machine.releaseRule
  split
  · exact h
  · exact .ite (fun _ => h.switchService _) fun _ => h

theorem endTopUp (h : Serves s t) : Serves s (endTopUp t) := (h.askWrite _).releaseRule

theorem admitColumn (h : Serves s t) (col : Column) : Serves s (admitColumn col t) := by
  obtain ⟨h1, h2, h3, h4⟩ := setColumnRec_record t.sfu col { columnRec t.sfu col with exhausted := false }
  obtain ⟨k1, k2, k3, k4⟩ := setColumnRec_record t.sfu col { columnRec t.sfu col with exhausted := true }
  unfold Machine.admitColumn
  refine (h.onSfu _ ?_ ?_ ?_ ?_).askWrite _ <;> dsimp only <;> split <;> assumption

theorem enterResult (h : Serves s t) (col : Column) : Serves s (enterResult col t) := by
  unfold Machine.enterResult
  exact h.onSfu _ (setColumnRec_record _ _ _).1 (setColumnRec_record _ _ _).2.1 (setColumnRec_record _ _ _).2.2.1
    (setColumnRec_record _ _ _).2.2.2

theorem wpc (h : Serves s t) : t.wpc = s.wpc := by rw [h.rest]
theorem seq (h : Serves s t) : t.seq = s.seq := by rw [h.rest]
theorem reports (h : Serves s t) : t.reports = s.reports := by rw [h.rest]
theorem rge (h : Serves s t) : t.rge = s.rge := by rw [h.rest]

end Serves

/-- The engine's finish leaves inlet, sequencer and fill record, and reports at most that the engine has left. -/
theorem finishRegen_keeps (s : State) : (finishRegen s).wpc = s.wpc ∧ (finishRegen s).seq = s.seq
    ∧ ((finishRegen s).reports = s.reports ∨ (finishRegen s).reports = s.reports ++ [.engineLeft])
    ∧ (finishRegen s).sfu.fill = s.sfu.fill ∧ (finishRegen s).sfu.hRaw = s.sfu.hRaw
    ∧ (finishRegen s).sfu.hTgt = s.sfu.hTgt ∧ (finishRegen s).sfu.blend = s.sfu.blend := by
  simp only [finishRegen]
  split
  · exact ⟨rfl, rfl, .inl rfl, rfl, rfl, rfl, rfl⟩
  · next col _ =>
    have hb : Serves s (if s.rge.timeout = .none then
        regenDone col (if (admitColumn col (enterResult col s)).rge.saltMark then .degraded else .completed)
          (if (admitColumn col (enterResult col s)).cfg.reserve
              < (columnRec (admitColumn col (enterResult col s)).sfu col).remaining then .readyQueue else .regenQueue)
          (admitColumn col (enterResult col s))
        else regenDone col .faulted .faultedSet (joinFaulted col s)) :=
      .ite (fun _ => (((Serves.refl s).enterResult col).admitColumn col).raiseNotice _)
        fun _ => ((Serves.refl s).onSfu _).raiseNotice _
    have hr := (Serves.refl (report .engineLeft (askWrite .columns (onRge (fun e => engineIdle e) (if s.rge.timeout = .none then
        regenDone col (if (admitColumn col (enterResult col s)).rge.saltMark then .degraded else .completed)
          (if (admitColumn col (enterResult col s)).cfg.reserve
              < (columnRec (admitColumn col (enterResult col s)).sfu col).remaining then .readyQueue else .regenQueue)
          (admitColumn col (enterResult col s))
        else regenDone col .faulted .faultedSet (joinFaulted col s)))))).readyTest
    obtain ⟨b1, b2, b3, b4⟩ := hb.record
    obtain ⟨r1, r2, r3, r4⟩ := hr.record
    exact ⟨hr.wpc.trans hb.wpc, hr.seq.trans hb.seq, .inr (hr.reports.trans (congrArg (· ++ [_]) hb.reports)),
      r1.trans b1, r2.trans b2, r3.trans b3, r4.trans b4⟩

namespace Drifts

variable {s t : State}

theorem effluentMeetsDrain (h : Drifts s t) : Drifts s (effluentMeetsDrain t) := by
  refine .ite (fun hc => h.trans ?_) fun _ => h
  have hr : runningIn t .drain = true := by
    simp only [Bool.and_eq_true] at hc
    exact hc.2
  have hw : Wets t (finishRegen (withdrawBurst t)) := (Wets.refl t).withdrawBurst.finishRegen
  obtain ⟨k1, k2, k3, k4⟩ := finishRegen_keeps (withdrawBurst t)
  refine ⟨hw, by rw [k1]; rfl, k4, fun _ _ _ => by rw [k1]; rfl, fun _ hh => by rw [k1]; exact hh, ?_, ?_, ?_, ?_, fun hd => ⟨by rw [k2]; rfl, fun a ha => ?_⟩⟩
  · exact fun hx => absurd hr (by simp [hx])
  · exact fun hx => absurd hr (by simp [hx])
  · exact fun hx => absurd hr (by simp [hx])
  · exact fun hx => absurd hr (by simp [hx])
  · rcases k3 with k3 | k3
    · rw [k3] at ha
      exact hd a ha
    · rw [k3] at ha
      have ha : Report.doseEnded a ∈ (Machine.withdrawBurst t).reports := by simpa using ha
      exact hd a ha

theorem handOver (h : Drifts s t) : Drifts s (handOver t) := by
  refine h.trans ?_
  have hw : Wets t (Machine.handOver t) := (Wets.refl t).handOver
  unfold Machine.handOver at hw ⊢
  split
  · exact .refl t
  · next col rest hq =>
    split
    · next hc =>
      simp only [hq, hc, if_true] at hw
      simp only [Bool.and_eq_true, beq_iff_eq, Bool.not_eq_true'] at hc
      obtain ⟨⟨-, hi⟩, hv⟩ := hc
      have hk : Drifts t (Machine.askWrite .columns (takeColumn col (Machine.onSfu (fun f => { f with regenQ := rest }) t))) := by
        refine ⟨hw, ?_, ?_, fun _ _ _ => ?_, fun _ hh => ?_, fun _ => ?_, fun _ hu => ?_, fun _ _ hx => absurd hi hx, fun _ _ => ?_, fun hd => ⟨?_, ?_⟩⟩
        · simp only [takeColumn]; split <;> rfl
        · simp only [takeColumn]; split <;> exact ⟨rfl, rfl, rfl, rfl⟩
        · simp only [takeColumn]; split <;> rfl
        · simp only [takeColumn]; split <;> exact hh
        · simp only [takeColumn]; split <;> rfl
        · exact absurd (hu hi) (by simp [hq, hv])
        · simp only [takeColumn]; split <;> rfl
        · simp only [takeColumn]; split <;> rfl
        · intro a
          simp only [takeColumn]; split <;> exact hd a
      exact hk
    · exact .refl t

theorem markSaltLow_keeps (s : State) : (markSaltLow s).wpc = s.wpc ∧ (markSaltLow s).sfu = s.sfu
    ∧ (markSaltLow s).seq = s.seq ∧ (markSaltLow s).reports = s.reports
    ∧ (markSaltLow s).rge.state = s.rge.state := by
  unfold markSaltLow
  split
  · split
    · exact ⟨rfl, rfl, rfl, rfl, rfl⟩
    · have hr := (Serves.refl (Machine.onRge (fun e => { e with saltMark := true }) s)).raiseNotice
        (.saltLow ‹_› s.rge.brineDrawn)
      have hs : (Machine.raiseNotice (.saltLow ‹_› s.rge.brineDrawn)
          (Machine.onRge (fun e => { e with saltMark := true }) s)).sfu = s.sfu := by
        unfold Machine.raiseNotice
        split <;> rfl
      exact ⟨hr.wpc, hs, hr.seq, hr.reports, (congrArg Rge.state hr.rge).trans rfl⟩
  · exact ⟨rfl, rfl, rfl, rfl, rfl⟩

theorem grantRegen_of_not {s : State} (h : regenGrantable s = false) : grantRegen s = s := by
  unfold Machine.grantRegen
  split <;> simp [h]

/-- A waiting request is granted where the conditions of R39 hold, and only there. -/
theorem grantRegen (h : Drifts s t) (hm : regenMayFlow t = waterFlows t) : Drifts s (grantRegen t) := by
  cases hg : regenGrantable t with
  | false => rw [grantRegen_of_not hg]; exact h
  | true =>
    refine h.trans ?_
    have hw : Wets t (Machine.grantRegen t) := (Wets.refl t).grantRegen
    simp only [regenGrantable, Bool.and_eq_true, beq_iff_eq, bne_iff_ne, ne_eq, Option.isNone_iff_eq_none] at hg
    obtain ⟨⟨⟨hf, hmf⟩, -⟩, -⟩ := hg
    have hk : (Machine.grantRegen t).wpc.fill = t.wpc.fill ∧ (Machine.grantRegen t).wpc.burst = t.wpc.burst
        ∧ (Machine.grantRegen t).sfu = t.sfu ∧ (Machine.grantRegen t).seq = t.seq
        ∧ (Machine.grantRegen t).reports = t.reports
        ∧ (Machine.grantRegen t = t ∨ (Machine.grantRegen t).rge.state ≠ .idle)
        ∧ (t.wpc.holder ≠ .fill → (Machine.grantRegen t).wpc.holder ≠ .fill) := by
      simp only [Machine.grantRegen]
      split
      · split
        · split
          · obtain ⟨k1, k2, k3, k4, k5⟩ := markSaltLow_keeps (Machine.onRge (fun e => { e with state := .brineDraw })
              (beginGrant .brine (Machine.onWpc (fun w => { w with regen := some ⟨.brine, true⟩ }) t)))
            exact ⟨(congrArg Wpc.fill k1).trans rfl, (congrArg Wpc.burst k1).trans rfl, k2, k3, k4, .inr (by rw [k5]; simp [Machine.onRge]),
              fun _ => by rw [k1]; simp [Machine.onRge, beginGrant, Machine.onWpc]⟩
          · exact ⟨rfl, rfl, rfl, rfl, rfl, .inr (by simp [Machine.onRge]), fun _ => by simp [Machine.onRge, beginGrant, Machine.onWpc]⟩
        · exact ⟨rfl, rfl, rfl, rfl, rfl, .inl rfl, id⟩
      · split
        · exact ⟨rfl, rfl, rfl, rfl, rfl, .inr (by simp [Machine.onRge]), fun _ => by simp [Machine.onRge, beginGrant, Machine.onWpc]⟩
        · exact ⟨rfl, rfl, rfl, rfl, rfl, .inl rfl, id⟩
      · exact ⟨rfl, rfl, rfl, rfl, rfl, .inl rfl, id⟩
    obtain ⟨k1, k2, k3, k4, k5, k6, k7⟩ := hk
    refine ⟨hw, k1, by simp [k3], fun hx => by simp [hf] at hx, fun _ => k7, fun _ => k2, fun _ hu => ⟨k3, ?_⟩, fun _ hx => ?_,
      fun _ hx => ?_, fun hd => ⟨by rw [k4], fun a => by rw [k5]; exact hd a⟩⟩
    · rcases k6 with k6 | k6
      · rw [k6]; exact hu
      · exact fun hx => absurd hx k6
    · rw [← hm, hmf] at hx
      exact absurd hx (by simp)
    · rw [← hm, hmf] at hx
      exact absurd hx (by simp)

end Drifts

/-! ## The water path settles -/

/-- A FILL request that waits has its burst, and no program's DRAIN ends it (R38, R49, R90). -/
def Fillable (s : State) : Prop :=
  ∀ q ∈ s.wpc.fill, q.held = true ∨ (s.wpc.burst.isSome = true ∧ runningIn s .drain = false)

/-- A report that makes the sequencer do nothing but strike a dose off its list. -/
def Harmless (s : State) : Report → Prop
  | .engineLeft => runningIn s .drain = false ∨ s.seq.extension = none
  | .fillEnded kind reason _ => kind = .topUp ∨ reason = .withdrawn ∨ reason = .revoked ∨ runningIn s .fill = false
  | .doseEnded _ => runningIn s .dose = false
  | .dryingDone _ => runningIn s .dry = false
  | _ => False

theorem Drifts.waterSettle {s t : State} (h : Drifts s t) (hf : Fillable t) : Drifts s (waterSettle t) := by
  have hg : grantDeferred t = t := Laws.grantDeferred_rests fun q hq => (hf q hq).imp id And.left
  unfold Machine.waterSettle
  rw [hg]
  refine h.refreshPump.effluentMeetsDrain.refreshPump.revokeUnlessFlows.refreshPump.handOver.grantRegen ?_
  have hh : ∀ u : State, (Machine.handOver u).seq = u.seq ∧ waterFlows (Machine.handOver u) = waterFlows u
      ∧ regenMayFlow (Machine.handOver u) = regenMayFlow u := by
    intro u
    unfold Machine.handOver
    split
    · exact ⟨rfl, rfl, rfl⟩
    · split
      · simp only [takeColumn]
        split <;> exact ⟨rfl, rfl, rfl⟩
      · exact ⟨rfl, rfl, rfl⟩
  obtain ⟨-, h2, h3⟩ := hh (Machine.refreshPump (Machine.revokeUnlessFlows (Machine.refreshPump
    (Machine.effluentMeetsDrain (Machine.refreshPump t)))))
  rw [h2, h3]
  rfl

theorem revokeRegen_reports (s : State) : (revokeRegen s).reports = s.reports := by unfold revokeRegen; split <;> rfl

theorem revokeUnlessFlows_reports (s : State) : (revokeUnlessFlows s).reports = s.reports := by
  unfold revokeUnlessFlows
  split
  · rfl
  · exact revokeRegen_reports s

theorem handOver_reports (s : State) : (handOver s).reports = s.reports := by
  unfold handOver
  split
  · rfl
  · split
    · simp only [takeColumn]
      split <;> rfl
    · rfl

theorem grantRegen_reports (s : State) : (grantRegen s).reports = s.reports := by
  simp only [grantRegen]
  split
  · split
    · split
      · exact (Drifts.markSaltLow_keeps _).2.2.2.1
      · rfl
    · rfl
  · split <;> rfl
  · rfl

/-- The settling water path reports at most that the engine has left, in a program's DRAIN (R90). -/
theorem waterSettle_reports {s : State} (hf : Fillable s) : (waterSettle s).reports = s.reports
    ∨ (runningIn s .drain = true ∧ (waterSettle s).reports = s.reports ++ [.engineLeft]) := by
  have hg : grantDeferred s = s := Laws.grantDeferred_rests fun q hq => (hf q hq).imp id And.left
  have he : (waterSettle s).reports = (effluentMeetsDrain (refreshPump s)).reports := by
    rw [waterSettle, hg, grantRegen_reports, handOver_reports, Laws.refreshPump_reports, revokeUnlessFlows_reports,
      Laws.refreshPump_reports]
  rw [he]
  unfold effluentMeetsDrain
  split
  · next hc =>
    obtain ⟨-, -, k, -⟩ := finishRegen_keeps (withdrawBurst (refreshPump s))
    simp only [Bool.and_eq_true] at hc
    exact k.imp id fun k => ⟨hc.2, k⟩
  · exact .inl rfl

/-! ## Harmless reports -/

/-- Nothing that the step has still to take makes the sequencer move. -/
structure Quieted (s : State) : Prop where
  ready : s.part.state = .ready
  fillable : Fillable s
  harmless : ∀ r ∈ s.reports, Harmless s r

theorem Harmless.congr {s t : State} {r : Report} (h : Harmless s r) (h1 : t.seq.state = s.seq.state)
    (h2 : t.seq.sub = s.seq.sub) (h3 : t.seq.extension = s.seq.extension) : Harmless t r := by
  have hr : ∀ b, runningIn t b = runningIn s b := fun b => by simp only [runningIn, h1, h2]
  cases r <;> simp only [Harmless, hr, h3] at h ⊢ <;> exact h

theorem Fillable.drifts {s t : State} (h : Fillable s) (k : Drifts s t) : Fillable t := fun q hq => by
  rw [k.fill] at hq
  exact (h q hq).imp id fun ⟨h1, h2⟩ => ⟨by rw [k.burst h2]; exact h1, by rw [k.runningIn]; exact h2⟩

theorem Quieted.waterSettle {s : State} (h : Quieted s)
    (hx : runningIn s .drain = false ∨ s.seq.extension = none) : Quieted (waterSettle s) := by
  have hd := (Drifts.refl s).waterSettle h.fillable
  refine ⟨by rw [hd.part]; exact h.ready, h.fillable.drifts hd, fun r hr => ?_⟩
  rcases waterSettle_reports h.fillable with he | ⟨-, he⟩
  · rw [he] at hr
    exact (h.harmless r hr).congr hd.state hd.sub hd.extension
  · rw [he] at hr
    rcases List.mem_append.mp hr with hr | hr
    · exact (h.harmless r hr).congr hd.state hd.sub hd.extension
    · rw [List.mem_singleton.mp hr]
      exact Harmless.congr (s := s) hx hd.state hd.sub hd.extension

theorem fillEnded_harmless {s : State} {k : FillKind} {r : FillEnd}
    (h : k = .topUp ∨ r = .withdrawn ∨ r = .revoked ∨ runningIn s .fill = false) : fillEnded k r s = s := by
  unfold fillEnded
  split
  · split
    · next hf => rcases h with h | rfl | rfl | h
                 · cases h
                 · rfl
                 · rfl
                 · exact absurd hf (by simp [h])
    · rfl
  · rfl

theorem doseEnded_harmless {s : State} {a : Nat} (h : runningIn s .dose = false) :
    doseEnded a s = onSeq (fun q => { q with placed := q.placed.erase a }) s := by
  have h : runningIn (onSeq (fun q => { q with placed := q.placed.erase a }) s) .dose = false := h
  unfold doseEnded
  dsimp only
  split
  · simp [h]
  · rfl

/-- A harmless report leaves the state, but for the list of the doses that have not ended. -/
theorem takeReport_harmless {s : State} {r : Report} (h : Harmless s r) : takeReport r s = s
    ∨ ∃ a, r = .doseEnded a ∧ takeReport r s = onSeq (fun q => { q with placed := q.placed.erase a }) s := by
  cases r with
  | fillEnded kind reason n => exact .inl (fillEnded_harmless h)
  | doseEnded a => exact .inr ⟨a, rfl, doseEnded_harmless h⟩
  | dryingDone o =>
    have h : runningIn s .dry = false := h
    exact .inl (by simp [takeReport, dryingDone, h])
  | engineLeft =>
    have h : runningIn s .drain = false ∨ s.seq.extension = none := h
    exact .inl (by rcases h with h | h <;> simp [takeReport, engineLeft, h])
  | _ => exact h.elim

theorem drifts_takeReport {s : State} {r : Report} {l : List Report} (hr : s.reports = r :: l) (h : Harmless s r) :
    Drifts s (takeReport r (onReports (fun _ => l) s)) := by
  have hl : Drifts s (onReports (fun _ => l) s) :=
    (Drifts.refl s).onReports _ fun x hx => by rw [hr]; exact List.mem_cons_of_mem _ hx
  have h' : Harmless (onReports (fun _ => l) s) r := h.congr rfl rfl rfl
  rcases takeReport_harmless h' with he | ⟨a, rfl, he⟩
  · rw [he]
    exact hl
  · rw [he]
    exact (Drifts.refl s).of_same ⟨rfl, rfl, rfl, rfl, rfl, rfl, rfl, rfl, rfl, rfl, rfl, rfl, rfl, fun _ => id,
      fun _ _ => id, id,
      fun hx hm => hx (by rw [hr]; exact List.mem_cons_of_mem _ hm)⟩ rfl rfl rfl fun hd => absurd (show .doseEnded a ∈ s.reports by simp [hr]) (hd a)

/-- The reports of a quieted state are taken without a move of the sequencer. -/
theorem Quieted.takeReports {n : Nat} {s : State} (h : Quieted s) (hx : runningIn s .drain = false ∨ s.seq.extension = none) :
    Drifts s (takeReports n s) := by
  induction n generalizing s with
  | zero => exact (Drifts.refl s).onReports _ (by simp)
  | succ n ih =>
    unfold Machine.takeReports
    split
    · exact .refl s
    · next r l hr =>
      have hd := drifts_takeReport hr (h.harmless r (by simp [hr]))
      have hq : Quieted (takeReport r (onReports (fun _ => l) s)) := by
        refine ⟨by rw [hd.part]; exact h.ready, h.fillable.drifts hd, fun x hx => ?_⟩
        have hl : (takeReport r (onReports (fun _ => l) s)).reports = l := by
          rcases takeReport_harmless ((h.harmless r (by simp [hr])).congr (t := onReports (fun _ => l) s) rfl rfl rfl)
            with he | ⟨a, -, he⟩ <;> rw [he] <;> rfl
        rw [hl] at hx
        exact (h.harmless x (by simp [hr, hx])).congr hd.state hd.sub hd.extension
      have hx' : runningIn (takeReport r (onReports (fun _ => l) s)) .drain = false
          ∨ (takeReport r (onReports (fun _ => l) s)).seq.extension = none := by
        rw [hd.runningIn, hd.extension]
        exact hx
      have hw := (Drifts.refl _).waterSettle hq.fillable
      refine hd.trans (hw.trans (ih (hq.waterSettle hx') ?_))
      rw [hw.runningIn, hw.extension]
      exact hx'

/-! ## The end of a step -/

/-- The water path's part of a step's end, in READY. -/
def rested (s : State) : State := refreshArms (refreshHeater (revokeUnlessFlows (refreshPump s)))

theorem drifts_rested (s : State) : Drifts s (rested s) :=
  (Drifts.refl s).refreshPump.revokeUnlessFlows.refreshHeater.refreshArms

/-- In READY nothing of a start or a shutdown follows the reports (R195, R198). -/
theorem settle_ready {s : State} (h : (takeReports 64 (waterSettle s)).part.state = .ready) :
    settle s = rested (takeReports 64 (waterSettle s)) := by
  have e1 : reachReady (takeReports 64 (waterSettle s)) = takeReports 64 (waterSettle s) := by simp [reachReady, h]
  have e2 : advanceShutdown (takeReports 64 (waterSettle s)) = takeReports 64 (waterSettle s) := by
    simp [advanceShutdown, h]
  unfold settle
  simp only []
  rw [e1, e2]
  rfl

/-- A state without a consequential report settles without a move of the sequencer. -/
theorem Quieted.settle {s : State} (h : Quieted s) (hx : runningIn s .drain = false ∨ s.seq.extension = none) :
    Drifts s (settle s) := by
  have hw := (Drifts.refl s).waterSettle h.fillable
  have ht := hw.trans ((h.waterSettle hx).takeReports (n := 64) (by rw [hw.runningIn, hw.extension]; exact hx))
  rw [settle_ready (by rw [ht.part]; exact h.ready)]
  exact ht.trans (drifts_rested _)

/-- What a step's end gives: outputs at their conditions, and brine or rinse flowing only where they may (R39). -/
structure Settled (s : State) : Prop extends Tidy s where
  flows : s.wpc.holder = .brine ∨ s.wpc.holder = .rinse → regenMayFlow s = true

theorem settled_settle (s : State) : Settled (settle s) := by
  refine ⟨tidy_settle s, ?_⟩
  have hr : ∀ u, (revokeRegen u).wpc.holder ≠ .brine ∧ (revokeRegen u).wpc.holder ≠ .rinse := by
    intro u
    unfold revokeRegen
    split <;> simp_all [onRge, closeInlet, onWpc]
  have hu : ∀ u, (revokeUnlessFlows u).wpc.holder = .brine ∨ (revokeUnlessFlows u).wpc.holder = .rinse →
      regenMayFlow (revokeUnlessFlows u) = true := by
    intro u
    unfold revokeUnlessFlows
    split
    · exact fun _ => ‹_›
    · obtain ⟨h1, h2⟩ := hr u
      rintro (h | h)
      · exact absurd h h1
      · exact absurd h h2
  obtain ⟨x, hx⟩ : ∃ x, settle s = refreshArms (refreshHeater (revokeUnlessFlows x)) := ⟨_, rfl⟩
  rw [hx]
  exact hu x

/-- `t` is what a step makes of `u`: settled, with an answer on the link, and the transmitter and the store gone on. -/
def Concludes (u t : State) : Prop :=
  ∃ f : Lnk → Lnk, (∀ l, (f l).mask = l.mask ∧ (f l).stamp = l.stamp ∧ (f l).notices = l.notices ∧ (f l).tx = l.tx)
    ∧ t = finish (onLnk f (settle u))

theorem concludes_conclude (u : State) : Concludes u (conclude u) := ⟨id, fun _ => ⟨rfl, rfl, rfl, rfl⟩, rfl⟩

/-- The answer and the silence timer of a request (R177, R182). -/
def answered (s : State) (a : Awaiting) (l : Lnk) : Lnk :=
  { l with silence := if silenceCounts s then some 0 else none, awaiting := some a }

theorem answering_silenced (k tag : Byte) (st : Status) (b : ReplyBody) (s v : State) :
    answering k tag st b (silenced s v) = onLnk (answered s ⟨k, tag, ⟨st, b⟩⟩) v := rfl

theorem concludes_answering {s u : State} (k tag : Byte) (st : Status) (b : ReplyBody) :
    Concludes u (finish (answering k tag st b (silenced s (settle u)))) :=
  ⟨answered s ⟨k, tag, ⟨st, b⟩⟩, fun _ => ⟨rfl, rfl, rfl, rfl⟩, congrArg finish (answering_silenced k tag st b s (settle u))⟩

namespace Concludes

variable {u t : State}

theorem drifts (h : Concludes u t) : Drifts (settle u) t := by
  obtain ⟨f, hf, rfl⟩ := h
  obtain ⟨h1, h2, h3, h4⟩ := hf (settle u).lnk
  exact ((Drifts.refl _).onLnk f h1 h2 h3 h4).finish

theorem wpc (h : Concludes u t) : t.wpc = (settle u).wpc := by
  obtain ⟨f, hf, rfl⟩ := h
  simp

theorem sfu (h : Concludes u t) : t.sfu = (settle u).sfu := by
  obtain ⟨f, hf, rfl⟩ := h
  simp

theorem rge (h : Concludes u t) : t.rge = (settle u).rge := by
  obtain ⟨f, hf, rfl⟩ := h
  simp

theorem quiet (h : Concludes u t) : Quiet (settle u) t := by
  obtain ⟨f, hf, rfl⟩ := h
  exact ((Quiet.refl _).onLnk f).finish

theorem settled (h : Concludes u t) : Settled t := by
  refine ⟨h.quiet.tidy (settled_settle u).toTidy, ?_⟩
  have hq := h.quiet
  have he : regenMayFlow t = regenMayFlow (settle u) := by
    simp only [regenMayFlow, hq.permit, hq.wpc]
  rw [he, hq.wpc]
  exact (settled_settle u).flows

end Concludes

end Sys2Proof.Proofs
end

section
/-! PROOFS. What the heater, the circulation and the dosing make of a state: the inlet, the columns, the engine and the drying stand
(`Bides`); and what every report but the end of a drain leaves as it was while a step settles (`Lasts`). -/

/- One theorem at a time, as the tests have it: proofs that wait for the kernel cost a thread each. -/
set_option Elab.async false

namespace Sys2Proof.Proofs

open Sys2Proof.Machine
open Sys2Proof.Safety

/-! ## Heater, circulation and dosing -/

/-- The kinds of the notices that heater and dosing raise on the sequencer's requests: HEAT_TIMEOUT, DOSE_DONE, UNDERDOSE. -/
def serviceNotices : List Nat := [9, 16, 17]

/-- From `s` to `t` only heater, circulation and dosing have moved, with their notices, writes and reports, and of the sequencer
the limit left, the doses placed and the dose in the summary. -/
structure Bides (s t : State) : Prop where
  rest : t = { s with
    seq := t.seq, dsu := t.dsu, htc := t.htc, czs := t.czs, lnk := t.lnk, rst := t.rst, ties := t.ties, reports := t.reports }
  seq : t.seq = { s.seq with
    heatLeft := t.seq.heatLeft, placed := t.seq.placed, summary := { s.seq.summary with dose := t.seq.summary.dose } }
  history : t.rst.history = s.rst.history
  asked : ∀ i, writeAsked i s = true → writeAsked i t = true
  noted : ∀ c, noticeCode c ∉ serviceNotices → notified c s = true → notified c t = true
  undrained : .drainEnded ∉ s.reports → .drainEnded ∉ t.reports

namespace Bides

variable {s t u a b : State}

theorem refl (s : State) : Bides s s := ⟨rfl, rfl, rfl, fun _ => id, fun _ _ => id, id⟩

theorem trans (h : Bides s t) (k : Bides t u) : Bides s u where
  rest := by
    have hr := h.rest
    have kr := k.rest
    rw [hr] at kr
    exact kr
  seq := by rw [k.seq, h.seq]
  history := k.history.trans h.history
  asked := fun i => k.asked i ∘ h.asked i
  noted := fun c hc => k.noted c hc ∘ h.noted c hc
  undrained := k.undrained ∘ h.undrained

theorem ite {c : Prop} [Decidable c] (ha : c → Bides s a) (hb : ¬ c → Bides s b) : Bides s (if c then a else b) := by
  split
  · exact ha ‹_›
  · exact hb ‹_›

theorem part (h : Bides s t) : t.part = s.part := by rw [h.rest]
theorem pins (h : Bides s t) : t.pins = s.pins := by rw [h.rest]
theorem cfg (h : Bides s t) : t.cfg = s.cfg := by rw [h.rest]
theorem wpc (h : Bides s t) : t.wpc = s.wpc := by rw [h.rest]
theorem sfu (h : Bides s t) : t.sfu = s.sfu := by rw [h.rest]
theorem rge (h : Bides s t) : t.rge = s.rge := by rw [h.rest]
theorem ddu (h : Bides s t) : t.ddu = s.ddu := by rw [h.rest]
theorem state (h : Bides s t) : t.seq.state = s.seq.state := by rw [h.seq]
theorem sub (h : Bides s t) : t.seq.sub = s.seq.sub := by rw [h.seq]

/-! ## Updates of one block -/

theorem onDsu (h : Bides s t) (f : Dsu → Dsu) : Bides s (onDsu f t) :=
  h.trans ⟨rfl, rfl, rfl, fun _ => id, fun _ _ => id, id⟩

theorem onHtc (h : Bides s t) (f : Htc → Htc) : Bides s (onHtc f t) :=
  h.trans ⟨rfl, rfl, rfl, fun _ => id, fun _ _ => id, id⟩

theorem onCzs (h : Bides s t) (f : Czs → Czs) : Bides s (onCzs f t) :=
  h.trans ⟨rfl, rfl, rfl, fun _ => id, fun _ _ => id, id⟩

theorem onTies (h : Bides s t) (f : Ties → Ties) : Bides s (onTies f t) :=
  h.trans ⟨rfl, rfl, rfl, fun _ => id, fun _ _ => id, id⟩

theorem onSeq (h : Bides s t) (f : Seq → Seq) (hf : f t.seq = { t.seq with
    heatLeft := (f t.seq).heatLeft, placed := (f t.seq).placed
    summary := { t.seq.summary with dose := (f t.seq).summary.dose } } := by rfl) : Bides s (onSeq f t) :=
  h.trans ⟨rfl, hf, rfl, fun _ => id, fun _ _ => id, id⟩

theorem report (h : Bides s t) (r : Report) (hr : r ≠ .drainEnded := by simp) : Bides s (report r t) :=
  h.trans ⟨rfl, rfl, rfl, fun _ => id, fun _ _ => id, fun hx => by
    simpa [Machine.report, Machine.onReports] using ⟨hx, fun he => hr he.symm⟩⟩

theorem raiseNotice (h : Bides s t) (c : Content) (hc : noticeCode c ∈ serviceNotices) : Bides s (raiseNotice c t) := by
  refine h.trans ⟨?_, ?_, ?_, ?_, fun d hd => notified_raiseNotice_ne fun hx => hd (hx ▸ hc), ?_⟩
  all_goals
    unfold Machine.raiseNotice
    split <;> first | rfl | exact fun _ => id | exact id

theorem askWrite (h : Bides s t) (i : RecordId) : Bides s (askWrite i t) := by
  refine h.trans ⟨rfl, rfl, ?_, fun _ => writeAsked_askWrite, fun _ _ => id, id⟩
  unfold Machine.askWrite askRecord
  simp only [onRst]
  split <;> rfl

/-! ## Heating -/

theorem placeHeating (h : Bides s t) (n l : Nat) : Bides s (placeHeating n l t) :=
  .ite (fun _ => (h.onHtc _).report _) fun _ => .ite (fun _ => ((h.onHtc _).onHtc _).report _) fun _ =>
    .ite (fun _ => ((((h.onHtc _).onHtc _).raiseNotice _ (by simp [noticeCode, serviceNotices])).onHtc _).report _)
      fun _ => h.onHtc _

theorem withdrawHeat (h : Bides s t) : Bides s (withdrawHeat t) := by
  unfold Machine.withdrawHeat
  split
  · exact h
  · exact (h.onHtc _).onSeq _

/-! ## Circulation -/

theorem commandDiverter (h : Bides s t) (z : Zone) : Bides s (commandDiverter z t) := by
  unfold Machine.commandDiverter
  split <;> exact h.onCzs _

theorem beginSlot (h : Bides s t) (z : Zone) : Bides s (beginSlot z t) :=
  .ite (fun _ => h.onCzs _) fun _ => (h.onCzs _).commandDiverter _

theorem nextSlot (h : Bides s t) : Bides s (nextSlot t) := by
  unfold Machine.nextSlot
  split
  · exact h
  · split
    · split
      · exact (h.onCzs _).beginSlot _
      · exact h
    · exact h.beginSlot _

theorem startSchedule (h : Bides s t) (w : PerZone Nat) (l : Nat) : Bides s (startSchedule w l t) := by
  simp only [Machine.startSchedule]
  split
  · exact h.onCzs _
  · exact .ite (fun _ => (h.onCzs _).onCzs _) fun _ => (h.onCzs _).beginSlot _

theorem runCirculation (h : Bides s t) (w : WashRecord) : Bides s (runCirculation w t) :=
  .ite (fun _ => h) fun _ => .ite (fun _ => .ite (fun _ => (h.onCzs _).nextSlot.onCzs _) fun _ => h.onCzs _)
    fun _ => (h.startSchedule _ _).onCzs _

theorem stopCirculation (h : Bides s t) : Bides s (stopCirculation t) :=
  .ite (fun _ => (h.onCzs _).onTies _) fun _ => h

/-! ## Dosing -/

theorem placeDose (h : Bides s t) (p : Nat) (ch : Channel) (v : Nat) : Bides s (placeDose p ch v t) := by
  simp only [Machine.placeDose, joinQueue]
  split
  · exact h
  · split
    · exact (h.onDsu _).onSeq _
    · exact (h.onDsu _).onSeq _

theorem placeDoses (h : Bides s t) (w : WashRecord) (l : List DoseRef) : Bides s (placeDoses w l t) := by
  induction l generalizing t with
  | nil => exact h
  | cons r l ih =>
    rw [placeDoses_cons]
    refine ih ?_
    unfold placeRef
    exact .ite (fun _ => h) fun _ => h.placeDose _ _ _

theorem reportDose (h : Bides s t) (r : DoseReq) (o : DoseOutcome) (w : Option DoseReason) :
    Bides s (reportDose r o w t) := by
  have hr : Bides s (match r.origin with
      | .sequencer _ => Machine.report (.doseEnded r.arrival)
          (Machine.onSeq (fun q => addDose r.channel (r.confirmed * r.strokeVolume) q) t)
      | .hostPrime => t) := by
    split
    · exact (h.onSeq _).report _
    · exact h
  unfold Machine.reportDose
  cases o <;> exact (hr.raiseNotice _ (by simp [noticeCode, serviceNotices])).askWrite _

theorem foldl_reportDose (h : Bides s t) (o : DoseOutcome) (w : Option DoseReason) (l : List DoseReq) :
    Bides s (l.foldl (fun s r => Machine.reportDose r o w s) t) := by
  induction l generalizing t with
  | nil => exact h
  | cons r l ih => exact ih (h.reportDose r o w)

theorem endHead (h : Bides s t) (r : DoseReq) (o : DoseOutcome) (w : Option DoseReason) : Bides s (endHead r o w t) :=
  (h.onDsu _).reportDose _ _ _

theorem setEmpty (h : Bides s t) (ch : Channel) (e : Bool) : Bides s (setEmpty ch e t) :=
  .ite (fun _ => h) fun _ => (h.onDsu _).askWrite _

theorem serve (h : Bides s t) (n : Nat) : Bides s (serve n t) := by
  induction n generalizing t with
  | zero => exact h
  | succ n ih =>
    unfold Machine.serve
    split
    · exact h
    · split
      · exact .ite (fun _ => h.onDsu _) fun _ => ih (h.onDsu _)
      · split
        · exact h.onDsu _
        · dsimp only
          split
          · exact ih ((h.onDsu _).endHead _ _ _)
          · have hp := (h.onDsu fun d => { d with state := .serving }).onDsu
            split
            · exact (hp _).onDsu _
            · split
              · exact (hp _).onDsu _
              · split
                · exact ih (((hp _).setEmpty _ _).endHead _ _ _)
                · exact ((hp _).onDsu _).onDsu _

theorem serveOn (h : Bides s t) : Bides s (serveOn t) := h.serve 16

theorem pauseDosing (h : Bides s t) : Bides s (pauseDosing t) := .ite (fun _ => (h.onDsu _).serveOn) fun _ => h.onDsu _

theorem resumeDosing (h : Bides s t) : Bides s (resumeDosing t) := .ite (fun _ => (h.onDsu _).serveOn) fun _ => h.onDsu _

theorem cancelSequencerDoses (h : Bides s t) : Bides s (cancelSequencerDoses t) := by
  refine .ite (fun _ => ?_) fun _ => h
  have hc : ∀ f : Dsu → Dsu, ∀ l : List DoseReq,
      Bides s (l.foldl (fun s r => Machine.reportDose r .cancelled none s) (Machine.onDsu f t)) :=
    fun f l => (h.onDsu f).foldl_reportDose _ _ _
  unfold cancelFound
  exact .ite (fun _ => .ite (fun _ => (hc _ _).onDsu _) fun _ => hc _ _) fun _ =>
    .ite (fun _ => hc _ _) fun _ => (hc _ _).serveOn

end Bides

/-! ## What lasts while a step settles -/

/-- No end of a drain is reported, and no extension has begun (R30). -/
def Undrained (s : State) : Prop := .drainEnded ∉ s.reports ∧ s.seq.extension = none

/-- From `s` to `t` the part stands, the soil index is the old one or has been sampled anew (R14), and no drain extension has
begun. -/
structure Lasts (s t : State) : Prop where
  part : s.part.homings = {} → t.part = s.part
  pins : t.pins = s.pins
  soil : t.seq.soil = s.seq.soil ∨ t.seq.soil = soilOf (transmission s.pins.turbidity)
  undrained : Undrained s → Undrained t

theorem Wets.lasts {s t : State} (h : Wets s t) : Lasts s t :=
  ⟨fun _ => h.part, h.pins, .inl (by rw [h.seq]), fun ⟨h1, h2⟩ => ⟨h.undrained h1, by rw [h.extension]; exact h2⟩⟩

theorem Bides.lasts {s t : State} (h : Bides s t) : Lasts s t :=
  ⟨fun _ => h.part, h.pins, .inl (by rw [h.seq]), fun ⟨h1, h2⟩ => ⟨h.undrained h1, by rw [h.seq]; exact h2⟩⟩

namespace Lasts

variable {s t u a b : State}

theorem refl (s : State) : Lasts s s := (Wets.refl s).lasts

theorem trans (h : Lasts s t) (k : Lasts t u) : Lasts s u where
  part := fun hh => by
    have hp := h.part hh
    rw [k.part (by rw [hp]; exact hh), hp]
  pins := k.pins.trans h.pins
  soil := by
    rcases k.soil with hk | hk
    · rw [hk]
      exact h.soil
    · exact .inr (by rw [hk, h.pins])
  undrained := k.undrained ∘ h.undrained

theorem wets (h : Lasts s t) (k : Wets t u) : Lasts s u := h.trans k.lasts

theorem bides (h : Lasts s t) (k : Bides t u) : Lasts s u := h.trans k.lasts

theorem ite {c : Prop} [Decidable c] (ha : c → Lasts s a) (hb : ¬ c → Lasts s b) : Lasts s (if c then a else b) := by
  split
  · exact ha ‹_›
  · exact hb ‹_›

/-! ## Updates of one block -/

theorem onSeq (h : Lasts s t) (f : Seq → Seq) (hs : (f t.seq).soil = t.seq.soil := by rfl)
    (he : t.seq.extension = none → (f t.seq).extension = none := by first | exact id | exact fun _ => rfl) :
    Lasts s (onSeq f t) :=
  h.trans ⟨fun _ => rfl, rfl, .inl hs, fun ⟨h1, h2⟩ => ⟨h1, he h2⟩⟩

theorem onWpc (h : Lasts s t) (f : Wpc → Wpc) : Lasts s (onWpc f t) := h.trans ⟨fun _ => rfl, rfl, .inl rfl, id⟩

theorem onDdu (h : Lasts s t) (f : Ddu → Ddu) : Lasts s (onDdu f t) := h.trans ⟨fun _ => rfl, rfl, .inl rfl, id⟩

theorem onHtc (h : Lasts s t) (f : Htc → Htc) : Lasts s (onHtc f t) := h.trans ⟨fun _ => rfl, rfl, .inl rfl, id⟩

theorem onCzs (h : Lasts s t) (f : Czs → Czs) : Lasts s (onCzs f t) := h.trans ⟨fun _ => rfl, rfl, .inl rfl, id⟩

theorem onRst (h : Lasts s t) (f : Rst → Rst) : Lasts s (onRst f t) := h.trans ⟨fun _ => rfl, rfl, .inl rfl, id⟩

theorem onLnk (h : Lasts s t) (f : Lnk → Lnk) : Lasts s (onLnk f t) := h.trans ⟨fun _ => rfl, rfl, .inl rfl, id⟩

theorem onReports (h : Lasts s t) (f : List Report → List Report)
    (hf : .drainEnded ∉ t.reports → .drainEnded ∉ f t.reports) : Lasts s (onReports f t) :=
  h.trans ⟨fun _ => rfl, rfl, .inl rfl, fun ⟨h1, h2⟩ => ⟨hf h1, h2⟩⟩

theorem report (h : Lasts s t) (r : Report) (hr : r ≠ .drainEnded := by simp) : Lasts s (report r t) :=
  h.onReports _ fun hx => by simpa using ⟨hx, fun he => hr he.symm⟩

theorem raiseNotice (h : Lasts s t) (c : Content) : Lasts s (raiseNotice c t) := .ite (fun _ => h.onLnk _) fun _ => h

theorem seqTo (h : Lasts s t) (st : SeqState) (b : SubStage) : Lasts s (seqTo st b t) := h.onSeq _

theorem raiseFault (h : Lasts s t) (c : FaultCode) (d1 d2 : Detail) : Lasts s (raiseFault c d1 d2 t) :=
  ((h.onRst (fun r => { r with history := appendHistory (faultEntry c d1 d2 t) r.history })).onRst
    (fun r => askRecord .faults r) |>.raiseNotice (.fault (faultEntry c d1 d2 t))).onLnk
    fun l => { l with latest := some (faultEntry c d1 d2 t) }

theorem placeFill (h : Lasts s t) (n : Nat) (k : FillKind) : Lasts s (placeFill n k t) := h.wets ((Wets.refl t).placeFill n k)

theorem waterSettle (h : Lasts s t) : Lasts s (waterSettle t) := h.wets (Wets.refl t).waterSettle

/-! ## Drying -/

theorem enterStage (h : Lasts s t) (st : DryStage) (n : Nat) : Lasts s (enterStage st n t) := (h.onDdu _).raiseNotice _

theorem reachDone (h : Lasts s t) : Lasts s (reachDone t) :=
  .ite (fun _ => ((h.onDdu _).enterStage _ _).report _) fun _ => (h.onDdu _).enterStage _ _

theorem doneWith (h : Lasts s t) (o : DryOutcome) : Lasts s (doneWith o t) := (h.onDdu _).reachDone

theorem enterOpening (h : Lasts s t) : Lasts s (enterOpening t) := by
  unfold Machine.enterOpening
  exact (h.enterStage _ _).onDdu _

theorem enterWaitCool (h : Lasts s t) : Lasts s (enterWaitCool t) :=
  have h := h.enterStage .waitCool 0
  .ite (fun _ => h.enterOpening) fun _ => h

theorem enterDwell (h : Lasts s t) : Lasts s (enterDwell t) :=
  have h := h.enterStage .dwell (if t.ddu.formOpen then t.ddu.dwell else t.ddu.dwell + t.ddu.openTime)
  .ite (fun _ => .ite (fun _ => h.enterWaitCool) fun _ => h.doneWith _) fun _ => h

theorem takeStart (h : Lasts s t) (p : DryStart) : Lasts s (takeStart p t) :=
  .ite (fun _ => (h.onDdu _).doneWith _) fun _ => (h.onDdu _).enterDwell

theorem enterDone (h : Lasts s t) : Lasts s (enterDone t) := by
  simp only [Machine.enterDone]
  split
  · exact h.reachDone
  · exact .ite (fun _ => ((h.reachDone.onDdu _).onDdu _).report _) fun _ => (h.reachDone.onDdu _).takeStart _

theorem actuatorHomed (h : Lasts s t) : Lasts s (actuatorHomed t) :=
  h.trans ⟨fun hh => by
    have hp : { t.part with homings := { t.part.homings with actuator := false } } = t.part := by
      rw [hh, ← hh]
    exact hp, rfl, .inl rfl, id⟩

theorem retract (h : Lasts s t) : Lasts s (retract t) := by
  have h := (h.onDdu fun d => { d with drive := .stopped, stall := none }).enterStage .retracting 0
  refine .ite (fun _ => ?_) fun _ => h.onDdu _
  have h := ((h.onDdu fun d => { d with count := 0, homed := true }).onDdu
    fun d => { d with drive := .stopped, stall := none }).actuatorHomed
  exact .ite (fun _ => h.enterDone) fun _ => h

theorem endDrying (h : Lasts s t) : Lasts s (endDrying t) := by
  simp only [Machine.endDrying]
  split
  · split
    · exact (h.onDdu _).reachDone
    · exact (h.onDdu _).reachDone
    · exact (h.onDdu _).retract
    · exact (h.onDdu _).retract
    all_goals exact h.onDdu _
  · exact h.onDdu _

theorem startDrying (h : Lasts s t) (p : DryStart) : Lasts s (startDrying p t) := by
  unfold Machine.startDrying
  exact .ite (fun _ => Lasts.onDdu (.ite (fun _ => h.endDrying) fun _ => h) _) fun _ =>
    .takeStart (.ite (fun _ => h.endDrying) fun _ => h) _

/-! ## The sequencer -/

theorem beginFill (h : Lasts s t) (w : WashRecord) : Lasts s (beginFill w t) :=
  ((h.onSeq fun q => { q with fillBegun := true }).wets (Wets.refl _).openFill).placeFill _ _

theorem marked (h : Lasts s t) (p : Phase) : Lasts s (marked p t) := by
  unfold Proofs.marked
  exact (((h.onSeq (fun q => phaseMarks q) rfl fun _ => rfl).raiseNotice _).onHtc _).onCzs _

theorem enterPhase (h : Lasts s t) : Lasts s (enterPhase t) := by
  cases hc : currentPhase t with
  | none => simpa [Machine.enterPhase, hc] using h
  | some p =>
    cases p with
    | dry d o =>
      rw [enterPhase_dry hc]
      exact ((h.marked _).seqTo _ _).startDrying _
    | wash k w =>
      cases hd : t.ddu.doorOpen with
      | true =>
        rw [enterPhase_suspended hc hd]
        exact ((h.marked _).seqTo _ _).onSeq _
      | false =>
        rw [enterPhase_fill hc hd]
        exact ((h.marked _).seqTo _ _).beginFill w

theorem enterNext (h : Lasts s t) : Lasts s (enterNext t) := (h.onSeq _).enterPhase

theorem phaseEndRaised (h : Lasts s t) : Lasts s (phaseEndRaised t) := by
  unfold Proofs.phaseEndRaised
  split
  · exact h.raiseNotice _
  · exact h

theorem endPhase (h : Lasts s t) : Lasts s (endPhase t) := by
  rw [endPhase_eq]
  have h := h.phaseEndRaised
  exact .ite (fun _ => ((h.onSeq _).onSeq _).raiseNotice _) fun _ =>
    .ite (fun _ => (h.onSeq _).raiseNotice _) fun _ => h.enterNext

theorem placeDrain (h : Lasts s t) : Lasts s (placeDrain t) := h.onWpc _

theorem dropDrain (h : Lasts s t) : Lasts s (dropDrain t) := h.onWpc _

theorem endDrain (h : Lasts s t) : Lasts s (endDrain t) :=
  (h.onSeq fun q => { q with extension := none }).dropDrain.endPhase

theorem endCirculate (h : Lasts s t) (w : WashRecord) : Lasts s (endCirculate w t) := by
  have hs : Lasts s (stopCirculation (withdrawFill (withdrawHeat t))) :=
    ((h.bides (Bides.refl t).withdrawHeat).wets (Wets.refl _).withdrawFill).bides (Bides.refl _).stopCirculation
  have hp : ∀ u : State, Lasts u (Machine.onSeq (fun q => { q with soil := soilOf (transmission u.pins.turbidity) }) u) :=
    fun u => ⟨fun _ => rfl, rfl, .inr rfl, id⟩
  have hs : Lasts s (if w.sample then Machine.onSeq (fun q => { q with
      soil := soilOf (transmission (stopCirculation (withdrawFill (withdrawHeat t))).pins.turbidity) })
      (stopCirculation (withdrawFill (withdrawHeat t))) else stopCirculation (withdrawFill (withdrawHeat t))) :=
    .ite (fun _ => hs.trans (hp _)) fun _ => hs
  exact .ite (fun _ => (hs.seqTo _ _).placeDrain) fun _ => hs.endPhase

theorem enterCirculate (h : Lasts s t) (w : WashRecord) : Lasts s (enterCirculate w t) :=
  .ite (fun _ => ((h.seqTo _ _).onSeq _).endCirculate w) fun _ =>
    ((h.seqTo _ _).onSeq _).bides ((Bides.refl _).runCirculation w)

theorem enterHeat (h : Lasts s t) (w : WashRecord) : Lasts s (enterHeat w t) :=
  .ite (fun _ => (h.seqTo _ _).bides (((Bides.refl _).runCirculation w).placeHeating _ _)) fun _ => h.enterCirculate w

theorem enterDose (h : Lasts s t) (w : WashRecord) : Lasts s (enterDose w t) := by
  have hd := (h.seqTo .running .dose).bides (((Bides.refl _).runCirculation w).placeDoses w w.refs)
  exact .ite (fun _ => h.enterHeat w) fun _ => .ite (fun _ => hd.enterHeat w) fun _ => hd

theorem programEnd (h : Lasts s t) : Lasts s (programEnd t) := h.raiseNotice _

theorem setOutcome (h : Lasts s t) (o : Outcome) : Lasts s (setOutcome o t) := h.onSeq _

theorem holdCode (h : Lasts s t) (c : FaultCode) : Lasts s (holdCode c t) := h.onSeq _

theorem enterFaulted (h : Lasts s t) : Lasts s (enterFaulted t) := (h.seqTo _ _).programEnd

theorem enterEnding (h : Lasts s t) : Lasts s (enterEnding t) := (h.seqTo _ _).placeDrain

theorem stopProgram (h : Lasts s t) : Lasts s (stopProgram t) := by
  have hs := (((h.bides (Bides.refl t).withdrawHeat).wets (Wets.refl _).withdrawFill.closeFill).bides
    (Bides.refl _).cancelSequencerDoses.stopCirculation)
  unfold Machine.stopProgram
  exact Lasts.onSeq (.ite (fun _ => hs.dropDrain) fun _ => hs) _ rfl fun _ => rfl

theorem faultRunning (h : Lasts s t) (c : FaultCode) : Lasts s (if runningIn t .dry then
      Machine.enterFaulted (Machine.setOutcome .faulted (Machine.holdCode c
        (Machine.onSeq (fun q => { q with holdPending := false }) (Machine.endDrying t))))
    else if drainsAfter c then Machine.enterEnding (Machine.setOutcome .faulted (Machine.holdCode c (Machine.stopProgram t)))
      else Machine.enterFaulted (Machine.setOutcome .faulted (Machine.holdCode c (Machine.stopProgram t)))) :=
  .ite (fun _ => (((h.endDrying.onSeq _).holdCode c).setOutcome _).enterFaulted) fun _ =>
    .ite (fun _ => ((h.stopProgram.holdCode c).setOutcome _).enterEnding) fun _ =>
      ((h.stopProgram.holdCode c).setOutcome _).enterFaulted

theorem programFault (h : Lasts s t) (c : FaultCode) : Lasts s (programFault c t) := by
  unfold Machine.programFault
  split
  · exact (h.seqTo _ _).holdCode _
  · exact (h.seqTo _ _).holdCode _
  · exact h.faultRunning c
  · exact h.faultRunning c
  · exact h.faultRunning c
  · exact h.faultRunning c
  · exact .ite (fun _ => (h.holdCode c).setOutcome _) fun _ => ((h.holdCode c).setOutcome _).dropDrain.enterFaulted
  · exact h

theorem fillEnded (h : Lasts s t) (k : FillKind) (r : FillEnd) : Lasts s (fillEnded k r t) := by
  unfold Machine.fillEnded
  split
  · next w _ =>
    refine .ite (fun _ => ?_) fun _ => h
    split
    · exact (h.wets (Wets.refl t).closeFill).enterDose w
    · exact (h.wets (Wets.refl t).closeFill).enterDose w
    · have hl := h.onSeq fun q => { q with fillTimeouts := q.fillTimeouts + 1 }
      exact .ite (fun _ => (hl.onSeq _).raiseNotice _) fun _ => (hl.raiseFault _ _ _).programFault _
    · exact h
    · exact h
  · exact h

theorem doseEnded (h : Lasts s t) (n : Nat) : Lasts s (doseEnded n t) := by
  have h := h.onSeq fun q => { q with placed := q.placed.erase n }
  simp only [Machine.doseEnded]
  split
  · exact .ite (fun _ => h.enterHeat _) fun _ => h
  · exact h

theorem heatEnded (h : Lasts s t) : Lasts s (heatEnded t) := by
  unfold Machine.heatEnded
  split
  · exact .ite (fun _ => h.enterCirculate _) fun _ => h
  · exact h

theorem sensorFailedToSeq (h : Lasts s t) : Lasts s (sensorFailedToSeq t) := by
  have h := h.onSeq fun q => { q with heaterOff := true }
  simp only [Machine.sensorFailedToSeq]
  split
  · exact .ite (fun _ => (h.bides (Bides.refl _).withdrawHeat).enterCirculate _) fun _ => h
  · exact h

theorem suspend (h : Lasts s t) : Lasts s (suspend t) := by
  have h := (((h.onSeq fun q => { q with
    state := .suspended, sub := .none, remembered := .sub t.seq.sub, settling := none }).wets
      (Wets.refl _).withdrawFill).bides (Bides.refl _).withdrawHeat.stopCirculation)
  rw [suspend_eq]
  split
  · exact h.bides (Bides.refl _).pauseDosing
  · exact (h.onSeq fun q => { q with extension := none }).dropDrain
  all_goals exact h

theorem doorOpenedToSeq (h : Lasts s t) : Lasts s (doorOpenedToSeq t) := by
  unfold Machine.doorOpenedToSeq
  split
  · exact .ite (fun _ => h) fun _ => h.suspend
  · exact h.onSeq _
  · exact h.onSeq _
  all_goals exact h

/-- A report other than the end of a drain. -/
theorem takeReport (h : Lasts s t) (r : Report) (hr : r ≠ .drainEnded) : Lasts s (takeReport r t) := by
  cases r with
  | fillEnded k e n => exact h.fillEnded k e
  | fillRefused => exact .ite (fun _ => h.programFault _) fun _ => h
  | drainEnded => exact absurd rfl hr
  | programFault c => exact h.programFault c
  | targetReached => exact h.heatEnded
  | heatLimitExpired => exact h.heatEnded
  | heatDisabled => exact h.heatEnded
  | sensorFailed => exact h.sensorFailedToSeq
  | doseEnded n => exact h.doseEnded n
  | pressureLow => exact .ite (fun _ => (h.onSeq _).placeFill _ _) fun _ => h
  | doorOpened => exact h.doorOpenedToSeq
  | doorClosed => exact .ite (fun _ => h.onSeq _) fun _ => h
  | dryingDone o => exact .ite (fun _ => h.endPhase) fun _ => h
  | engineLeft => exact .ite (fun _ => h.endDrain) fun _ => h
  | linkLost => exact .ite (fun _ => (h.onSeq _).enterNext) fun _ => h.onSeq _

theorem takeReports (h : Lasts s t) (hs : Undrained s) (n : Nat) : Lasts s (takeReports n t) := by
  induction n generalizing t with
  | zero => exact h.onReports _ fun _ => by simp
  | succ n ih =>
    have hu := (h.undrained hs).1
    unfold Machine.takeReports
    split
    · exact h
    · next r l hr =>
      rw [hr] at hu
      refine ih (Lasts.waterSettle (Lasts.takeReport (h.onReports _ fun _ hx => ?_) r fun he => ?_))
      · exact hu (List.mem_cons_of_mem _ hx)
      · exact hu (by simp [he])

/-- A step that settles in READY, with no end of a drain reported. -/
theorem settle (hs : Undrained s) (hp : s.part.state = .ready) (hh : s.part.homings = {}) : Lasts s (settle s) := by
  have h := (Lasts.refl s).waterSettle.takeReports hs 64
  rw [settle_ready (by rw [h.part hh]; exact hp)]
  exact h.wets (drifts_rested _).toWets

end Lasts

end Sys2Proof.Proofs
end

section
/-! PROOFS. How the sequencer's main fill meets the inlet (R38, R41, R49): what the request leaves at once, and how far a state has
moved when water path, blocks and sequencer have gone on within a phase (`Moves`). -/

/- One theorem at a time, as the tests have it: proofs that wait for the kernel cost a thread each. -/
set_option Elab.async false

namespace Sys2Proof.Proofs

open Sys2Proof.Machine
open Sys2Proof.Safety

/-! ## The engine gives way -/

/-- Without a fill the inlet's holder follows from the engine's state. -/
theorem holder_of_engine {s : State} (hg : GrantsAgree s) (hf : s.wpc.fill = none) : s.wpc.holder =
    match s.rge.state with
    | .brineDraw => .brine
    | .rinse => .rinse
    | _ => .none := by
  obtain ⟨h1, h2, -⟩ := hg
  rw [h2]
  unfold holderOf
  rw [hf, h1]
  unfold engineRequest
  cases hs : s.rge.state with
  | brineWait => cases hl : s.rge.lidOpen <;> simp
  | _ => rfl

/-- A request of the engine that is not held. -/
theorem regen_of_waiting {s : State} (hg : GrantsAgree s) (h1 : s.rge.state ≠ .brineDraw) (h2 : s.rge.state ≠ .rinse) :
    s.wpc.regen.map (fun r => { r with held := false }) = s.wpc.regen := by
  rw [hg.1]
  unfold engineRequest
  cases hs : s.rge.state with
  | brineWait => cases hl : s.rge.lidOpen <;> simp
  | brineDraw => exact absurd hs h1
  | rinse => exact absurd hs h2
  | _ => rfl

/-- An engine that yields, and holds the inlet no longer, has given way. -/
theorem engineGivesWay_of_yields {s t : State} (hg : GrantsAgree s) (hf : s.wpc.fill = none) (hy : Yields s t)
    (hb : t.wpc.holder ≠ .brine) (hr : t.wpc.holder ≠ .rinse) (hp : Piped t.wpc) : EngineGivesWay s t := by
  have hv : t.wpc.brineValve = false := by rw [hp.brine]; simpa using hb
  have hh := holder_of_engine hg hf
  have hq := hg.1
  unfold engineRequest at hq
  rcases hy with ⟨h1, h2, h3⟩ | ⟨h0, h1, h2, -⟩ | ⟨h0, h1, h2, -⟩
  · rw [h3, hh] at hb hr
    have hd : s.rge.state ≠ .brineDraw ∧ s.rge.state ≠ .rinse :=
      ⟨fun hs => by simp [hs] at hb, fun hs => by simp [hs] at hr⟩
    refine ⟨?_, by rw [h2, regen_of_waiting hg hd.1 hd.2], hv⟩
    rw [h1]
    obtain ⟨hx, hy⟩ := hd
    generalize s.rge = e at hx hy
    obtain ⟨st⟩ := e
    cases st with
    | brineDraw => exact absurd rfl hx
    | rinse => exact absurd rfl hy
    | _ => rfl
  · have hs : s.rge.state = .brineDraw := by
      rw [h0] at hh
      cases hs : s.rge.state <;> rw [hs] at hh <;> first | rfl | exact nomatch hh
    rw [hs] at hq
    exact ⟨by rw [h1, hs], by rw [h2, hq]; rfl, hv⟩
  · have hs : s.rge.state = .rinse := by
      rw [h0] at hh
      cases hs : s.rge.state <;> rw [hs] at hh <;> first | rfl | exact nomatch hh
    rw [hs] at hq
    exact ⟨by rw [h1, hs], by rw [h2, hq]; rfl, hv⟩

theorem revokeRegen_yields (s : State) : Yields s (revokeRegen s) ∧ (revokeRegen s).wpc.holder ≠ .brine
    ∧ (revokeRegen s).wpc.holder ≠ .rinse ∧ (revokeRegen s).wpc.fill = s.wpc.fill ∧ (revokeRegen s).sfu = s.sfu
    ∧ ((revokeRegen s).rge.state = .idle → s.rge.state = .idle) := by
  unfold revokeRegen
  split
  · next hh => exact ⟨.inr (.inl ⟨hh, rfl, rfl, rfl⟩), nofun, nofun, rfl, rfl, nofun⟩
  · next hh => exact ⟨.inr (.inr ⟨hh, rfl, rfl, rfl⟩), nofun, nofun, rfl, rfl, nofun⟩
  · next hh => exact ⟨.inl ⟨rfl, rfl, rfl⟩, by simp [hh], by simp [hh], rfl, rfl, id⟩
  · next hh => exact ⟨.inl ⟨rfl, rfl, rfl⟩, by simp [hh], by simp [hh], rfl, rfl, id⟩

/-! ## The request meets the inlet -/

/-- The grant of a request, as it begins (R37, R38). -/
def granted (q : FillReq) (s : State) : State :=
  onWpc (fun w => { w with fill := some { q with held := true }, fillTimer := some 0 }) (beginGrant .fill (revokeRegen s))

section
variable {s : State} (n : Nat) (k : FillKind) (hf : s.wpc.fill = none)
include hf

theorem placeFill_unfilled : placeFill n k s = offerFill ⟨n, k, false⟩ s := by simp [placeFill, withdrawFill, hf]

theorem placeFill_refused (hi : s.wpc.inhibit = true) :
    placeFill n k s = report .fillRefused (onWpc (fun w => { w with fill := none }) s) := by
  rw [placeFill_unfilled n k hf, offerFill, if_pos hi]

theorem placeFill_waits (hi : s.wpc.inhibit = false) (hb : s.wpc.burst.isSome = true) :
    placeFill n k s = onWpc (fun w => { w with fill := some ⟨n, k, false⟩ }) s := by
  rw [placeFill_unfilled n k hf, offerFill, if_neg (by simp [hi]), if_pos hb]

theorem placeFill_meets (hi : s.wpc.inhibit = false) (hb : s.wpc.burst = none) :
    placeFill n k s = if s.wpc.highLevel then endFill .highLevel (granted ⟨n, k, false⟩ s) else granted ⟨n, k, false⟩ s := by
  rw [placeFill_unfilled n k hf, offerFill, if_neg (by simp [hi]), if_neg (by simp [hb]), grantFill]
  have hh : (granted ⟨n, k, false⟩ s).wpc.highLevel = s.wpc.highLevel :=
    Wets.highLevel (((Wets.refl s).revokeRegen.beginGrant _).onWpc _ fun hp => ⟨hp.1, hp.2⟩)
  rw [← hh]
  rfl

end

/-! ## A state that has moved within its phase -/

/-- The kinds of the notices that may rise between the entry of a phase and its end: PROGRAM_END, and those of columns, engine,
heater and dosing. -/
def phaseNotices : List Nat := 7 :: engineNotices ++ serviceNotices

/-- From `s` to `t` water path, blocks and sequencer have gone on within the phase. -/
structure Goes (s t : State) : Prop where
  part : t.part = s.part
  cfg : t.cfg = s.cfg
  ddu : t.ddu = s.ddu
  history : t.rst.history = s.rst.history
  seq : t.seq = { s.seq with
    state := t.seq.state, sub := t.seq.sub, permit := t.seq.permit, placed := t.seq.placed, heatLeft := t.seq.heatLeft
    heaterOff := t.seq.heaterOff, holdTimer := t.seq.holdTimer, holdPending := t.seq.holdPending, fault := t.seq.fault
    waterWait := t.seq.waterWait, extension := t.seq.extension, fillBegun := t.seq.fillBegun, settling := t.seq.settling, remembered := t.seq.remembered
    summary := { s.seq.summary with dose := t.seq.summary.dose, outcome := t.seq.summary.outcome } }
  settling : s.seq.settling = none → t.seq.settling = none
  remembered : s.seq.remembered = .none → t.seq.remembered = .none
  holdPending : s.seq.holdPending = false → t.seq.holdPending = false
  burst : t.wpc.burst = s.wpc.burst
  inhibit : t.wpc.inhibit = s.wpc.inhibit
  piped : Piped s.wpc → Piped t.wpc
  noted : ∀ c, noticeCode c ∉ phaseNotices → notified c s = true → notified c t = true

/-- From `s`, without a fill and outside DRAIN, to `t` water path, blocks and sequencer have gone on without a new fill; the
engine has at most given way. -/
structure Moves (s t : State) : Prop extends Goes s t where
  fill : s.wpc.fill = none → t.wpc.fill = none
  free : s.wpc.holder ≠ .fill → t.wpc.holder ≠ .fill
  count : t.wpc.grantCount = s.wpc.grantCount
  record : s.sfu.fill.isOpen = false → t.sfu.fill = s.sfu.fill
  engine : s.rge.state ≠ .idle → Yields s t ∧ t.rge.state ≠ .idle

namespace Goes

variable {s t u : State}

theorem refl (s : State) : Goes s s := ⟨rfl, rfl, rfl, rfl, rfl, id, id, id, rfl, rfl, id, fun _ _ => id⟩

theorem trans (h : Goes s t) (k : Goes t u) : Goes s u where
  part := k.part.trans h.part
  cfg := k.cfg.trans h.cfg
  ddu := k.ddu.trans h.ddu
  history := k.history.trans h.history
  seq := by rw [k.seq, h.seq]
  settling := k.settling ∘ h.settling
  remembered := k.remembered ∘ h.remembered
  holdPending := k.holdPending ∘ h.holdPending
  burst := k.burst.trans h.burst
  inhibit := k.inhibit.trans h.inhibit
  piped := k.piped ∘ h.piped
  noted := fun c hc => k.noted c hc ∘ h.noted c hc

theorem idx (h : Goes s t) : t.seq.idx = s.seq.idx := by rw [h.seq]

theorem currentWash (h : Goes s t) : currentWash t = currentWash s := currentWash_congr (by rw [h.seq]) (by rw [h.seq])

/-- The water path goes on and leaves the drain burst. -/
theorem wets (h : Goes s t) (k : Wets t u) (hb : u.wpc.burst = t.wpc.burst) : Goes s u :=
  h.trans {
    part := k.part, cfg := k.cfg, ddu := k.ddu, history := k.history
    seq := by rw [k.seq]
    settling := by rw [k.seq]; exact id
    remembered := by rw [k.seq]; exact id
    holdPending := by rw [k.seq]; exact id
    burst := hb
    inhibit := k.inhibit
    piped := k.piped
    noted := fun c hc => k.noted c fun hx => hc (by simp [phaseNotices, hx]) }

end Goes

namespace Moves

variable {s t u : State}

theorem refl (s : State) : Moves s s := ⟨.refl s, id, id, rfl, fun _ => rfl, fun h => ⟨.inl ⟨rfl, rfl, rfl⟩, h⟩⟩

theorem trans (h : Moves s t) (k : Moves t u) : Moves s u where
  toGoes := h.toGoes.trans k.toGoes
  fill := k.fill ∘ h.fill
  free := k.free ∘ h.free
  count := k.count.trans h.count
  record := fun ho => by
    have hr := h.record ho
    rw [k.record (by rw [hr]; exact ho), hr]
  engine := fun hi => by
    obtain ⟨h1, h2⟩ := h.engine hi
    obtain ⟨k1, k2⟩ := k.engine h2
    exact ⟨Drifts.yields_trans h1 k1, k2⟩

/-- The water path drifts, outside DRAIN and with no brine or rinse allowed to flow. -/
theorem drifts (h : Moves s t) (k : Drifts t u) (hf : t.wpc.fill = none) (hr : runningIn t .drain = false)
    (hw : waterFlows t = false) : Moves s u :=
  h.trans {
    toGoes := (Goes.refl t).wets k.toWets (k.burst hr)
    fill := fun hx => k.fill.trans hx
    free := k.free hf
    count := k.count hr hw
    record := fun _ => k.record.1
    engine := k.engine hr hw }

/-- Heater, circulation and dosing go on. -/
theorem bides (h : Moves s t) (k : Bides t u) : Moves s u :=
  h.trans {
    part := k.part, cfg := k.cfg, ddu := k.ddu, history := k.history
    seq := by rw [k.seq]
    settling := by rw [k.seq]; exact id
    remembered := by rw [k.seq]; exact id
    holdPending := by rw [k.seq]; exact id
    burst := by rw [k.wpc]
    inhibit := by rw [k.wpc]
    piped := by rw [k.wpc]; exact id
    noted := fun c hc => k.noted c fun hx => hc (by simp [phaseNotices, hx])
    fill := by rw [k.wpc]; exact id
    free := by rw [k.wpc]; exact id
    count := by rw [k.wpc]
    record := fun _ => by rw [k.sfu]
    engine := fun hi => ⟨.inl ⟨k.rge, by rw [k.wpc], by rw [k.wpc]⟩, by rw [k.rge]; exact hi⟩ }

/-- The sequencer moves by itself. -/
theorem onSeq (h : Moves s t) (f : Seq → Seq) (hs : f t.seq = { t.seq with
      state := (f t.seq).state, sub := (f t.seq).sub, permit := (f t.seq).permit, placed := (f t.seq).placed
      heatLeft := (f t.seq).heatLeft, heaterOff := (f t.seq).heaterOff, holdTimer := (f t.seq).holdTimer
      holdPending := (f t.seq).holdPending, fault := (f t.seq).fault, waterWait := (f t.seq).waterWait
      extension := (f t.seq).extension, fillBegun := (f t.seq).fillBegun, settling := (f t.seq).settling, remembered := (f t.seq).remembered
      summary := { t.seq.summary with dose := (f t.seq).summary.dose, outcome := (f t.seq).summary.outcome } } := by rfl)
    (h1 : t.seq.settling = none → (f t.seq).settling = none := by first | exact id | exact fun _ => rfl)
    (h2 : t.seq.remembered = .none → (f t.seq).remembered = .none := by first | exact id | exact fun _ => rfl)
    (h3 : t.seq.holdPending = false → (f t.seq).holdPending = false := by first | exact id | exact fun _ => rfl) :
    Moves s (onSeq f t) :=
  h.trans ⟨⟨rfl, rfl, rfl, rfl, hs, h1, h2, h3, rfl, rfl, id, fun _ _ => id⟩, id, id, rfl, fun _ => rfl,
    fun hi => ⟨.inl ⟨rfl, rfl, rfl⟩, hi⟩⟩

theorem seqTo (h : Moves s t) (st : SeqState) (b : SubStage) : Moves s (seqTo st b t) := h.onSeq _

end Moves

end Sys2Proof.Proofs
end

section
/-! PROOFS. How a main fill that is over at once (R41), or refused for flood (R38), settles: what follows FILL begins, or the program
is FAULTED (R26). -/

/- One theorem at a time, as the tests have it: proofs that wait for the kernel cost a thread each. -/
set_option Elab.async false

namespace Sys2Proof.Proofs

open Sys2Proof.Machine
open Sys2Proof.Safety

/-! ## One report -/

/-- A state with one report settles as what the sequencer makes of the report does. -/
theorem takeReports_one {u : State} {r : Report} (hr : u.reports = [r]) (hf : Fillable u)
    (hd : runningIn u .drain = false) : ∃ v, Drifts u v ∧ v.reports = []
      ∧ ∀ n, takeReports (n + 1) (waterSettle u) = takeReports n (waterSettle (takeReport r v)) := by
  have hw : (waterSettle u).reports = [r] := by
    rcases waterSettle_reports hf with he | ⟨hx, -⟩
    · rw [he, hr]
    · rw [hd] at hx
      cases hx
  refine ⟨onReports (fun _ => []) (waterSettle u), ((Drifts.refl u).waterSettle hf).onReports _ (by simp), rfl, fun n => ?_⟩
  conv_lhs => unfold takeReports
  rw [hw]

/-! ## Reports of the blocks -/

theorem withdrawHeat_reports (s : State) : (withdrawHeat s).reports = s.reports := by
  unfold withdrawHeat
  split <;> rfl

theorem withdrawHeat_summary (s : State) : (withdrawHeat s).seq.summary = s.seq.summary := by
  unfold withdrawHeat
  split <;> rfl

theorem commandDiverter_rest (z : Zone) (s : State) : commandDiverter z s = { s with czs := (commandDiverter z s).czs } := by
  unfold commandDiverter
  split <;> rfl

theorem beginSlot_rest (z : Zone) (s : State) : beginSlot z s = { s with czs := (beginSlot z s).czs } := by
  unfold beginSlot
  dsimp only
  split
  · rfl
  · rw [commandDiverter_rest]
    rfl

theorem nextSlot_rest (s : State) : nextSlot s = { s with czs := (nextSlot s).czs } := by
  unfold nextSlot
  split
  · rfl
  · split
    · split
      · rw [beginSlot_rest]
        rfl
      · rfl
    · exact beginSlot_rest _ s

theorem runCirculation_rest (w : WashRecord) (s : State) :
    runCirculation w s = { s with czs := (runCirculation w s).czs } := by
  unfold runCirculation
  split
  · rfl
  · split
    · unfold resumeSlot
      split
      · have h := nextSlot_rest (startPump s)
        dsimp only
        rw [h]
        rfl
      · rfl
    · have hs : startSchedule w.weights w.slotLength s = { s with czs := (startSchedule w.weights w.slotLength s).czs } := by
        unfold startSchedule
        dsimp only
        split
        · rfl
        · split
          · rfl
          · rw [beginSlot_rest]
            rfl
      rw [hs]
      rfl

theorem runCirculation_reports (w : WashRecord) (s : State) : (runCirculation w s).reports = s.reports := by
  rw [runCirculation_rest]

theorem runCirculation_seq (w : WashRecord) (s : State) : (runCirculation w s).seq = s.seq := by rw [runCirculation_rest]

theorem placeDoses_summary (w : WashRecord) (l : List DoseRef) (s : State) :
    (placeDoses w l s).seq.summary = s.seq.summary := by
  induction l generalizing s with
  | nil => rfl
  | cons r l ih =>
    rw [placeDoses_cons, ih]
    unfold placeRef
    split
    · rfl
    · unfold placeDose joinQueue
      split
      · rfl
      · dsimp only
        split <;> rfl

theorem placeDoses_reports (w : WashRecord) (l : List DoseRef) (s : State) : (placeDoses w l s).reports = s.reports := by
  induction l generalizing s with
  | nil => rfl
  | cons r l ih =>
    rw [placeDoses_cons, ih]
    unfold placeRef
    split
    · rfl
    · unfold placeDose joinQueue
      split
      · rfl
      · dsimp only
        split <;> rfl

/-- The reports by which HEAT ends: the limit, the target, the sensor (R12). -/
def Warming (r : Report) : Prop := r = .targetReached ∨ r = .heatLimitExpired ∨ r = .sensorFailed

theorem placeHeating_reports (n l : Nat) (s : State) : ∀ r ∈ (placeHeating n l s).reports, r ∈ s.reports ∨ Warming r := by
  intro r hr
  unfold placeHeating at hr
  dsimp only at hr
  split at hr
  · exact (List.mem_append.mp hr).imp id fun h => .inr (.inr (List.mem_singleton.mp h))
  · split at hr
    · exact (List.mem_append.mp hr).imp id fun h => .inl (List.mem_singleton.mp h)
    · split at hr
      · unfold heatExpires at hr
        simp only [report, toRegulating, Laws.onReports_reports, Laws.onHtc_reports, raiseNotice_reports] at hr
        exact (List.mem_append.mp hr).imp id fun h => .inr (.inl (List.mem_singleton.mp h))
      · exact .inl hr

theorem placeHeating_seq (n l : Nat) (s : State) : (placeHeating n l s).seq = s.seq := by
  unfold placeHeating
  dsimp only
  split
  · rfl
  · split
    · rfl
    · split
      · unfold heatExpires raiseNotice
        dsimp only
        split <;> rfl
      · rfl

/-! ## What follows FILL -/

/-- The phase runs with a record and a summary, no fill asked; nothing is reported but what may end HEAT. -/
structure Washes (w : WashRecord) (m : Summary) (t : State) : Prop where
  ready : t.part.state = .ready
  running : t.seq.state = .running
  wash : currentWash t = some w
  fill : t.wpc.fill = none
  summary : t.seq.summary = m
  reports : ∀ r ∈ t.reports, Warming r

/-- The phase is past its fill and before its drain. -/
structure Warm (w : WashRecord) (m : Summary) (t : State) : Prop extends Washes w m t where
  sub : t.seq.sub = .dose ∨ t.seq.sub = .heat ∨ t.seq.sub = .circulate

theorem Washes.bides {w : WashRecord} {m : Summary} {t u : State} (h : Washes w m t) (k : Bides t u)
    (hs : u.seq.summary = t.seq.summary) (hr : ∀ r ∈ u.reports, r ∈ t.reports ∨ Warming r) : Washes w m u where
  ready := by rw [k.part]; exact h.ready
  running := by rw [k.state]; exact h.running
  wash := by rw [currentWash_congr (s := t) (by rw [k.seq]) (by rw [k.seq])]; exact h.wash
  fill := by rw [k.wpc]; exact h.fill
  summary := hs.trans h.summary
  reports := fun r hu => (hr r hu).elim (h.reports r) id

theorem Washes.seqTo {w : WashRecord} {m : Summary} {t : State} (h : Washes w m t) (b : SubStage) : Washes w m (seqTo .running b t) :=
  ⟨h.ready, rfl, h.wash, h.fill, h.summary, h.reports⟩

theorem Washes.onSeq {w : WashRecord} {m : Summary} {t : State} (h : Washes w m t) (f : Seq → Seq)
    (h1 : (f t.seq).state = t.seq.state := by rfl) (h2 : (f t.seq).table = t.seq.table := by rfl)
    (h3 : (f t.seq).idx = t.seq.idx := by rfl) (h4 : (f t.seq).summary = t.seq.summary := by rfl) : Washes w m (onSeq f t) :=
  ⟨h.ready, h1.trans h.running, (currentWash_congr (s := t) h2 h3).trans h.wash, h.fill, h4.trans h.summary, h.reports⟩

theorem Washes.withdrawHeat {w : WashRecord} {m : Summary} {t : State} (h : Washes w m t) : Washes w m (withdrawHeat t) :=
  h.bides (Bides.refl t).withdrawHeat (withdrawHeat_summary t) fun r hr => .inl (by rwa [withdrawHeat_reports] at hr)

theorem Washes.runCirculation {w : WashRecord} {m : Summary} {t : State} (h : Washes w m t) (x : WashRecord) :
    Washes w m (runCirculation x t) :=
  h.bides ((Bides.refl t).runCirculation x) (by rw [runCirculation_seq]) fun r hr => .inl (by rwa [runCirculation_reports] at hr)

section
variable {w : WashRecord} {m : Summary} {t : State} (hh : 0 < w.holdTime)
include hh

theorem enterCirculate_warm (h : Washes w m t) : Moves t (enterCirculate w t) ∧ Warm w m (enterCirculate w t) := by
  have hs := ((h.seqTo .circulate).onSeq fun q => { q with holdTimer := 0 }).runCirculation w
  have hb := (Bides.refl (onSeq (fun q => { q with holdTimer := 0 }) (seqTo .running .circulate t))).runCirculation w
  unfold enterCirculate
  dsimp only
  rw [if_neg (by omega)]
  exact ⟨(((Moves.refl t).seqTo _ _).onSeq _).bides hb, hs, .inr (.inr (by rw [hb.sub]; rfl))⟩

theorem enterHeat_warm (h : Washes w m t) : Moves t (enterHeat w t) ∧ Warm w m (enterHeat w t) := by
  unfold enterHeat
  split
  · have hb := ((Bides.refl (seqTo .running .heat t)).runCirculation w).placeHeating w.target w.heatLimit
    refine ⟨((Moves.refl t).seqTo _ _).bides hb, (h.seqTo .heat).bides hb ?_ fun r hr => ?_, .inr (.inl (by rw [hb.sub]; rfl))⟩
    · rw [placeHeating_seq, runCirculation_seq]
    · exact (placeHeating_reports _ _ _ r hr).imp (fun hx => by rwa [runCirculation_reports] at hx) id
  · exact enterCirculate_warm hh h

theorem enterDose_warm (h : Washes w m t) : Moves t (enterDose w t) ∧ Warm w m (enterDose w t) := by
  unfold enterDose
  split
  · exact enterHeat_warm hh h
  · have hb := ((Bides.refl (seqTo .running .dose t)).runCirculation w).placeDoses w w.refs
    have hm := ((Moves.refl t).seqTo .running .dose).bides hb
    have hs := (h.seqTo .dose).bides hb (by rw [placeDoses_summary, runCirculation_seq]) fun r hr => .inl (by rwa [placeDoses_reports, runCirculation_reports] at hr)
    dsimp only
    split
    · obtain ⟨h1, h2⟩ := enterHeat_warm hh hs
      exact ⟨hm.trans h1, h2⟩
    · exact ⟨hm, hs, .inl (by rw [hb.sub]; rfl)⟩

theorem heatEnded_warm (h : Warm w m t) : Moves t (heatEnded t) ∧ Warm w m (heatEnded t) := by
  unfold heatEnded
  rw [h.wash]
  dsimp only
  split
  · exact enterCirculate_warm hh h.toWashes
  · exact ⟨.refl t, h⟩

theorem takeReport_warm (h : Warm w m t) {r : Report} (hr : Warming r) : Moves t (takeReport r t) ∧ Warm w m (takeReport r t) := by
  rcases hr with rfl | rfl | rfl
  · exact heatEnded_warm hh h
  · exact heatEnded_warm hh h
  · have hs : Warm w m (onSeq (fun q => { q with heaterOff := true }) t) := ⟨h.toWashes.onSeq _, h.sub⟩
    have hm : Moves t (onSeq (fun q => { q with heaterOff := true }) t) := (Moves.refl t).onSeq _
    unfold takeReport
    dsimp only
    unfold sensorFailedToSeq
    dsimp only
    rw [hs.wash]
    dsimp only
    split
    · obtain ⟨h1, h2⟩ := enterCirculate_warm hh hs.toWashes.withdrawHeat
      exact ⟨(hm.bides (Bides.refl _).withdrawHeat).trans h1, h2⟩
    · exact ⟨hm, hs⟩

end

theorem Warm.not_drain {w : WashRecord} {m : Summary} {t : State} (h : Warm w m t) : runningIn t .drain = false := by
  rcases h.sub with hs | hs | hs <;> simp [runningIn, hs]

/-- Past its fill and before its drain a phase has no sump permit (R29). -/
theorem Warm.dry {w : WashRecord} {m : Summary} {t : State} (h : Warm w m t) : waterFlows t = false := by
  rcases h.sub with hs | hs | hs <;> simp [waterFlows, permitCondition, h.running, hs]

theorem Warm.fillable {w : WashRecord} {m : Summary} {t : State} (h : Warm w m t) : Fillable t := fun q hq => by simp [h.fill] at hq

theorem Warm.drifts {w : WashRecord} {m : Summary} {t u : State} (h : Warm w m t) (k : Drifts t u) (hr : ∀ r ∈ u.reports, r ∈ t.reports) :
    Moves t u ∧ Warm w m u :=
  ⟨(Moves.refl t).drifts k h.fill h.not_drain h.dry,
    ⟨by rw [k.part]; exact h.ready, by rw [k.state]; exact h.running, by rw [k.currentWash]; exact h.wash,
      by rw [k.fill]; exact h.fill, by rw [k.seq]; exact h.summary, fun r hu => h.reports r (hr r hu)⟩, by rw [k.sub]; exact h.sub⟩

theorem Warm.waterSettle {w : WashRecord} {m : Summary} {t : State} (h : Warm w m t) : Moves t (waterSettle t) ∧ Warm w m (waterSettle t) := by
  refine h.drifts ((Drifts.refl t).waterSettle h.fillable) fun r hr => ?_
  rcases waterSettle_reports h.fillable with he | ⟨hx, -⟩
  · rwa [he] at hr
  · rw [h.not_drain] at hx
    cases hx

theorem Warm.takeReports {w : WashRecord} {m : Summary} {t : State} (hh : 0 < w.holdTime) (h : Warm w m t) (n : Nat) :
    Moves t (takeReports n t) ∧ Warm w m (takeReports n t) := by
  induction n generalizing t with
  | zero => exact h.drifts ((Drifts.refl t).onReports _ (by simp)) (by simp [Machine.takeReports])
  | succ n ih =>
    unfold Machine.takeReports
    split
    · exact ⟨.refl t, h⟩
    · next r l hr =>
      obtain ⟨h1, h2⟩ := h.drifts ((Drifts.refl t).onReports (fun _ => l) fun x hx => by
        rw [hr]; exact List.mem_cons_of_mem _ hx) fun x hx => by rw [hr]; exact List.mem_cons_of_mem _ hx
      obtain ⟨h3, h4⟩ := takeReport_warm hh h2 (h.reports r (by simp [hr]))
      obtain ⟨h5, h6⟩ := h4.waterSettle
      obtain ⟨h7, h8⟩ := ih h6
      exact ⟨h1.trans (h3.trans (h5.trans h7)), h8⟩

theorem rested_reports (s : State) : (rested s).reports = s.reports := by
  show (revokeUnlessFlows (refreshPump s)).reports = _
  rw [revokeUnlessFlows_reports]
  rfl

/-- The record that the close of a fill leaves (R67). -/
def closedRecord (f : Sfu) : FillRec :=
  if f.fill.isOpen then { f.fill with isOpen := false, hFill := deliveredHardness f.fill.g f.fill.v f.hRaw } else f.fill

theorem closeFill_keeps (s : State) : (closeFill s).wpc = s.wpc ∧ (closeFill s).rge = s.rge
    ∧ (closeFill s).reports = s.reports ∧ (closeFill s).sfu.fill = closedRecord s.sfu
    ∧ (closeFill s).sfu.hRaw = s.sfu.hRaw := by
  unfold closeFill closedRecord
  split
  · have h := ((Serves.refl (askWrite .columns (onSfu (fun f => { f with
      fill := { s.sfu.fill with isOpen := false, hFill := deliveredHardness s.sfu.fill.g s.sfu.fill.v f.hRaw } }) s)))).releaseRule
    exact ⟨h.wpc, h.rge, h.reports, h.record.1, h.record.2.1⟩
  · exact ⟨rfl, rfl, rfl, rfl, rfl⟩

theorem closedRecord_isOpen (f : Sfu) : (closedRecord f).isOpen = false := by
  unfold closedRecord
  split
  · rfl
  · next h => simpa using h

theorem Moves.closeFill {s t : State} (h : Moves s t) : Moves s (closeFill t) := by
  have k := (Wets.refl t).closeFill
  obtain ⟨k1, k2, k3, k4, -⟩ := closeFill_keeps t
  exact h.trans {
    toGoes := (Goes.refl t).wets k (by rw [k1])
    fill := by rw [k1]; exact id
    free := by rw [k1]; exact id
    count := by rw [k1]
    record := fun ho => by simp [k4, closedRecord, ho]
    engine := fun hi => ⟨.inl ⟨k2, by rw [k1], by rw [k1]⟩, by rw [k2]; exact hi⟩ }

/-- A main fill that the switch has ended: the record closes, and what follows FILL begins (R9, R41, R67). -/
theorem fillOver_settles {y : State} {w : WashRecord} {n : Nat} (hh : 0 < w.holdTime) (hp : y.part.state = .ready)
    (hr : y.reports = [.fillEnded .main .highLevel n]) (hb : runningIn y .fill = true) (hw : currentWash y = some w)
    (hf : y.wpc.fill = none) :
    Moves y (settle y) ∧ Warm w y.seq.summary (settle y) ∧ (settle y).sfu.fill = closedRecord y.sfu := by
  obtain ⟨hst, hsub⟩ := (runningIn_iff _ _).mp hb
  have hd : runningIn y .drain = false := by simp [runningIn, hsub]
  have hx : waterFlows y = false := by simp [waterFlows, permitCondition, hst, hsub]
  have hfl : Fillable y := fun q hq => by simp [hf] at hq
  obtain ⟨v, hv, hvr, ht⟩ := takeReports_one hr hfl hd
  have hm := (Moves.refl y).drifts hv hf hd hx
  have he : takeReport (.fillEnded .main .highLevel n) v = enterDose w (closeFill v) := by
    have h1 : currentWash v = some w := by rw [hv.currentWash, hw]
    have h2 : runningIn v .fill = true := by rw [hv.runningIn, hb]
    simp [takeReport, fillEnded, h1, h2]
  have hc := (Wets.refl v).closeFill
  obtain ⟨c1, -, c3, c4, -⟩ := closeFill_keeps v
  have hs : Washes w y.seq.summary (closeFill v) := ⟨by rw [hc.part, hv.part, hp], by rw [hc.state, hv.state, hst],
    by rw [hc.currentWash, hv.currentWash, hw], by rw [c1, hv.fill, hf], by rw [hc.seq, hv.seq], by rw [c3, hvr]; simp⟩
  obtain ⟨k1, k2⟩ := enterDose_warm hh hs
  obtain ⟨k3, k4⟩ := k2.waterSettle
  obtain ⟨k5, k6⟩ := k4.takeReports hh 63
  rw [← he, ← ht 63] at k5 k6
  obtain ⟨k7, k8⟩ := k6.drifts (drifts_rested _) (by rw [rested_reports]; exact fun _ => id)
  rw [settle_ready k6.ready]
  have hk : Moves (closeFill v) (rested (takeReports 64 (waterSettle y))) := by
    rw [← he] at k1 k3
    exact k1.trans (k3.trans (k5.trans k7))
  refine ⟨hm.closeFill.trans hk, k8, ?_⟩
  obtain ⟨r1, r2, -⟩ := hv.record
  rw [hk.record (by rw [c4]; exact closedRecord_isOpen _), c4]
  unfold closedRecord
  rw [r1, r2]

end Sys2Proof.Proofs
end

section
/-! PROOFS. Stopping a program: what the stopping actions leave (R21, R26), and how a fill refused for flood faults the program
(R38). -/

/- One theorem at a time, as the tests have it: proofs that wait for the kernel cost a thread each. -/
set_option Elab.async false

namespace Sys2Proof.Proofs

open Sys2Proof.Machine
open Sys2Proof.Safety

/-! ## Cancelled doses are reported, and nothing else -/

/-- From `s` to `t` only ends of doses have been reported. -/
def DosesReported (s t : State) : Prop := ∀ r ∈ t.reports, r ∈ s.reports ∨ ∃ a, r = .doseEnded a

namespace DosesReported

variable {s t u a b : State}

theorem of_eq (h : t.reports = s.reports) : DosesReported s t := fun r hr => .inl (by rwa [h] at hr)

theorem trans (h : DosesReported s t) (k : DosesReported t u) : DosesReported s u :=
  fun r hr => (k r hr).elim (h r) .inr

theorem same (h : DosesReported s t) (k : u.reports = t.reports) : DosesReported s u := h.trans (of_eq k)

theorem ite {c : Prop} [Decidable c] (ha : c → DosesReported s a) (hb : ¬ c → DosesReported s b) :
    DosesReported s (if c then a else b) := by
  split
  · exact ha ‹_›
  · exact hb ‹_›

theorem reportDose (h : DosesReported s t) (r : DoseReq) (o : DoseOutcome) (w : Option DoseReason) :
    DosesReported s (reportDose r o w t) := by
  have hm : DosesReported s (match r.origin with
      | .sequencer _ => report (.doseEnded r.arrival) (onSeq (fun q => addDose r.channel (r.confirmed * r.strokeVolume) q) t)
      | .hostPrime => t) := by
    split
    · refine h.trans fun x hx => ?_
      exact (List.mem_append.mp hx).imp id fun hx => ⟨_, List.mem_singleton.mp hx⟩
    · exact h
  unfold Machine.reportDose
  cases o <;> exact hm.same (raiseNotice_reports _ _)

theorem foldl_reportDose (h : DosesReported s t) (o : DoseOutcome) (w : Option DoseReason) (l : List DoseReq) :
    DosesReported s (l.foldl (fun s r => Machine.reportDose r o w s) t) := by
  induction l generalizing t with
  | nil => exact h
  | cons r l ih => exact ih (h.reportDose r o w)

theorem onDsu (h : DosesReported s t) (f : Dsu → Dsu) : DosesReported s (onDsu f t) := h.same rfl

theorem endHead (h : DosesReported s t) (r : DoseReq) (o : DoseOutcome) (w : Option DoseReason) :
    DosesReported s (endHead r o w t) := (h.onDsu _).reportDose _ _ _

theorem setEmpty (h : DosesReported s t) (ch : Channel) (e : Bool) : DosesReported s (setEmpty ch e t) :=
  .ite (fun _ => h) fun _ => h.same rfl

theorem serve (h : DosesReported s t) (n : Nat) : DosesReported s (serve n t) := by
  induction n generalizing t with
  | zero => exact h
  | succ n ih =>
    unfold Machine.serve
    split
    · exact h
    · split
      · exact .ite (fun _ => h.onDsu _) fun _ => ih (h.onDsu _)
      · split
        · exact h.onDsu _
        · dsimp only
          split
          · exact ih ((h.onDsu _).endHead _ _ _)
          · have hp := (h.onDsu fun d => { d with state := .serving }).onDsu
            split
            · exact (hp _).onDsu _
            · split
              · exact (hp _).onDsu _
              · split
                · exact ih (((hp _).setEmpty _ _).endHead _ _ _)
                · exact ((hp _).onDsu _).onDsu _

theorem cancelSequencerDoses (h : DosesReported s t) : DosesReported s (cancelSequencerDoses t) := by
  refine .ite (fun _ => ?_) fun _ => h
  have hc : ∀ f : Dsu → Dsu, ∀ l : List DoseReq,
      DosesReported s (l.foldl (fun s r => Machine.reportDose r .cancelled none s) (Machine.onDsu f t)) :=
    fun f l => (h.onDsu f).foldl_reportDose _ _ _
  unfold cancelFound
  exact .ite (fun _ => .ite (fun _ => (hc _ _).onDsu _) fun _ => hc _ _) fun _ =>
    .ite (fun _ => hc _ _) fun _ => (hc _ _).serve 16

end DosesReported

/-! ## The stopping actions where no fill stands -/

/-- The actions of R21 without a fill and outside DRAIN. -/
theorem stopProgram_unfilled {s : State} (hf : s.wpc.fill = none) (hd : runningIn s .drain = false) :
    stopProgram s = onSeq (fun q => { q with
      holdTimer := 0, waterWait := none, settling := none, extension := none, remembered := .none, holdPending := false })
      (stopCirculation (cancelSequencerDoses (closeFill (withdrawHeat s)))) := by
  have h1 := (Bides.refl s).withdrawHeat
  have hw : withdrawFill (withdrawHeat s) = withdrawHeat s := by
    unfold withdrawFill
    rw [h1.wpc, hf]
  have hr : runningIn (stopCirculation (cancelSequencerDoses (closeFill (withdrawHeat s)))) .drain = false := by
    have h2 := (Wets.refl (withdrawHeat s)).closeFill
    have h3 := (Bides.refl (closeFill (withdrawHeat s))).cancelSequencerDoses.stopCirculation
    rw [← hd]
    simp only [runningIn, h3.state, h3.sub, h2.state, h2.sub, h1.state, h1.sub]
  unfold stopProgram
  dsimp only
  rw [hw, hr]
  rfl

/-- The stopping actions leave the program where it stood, its fill record closed and its hold gone. -/
structure Stopped (s t : State) : Prop extends Moves s t where
  reported : DosesReported s t
  closed : t.sfu.fill.isOpen = false
  state : t.seq.state = s.seq.state
  sub : t.seq.sub = s.seq.sub
  fault : t.seq.fault = s.seq.fault

theorem stopped_stopProgram {s : State} (hf : s.wpc.fill = none) (hd : runningIn s .drain = false) :
    Stopped s (stopProgram s) := by
  rw [stopProgram_unfilled hf hd]
  have h1 := (Bides.refl s).withdrawHeat
  have h2 := (Wets.refl (withdrawHeat s)).closeFill
  obtain ⟨-, -, c3, c4, -⟩ := closeFill_keeps (withdrawHeat s)
  have h3 := (Bides.refl (closeFill (withdrawHeat s))).cancelSequencerDoses.stopCirculation
  refine ⟨(((Moves.refl s).bides h1).closeFill.bides h3).onSeq _, ?_, ?_, ?_, ?_, ?_⟩
  · exact (((DosesReported.of_eq (withdrawHeat_reports s)).same c3).cancelSequencerDoses.same (stopCirculation_reports _)).same rfl
  · show (stopCirculation (cancelSequencerDoses (closeFill (withdrawHeat s)))).sfu.fill.isOpen = false
    rw [h3.sfu, c4]
    exact closedRecord_isOpen _
  · exact h3.state.trans (h2.state.trans h1.state)
  · exact h3.sub.trans (h2.sub.trans h1.sub)
  · exact (show (stopCirculation (cancelSequencerDoses (closeFill (withdrawHeat s)))).seq.fault = s.seq.fault by
      rw [h3.seq, h2.seq, h1.seq])

/-! ## A fill refused -/

theorem Moves.raiseNotice {s t : State} (h : Moves s t) (c : Content) (hc : noticeCode c ∈ phaseNotices) :
    Moves s (raiseNotice c t) := by
  refine h.trans ⟨⟨?_, ?_, ?_, ?_, ?_, ?_, ?_, ?_, ?_, ?_, ?_,
    fun d hd => notified_raiseNotice_ne fun hx => hd (hx ▸ hc)⟩, ?_, ?_, ?_, ?_, ?_⟩
  all_goals
    unfold Machine.raiseNotice
    split <;> first | rfl | exact id | exact fun _ => rfl | exact fun hi => ⟨.inl ⟨rfl, rfl, rfl⟩, hi⟩

/-- A stopped program enters FAULTED with a code (R26). -/
def faultedBy (code : FaultCode) (s : State) : State := enterFaulted (setOutcome .faulted (holdCode code s))

theorem Moves.faultedBy {s t : State} (h : Moves s t) (c : FaultCode) : Moves s (faultedBy c t) :=
  (Moves.raiseNotice (Moves.seqTo (Moves.onSeq (Moves.onSeq h _) _) _ _) _ (by simp [noticeCode, phaseNotices]))

theorem faultedBy_seq (c : FaultCode) (s : State) : (faultedBy c s).seq = { s.seq with
    state := .faulted, sub := .none, fault := some (s.seq.fault.getD c)
    summary := { s.seq.summary with outcome := .faulted } } := by
  have h : (faultedBy c s).seq = (seqTo .faulted .none (setOutcome .faulted (holdCode c s))).seq := by
    unfold faultedBy enterFaulted programEnd raiseNotice
    split <;> rfl
  rw [h]
  cases hf : s.seq.fault <;> simp [seqTo, setOutcome, holdCode, onSeq, hf]

theorem faultedBy_reports (c : FaultCode) (s : State) : (faultedBy c s).reports = s.reports := raiseNotice_reports _ _

theorem programFault_wash {s : State} {c : FaultCode} (hs : s.seq.state = .running) (hd : runningIn s .dry = false)
    (hc : drainsAfter c = false) : programFault c s = faultedBy c (stopProgram s) := by
  unfold programFault faultedBy
  simp [hs, hd, hc]

/-- A fill refused for flood: the program is FAULTED by it (R38, R26). -/
theorem fillRefused_settles {y : State} (hp : y.part.state = .ready) (hr : y.reports = [.fillRefused])
    (hb : runningIn y .fill = true) (hf : y.wpc.fill = none) (hi : y.wpc.inhibit = true) :
    Moves y (settle y) ∧ (settle y).seq.state = .faulted ∧ (settle y).seq.sub = .none
      ∧ (settle y).seq.fault = some (y.seq.fault.getD .flood) ∧ (settle y).seq.summary.outcome = .faulted
      ∧ (settle y).sfu.fill.isOpen = false := by
  obtain ⟨hst, hsub⟩ := (runningIn_iff _ _).mp hb
  have hd : runningIn y .drain = false := by simp [runningIn, hsub]
  have hx : waterFlows y = false := by simp [waterFlows, hi]
  have hfl : Fillable y := fun q hq => by simp [hf] at hq
  obtain ⟨v, hv, hvr, ht⟩ := takeReports_one hr hfl hd
  have hm := (Moves.refl y).drifts hv hf hd hx
  have hvs : v.seq.state = .running := by rw [hv.state, hst]
  have hvd : runningIn v .dry = false := by rw [hv.runningIn]; simp [runningIn, hsub]
  have hvD : runningIn v .drain = false := by rw [hv.runningIn, hd]
  have he : takeReport .fillRefused v = faultedBy .flood (stopProgram v) := by
    simp only [takeReport, fillRefusedToSeq, programRuns, hvs, if_true]
    exact programFault_wash hvs hvd rfl
  have hs := stopped_stopProgram (by rw [hv.fill, hf]) hvD
  obtain ⟨z, hz⟩ : ∃ z, faultedBy .flood (stopProgram v) = z := ⟨_, rfl⟩
  have hq := faultedBy_seq .flood (stopProgram v)
  have hzm : Moves (stopProgram v) z := hz ▸ (Moves.refl _).faultedBy .flood
  have hzr : z.reports = (stopProgram v).reports := hz ▸ faultedBy_reports _ _
  rw [hz] at hq
  have hrun : ∀ b, runningIn z b = false := fun b => by simp [runningIn, hq]
  have hzf : z.wpc.fill = none := hzm.fill (hs.fill (by rw [hv.fill, hf]))
  have hzi : z.wpc.inhibit = true := by rw [hzm.inhibit, hs.inhibit, hv.inhibit, hi]
  have hqu : Quieted z := by
    refine ⟨by rw [hzm.part, hs.part, hv.part, hp], fun q hq => by simp [hzf] at hq, fun r hr => ?_⟩
    rw [hzr] at hr
    rcases hs.reported r hr with hr | ⟨a, rfl⟩
    · simp [hvr] at hr
    · exact hrun .dose
  have hw := (Drifts.refl z).waterSettle hqu.fillable
  have hk : Drifts z (takeReports 64 (waterSettle y)) := by
    rw [ht 63, he, hz]
    exact hw.trans ((hqu.waterSettle (.inl (hrun _))).takeReports (.inl (by rw [hw.runningIn]; exact hrun _)))
  have hk := hk.trans (drifts_rested _)
  rw [settle_ready (by rw [← (drifts_rested _).part, hk.part]; exact hqu.ready)]
  have hzk := hzm.drifts hk hzf (hrun _) (by simp [waterFlows, hzi])
  refine ⟨hm.trans (hs.toMoves.trans hzk), ?_, ?_, ?_, ?_, ?_⟩
  · rw [hk.state, hq]
  · rw [hk.sub, hq]
  · rw [hk.seq, hq]
    show some _ = _
    rw [hs.fault, hv.seq]
  · rw [hk.seq, hq]
  · rw [hzk.record hs.closed]
    exact hs.closed

end Sys2Proof.Proofs
end

section
/-! PROOFS. What a main fill asked for comes to by the end of the step: granted, waiting behind a drain burst, over at once, or
refused (R38, R41, R49); the engine gives way to it. -/

/- One theorem at a time, as the tests have it: proofs that wait for the kernel cost a thread each. -/
set_option Elab.async false

namespace Sys2Proof.Proofs

open Sys2Proof.Machine
open Sys2Proof.Safety

/-! ## The inlet at the end of a step -/

theorem regenMayFlow_of_settled {t : State} (h : Settled t) : regenMayFlow t = waterFlows t := by
  have hp : ({ t with wpc := { t.wpc with drainPump := pumpAsked t.wpc } } : State) = t := by rw [← h.pump]
  simp only [regenMayFlow, waterFlows, hp, h.permit]

/-- Where brine and rinse may not flow, only a fill holds the inlet (R39). -/
theorem Settled.holder_of_dry {t : State} (h : Settled t) (hw : waterFlows t = false) :
    t.wpc.holder ≠ .brine ∧ t.wpc.holder ≠ .rinse := by
  have hf := h.flows
  rw [regenMayFlow_of_settled h, hw] at hf
  exact ⟨fun hx => by simp [hx] at hf, fun hx => by simp [hx] at hf⟩

theorem Settled.holder_none {t : State} (h : Settled t) (hw : waterFlows t = false) (hf : t.wpc.holder ≠ .fill) :
    t.wpc.holder = .none := by
  obtain ⟨h1, h2⟩ := h.holder_of_dry hw
  cases hx : t.wpc.holder <;> simp_all

/-- The sump permit is withdrawn in every sub-stage but DRAIN and DRY (R29). -/
theorem Settled.permit_of_running {t : State} (h : Settled t) (hs : t.seq.state = .running) (h1 : t.seq.sub ≠ .drain)
    (h2 : t.seq.sub ≠ .dry) : t.seq.permit = false := by
  rw [h.permit]
  simp [permitCondition, hs, h1, h2]

/-- A step without an end of a dose leaves the sequencer but for the permit. -/
theorem Drifts.seq_of_quiet {s t : State} (h : Drifts s t) (hr : s.reports = []) :
    t.seq = { s.seq with permit := t.seq.permit } := by
  have hd : Doseless s := fun a => by simp [hr]
  rw [h.seq, (h.placed hd).1]

theorem Concludes.moves {y t : State} (h : Concludes y t) (hf : (settle y).wpc.fill = none)
    (hr : runningIn (settle y) .drain = false) (hw : waterFlows (settle y) = false) : Moves (settle y) t :=
  (Moves.refl _).drifts h.drifts hf hr hw

/-! ## The fill asked for -/

/-- A program runs in FILL, its fill not yet asked. -/
structure Asks (w : WashRecord) (o : State) : Prop where
  ready : o.part.state = .ready
  reports : o.reports = []
  running : runningIn o .fill = true
  wash : currentWash o = some w
  fill : o.wpc.fill = none

namespace Asks

variable {w : WashRecord} {o t : State}

theorem dry (h : Asks w o) : waterFlows o = false := by
  obtain ⟨h1, h2⟩ := (runningIn_iff _ _).mp h.running
  simp [waterFlows, permitCondition, h1, h2]

theorem not_drain (h : Asks w o) : runningIn o .drain = false := by
  obtain ⟨-, h2⟩ := (runningIn_iff _ _).mp h.running
  simp [runningIn, h2]

end Asks

theorem piped_of_agree {o : State} (h : GrantsAgree o) : Piped o.wpc := ⟨h.2.2.1, h.2.2.2.1⟩

theorem holder_of_agree {o : State} (h : GrantsAgree o) (hf : o.wpc.fill = none) : o.wpc.holder ≠ .fill := by
  rw [holder_of_engine h hf]
  cases o.rge.state <;> simp

/-! ## The request granted -/

/-- The request has been granted, and the step has ended. -/
structure FillGranted (n : Nat) (o t : State) : Prop where
  drifts : Drifts (granted ⟨n, .main, false⟩ o) t
  seq : t.seq = { o.seq with permit := false }
  dsu : t.dsu = o.dsu
  wpc : t.wpc.fill = some ⟨n, .main, true⟩ ∧ t.wpc.holder = .fill ∧ t.wpc.inletValve = true ∧ t.wpc.brineValve = false
    ∧ t.wpc.grantCount = 0 ∧ t.wpc.residue = 0 ∧ t.wpc.latchedK = o.cfg.k ∧ t.wpc.fillTimer = some 0

theorem granted_wets (q : FillReq) (o : State) : Wets o (granted q o) :=
  ((Wets.refl o).revokeRegen.beginGrant _).onWpc _ fun hp => ⟨hp.1, hp.2⟩

theorem revokeRegen_seq (s : State) : (revokeRegen s).seq = s.seq := by
  unfold revokeRegen
  split <;> rfl

theorem revokeRegen_burst (s : State) : (revokeRegen s).wpc.burst = s.wpc.burst := by
  unfold revokeRegen
  split <;> rfl

section
variable {w : WashRecord} {o t : State} {n : Nat} (h : Asks w o)
include h

theorem fill_granted (hi : o.wpc.inhibit = false) (hb : o.wpc.burst = none) (hl : o.wpc.highLevel = false)
    (hc : Concludes (placeFill n .main o) t) : FillGranted n o t ∧ Goes o t
      ∧ (GrantsAgree o → o.rge.state ≠ .idle → EngineGivesWay o t) := by
  rw [placeFill_meets n .main h.fill hi hb, hl, if_neg (by simp)] at hc
  have hw := granted_wets ⟨n, .main, false⟩ o
  obtain ⟨u, hu⟩ : ∃ u, granted ⟨n, .main, false⟩ o = u := ⟨_, rfl⟩
  have hrd : runningIn u .drain = false := by rw [← hu, hw.runningIn, h.not_drain]
  have hbu : u.wpc.burst = o.wpc.burst := by rw [← hu]; exact revokeRegen_burst o
  have hq : Quieted u := by
    rw [← hu]
    refine ⟨by rw [hw.part]; exact h.ready, fun q hq => .inl (by rw [Option.mem_def.mp hq |> Option.some.inj |>.symm]), ?_⟩
    have hr : (granted ⟨n, .main, false⟩ o).reports = [] := (revokeRegen_reports o).trans h.reports
    simp [hr]
  have hdry : waterFlows u = false := by rw [← hu, hw.waterFlows (by rw [hu]; exact hbu), h.dry]
  rw [hu] at hc hw
  have hd : Drifts u t := (hq.settle (.inl hrd)).trans hc.drifts
  have hx : t.wpc = { u.wpc with drainPump := t.wpc.drainPump, regen := t.wpc.regen, burst := t.wpc.burst } := by
    subst hu
    exact hd.held rfl nofun nofun
  have hk : u.wpc.latchedK = o.cfg.k := by
    rw [← hu]
    exact congrArg ConfigRec.k (Wets.refl o).revokeRegen.cfg
  refine ⟨⟨by rw [hu]; exact hd, ?_, by rw [hd.dsu, hw.dsu], ?_⟩, (Goes.refl o).wets (hw.trans hd.toWets) ((hd.burst hrd).trans hbu),
    fun hg he => ?_⟩
  · have hs : t.seq = { o.seq with permit := t.seq.permit } := by
      rw [hd.seq_of_quiet (by rw [← hu]; exact (revokeRegen_reports o).trans h.reports), ← hu]
      exact congrArg (fun q : Seq => { q with permit := t.seq.permit }) (revokeRegen_seq o)
    obtain ⟨r1, r2⟩ := (runningIn_iff _ _).mp h.running
    rw [hs, hc.settled.permit_of_running (by rw [hs]; exact r1) (by rw [hs]; simp [r2]) (by rw [hs]; simp [r2])]
  · subst hu
    exact ⟨by rw [hx]; rfl, by rw [hx]; rfl, by rw [hx]; rfl, by rw [hx]; rfl, by rw [hx]; rfl, by rw [hx]; rfl,
      by rw [hx]; exact hk, by rw [hx]; rfl⟩
  · obtain ⟨y1, y2, y3, -, -, y6⟩ := revokeRegen_yields o
    obtain ⟨g1, g2, -⟩ := engineGivesWay_of_yields hg h.fill y1 y2 y3 ((Wets.refl o).revokeRegen.piped (piped_of_agree hg))
    have hi : u.rge.state ≠ .idle := by rw [← hu]; exact fun hs => he (y6 hs)
    obtain ⟨k1 | ⟨k1, -⟩ | ⟨k1, -⟩, -⟩ := hd.engine hrd hdry hi
    · subst hu
      exact ⟨k1.1.trans g1, k1.2.1.trans g2, by rw [hx]; rfl⟩
    · rw [← hu] at k1
      cases k1
    · rw [← hu] at k1
      cases k1

/-- The request waits behind a drain burst, and the step has ended. -/
structure FillWaits (n : Nat) (o t : State) : Prop where
  drifts : Drifts (onWpc (fun w => { w with fill := some ⟨n, .main, false⟩ }) o) t
  seq : t.seq = { o.seq with permit := false }
  wpc : t.wpc.fill = some ⟨n, .main, false⟩ ∧ t.wpc.holder = .none ∧ t.wpc.inletValve = false

theorem fill_waits (hg : GrantsAgree o) (hi : o.wpc.inhibit = false) (hb : o.wpc.burst.isSome = true) (hc : Concludes (placeFill n .main o) t) :
    FillWaits n o t ∧ Goes o t ∧ (o.rge.state ≠ .idle → EngineGivesWay o t) := by
  rw [placeFill_waits n .main h.fill hi hb] at hc
  have hw := (Wets.refl o).setFill (some ⟨n, .main, false⟩)
  obtain ⟨u, hu⟩ : ∃ u, onWpc (fun w => { w with fill := some ⟨n, .main, false⟩ }) o = u := ⟨_, rfl⟩
  have hrd : runningIn u .drain = false := by rw [← hu, hw.runningIn, h.not_drain]
  have he : o.rge.state = .effluentDrain := by
    obtain ⟨-, -, -, -, -, hx, -⟩ := hg
    rw [hb] at hx
    simpa using hx.symm
  have hh : o.wpc.holder = .none := by rw [holder_of_engine hg h.fill, he]
  have hq : Quieted u := by
    rw [← hu]
    refine ⟨h.ready, fun q hq => .inr ⟨hb, ?_⟩, by simp [h.reports]⟩
    rw [hu]
    exact hrd
  have hdry : waterFlows u = false := by rw [← hu, hw.waterFlows rfl, h.dry]
  rw [hu] at hc hw
  have hd : Drifts u t := (hq.settle (.inl hrd)).trans hc.drifts
  have hn : u.wpc.holder = .none := by rw [← hu]; exact hh
  have hx : t.wpc = { u.wpc with drainPump := t.wpc.drainPump, regen := t.wpc.regen, burst := t.wpc.burst } :=
    hd.held (by rw [← hu]; rfl) (by simp [hn]) (by simp [hn])
  have hth : t.wpc.holder = .none := by rw [hx]; exact hn
  have hp : Piped t.wpc := (hw.trans hd.toWets).piped (piped_of_agree hg)
  refine ⟨⟨by rw [hu]; exact hd, ?_, ?_⟩, (Goes.refl o).wets (hw.trans hd.toWets) ((hd.burst hrd).trans (by rw [← hu]; rfl)),
    fun _ => ?_⟩
  · have hs : t.seq = { o.seq with permit := t.seq.permit } := by
      rw [hd.seq_of_quiet (by rw [← hu]; exact h.reports), ← hu]
      rfl
    obtain ⟨r1, r2⟩ := (runningIn_iff _ _).mp h.running
    rw [hs, hc.settled.permit_of_running (by rw [hs]; exact r1) (by rw [hs]; simp [r2]) (by rw [hs]; simp [r2])]
  · exact ⟨by rw [hx, ← hu]; rfl, hth, by rw [hp.inlet, hth]; rfl⟩
  · have hy : Yields o t := by
      have hy := (hd.engine hrd hdry (by rw [← hu]; simp [he])).1
      rw [← hu] at hy
      exact hy
    exact engineGivesWay_of_yields hg h.fill hy (by simp [hth]) (by simp [hth]) hp

/-! ## The request over at once -/

omit h in
/-- The grant of the request, ended at once by the switch (R41). -/
theorem endFill_granted (hb : o.wpc.burst = none) : endFill .highLevel (granted ⟨n, .main, false⟩ o)
    = closeInlet (onWpc (fun w => { w with fill := none }) (report (.fillEnded .main .highLevel 0) (granted ⟨n, .main, false⟩ o))) := by
  have hs : ∀ u : State, u.wpc.burst = none → startBurst u = u := fun u hu => by simp [startBurst, hu]
  have hx : (granted ⟨n, .main, false⟩ o).wpc.burst = none := (revokeRegen_burst o).trans hb
  exact hs _ hx

/-- The fill is over at once, and what follows FILL has begun. -/
structure FillOver (w : WashRecord) (o t : State) : Prop extends Warm w o.seq.summary t where
  holder : t.wpc.holder = .none
  inlet : t.wpc.inletValve = false
  count : t.wpc.grantCount = 0
  record : t.sfu.fill = closedRecord o.sfu

theorem fill_over (hg : GrantsAgree o) (hi : o.wpc.inhibit = false) (hb : o.wpc.burst = none) (hl : o.wpc.highLevel = true) (hh : 0 < w.holdTime)
    (hc : Concludes (placeFill n .main o) t) : FillOver w o t ∧ Goes o t ∧ (o.rge.state ≠ .idle → EngineGivesWay o t) := by
  rw [placeFill_meets n .main h.fill hi hb, hl, if_pos rfl, endFill_granted hb] at hc
  have hw : Wets o (closeInlet (onWpc (fun w => { w with fill := none })
      (report (.fillEnded .main .highLevel 0) (granted ⟨n, .main, false⟩ o)))) :=
    (((granted_wets ⟨n, .main, false⟩ o).report _).setFill none).closeInlet
  obtain ⟨u, hu⟩ : ∃ u, closeInlet (onWpc (fun w => { w with fill := none })
      (report (.fillEnded .main .highLevel 0) (granted ⟨n, .main, false⟩ o))) = u := ⟨_, rfl⟩
  rw [hu] at hc hw
  have hbu : u.wpc.burst = o.wpc.burst := by rw [← hu]; exact revokeRegen_burst o
  obtain ⟨m1, m2, m3⟩ := fillOver_settles (n := 0) hh (by rw [hw.part]; exact h.ready)
    (by rw [← hu]; exact congrArg (· ++ [.fillEnded .main .highLevel 0]) ((revokeRegen_reports o).trans h.reports))
    (by rw [hw.runningIn]; exact h.running) (by rw [hw.currentWash]; exact h.wash) (by rw [← hu]; rfl)
  have hm := m1.trans (hc.moves m2.fill m2.not_drain m2.dry)
  obtain ⟨-, hwt⟩ := m2.drifts hc.drifts (by rw [hc.quiet.reports]; exact fun _ => id)
  have hth := hc.settled.holder_none hwt.dry (hm.free (by rw [← hu]; nofun))
  have hp : Piped t.wpc := hm.piped (hw.piped (piped_of_agree hg))
  rw [hw.seq] at hwt
  refine ⟨⟨hwt, hth, by rw [hp.inlet, hth]; rfl, by rw [hm.count, ← hu]; rfl, ?_⟩,
    ((Goes.refl o).wets hw hbu).trans hm.toGoes, fun he => ?_⟩
  · rw [hc.sfu, m3, ← hu]
    exact congrArg closedRecord (revokeRegen_yields o).2.2.2.2.1
  · obtain ⟨y1, y2, y3, -, -, y6⟩ := revokeRegen_yields o
    obtain ⟨g1, g2, -⟩ := engineGivesWay_of_yields hg h.fill y1 y2 y3 ((Wets.refl o).revokeRegen.piped (piped_of_agree hg))
    obtain ⟨k1 | ⟨k1, -⟩ | ⟨k1, -⟩, -⟩ := hm.engine (by rw [← hu]; exact fun hs => he (y6 hs))
    · subst hu
      exact ⟨k1.1.trans g1, k1.2.1.trans g2, by rw [hp.brine, hth]; rfl⟩
    · rw [← hu] at k1
      cases k1
    · rw [← hu] at k1
      cases k1

/-! ## The request refused -/

/-- The fill is refused, and the program FAULTED. -/
structure FillRefused (o t : State) : Prop where
  state : t.seq.state = .faulted ∧ t.seq.sub = .none
  fault : t.seq.fault = some (o.seq.fault.getD .flood)
  outcome : t.seq.summary.outcome = .faulted
  wpc : t.wpc.fill = none ∧ t.wpc.holder = .none ∧ t.wpc.inletValve = false
  closed : t.sfu.fill.isOpen = false

theorem fill_refused (hg : GrantsAgree o) (hi : o.wpc.inhibit = true) (hc : Concludes (placeFill n .main o) t) :
    FillRefused o t ∧ Goes o t ∧ (o.rge.state ≠ .idle → EngineGivesWay o t) := by
  rw [placeFill_refused n .main h.fill hi] at hc
  have hw : Wets o (report .fillRefused (onWpc (fun w => { w with fill := none }) o)) := ((Wets.refl o).setFill none).report _
  obtain ⟨u, hu⟩ : ∃ u, report .fillRefused (onWpc (fun w => { w with fill := none }) o) = u := ⟨_, rfl⟩
  rw [hu] at hc hw
  have huf : u.wpc.fill = none := by rw [← hu]; rfl
  obtain ⟨m1, m2, m3, m4, m5, m6⟩ := fillRefused_settles (y := u) (by rw [hw.part]; exact h.ready)
    (by rw [← hu]; simp [report, h.reports]) (by rw [hw.runningIn]; exact h.running) huf (by rw [hw.inhibit]; exact hi)
  have hdry : waterFlows (settle u) = false := by simp [waterFlows, m1.inhibit, hw.inhibit, hi]
  have hm := m1.trans (hc.moves (m1.fill huf) (by simp [runningIn, m2]) hdry)
  have hd := hc.drifts
  have hth := hc.settled.holder_none (by simp [waterFlows, hm.inhibit, hw.inhibit, hi]) (hm.free (by rw [← hu]; exact (holder_of_agree hg h.fill : o.wpc.holder ≠ .fill)))
  have hp : Piped t.wpc := hm.piped (hw.piped (piped_of_agree hg))
  refine ⟨⟨⟨by rw [hd.state, m2], by rw [hd.sub, m3]⟩, ?_, ?_, ⟨hm.fill huf, hth, by rw [hp.inlet, hth]; rfl⟩, ?_⟩,
    ((Goes.refl o).wets hw (by rw [← hu]; rfl)).trans hm.toGoes, fun he => ?_⟩
  · rw [hd.seq]
    show (settle u).seq.fault = _
    rw [m4, ← hu]
    rfl
  · rw [hd.seq]
    exact m5
  · rw [hc.sfu]
    exact m6
  · have hy : Yields o t := by
      have hy := (hm.engine (by rw [← hu]; exact he)).1
      rw [← hu] at hy
      exact hy
    exact engineGivesWay_of_yields hg h.fill hy (by simp [hth]) (by simp [hth]) hp

end

end Sys2Proof.Proofs
end

section
/-! PROOFS. The entry of a phase (R8, R9, R17): what every entry marks, and what has become of it by the end of the step. -/

/- One theorem at a time, as the tests have it: proofs that wait for the kernel cost a thread each. -/
set_option Elab.async false

namespace Sys2Proof.Proofs

open Sys2Proof.Machine
open Sys2Proof.Safety

/-! ## The opening of a fill record -/

theorem openFill_keeps (s : State) : (openFill s).wpc = s.wpc ∧ (openFill s).rge = s.rge
    ∧ (openFill s).reports = s.reports
    ∧ (openFill s).sfu.fill = { (openFill s).sfu.fill with isOpen := true, v := 0, g := 0, breakthrough := 0 }
    ∧ (openFill s).sfu.hRaw = s.cfg.hRaw ∧ (openFill s).sfu.hTgt = s.cfg.hTgt
    ∧ (openFill s).sfu.blend = blendOf s.cfg.hRaw s.cfg.hTgt := by
  obtain ⟨h1, h2, h3, -⟩ := closeFill_keeps s
  have hc := (Wets.refl s).closeFill.cfg
  unfold openFill
  dsimp only
  rw [hc]
  exact ⟨h1, h2, h3, rfl, rfl, rfl, rfl⟩

theorem closeFill_closed {s : State} (h : s.sfu.fill.isOpen = false) : closeFill s = s := by simp [closeFill, h]

theorem openFill_service {s : State} (h : s.sfu.fill.isOpen = false) : (openFill s).sfu.service = s.sfu.service := by
  unfold openFill
  rw [closeFill_closed h]
  rfl

theorem grantsAgree_congr {s t : State} (hw : t.wpc = s.wpc) (hr : t.rge = s.rge) (h : GrantsAgree s) : GrantsAgree t := by
  unfold GrantsAgree engineRequest
  rw [hw, hr]
  exact h

theorem openFill_goes (s : State) : Goes s (openFill s) :=
  (Goes.refl s).wets (Wets.refl s).openFill (by rw [(openFill_keeps s).1])

theorem openFill_seq (s : State) : (openFill s).seq = s.seq := by
  have h : (closeFill s).seq = s.seq := by
    unfold closeFill
    split
    · exact (((Serves.refl _).releaseRule).seq).trans rfl
    · rfl
  exact h

/-! ## The main fill of a phase -/

/-- The state in which the record of a phase's main fill stands open, and the request is about to be placed. -/
def opened (s : State) : State := openFill (onSeq (fun q => { q with fillBegun := true }) s)

theorem beginFill_eq (w : WashRecord) (s : State) : beginFill w s = placeFill w.fillVolume .main (opened s) := rfl

theorem opened_seq (s : State) : (opened s).seq = { s.seq with fillBegun := true } := openFill_seq _

theorem opened_goes (s : State) : Goes s (opened s) :=
  ((Moves.refl s).onSeq fun q => { q with fillBegun := true }).toGoes.trans (openFill_goes _)

theorem Asks.opened {w : WashRecord} {s : State} (h : Asks w s) : Asks w (opened s) := by
  have k := opened_goes s
  obtain ⟨h1, -, h3, -⟩ := openFill_keeps (onSeq (fun q => { q with fillBegun := true }) s)
  refine ⟨by rw [k.part]; exact h.ready, h3.trans h.reports, ?_, by rw [k.currentWash]; exact h.wash,
    (congrArg Wpc.fill h1).trans h.fill⟩
  rw [runningIn, opened_seq]
  exact h.running

/-- What the opening of the record leaves and sets, beside the columns. -/
structure Opened (x o : State) : Prop where
  wpc : o.wpc = x.wpc
  rge : o.rge = x.rge
  dsu : o.dsu = x.dsu
  htc : o.htc = { x.htc with output := o.htc.output }
  seq : o.seq = { x.seq with fillBegun := true }
  record : o.sfu.fill = { o.sfu.fill with isOpen := true, v := 0, g := 0, breakthrough := 0 }
  latched : o.sfu.hRaw = x.cfg.hRaw ∧ o.sfu.hTgt = x.cfg.hTgt ∧ o.sfu.blend = blendOf x.cfg.hRaw x.cfg.hTgt

theorem opened_opened (x : State) : Opened x (opened x) := by
  obtain ⟨h1, h2, -, h4, h5, h6, h7⟩ := openFill_keeps (onSeq (fun q => { q with fillBegun := true }) x)
  have hw := (Wets.refl (onSeq (fun q => { q with fillBegun := true }) x)).openFill
  exact ⟨h1, h2, hw.dsu, hw.htc, opened_seq x, h4, h5, h6, h7⟩

/-- The main fill of a phase, granted with its counts from 0 and its record open. -/
def MainFillGranted (w : WashRecord) (s t : State) : Prop :=
  t.seq.state = .running ∧ t.seq.sub = .fill ∧ t.wpc.fill = some ⟨w.fillVolume, .main, true⟩
    ∧ t.wpc.holder = .fill ∧ t.wpc.inletValve = true ∧ t.wpc.brineValve = false ∧ t.wpc.grantCount = 0
    ∧ t.wpc.residue = 0 ∧ t.wpc.latchedK = s.cfg.k ∧ t.wpc.fillTimer = some 0
    ∧ t.sfu.fill = { t.sfu.fill with isOpen := true, v := 0, g := 0, breakthrough := 0 }
    ∧ t.sfu.hRaw = s.cfg.hRaw ∧ t.sfu.hTgt = s.cfg.hTgt ∧ t.sfu.blend = blendOf s.cfg.hRaw s.cfg.hTgt

section
variable {w : WashRecord} {x t : State} (h : Asks w x)
include h

omit h in
theorem engineGivesWay_opened {o : State} (ho : Opened x o) (hg : GrantsAgree x) (hi : x.rge.state ≠ .idle)
    (hx : GrantsAgree o → o.rge.state ≠ .idle → EngineGivesWay o t) : EngineGivesWay x t := by
  have hx := hx (grantsAgree_congr ho.wpc ho.rge hg) (by rw [ho.rge]; exact hi)
  unfold EngineGivesWay at hx ⊢
  rwa [ho.wpc, ho.rge] at hx

theorem beginFill_granted (hi : x.wpc.inhibit = false) (hb : x.wpc.burst = none) (hl : x.wpc.highLevel = false)
    (hc : Concludes (beginFill w x) t) :
    MainFillGranted w x t ∧ Goes x t ∧ t.dsu = x.dsu ∧ t.seq = { x.seq with fillBegun := true, permit := false }
      ∧ (GrantsAgree x → x.rge.state ≠ .idle → EngineGivesWay x t) ∧ t.htc.request = x.htc.request := by
  rw [beginFill_eq] at hc
  have hg := opened_goes x
  have ha := h.opened
  have ho := opened_opened x
  obtain ⟨o, hoo⟩ : ∃ o, opened x = o := ⟨_, rfl⟩
  rw [hoo] at hc ho hg ha
  obtain ⟨k, kg, ke⟩ := fill_granted ha (by rw [ho.wpc]; exact hi) (by rw [ho.wpc]; exact hb) (by rw [ho.wpc]; exact hl) hc
  obtain ⟨r1, r2⟩ := (runningIn_iff _ _).mp h.running
  obtain ⟨e1, e2, e3, e4⟩ := k.drifts.record
  have es : (granted ⟨w.fillVolume, .main, false⟩ o).sfu = o.sfu := (revokeRegen_yields o).2.2.2.2.1
  rw [es] at e1 e2 e3 e4
  obtain ⟨w1, w2, w3, w4, w5, w6, w7, w8⟩ := k.wpc
  obtain ⟨h5, h6, h7⟩ := ho.latched
  refine ⟨⟨by rw [k.seq, ho.seq]; exact r1, by rw [k.seq, ho.seq]; exact r2, w1, w2, w3, w4, w5, w6, ?_, w8, ?_, ?_, ?_, ?_⟩,
    hg.trans kg, by rw [k.dsu, ho.dsu], by rw [k.seq, ho.seq], fun hx hidle => engineGivesWay_opened ho hx hidle ke, ?_⟩
  · rw [w7, hg.cfg]
  · rw [e1]
    exact ho.record
  · rw [e2, h5]
  · rw [e3, h6]
  · rw [e4, h7]
  · rw [k.drifts.htc, (granted_wets _ o).htc, ho.htc]

/-- A phase's main fill begins, and has been asked by the end of the step. -/
theorem beginFill_asked (hga : GrantsAgree x)
    (hh : x.wpc.inhibit = true ∨ x.wpc.highLevel = false ∨ 0 < w.holdTime) (hc : Concludes (beginFill w x) t) :
    MainFillAsked w x t ∧ Goes x t ∧ (x.rge.state ≠ .idle → EngineGivesWay x t)
      ∧ (x.wpc.inhibit = false → t.seq.summary = x.seq.summary)
      ∧ (x.wpc.inhibit = false → x.wpc.highLevel = false → t.htc.request = x.htc.request) := by
  by_cases hfree : x.wpc.inhibit = false ∧ x.wpc.burst = none ∧ x.wpc.highLevel = false
  · obtain ⟨hi, hb, hl⟩ := hfree
    obtain ⟨k1, k2, -, k3, k4, k5⟩ := beginFill_granted h hi hb hl hc
    exact ⟨⟨fun _ _ _ => k1, fun _ hx => by simp [hb] at hx, fun _ _ hx => by simp [hl] at hx, fun hx => by simp [hi] at hx⟩,
      k2, k4 hga, fun _ => by rw [k3], fun _ _ => k5⟩
  rw [beginFill_eq] at hc
  have hg := opened_goes x
  have ha := h.opened
  have ho := opened_opened x
  obtain ⟨o, hoo⟩ : ∃ o, opened x = o := ⟨_, rfl⟩
  rw [hoo] at hc ho hg ha
  have hgo := grantsAgree_congr ho.wpc ho.rge hga
  have hwpc := ho.wpc
  obtain ⟨r1, r2⟩ := (runningIn_iff _ _).mp h.running
  cases hi : x.wpc.inhibit with
  | true =>
    obtain ⟨k, kg, ke⟩ := fill_refused ha hgo (by rw [hwpc]; exact hi) hc
    refine ⟨⟨fun hx => by simp [hi] at hx, fun hx => by simp [hi] at hx, fun hx => by simp [hi] at hx, fun _ => ?_⟩,
      hg.trans kg, fun hx => engineGivesWay_opened ho hga hx fun _ => ke, nofun, nofun⟩
    obtain ⟨k1, k2⟩ := k.state
    obtain ⟨k3, k4, k5⟩ := k.wpc
    exact ⟨k1, k2, by rw [k.fault, ho.seq], k.outcome, k3, k4, k5, k.closed⟩
  | false =>
    by_cases hb : x.wpc.burst = none
    · have hl : x.wpc.highLevel = true := by simpa [hi, hb] using hfree
      have hh : 0 < w.holdTime := by simpa [hi, hl] using hh
      obtain ⟨k, kg, ke⟩ := fill_over ha hgo (by rw [hwpc]; exact hi) (by rw [hwpc]; exact hb) (by rw [hwpc]; exact hl) hh hc
      refine ⟨⟨fun _ _ hx => by simp [hl] at hx, fun _ hx => by simp [hb] at hx, fun _ _ _ _ => ?_, fun hx => by simp [hi] at hx⟩,
        hg.trans kg, fun hx => engineGivesWay_opened ho hga hx fun _ => ke, fun _ => by rw [k.summary, ho.seq], fun _ hx => by simp [hl] at hx⟩
      refine ⟨k.running, k.sub, k.fill, k.holder, k.inlet, k.count, ?_⟩
      rw [k.record, closedRecord, ho.record]
      simp [deliveredHardness, ho.latched.1]
    · have hb' : x.wpc.burst.isSome = true := Option.isSome_iff_ne_none.mpr hb
      obtain ⟨k, kg, ke⟩ := fill_waits ha hgo (by rw [hwpc]; exact hi) (by rw [hwpc]; exact hb') hc
      refine ⟨⟨fun _ hx => absurd hx hb, fun _ _ => ?_, fun _ hx => absurd hx hb, fun hx => by simp [hi] at hx⟩,
        hg.trans kg, fun hx => engineGivesWay_opened ho hga hx fun _ => ke, fun _ => by rw [k.seq, ho.seq], fun _ _ => ?_⟩
      obtain ⟨w1, w2, w3⟩ := k.wpc
      · refine ⟨by rw [k.seq, ho.seq]; exact r1, by rw [k.seq, ho.seq]; exact r2, w1, w2, w3, by rw [kg.burst, hwpc], ?_⟩
        rw [k.drifts.record.1]
        exact ho.record
      · rw [k.drifts.htc]
        show o.htc.request = _
        rw [ho.htc]

end

/-! ## What every entry marks -/

theorem marked_rest (p : Phase) (s : State) : marked p s = { s with
    seq := phaseMarks s.seq, lnk := (marked p s).lnk, htc := { s.htc with lossCount := 0, phaseDisable := false }
    czs := (marked p s).czs } := by
  unfold marked raiseNotice
  split <;> rfl

theorem marked_mask (p : Phase) (s : State) : (marked p s).lnk.mask = s.lnk.mask := by
  have h : (marked p s).lnk = (raiseNotice (.phaseBegin s.seq.idx (phaseKind p)) (onSeq (fun q => phaseMarks q) s)).lnk := rfl
  rw [h]
  unfold raiseNotice
  split <;> rfl

theorem marked_begins (p : Phase) {s : State} (h : noticeEnabled s.lnk.mask 4 = true) :
    notified (.phaseBegin s.seq.idx (phaseKind p)) (marked p s) = true :=
  notified_raiseNotice (s := onSeq (fun q => phaseMarks q) s) h

/-- The notices that stood are left by an entry, but for an earlier PHASE_BEGIN (R187). -/
theorem marked_noted (p : Phase) {s : State} {c : Content} (hc : noticeCode c ≠ 4) (h : notified c s = true) :
    notified c (marked p s) = true :=
  notified_raiseNotice_ne (s := onSeq (fun q => phaseMarks q) s) hc h

/-- A state from which a phase is entered: nothing is reported, and no fill stands. -/
structure Enters (z : State) : Prop where
  ready : z.part.state = .ready
  reports : z.reports = []
  fill : z.wpc.fill = none

/-! ## The entry of a wash phase -/

theorem currentWash_of_phase {s : State} {k : WashKind} {w : WashRecord} (h : currentPhase s = some (.wash k w)) :
    currentWash s = some w := by simp [currentWash, h]

/-- The phase of `z` has been entered before an open door: SUSPENDED, its fill before it (R6, R18). -/
structure EnteredSuspended (z t : State) : Prop where
  seq : t.seq = { phaseMarks z.seq with state := .suspended, sub := .none, remembered := .sub .fill, permit := false }
  rest : t.part = z.part ∧ t.cfg = z.cfg ∧ t.dsu = z.dsu ∧ t.ddu = z.ddu ∧ t.rst.history = z.rst.history
  fill : t.wpc.fill = none

theorem waterFlows_suspended {s : State} (h : s.seq.state = .suspended) : waterFlows s = false := by
  simp [waterFlows, permitCondition, h]

section
variable {z t : State} {k : WashKind} {w : WashRecord} (h : Enters z) (hp : currentPhase z = some (.wash k w))
include h hp

theorem enterPhase_waits (hd : z.ddu.doorOpen = true) (hc : Concludes (enterPhase z) t) :
    EnteredSuspended z t ∧ (GrantsAgree z → z.rge.state ≠ .idle → EngineGivesWay z t)
      ∧ (∀ c, noticeCode c ∉ engineNotices → notified c (marked (.wash k w) z) = true → notified c t = true) := by
  rw [enterPhase_suspended hp hd] at hc
  have hm := marked_rest (.wash k w) z
  obtain ⟨m, hmm⟩ : ∃ m, marked (.wash k w) z = m := ⟨_, rfl⟩
  rw [hmm] at hc hm ⊢
  obtain ⟨y, hy⟩ : ∃ y, onSeq (fun q => { q with remembered := .sub .fill }) (seqTo .suspended .none m) = y := ⟨_, rfl⟩
  rw [hy] at hc
  have hys : y.seq = { phaseMarks z.seq with state := .suspended, sub := .none, remembered := .sub .fill } := by
    rw [← hy, hm]
    rfl
  have hyw : y.wpc = z.wpc := by rw [← hy, hm]; rfl
  have hyr : y.rge = z.rge := by rw [← hy, hm]; rfl
  have hye : y.reports = [] := by rw [← hy, hm]; exact h.reports
  have hrd : runningIn y .drain = false := by simp [runningIn, hys]
  have hq : Quieted y := ⟨by rw [← hy, hm]; exact h.ready, fun q hq => by simp [hyw, h.fill] at hq, by simp [hye]⟩
  have hd := (hq.settle (.inl hrd)).trans hc.drifts
  have hs : t.seq = { y.seq with permit := t.seq.permit } := hd.seq_of_quiet hye
  have hdry : waterFlows y = false := waterFlows_suspended (by rw [hys])
  refine ⟨⟨?_, ⟨?_, ?_, ?_, ?_, ?_⟩, ?_⟩, fun hg hi => ?_, fun c hc' hn => ?_⟩
  · have hst : t.seq.state = .suspended := by rw [hd.state, hys]
    rw [hs, hys, hc.settled.permit]
    simp [permitCondition, hst]
  · rw [hd.part, ← hy, hm]; rfl
  · rw [hd.cfg, ← hy, hm]; rfl
  · rw [hd.dsu, ← hy, hm]; rfl
  · rw [hd.ddu, ← hy, hm]; rfl
  · rw [hd.history, ← hy, hm]; rfl
  · rw [hd.fill, hyw, h.fill]
  · obtain ⟨hyi, -⟩ := hd.engine hrd hdry (by rw [hyr]; exact hi)
    obtain ⟨h1, h2⟩ := hc.settled.holder_of_dry (waterFlows_suspended (by rw [hd.state, hys]))
    refine engineGivesWay_of_yields hg h.fill ?_ h1 h2 (hd.piped (by rw [hyw]; exact piped_of_agree hg))
    unfold Yields at hyi ⊢
    rwa [hyr, hyw] at hyi
  · refine hd.noted c hc' ?_
    rw [← hy]
    exact hn

/-- The state in which the main fill of the phase of `z` begins. -/
def fillStarted (k : WashKind) (w : WashRecord) (z : State) : State := seqTo .running .fill (marked (.wash k w) z)

omit h hp in
theorem fillStarted_rest (k : WashKind) (w : WashRecord) (z : State) : fillStarted k w z = { z with
    seq := { phaseMarks z.seq with state := .running, sub := .fill }, lnk := (marked (.wash k w) z).lnk
    htc := { z.htc with lossCount := 0, phaseDisable := false }, czs := (marked (.wash k w) z).czs } := by
  unfold fillStarted
  rw [marked_rest]
  rfl

theorem asks_fillStarted : Asks w (fillStarted k w z) := by
  have hx := fillStarted_rest k w z
  refine ⟨by rw [hx]; exact h.ready, by rw [hx]; exact h.reports, by rw [hx]; rfl, ?_, by rw [hx]; exact h.fill⟩
  rw [currentWash_congr (s := z) (by rw [hx]; rfl) (by rw [hx]; rfl)]
  exact currentWash_of_phase hp

/-- The phase of `z` has been entered behind a closed door, and its main fill granted. -/
theorem enterPhase_grants (hd : z.ddu.doorOpen = false) (hi : z.wpc.inhibit = false) (hb : z.wpc.burst = none)
    (hl : z.wpc.highLevel = false) (hc : Concludes (enterPhase z) t) :
    MainFillGranted w z t ∧ Goes (fillStarted k w z) t ∧ t.dsu = z.dsu
      ∧ t.seq = { phaseMarks z.seq with state := .running, sub := .fill, fillBegun := true, permit := false } := by
  rw [enterPhase_fill hp hd] at hc
  have hx := fillStarted_rest k w z
  obtain ⟨k1, k2, k3, k4, -⟩ := beginFill_granted (asks_fillStarted h hp) (by rw [hx]; exact hi) (by rw [hx]; exact hb)
    (by rw [hx]; exact hl) hc
  refine ⟨?_, k2, by rw [k3, hx], by rw [k4, hx]⟩
  rw [hx] at k1
  exact k1

/-- The phase of `z` has been entered behind a closed door, its main fill asked. -/
theorem enterPhase_asks (hg : GrantsAgree z) (hd : z.ddu.doorOpen = false)
    (hh : z.wpc.inhibit = true ∨ z.wpc.highLevel = false ∨ 0 < w.holdTime) (hc : Concludes (enterPhase z) t) :
    MainFillAsked w z t ∧ Goes (fillStarted k w z) t ∧ (z.rge.state ≠ .idle → EngineGivesWay z t)
      ∧ (z.wpc.inhibit = false → t.seq.summary = { z.seq.summary with phasesRun := z.seq.summary.phasesRun + 1 })
      ∧ (z.wpc.inhibit = false → z.wpc.highLevel = false → t.htc.request = z.htc.request) := by
  rw [enterPhase_fill hp hd] at hc
  have hx := fillStarted_rest k w z
  obtain ⟨k1, k2, k3, k4, k5⟩ := beginFill_asked (asks_fillStarted h hp)
    (grantsAgree_congr (by rw [hx]) (by rw [hx]) hg) (by rw [hx]; exact hh) hc
  rw [hx] at k1 k3 k4 k5
  exact ⟨k1, k2, k3, k4, k5⟩

end

/-- What the entry of a wash phase leaves, whatever becomes of its fill. -/
structure WashEntered (k : WashKind) (z t : State) : Prop where
  rest : t.part = z.part ∧ t.cfg = z.cfg ∧ t.ddu = z.ddu ∧ t.rst.history = z.rst.history
  seq : t.seq.idx = z.seq.idx ∧ t.seq.soil = z.seq.soil ∧ t.seq.table = z.seq.table ∧ t.seq.count = z.seq.count
  phasesRun : t.seq.summary.phasesRun = z.seq.summary.phasesRun + 1
  holdPending : z.seq.holdPending = false → t.seq.holdPending = false
  begins : noticeEnabled z.lnk.mask 4 = true → notified (.phaseBegin z.seq.idx (.wash k)) t = true

theorem washEntered_of_goes {z t : State} {k : WashKind} {w : WashRecord} (h : Goes (fillStarted k w z) t) :
    WashEntered k z t := by
  have hx := fillStarted_rest k w z
  refine ⟨⟨?_, ?_, ?_, ?_⟩, ⟨?_, ?_, ?_, ?_⟩, ?_, fun hh => h.holdPending (by rw [hx]; exact hh), fun he => ?_⟩
  · rw [h.part, hx]
  · rw [h.cfg, hx]
  · rw [h.ddu, hx]
  · rw [h.history, hx]
  · rw [h.seq, hx]; rfl
  · rw [h.seq, hx]; rfl
  · rw [h.seq, hx]; rfl
  · rw [h.seq, hx]; rfl
  · rw [h.seq, hx]; rfl
  · exact h.noted _ (by simp [noticeCode, phaseNotices, engineNotices, serviceNotices]) (marked_begins (.wash k w) he)

theorem washEntered_of_suspended {z t : State} {k : WashKind} {w : WashRecord} (h : EnteredSuspended z t)
    (hn : ∀ c, noticeCode c ∉ engineNotices → notified c (marked (.wash k w) z) = true → notified c t = true) :
    WashEntered k z t := by
  obtain ⟨h1, h2, -, h4, h5⟩ := h.rest
  have hs := h.seq
  refine ⟨⟨h1, h2, h4, h5⟩, ⟨by rw [hs]; rfl, by rw [hs]; rfl, by rw [hs]; rfl, by rw [hs]; rfl⟩, by rw [hs]; rfl,
    fun hh => by rw [hs]; exact hh, fun he => ?_⟩
  exact hn _ (by simp [noticeCode, engineNotices]) (marked_begins (.wash k w) he)

end Sys2Proof.Proofs
end

section
/-! PROOFS. The boundary of a phase (R18) and the start of a drying (R162, R163): what they set and raise. -/

/- One theorem at a time, as the tests have it: proofs that wait for the kernel cost a thread each. -/
set_option Elab.async false

namespace Sys2Proof.Proofs

open Sys2Proof.Machine
open Sys2Proof.Safety

/-! ## The boundary of a phase -/

theorem raiseNotice_rest (c : Content) (s : State) : raiseNotice c s = { s with lnk := (raiseNotice c s).lnk } := by
  unfold raiseNotice
  split <;> rfl

theorem raiseNotice_mask (c : Content) (s : State) : (raiseNotice c s).lnk.mask = s.lnk.mask := by
  unfold raiseNotice
  split <;> rfl

theorem phaseEndRaised_rest (s : State) : phaseEndRaised s = { s with lnk := (phaseEndRaised s).lnk } := by
  unfold phaseEndRaised
  split
  · exact raiseNotice_rest _ _
  · rfl

theorem phaseEndRaised_mask (s : State) : (phaseEndRaised s).lnk.mask = s.lnk.mask := by
  unfold phaseEndRaised
  split
  · exact raiseNotice_mask _ _
  · rfl

theorem phaseEndRaised_ends {s : State} {p : Phase} (hp : currentPhase s = some p) (h : noticeEnabled s.lnk.mask 5 = true) :
    notified (.phaseEnd s.seq.idx (phaseKind p)) (phaseEndRaised s) = true := by
  unfold phaseEndRaised
  rw [hp]
  exact notified_raiseNotice h

theorem phaseEndRaised_noted {s : State} {c : Content} (hc : noticeCode c ≠ 5) (h : notified c s = true) :
    notified c (phaseEndRaised s) = true := by
  unfold phaseEndRaised
  split
  · exact notified_raiseNotice_ne hc h
  · exact h

/-- The sequencer's fields of a completed program. -/
def completedSeq (q : Seq) : Seq :=
  { q with state := .ended, sub := .none, holdPending := false, summary := { q.summary with outcome := .completed } }

theorem completeProgram_eq (s : State) : completeProgram s
    = raiseNotice (.programEnd (completedSeq s.seq).summary) (onSeq completedSeq s) := rfl

/-- The sequencer's fields of a program that holds at a boundary. -/
def heldSeq (q : Seq) : Seq := { q with state := .holding, sub := .none, holdPending := false }

theorem holdAtBoundary_eq (s : State) : holdAtBoundary s = raiseNotice (.holdReached s.seq.idx) (onSeq heldSeq s) := rfl

/-- A state whose sequencer rests between phases or has ended settles by the water path's drift alone. -/
theorem drifts_of_silent {y t : State} (hp : y.part.state = .ready) (hf : y.wpc.fill = none) (hr : y.reports = [])
    (hx : runningIn y .drain = false ∨ y.seq.extension = none) (hc : Concludes y t) : Drifts y t := by
  have hq : Quieted y := ⟨hp, fun q hq => by simp [hf] at hq, by simp [hr]⟩
  exact (hq.settle hx).trans hc.drifts

/-- The kinds of the notices that may rise at the boundary of a phase after which none is entered. -/
def boundaryNotices : List Nat := 5 :: 6 :: 7 :: engineNotices

/-- What a step whose program reaches the end of its phase leaves, with the sequencer's fields `q` (R18). -/
structure Bounded (q : Seq) (z t : State) : Prop where
  rest : t.part = z.part ∧ t.cfg = z.cfg ∧ t.dsu = z.dsu ∧ t.ddu = z.ddu ∧ t.rst.history = z.rst.history
  seq : t.seq = { q with permit := t.seq.permit }
  fill : t.wpc.fill = none
  seqDrain : t.wpc.seqDrain = z.wpc.seqDrain
  htc : t.htc = { z.htc with output := t.htc.output }
  noted : ∀ c, noticeCode c ∉ boundaryNotices → notified c z = true → notified c t = true
  ends : noticeEnabled z.lnk.mask 5 = true → ∀ p, currentPhase z = some p →
    notified (.phaseEnd z.seq.idx (phaseKind p)) t = true

section
variable {z t : State} (hp : z.part.state = .ready) (hr : z.reports = []) (hf : z.wpc.fill = none)
include hp hr hf

/-- The sequencer's fields and a notice of the boundary, once the step has ended. -/
theorem bounded_of_notice {q : Seq → Seq} {c : Content} (hq : runningIn (onSeq q z) .drain = false) (hc5 : noticeCode c = 6 ∨ noticeCode c = 7)
    (hce : noticeCode c ∉ engineNotices) (hc : Concludes (raiseNotice c (onSeq q (phaseEndRaised z))) t) :
    Bounded (q z.seq) z t ∧ (noticeEnabled z.lnk.mask (noticeCode c) = true → notified c t = true) := by
  have h1 := phaseEndRaised_rest z
  have hm := phaseEndRaised_mask z
  obtain ⟨u, hu⟩ : ∃ u, phaseEndRaised z = u := ⟨_, rfl⟩
  rw [hu] at hc h1 hm
  have h2 := raiseNotice_rest c (onSeq q u)
  obtain ⟨y, hy⟩ : ∃ y, raiseNotice c (onSeq q u) = y := ⟨_, rfl⟩
  rw [hy] at hc h2
  have hys : y.seq = q z.seq := by rw [h2, onSeq, h1]
  have hd := drifts_of_silent (y := y) (by rw [h2, h1]; exact hp) (by rw [h2, h1]; exact hf) (by rw [h2, h1]; exact hr)
    (.inl (by rw [runningIn, hys]; exact hq)) hc
  have hyr : y.reports = [] := by rw [h2, h1]; exact hr
  refine ⟨⟨⟨?_, ?_, ?_, ?_, ?_⟩, ?_, ?_, ?_, ?_, fun d hdc hn => ?_, fun he p hcp => ?_⟩, fun he => ?_⟩
  · rw [hd.part, h2, h1]; rfl
  · rw [hd.cfg, h2, h1]; rfl
  · rw [hd.dsu, h2, h1]; rfl
  · rw [hd.ddu, h2, h1]; rfl
  · rw [hd.history, h2, h1]; rfl
  · rw [hd.seq_of_quiet hyr, hys]
  · rw [hd.fill, h2, h1]; exact hf
  · rw [hd.seqDrain, h2, h1]; rfl
  · rw [hd.htc, h2, h1]; rfl
  · simp only [boundaryNotices, List.mem_cons, not_or] at hdc
    obtain ⟨d5, d6, d7, de⟩ := hdc
    refine hd.noted _ de ?_
    rw [← hy]
    refine notified_raiseNotice_ne (s := onSeq q u) (by rcases hc5 with hx | hx <;> rwa [hx]) ?_
    rw [← hu]
    exact phaseEndRaised_noted d5 hn
  · refine hd.noted _ (by simp [noticeCode, engineNotices]) ?_
    rw [← hy]
    refine notified_raiseNotice_ne (s := onSeq q u) (by rcases hc5 with hx | hx <;> rw [hx] <;> simp [noticeCode]) ?_
    have hn := phaseEndRaised_ends hcp he
    rw [hu] at hn
    exact hn
  · refine hd.noted _ hce ?_
    rw [← hy]
    exact notified_raiseNotice (s := onSeq q u) (by rw [← hm] at he; exact he)

/-- After the last phase the program is over (R18). -/
theorem endPhase_completes (hn : z.seq.count ≤ z.seq.idx + 1) (hc : Concludes (endPhase z) t) :
    Bounded (completedSeq z.seq) z t ∧ (noticeEnabled z.lnk.mask 7 = true → notified (.programEnd t.seq.summary) t = true) := by
  have hs : (phaseEndRaised z).seq = z.seq := by rw [phaseEndRaised_rest]
  rw [endPhase_eq, hs, if_pos hn, completeProgram_eq, hs] at hc
  obtain ⟨h1, h2⟩ := bounded_of_notice hp hr hf (q := completedSeq) rfl (.inr rfl)
    (by simp [noticeCode, engineNotices]) hc
  refine ⟨h1, fun he => ?_⟩
  rw [h1.seq]
  exact h2 he

/-- A pending hold keeps the program at the boundary (R18, R19). -/
theorem endPhase_holds (hn : z.seq.idx + 1 < z.seq.count) (hh : z.seq.holdPending = true) (hc : Concludes (endPhase z) t) :
    Bounded (heldSeq z.seq) z t ∧ (noticeEnabled z.lnk.mask 6 = true → notified (.holdReached z.seq.idx) t = true) := by
  have hs : (phaseEndRaised z).seq = z.seq := by rw [phaseEndRaised_rest]
  rw [endPhase_eq, hs, if_neg (by omega), if_pos hh, holdAtBoundary_eq, hs] at hc
  exact bounded_of_notice hp hr hf (q := heldSeq) rfl (.inl rfl) (by simp [noticeCode, engineNotices]) hc

end

/-! ## Drying -/

/-- From `s` to `t` only the drying has moved, with its notices and reports; a homing of the actuator may have ended. -/
structure Dries (s t : State) : Prop where
  rest : t = { s with part := t.part, ddu := t.ddu, lnk := t.lnk, reports := t.reports }
  part : t.part = { s.part with homings := t.part.homings }
  homed : s.part.homings = {} → t.part = s.part
  mask : t.lnk.mask = s.lnk.mask
  noted : ∀ c, noticeCode c ≠ 19 → notified c s = true → notified c t = true

namespace Dries

variable {s t u a b : State}

theorem refl (s : State) : Dries s s := ⟨rfl, rfl, fun _ => rfl, rfl, fun _ _ => id⟩

theorem trans (h : Dries s t) (k : Dries t u) : Dries s u where
  rest := by
    have hr := h.rest
    have kr := k.rest
    rw [hr] at kr
    exact kr
  part := by rw [k.part, h.part]
  homed := fun hh => by
    have hp := h.homed hh
    rw [k.homed (by rw [hp]; exact hh), hp]
  mask := k.mask.trans h.mask
  noted := fun c hc => k.noted c hc ∘ h.noted c hc

theorem ite {c : Prop} [Decidable c] (ha : c → Dries s a) (hb : ¬ c → Dries s b) : Dries s (if c then a else b) := by
  split
  · exact ha ‹_›
  · exact hb ‹_›

theorem onDdu (h : Dries s t) (f : Ddu → Ddu) : Dries s (onDdu f t) := h.trans ⟨rfl, rfl, fun _ => rfl, rfl, fun _ _ => id⟩

theorem report (h : Dries s t) (r : Report) : Dries s (report r t) := h.trans ⟨rfl, rfl, fun _ => rfl, rfl, fun _ _ => id⟩

theorem enterStage (h : Dries s t) (st : DryStage) (n : Nat) : Dries s (enterStage st n t) := by
  refine (h.onDdu fun d => { d with stage := st, stageTime := n }).trans ?_
  have hr := raiseNotice_rest (.dryStage (dryReport (Machine.onDdu (fun d => { d with stage := st, stageTime := n }) t)))
    (Machine.onDdu (fun d => { d with stage := st, stageTime := n }) t)
  exact ⟨by unfold Machine.enterStage; dsimp only; rw [hr], by unfold Machine.enterStage; dsimp only; rw [hr],
    fun _ => by unfold Machine.enterStage; dsimp only; rw [hr], raiseNotice_mask _ _,
    fun c hc hn => notified_raiseNotice_ne hc hn⟩

theorem reachDone (h : Dries s t) : Dries s (reachDone t) :=
  .ite (fun _ => ((h.onDdu _).enterStage _ _).report _) fun _ => (h.onDdu _).enterStage _ _

theorem doneWith (h : Dries s t) (o : DryOutcome) : Dries s (doneWith o t) := (h.onDdu _).reachDone

theorem enterOpening (h : Dries s t) : Dries s (enterOpening t) := by
  unfold Machine.enterOpening
  exact (h.enterStage _ _).onDdu _

theorem enterWaitCool (h : Dries s t) : Dries s (enterWaitCool t) :=
  have h := h.enterStage .waitCool 0
  .ite (fun _ => h.enterOpening) fun _ => h

theorem enterDwell (h : Dries s t) : Dries s (enterDwell t) :=
  have h := h.enterStage .dwell (if t.ddu.formOpen then t.ddu.dwell else t.ddu.dwell + t.ddu.openTime)
  .ite (fun _ => .ite (fun _ => h.enterWaitCool) fun _ => h.doneWith _) fun _ => h

theorem takeStart (h : Dries s t) (p : DryStart) : Dries s (takeStart p t) :=
  .ite (fun _ => (h.onDdu _).doneWith _) fun _ => (h.onDdu _).enterDwell

end Dries

/-- The drying's fields once a start is taken (R162). -/
def taken (p : DryStart) (c : ConfigRec) (d : Ddu) : Ddu :=
  { d with
    awaited := true, dwell := p.dwell, openTime := p.openTime, autoMode := c.autoDry, gapTarget := c.gapTarget
    openLimit := c.openLimit, retryUsed := false, retryPause := none, expired := false, gapShort := false, gapHeld := 0
    outcome := .none, formOpen := opensDoor c d }

theorem takeStart_eq (p : DryStart) (s : State) : takeStart p s =
    if s.ddu.doorOpen then doneWith .openedByUser (onDdu (fun _ => taken p s.cfg s.ddu) s)
    else enterDwell (onDdu (fun _ => taken p s.cfg s.ddu) s) := rfl

theorem enterStage_ddu (st : DryStage) (n : Nat) (s : State) :
    (enterStage st n s).ddu = { s.ddu with stage := st, stageTime := n } := by
  unfold enterStage
  dsimp only
  rw [raiseNotice_rest]
  rfl

theorem enterStage_reports (st : DryStage) (n : Nat) (s : State) : (enterStage st n s).reports = s.reports :=
  raiseNotice_reports _ _

/-- An awaited drying that is done reports its outcome (R169). -/
theorem doneWith_awaited {o : DryOutcome} {s : State} (h : s.ddu.awaited = true) :
    (doneWith o s).ddu = { s.ddu with outcome := o, awaited := false, stage := .done, stageTime := 0 }
      ∧ (doneWith o s).reports = s.reports ++ [.dryingDone o] := by
  unfold doneWith reachDone
  simp only [Laws.onDdu_ddu, h, if_true, report, Laws.onReports_ddu, Laws.onReports_reports, enterStage_ddu,
    enterStage_reports, Laws.onDdu_reports, and_self]

/-- A dwell that is not over at once (R163). -/
theorem enterDwell_stays {s : State}
    (h : 0 < (if s.ddu.formOpen then s.ddu.dwell else s.ddu.dwell + s.ddu.openTime)) :
    (enterDwell s).ddu = { s.ddu with
        stage := .dwell, stageTime := if s.ddu.formOpen then s.ddu.dwell else s.ddu.dwell + s.ddu.openTime }
      ∧ (enterDwell s).reports = s.reports := by
  unfold enterDwell
  dsimp only
  rw [if_neg (by omega)]
  exact ⟨enterStage_ddu _ _ _, enterStage_reports _ _ _⟩

/-- With no dwell the OPEN form waits for the sump to cool, or opens at once (R163 to R165). -/
theorem enterDwell_opens {s : State} (hf : s.ddu.formOpen = true) (hd : s.ddu.dwell = 0) :
    (enterDwell s).ddu = (if coolEnough s then { s.ddu with stage := .opening, stageTime := 0, drive := .outward, stall := some 0 }
        else { s.ddu with stage := .waitCool, stageTime := 0 })
      ∧ (enterDwell s).reports = s.reports := by
  have h0 : ∀ (st : DryStage) (n : Nat) (u : State), coolEnough (enterStage st n u) = coolEnough u := fun st n u => by
    have hr := ((Dries.refl u).enterStage st n).rest
    have ht : (enterStage st n u).htc = u.htc := by rw [hr]
    unfold coolEnough
    rw [ht, enterStage_ddu]
  have hx : enterDwell s = enterWaitCool (enterStage .dwell 0 s) := by
    unfold enterDwell dwellEnds
    simp [hf, hd, enterStage_ddu]
  rw [hx]
  unfold enterWaitCool
  dsimp only
  rw [h0, h0]
  split
  · unfold enterOpening driveOutward
    simp only [Laws.onDdu_ddu, Laws.onDdu_reports, enterStage_ddu, enterStage_reports, and_self]
  · simp only [enterStage_ddu, enterStage_reports, and_self]

/-- With no time at all the CLOSED form is done at once (R163). -/
theorem enterDwell_done {s : State} (hf : s.ddu.formOpen = false) (hd : s.ddu.dwell = 0) (ho : s.ddu.openTime = 0)
    (ha : s.ddu.awaited = true) :
    (enterDwell s).ddu = { s.ddu with outcome := .completedClosed, awaited := false, stage := .done, stageTime := 0 }
      ∧ (enterDwell s).reports = s.reports ++ [.dryingDone .completedClosed] := by
  obtain ⟨h1, h2⟩ := doneWith_awaited (o := .completedClosed) (s := enterStage .dwell 0 s) (by rw [enterStage_ddu]; exact ha)
  have hx : enterDwell s = doneWith .completedClosed (enterStage .dwell 0 s) := by
    unfold enterDwell dwellEnds
    simp [hf, hd, ho, enterStage_ddu]
  rw [hx]
  exact ⟨by rw [h1, enterStage_ddu], by rw [h2, enterStage_reports]⟩

end Sys2Proof.Proofs
end

section
/-! PROOFS. The entry of a DRY phase (R162 to R165): the drying goes on, or is done and the program over in the same step. -/

/- One theorem at a time, as the tests have it: proofs that wait for the kernel cost a thread each. -/
set_option Elab.async false

namespace Sys2Proof.Proofs

open Sys2Proof.Machine
open Sys2Proof.Safety

/-! ## One report, and nothing after it -/

/-- A report after which nothing is reported settles as what the sequencer makes of it does. -/
theorem concludes_report {u t : State} {r : Report} (hr : u.reports = [r]) (hf : Fillable u) (hd : runningIn u .drain = false)
    (hc : Concludes u t) : ∃ v, Drifts u v ∧ v.reports = [] ∧
      ((takeReport r v).reports = [] → (takeReport r v).part.state = .ready → (takeReport r v).wpc.fill = none →
        runningIn (takeReport r v) .drain = false → Concludes (takeReport r v) t) := by
  obtain ⟨v, hv, hvr, ht⟩ := takeReports_one hr hf hd
  refine ⟨v, hv, hvr, fun h1 h2 h3 h4 => ?_⟩
  obtain ⟨z, hz⟩ : ∃ z, takeReport r v = z := ⟨_, rfl⟩
  rw [hz] at h1 h2 h3 h4 ht ⊢
  have hfz : Fillable z := fun q hq => by simp [h3] at hq
  have hw : (waterSettle z).reports = [] := by
    rcases waterSettle_reports hfz with he | ⟨hx, -⟩
    · rw [he, h1]
    · rw [h4] at hx
      cases hx
  have hp : (waterSettle z).part.state = .ready := by rw [(Wets.refl z).waterSettle.part, h2]
  have he : settle u = settle z := by
    rw [settle_ready (s := u) (by rw [ht 63, Laws.takeReports_nil _ hw]; exact hp),
      settle_ready (s := z) (by rw [Laws.takeReports_nil _ hw]; exact hp), ht 63, Laws.takeReports_nil _ hw,
      Laws.takeReports_nil _ hw]
  obtain ⟨f, hl, hx⟩ := hc
  exact ⟨f, hl, by rw [hx, he]⟩

/-! ## A drying started -/

/-- A program runs in DRY, at rest but for the drying. -/
structure InDry (x : State) : Prop where
  ready : x.part.state = .ready
  homings : x.part.homings = {}
  fill : x.wpc.fill = none
  running : runningIn x .dry = true

/-- What the step leaves beside the sequencer and the link, the drying as in `y`. -/
structure DryRest (x y t : State) : Prop where
  part : t.part = x.part
  cfg : t.cfg = x.cfg
  dsu : t.dsu = x.dsu
  ddu : t.ddu = y.ddu
  history : t.rst.history = x.rst.history
  fill : t.wpc.fill = none
  seqDrain : t.wpc.seqDrain = x.wpc.seqDrain
  htc : t.htc = { x.htc with output := t.htc.output }

section
variable {x y t : State} (h : InDry x) (hy : Dries x y)
include h hy

theorem dries_fields : y.seq = x.seq ∧ y.wpc = x.wpc ∧ y.part = x.part := by
  refine ⟨by rw [hy.rest], by rw [hy.rest], hy.homed h.homings⟩

/-- A drying that reports nothing goes on. -/
theorem drying_goes_on (hr : y.reports = []) (hc : Concludes y t) :
    DryRest x y t ∧ t.seq = { x.seq with permit := t.seq.permit }
      ∧ (∀ c, noticeCode c ∉ 19 :: engineNotices → notified c x = true → notified c t = true) := by
  obtain ⟨hs, hw, hp⟩ := dries_fields h hy
  obtain ⟨r1, r2⟩ := (runningIn_iff _ _).mp h.running
  have hd := drifts_of_silent (y := y) (by rw [hp]; exact h.ready) (by rw [hw]; exact h.fill) hr
    (.inl (by simp [runningIn, hs, r2])) hc
  refine ⟨⟨by rw [hd.part, hp], ?_, ?_, hd.ddu, ?_, by rw [hd.fill, hw, h.fill], by rw [hd.seqDrain, hw], ?_⟩,
    by rw [hd.seq_of_quiet hr, hs], fun c hcc hn => ?_⟩
  · rw [hd.cfg, hy.rest]
  · rw [hd.dsu, hy.rest]
  · rw [hd.history, hy.rest]
  · rw [hd.htc, hy.rest]
  · exact hd.noted c (fun hx => hcc (List.mem_cons_of_mem _ hx)) (hy.noted c (fun hx => hcc (by simp [hx])) hn)

/-- A drying of the last phase that is done ends the program (R17, R18). -/
theorem drying_over {o : DryOutcome} (hr : y.reports = [.dryingDone o]) (hn : x.seq.count ≤ x.seq.idx + 1)
    (hc : Concludes y t) :
    DryRest x y t ∧ t.seq = { completedSeq x.seq with permit := t.seq.permit }
      ∧ (∀ p, currentPhase x = some p → noticeEnabled x.lnk.mask 5 = true →
        notified (.phaseEnd x.seq.idx (phaseKind p)) t = true)
      ∧ (noticeEnabled x.lnk.mask 7 = true → notified (.programEnd t.seq.summary) t = true)
      ∧ (∀ c, noticeCode c ∉ 19 :: boundaryNotices → notified c x = true → notified c t = true) := by
  obtain ⟨hs, hw, hp⟩ := dries_fields h hy
  obtain ⟨r1, r2⟩ := (runningIn_iff _ _).mp h.running
  have hfy : Fillable y := fun q hq => by simp [hw, h.fill] at hq
  obtain ⟨v, hv, hvr, hx⟩ := concludes_report hr hfy (by simp [runningIn, hs, r2]) hc
  have hvd : runningIn v .dry = true := by rw [hv.runningIn, runningIn, hs]; exact h.running
  have hvf : v.wpc.fill = none := by rw [hv.fill, hw, h.fill]
  have hvp : v.part = x.part := by rw [hv.part, hp]
  have hvs : v.seq = { x.seq with permit := v.seq.permit, placed := v.seq.placed } := by rw [hv.seq, hs]
  have he : takeReport (.dryingDone o) v = endPhase v := by simp [takeReport, dryingDone, hvd]
  have hvn : v.seq.count ≤ v.seq.idx + 1 := by rw [hvs]; exact hn
  have hs' : (phaseEndRaised v).seq = v.seq := by rw [phaseEndRaised_rest]
  have hz : endPhase v = raiseNotice (.programEnd (completedSeq v.seq).summary) (onSeq completedSeq (phaseEndRaised v)) := by
    rw [endPhase_eq, hs', if_pos hvn, completeProgram_eq, hs']
  have h1 := phaseEndRaised_rest v
  have h2 := raiseNotice_rest (.programEnd (completedSeq v.seq).summary) (onSeq completedSeq (phaseEndRaised v))
  rw [← hz] at h2
  rw [he] at hx
  have hc := hx (by rw [h2, h1]; exact hvr) (by rw [h2, h1]; exact (congrArg Part.state hvp).trans h.ready)
    (by rw [h2, h1]; exact hvf) (by rw [h2, h1]; rfl)
  obtain ⟨hb, hpe⟩ := endPhase_completes (by rw [hvp]; exact h.ready) hvr hvf hvn hc
  obtain ⟨b1, b2, b3, b4, b5⟩ := hb.rest
  have hmask : v.lnk.mask = x.lnk.mask := by rw [hv.mask, hy.mask]
  refine ⟨⟨by rw [b1, hvp], ?_, ?_, by rw [b4, hv.ddu], ?_, hb.fill, by rw [hb.seqDrain, hv.seqDrain, hw], ?_⟩, ?_,
    fun p hcp he => ?_, fun he => hpe (by rw [hmask]; exact he), fun c hcc hnx => ?_⟩
  · rw [b2, hv.cfg, hy.rest]
  · rw [b3, hv.dsu, hy.rest]
  · rw [b5, hv.history, hy.rest]
  · rw [hb.htc, hv.htc, hy.rest]
  · have hd : Doseless y := fun a => by simp [hr]
    rw [hb.seq, hvs, (hv.placed hd).1, hs]
    rfl
  · have hi : v.seq.idx = x.seq.idx := by rw [hvs]
    rw [← hi]
    exact hb.ends (by rw [hmask]; exact he) p (by rw [hv.currentPhase, currentPhase_congr (s := x) (by rw [hs]) (by rw [hs])]; exact hcp)
  · simp only [List.mem_cons, not_or] at hcc
    obtain ⟨c19, cb⟩ := hcc
    refine hb.noted c cb (hv.noted c (fun hx => cb ?_) (hy.noted c c19 hnx))
    simp [boundaryNotices, hx]

end

/-! ## The entry of a DRY phase -/

/-- The sequencer's fields as a DRY phase begins (R8, R17). -/
def drySeq (q : Seq) : Seq := { phaseMarks q with state := .running, sub := .dry }

/-- What the entry of a DRY phase leaves, with the sequencer's fields `q` and the drying's fields `d`. -/
structure DryEntered (q : Seq) (d : Ddu) (z t : State) : Prop where
  rest : t.part = z.part ∧ t.cfg = z.cfg ∧ t.dsu = z.dsu ∧ t.rst.history = z.rst.history
  ddu : t.ddu = d
  seq : t.seq = { q with permit := t.seq.permit }
  fill : t.wpc.fill = none
  seqDrain : t.wpc.seqDrain = z.wpc.seqDrain
  temp : t.htc.temp = z.htc.temp
  request : t.htc.request = z.htc.request
  begins : noticeEnabled z.lnk.mask 4 = true → notified (.phaseBegin z.seq.idx .dry) t = true
  noted : ∀ c, noticeCode c ∉ 4 :: 19 :: boundaryNotices → notified c z = true → notified c t = true

section
variable {z t : State} {d o : Nat} (h : Enters z) (hh : z.part.homings = {}) (ha : z.ddu.awaited = false)
  (hp : currentPhase z = some (.dry d o)) (hc : Concludes (enterPhase z) t)

/-- The state in which the drying of the phase is started. -/
def dryStarted (d o : Nat) (z : State) : State := seqTo .running .dry (marked (.dry d o) z)

theorem dryStarted_rest (d o : Nat) (z : State) : dryStarted d o z = { z with
    seq := drySeq z.seq, lnk := (marked (.dry d o) z).lnk, htc := { z.htc with lossCount := 0, phaseDisable := false }
    czs := (marked (.dry d o) z).czs } := by
  unfold dryStarted
  rw [marked_rest]
  rfl

theorem currentPhase_dryStarted (d o : Nat) (z : State) : currentPhase (dryStarted d o z) = currentPhase z := by
  rw [dryStarted_rest]
  rfl

include h hh in
theorem inDry_dryStarted (d o : Nat) : InDry (dryStarted d o z) := by
  rw [dryStarted_rest]
  exact ⟨h.ready, hh, h.fill, rfl⟩

omit h hh in
/-- Gathers what a drying leaves from the state in which it is started. -/
theorem dryEntered_of_rest {y : State} {q : Seq} (hr : DryRest (dryStarted d o z) y t)
    (hs : t.seq = { q with permit := t.seq.permit })
    (hn : ∀ c, noticeCode c ∉ 19 :: boundaryNotices → notified c (dryStarted d o z) = true → notified c t = true) :
    DryEntered q y.ddu z t := by
  have hx := dryStarted_rest d o z
  refine ⟨⟨?_, ?_, ?_, ?_⟩, hr.ddu, hs, hr.fill, ?_, ?_, ?_, fun he => ?_, fun c hcc hcn => ?_⟩
  · rw [hr.part, hx]
  · rw [hr.cfg, hx]
  · rw [hr.dsu, hx]
  · rw [hr.history, hx]
  · rw [hr.seqDrain, hx]
  · rw [hr.htc, hx]
  · rw [hr.htc, hx]
  · exact hn _ (by simp [noticeCode, boundaryNotices, engineNotices]) (marked_begins (.dry d o) he)
  · simp only [List.mem_cons, not_or] at hcc
    exact hn c (by simp only [List.mem_cons, not_or]; exact hcc.2) (marked_noted (.dry d o) hcc.1 hcn)

omit h hh in
include ha hp in
theorem enterPhase_dryStarted : enterPhase z = if z.ddu.stage = .retracting then
    onDdu (fun x => { x with pendingStart := some ⟨d, o⟩, dropPending := false }) (dryStarted d o z)
    else takeStart ⟨d, o⟩ (dryStarted d o z) := by
  have hx : (dryStarted d o z).ddu = z.ddu := by rw [dryStarted_rest]
  rw [enterPhase_dry hp]
  show startDrying ⟨d, o⟩ (dryStarted d o z) = _
  unfold startDrying
  rw [hx, ha]
  simp only [Bool.false_eq_true, if_false, hx]

include h hh ha hp hc

/-- A start behind a retraction waits for its end (R169). -/
theorem dry_pends (hs : z.ddu.stage = .retracting) :
    DryEntered (drySeq z.seq) { z.ddu with pendingStart := some ⟨d, o⟩, dropPending := false } z t := by
  rw [enterPhase_dryStarted ha hp, if_pos hs] at hc
  have hx := dryStarted_rest d o z
  obtain ⟨h1, h2, h3⟩ := drying_goes_on (inDry_dryStarted h hh d o) ((Dries.refl _).onDdu _)
    (by rw [Laws.onDdu_reports, hx]; exact h.reports) hc
  have hd := dryEntered_of_rest h1 (q := drySeq z.seq) (by rw [h2, hx]) fun c hcc => h3 c fun hm => hcc (by
    simp only [boundaryNotices, List.mem_cons] at hm ⊢
    tauto)
  rw [Laws.onDdu_ddu, hx] at hd
  exact hd

variable (hs : z.ddu.stage ≠ .retracting)
include hs

/-- A drying that has started and reports nothing. -/
theorem dry_stays {dd : Ddu} (hy : (takeStart ⟨d, o⟩ (dryStarted d o z)).ddu = dd ∧ (takeStart ⟨d, o⟩ (dryStarted d o z)).reports = []) :
    DryEntered (drySeq z.seq) dd z t
      ∧ (∀ c, noticeCode c ∉ 4 :: 19 :: engineNotices → notified c z = true → notified c t = true) := by
  rw [enterPhase_dryStarted ha hp, if_neg hs] at hc
  obtain ⟨h1, h2, h3⟩ := drying_goes_on (inDry_dryStarted h hh d o) ((Dries.refl _).takeStart _) hy.2 hc
  rw [← hy.1]
  refine ⟨?_, fun c hcc hcn => ?_⟩
  · exact dryEntered_of_rest h1 (by rw [h2, dryStarted_rest]) fun c hcc => h3 c fun hm => hcc (by
      simp only [boundaryNotices, List.mem_cons] at hm ⊢
      tauto)
  · simp only [List.mem_cons, not_or] at hcc
    exact h3 c (by simp only [List.mem_cons, not_or]; exact hcc.2) (marked_noted (.dry d o) hcc.1 hcn)

/-- A drying that is done as it starts, in the last phase (R163, R17, R18). -/
theorem dry_ends {dd : Ddu} {oc : DryOutcome} (hn : z.seq.count ≤ z.seq.idx + 1)
    (hy : (takeStart ⟨d, o⟩ (dryStarted d o z)).ddu = dd ∧ (takeStart ⟨d, o⟩ (dryStarted d o z)).reports = [.dryingDone oc]) :
    DryEntered (completedSeq (drySeq z.seq)) dd z t
      ∧ (noticeEnabled z.lnk.mask 5 = true → notified (.phaseEnd z.seq.idx .dry) t = true)
      ∧ (noticeEnabled z.lnk.mask 7 = true → notified (.programEnd t.seq.summary) t = true) := by
  rw [enterPhase_dryStarted ha hp, if_neg hs] at hc
  have hm : (dryStarted d o z).lnk.mask = z.lnk.mask := marked_mask _ _
  have hx := dryStarted_rest d o z
  have hq : (dryStarted d o z).seq = drySeq z.seq := by rw [hx]
  obtain ⟨h1, h2, h3, h4, h5⟩ := drying_over (inDry_dryStarted h hh d o) ((Dries.refl _).takeStart _) hy.2
    (by rw [hq]; exact hn) hc
  refine ⟨?_, fun he => ?_, fun he => h4 (by rw [hm]; exact he)⟩
  · rw [← hy.1]
    exact dryEntered_of_rest h1 (by rw [h2, hq]) h5
  · have hx := h3 (.dry d o) (by rw [currentPhase_dryStarted, hp]) (by rw [hm]; exact he)
    rw [hq] at hx
    exact hx

end

/-! ## The cases of a drying's start -/

section
variable {z : State} {d o : Nat} (hr : z.reports = [])
include hr

theorem takeStart_openDoor (hd : z.ddu.doorOpen = true) :
    (takeStart ⟨d, o⟩ (dryStarted d o z)).ddu = { taken ⟨d, o⟩ z.cfg z.ddu with
        outcome := .openedByUser, awaited := false, stage := .done, stageTime := 0 }
      ∧ (takeStart ⟨d, o⟩ (dryStarted d o z)).reports = [.dryingDone .openedByUser] := by
  rw [takeStart_eq, dryStarted_rest]
  dsimp only
  rw [if_pos hd]
  obtain ⟨h1, h2⟩ := doneWith_awaited (o := .openedByUser) (s := onDdu (fun _ => taken ⟨d, o⟩ z.cfg z.ddu) (dryStarted d o z)) rfl
  rw [dryStarted_rest] at h1 h2
  exact ⟨h1, by rw [h2]; simp [hr]⟩

variable (hd : z.ddu.doorOpen = false)
include hd

omit hr in
theorem takeStart_closedDoor : takeStart ⟨d, o⟩ (dryStarted d o z)
    = enterDwell (onDdu (fun _ => taken ⟨d, o⟩ z.cfg z.ddu) (dryStarted d o z)) := by
  rw [takeStart_eq]
  have hx : (dryStarted d o z).ddu = z.ddu ∧ (dryStarted d o z).cfg = z.cfg := by rw [dryStarted_rest]; exact ⟨rfl, rfl⟩
  rw [hx.1, hx.2, hd]
  rfl

theorem takeStart_dwells (h : 0 < (if opensDoor z.cfg z.ddu then d else d + o)) :
    (takeStart ⟨d, o⟩ (dryStarted d o z)).ddu = { taken ⟨d, o⟩ z.cfg z.ddu with
        stage := .dwell, stageTime := if opensDoor z.cfg z.ddu then d else d + o }
      ∧ (takeStart ⟨d, o⟩ (dryStarted d o z)).reports = [] := by
  rw [takeStart_closedDoor hd]
  obtain ⟨h1, h2⟩ := enterDwell_stays (s := onDdu (fun _ => taken ⟨d, o⟩ z.cfg z.ddu) (dryStarted d o z)) h
  refine ⟨h1, h2.trans ?_⟩
  rw [dryStarted_rest]
  exact hr

theorem takeStart_opens (hf : opensDoor z.cfg z.ddu = true) (h0 : d = 0) :
    (takeStart ⟨d, o⟩ (dryStarted d o z)).ddu = (if coolEnough { z with ddu := taken ⟨d, o⟩ z.cfg z.ddu } then
        { taken ⟨d, o⟩ z.cfg z.ddu with stage := .opening, stageTime := 0, drive := .outward, stall := some 0 }
        else { taken ⟨d, o⟩ z.cfg z.ddu with stage := .waitCool, stageTime := 0 })
      ∧ (takeStart ⟨d, o⟩ (dryStarted d o z)).reports = [] := by
  rw [takeStart_closedDoor hd]
  obtain ⟨h1, h2⟩ := enterDwell_opens (s := onDdu (fun _ => taken ⟨d, o⟩ z.cfg z.ddu) (dryStarted d o z)) hf h0
  refine ⟨h1.trans ?_, h2.trans ?_⟩
  · have hx : coolEnough (onDdu (fun _ => taken ⟨d, o⟩ z.cfg z.ddu) (dryStarted d o z))
        = coolEnough { z with ddu := taken ⟨d, o⟩ z.cfg z.ddu } := by rw [dryStarted_rest]; rfl
    rw [hx]
    rfl
  · rw [dryStarted_rest]
    exact hr

theorem takeStart_done (hf : opensDoor z.cfg z.ddu = false) (h0 : d = 0) (h1 : o = 0) :
    (takeStart ⟨d, o⟩ (dryStarted d o z)).ddu = { taken ⟨d, o⟩ z.cfg z.ddu with
        outcome := .completedClosed, awaited := false, stage := .done, stageTime := 0 }
      ∧ (takeStart ⟨d, o⟩ (dryStarted d o z)).reports = [.dryingDone .completedClosed] := by
  rw [takeStart_closedDoor hd]
  obtain ⟨k1, k2⟩ := enterDwell_done (s := onDdu (fun _ => taken ⟨d, o⟩ z.cfg z.ddu) (dryStarted d o z)) hf h0 h1 rfl
  refine ⟨k1, k2.trans ?_⟩
  rw [dryStarted_rest]
  simp [hr]

end

end Sys2Proof.Proofs
end

section
/-! PROOFS. A request whose owner settles the part (R177), and the start of a drying of the last phase in one view (R162 to
R165, R17, R18). -/

/- One theorem at a time, as the tests have it: proofs that wait for the kernel cost a thread each. -/
set_option Elab.async false

namespace Sys2Proof.Proofs

open Sys2Proof.Machine
open Sys2Proof.Safety

/-! ## A request whose action settles -/

/-- The step of a request whose owner has acted on `y` ends in `t`, its answer on the way. -/
structure Answered (a : Awaiting) (y t : State) : Prop where
  concludes : Concludes y t
  awaiting : t.lnk.awaiting = some a
  table : t.seq.table = y.seq.table
  count : t.seq.count = y.seq.count

theorem hostRequest_settled {r : Request} {tag : Byte} {s y : State} {st : Status} {b : ReplyBody} (h : Listens s)
    (hv : serveOwner r (counted s) = ⟨settle y, ⟨st, b⟩⟩) (hl : y.lnk.state = (counted s).lnk.state) :
    ∃ t, Answered ⟨r.kind, tag, ⟨st, b⟩⟩ y t ∧ (t.part.state = s.part.state → hostRequest tag r s = .next t) := by
  have hc : Concludes y (finish (answering r.kind tag st b (silenced s (settle y)))) := concludes_answering _ _ _ _
  have hy := (congrArg Standing.linkState (Laws.standing_settle y)).trans hl
  have hty := Laws.standing_settle y
  obtain ⟨u, hu⟩ : ∃ u, settle y = u := ⟨_, rfl⟩
  rw [hu] at hc hy hv hty
  have hs := Laws.standing_finish (answering r.kind tag st b (silenced s u))
  obtain ⟨t, ht⟩ : ∃ t, finish (answering r.kind tag st b (silenced s u)) = t := ⟨_, rfl⟩
  rw [ht] at hc hs
  have hp := hc.drifts.part
  rw [hu] at hp
  refine ⟨t, ⟨hc, congrArg Standing.awaiting hs, (congrArg Standing.table hs).trans (congrArg Standing.table hty),
    (congrArg Standing.count hs).trans (congrArg Standing.count hty)⟩, fun hpt => ?_⟩
  rw [← ht]
  exact hostRequest_acted h hv hy (by rw [← hp]; exact hpt)

/-! ## The start of a drying of the last phase -/

/-- A drying started now is over at once: before an open door, or in the CLOSED form with no time to dry (R162, R163). -/
def DryOver (d o : Nat) (z : State) : Prop := z.ddu.doorOpen = true ∨ (d = 0 ∧ o = 0 ∧ opensDoor z.cfg z.ddu = false)

/-- The last phase, DRY, has been entered with its drying at rest. -/
structure DryBegun (d o : Nat) (z t : State) : Prop where
  entered : ∃ q, (q = drySeq z.seq ∨ q = completedSeq (drySeq z.seq)) ∧ DryEntered q t.ddu z t
  drying : t.ddu = { taken ⟨d, o⟩ z.cfg z.ddu with
    awaited := t.ddu.awaited, outcome := t.ddu.outcome, stage := t.ddu.stage, stageTime := t.ddu.stageTime
    drive := t.ddu.drive, stall := t.ddu.stall }
  ended : DryOver d o z → t.seq = { completedSeq (drySeq z.seq) with permit := t.seq.permit }
    ∧ t.ddu.stage = .done ∧ t.ddu.awaited = false
    ∧ t.ddu.outcome = (if z.ddu.doorOpen then .openedByUser else .completedClosed)
    ∧ (noticeEnabled z.lnk.mask 5 = true → notified (.phaseEnd z.seq.idx .dry) t = true)
    ∧ (noticeEnabled z.lnk.mask 7 = true → notified (.programEnd t.seq.summary) t = true)
  stays : ¬ DryOver d o z → t.seq = { drySeq z.seq with permit := t.seq.permit } ∧ t.ddu.awaited = true
    ∧ t.ddu.outcome = .none
    ∧ (∀ c, noticeCode c ∉ 4 :: 19 :: engineNotices → notified c z = true → notified c t = true)
  dwells : ¬ DryOver d o z → 0 < d ∨ opensDoor z.cfg z.ddu = false →
    t.ddu.stage = .dwell ∧ t.ddu.stageTime = (if opensDoor z.cfg z.ddu then d else d + o)
  opens : ¬ DryOver d o z → d = 0 → opensDoor z.cfg z.ddu = true →
    (coolEnough t = true → t.ddu.stage = .opening ∧ t.ddu.drive = .outward)
      ∧ (coolEnough t = false → t.ddu.stage = .waitCool ∧ t.ddu.drive = .stopped)

section
variable {z t : State} {d o : Nat} (h : Enters z) (hh : z.part.homings = {}) (ha : z.ddu.awaited = false)
  (hp : currentPhase z = some (.dry d o)) (hc : Concludes (enterPhase z) t) (hs : z.ddu.stage ≠ .retracting)
include h hh ha hp hc hs

theorem dryBegun_of_over (hn : z.seq.count ≤ z.seq.idx + 1) {oc : DryOutcome}
    (hoc : oc = if z.ddu.doorOpen then .openedByUser else .completedClosed) (hv : DryOver d o z)
    (hy : (takeStart ⟨d, o⟩ (dryStarted d o z)).ddu = { taken ⟨d, o⟩ z.cfg z.ddu with
        outcome := oc, awaited := false, stage := .done, stageTime := 0 }
      ∧ (takeStart ⟨d, o⟩ (dryStarted d o z)).reports = [.dryingDone oc]) : DryBegun d o z t := by
  obtain ⟨h1, h2, h3⟩ := dry_ends h hh ha hp hc hs hn hy
  have hd := h1.ddu
  refine ⟨⟨_, .inr rfl, by rw [hd]; exact h1⟩, by rw [hd], fun _ => ⟨h1.seq, by rw [hd], by rw [hd], ?_, h2, h3⟩,
    fun hx => absurd hv hx, fun hx => absurd hv hx, fun hx => absurd hv hx⟩
  rw [hd, ← hoc]

theorem dryBegun_of_dwell (hv : ¬ DryOver d o z) (hx : 0 < (if opensDoor z.cfg z.ddu then d else d + o)) :
    DryBegun d o z t := by
  have hdo : z.ddu.doorOpen = false := by simpa using fun hx => hv (.inl hx)
  obtain ⟨h1, hno⟩ := dry_stays h hh ha hp hc hs (takeStart_dwells h.reports hdo hx)
  have hd := h1.ddu
  refine ⟨⟨_, .inl rfl, by rw [hd]; exact h1⟩, by rw [hd], fun hx => absurd hx hv, fun _ => ⟨h1.seq, by rw [hd]; rfl, by rw [hd]; rfl, hno⟩,
    fun _ _ => by rw [hd]; exact ⟨rfl, rfl⟩, fun _ h0 hf => ?_⟩
  rw [hf, h0] at hx
  cases hx

theorem dryBegun_of_opening (hv : ¬ DryOver d o z) (hf : opensDoor z.cfg z.ddu = true) (h0 : d = 0) :
    DryBegun d o z t := by
  have hdo : z.ddu.doorOpen = false := by simpa using fun hx => hv (.inl hx)
  obtain ⟨h1, hno⟩ := dry_stays h hh ha hp hc hs (takeStart_opens h.reports hdo hf h0)
  have hd := h1.ddu
  have hl : t.ddu.openLimit = z.cfg.openLimit := by rw [hd]; split <;> rfl
  have hcool : coolEnough t = coolEnough { z with ddu := taken ⟨d, o⟩ z.cfg z.ddu } := by
    unfold coolEnough
    rw [h1.temp, hl]
    rfl
  have hst : z.ddu.drive = .stopped := by
    simp only [opensDoor, Bool.and_eq_true, beq_iff_eq] at hf
    exact hf.2
  refine ⟨⟨_, .inl rfl, by rw [hd]; exact h1⟩, ?_, fun hx => absurd hx hv, fun _ => ⟨h1.seq, ?_, ?_, hno⟩, fun _ hx => ?_,
    fun _ _ _ => ⟨fun hk => ?_, fun hk => ?_⟩⟩
  · rw [hd]
    split <;> rfl
  · rw [hd]
    split <;> rfl
  · rw [hd]
    split <;> rfl
  · simp [h0, hf] at hx
  · rw [hd, ← hcool, hk]
    exact ⟨rfl, rfl⟩
  · rw [hd, ← hcool, hk]
    exact ⟨rfl, hst⟩

theorem dry_begins (hn : z.seq.count ≤ z.seq.idx + 1) : DryBegun d o z t := by
  by_cases hv : DryOver d o z
  · cases hdo : z.ddu.doorOpen with
    | true => exact dryBegun_of_over h hh ha hp hc hs hn (by simp [hdo]) hv (takeStart_openDoor h.reports hdo)
    | false =>
      obtain ⟨h0, h1, hf⟩ := hv.resolve_left (by simp [hdo])
      exact dryBegun_of_over h hh ha hp hc hs hn (by simp [hdo]) hv (takeStart_done h.reports hdo hf h0 h1)
  · by_cases hx : 0 < (if opensDoor z.cfg z.ddu then d else d + o)
    · exact dryBegun_of_dwell h hh ha hp hc hs hv hx
    · cases hf : opensDoor z.cfg z.ddu with
      | true => exact dryBegun_of_opening h hh ha hp hc hs hv hf (by simpa [hf] using hx)
      | false =>
        refine absurd (.inr ?_) hv
        simpa [hf] using hx

end

/-- What the entry of a DRY phase leaves of the sequencer, whatever becomes of its drying. -/
theorem DryBegun.course {d o : Nat} {z t : State} (h : DryBegun d o z t) :
    t.seq.idx = z.seq.idx ∧ t.seq.soil = z.seq.soil ∧ t.seq.fault = z.seq.fault
      ∧ t.seq.summary.phasesRun = z.seq.summary.phasesRun + 1
      ∧ (z.seq.holdPending = false → t.seq.holdPending = false) := by
  obtain ⟨q, hq, he⟩ := h.entered
  have hs := he.seq
  rcases hq with rfl | rfl <;> rw [hs] <;> exact ⟨rfl, rfl, rfl, rfl, by first | exact id | exact fun _ => rfl⟩

end Sys2Proof.Proofs
end

section
/-! PROOFS. HOLD and CONTINUE (O24). -/

/- One theorem at a time, as the tests have it: proofs that wait for the kernel cost a thread each. -/
set_option Elab.async false

namespace Sys2Proof.Proofs

open Sys2Proof.Machine
open Sys2Proof.Safety

/-! ## HOLD -/

theorem hold_answers (tag : Byte) {s : State} (h : Listens s) :
    exec (.hold tag) s = .next (finish (
      match s.seq.state with
      | .running | .suspended | .waitWater =>
        answering 0x15#8 tag .ok .empty (onSeq (fun q => { q with holdPending := true }) (heard s))
      | .holding => answering 0x15#8 tag .ok .empty (heard s)
      | .idle | .ending | .ended | .faulted => answering 0x15#8 tag .wrongState .empty (heard s))) := by
  have hset : ∀ {st : SeqState}, s.seq.state = st → st = .running ∨ st = .suspended ∨ st = .waitWater →
      exec (.hold tag) s = .next (finish (answering 0x15#8 tag .ok .empty
        (onSeq (fun q => { q with holdPending := true }) (heard s)))) := fun hs hst => by
    have hv : serveOwner .hold (counted s) = ⟨onSeq (fun q => { q with holdPending := true }) (counted s), ⟨.ok, .empty⟩⟩ := by
      rcases hst with rfl | rfl | rfl <;> simp [serveOwner, serveHold, hs, reply]
    refine (hostRequest_acted (r := .hold) h hv rfl rfl).trans ?_
    rw [silenced_onSeq, silenced_counted]
    rfl
  cases hs : s.seq.state with
  | running | suspended | waitWater => exact hset hs (by simp)
  | holding | idle | ending | ended | faulted =>
    exact hostRequest_replied (r := .hold) h (by simp [serveOwner, serveHold, hs, reply, refuse])

/-! ## CONTINUE within a program that does not hold -/

theorem continue_refused (tag : Byte) {s : State} (h : Listens s)
    (hs : s.seq.state = .idle ∨ s.seq.state = .ended ∨ s.seq.state = .ending ∨ s.seq.state = .faulted) :
    exec (.continueProgram tag) s = .next (finish (answering 0x16#8 tag .wrongState .empty (heard s))) := by
  refine hostRequest_replied (r := .continueProgram) h ?_
  rcases hs with hs | hs | hs | hs <;> simp [serveOwner, serveContinue, hs, refuse]

theorem continue_clears (tag : Byte) {s : State} (h : Listens s)
    (hs : s.seq.state = .running ∨ s.seq.state = .suspended ∨ s.seq.state = .waitWater) :
    exec (.continueProgram tag) s = .next (finish (
      if s.seq.holdPending then answering 0x16#8 tag .ok .empty (onSeq (fun q => { q with holdPending := false }) (heard s))
      else answering 0x16#8 tag .wrongState .empty (heard s))) := by
  cases hp : s.seq.holdPending with
  | true =>
    have hv : serveOwner .continueProgram (counted s)
        = ⟨onSeq (fun q => { q with holdPending := false }) (counted s), ⟨.ok, .empty⟩⟩ := by
      rcases hs with hs | hs | hs <;> simp [serveOwner, serveContinue, hs, hp, reply]
    refine (hostRequest_acted (r := .continueProgram) h hv rfl rfl).trans ?_
    rw [silenced_onSeq, silenced_counted]
    rfl
  | false =>
    refine hostRequest_replied (r := .continueProgram) h ?_
    rcases hs with hs | hs | hs <;> simp [serveOwner, serveContinue, hs, hp, refuse]

/-! ## CONTINUE from HOLDING -/

/-- The state from which CONTINUE enters the next phase. -/
def continued (s : State) : State := onSeq (fun q => { q with idx := q.idx + 1 }) (counted s)

theorem continue_enters (tag : Byte) {s : State} (h : Listens s) (hs : s.seq.state = .holding) :
    ∃ t, Answered ⟨0x16#8, tag, ⟨.ok, .empty⟩⟩ (enterPhase (continued s)) t
      ∧ (t.part.state = s.part.state → exec (.continueProgram tag) s = .next t) := by
  have hv : serveOwner .continueProgram (counted s) = ⟨settle (enterPhase (continued s)), ⟨.ok, .empty⟩⟩ := by
    simp [serveOwner, serveContinue, hs, acted, enterNext, continued]
  exact hostRequest_settled (r := .continueProgram) h hv (congrArg Standing.linkState (Laws.standing_enterNext (counted s)))

section
variable {s : State} (h : Listens s)
include h

theorem enters_continued (hf : s.wpc.fill = none) : Enters (continued s) := ⟨h.1.2.1, h.1.2.2, hf⟩

/-- CONTINUE into a wash phase before an open door. -/
theorem continue_suspends (tag : Byte) (hs : s.seq.state = .holding) (hf : s.wpc.fill = none) {k : WashKind} {w : WashRecord}
    (hp : phaseAt s.seq (s.seq.idx + 1) = some (.wash k w)) (hd : s.ddu.doorOpen = true) :
    ∃ t, exec (.continueProgram tag) s = .next t ∧ WashEntered k (continued s) t ∧ EnteredSuspended (continued s) t
      ∧ t.lnk.awaiting = some ⟨0x16#8, tag, .ok, .empty⟩
      ∧ (GrantsAgree s → s.rge.state ≠ .idle → EngineGivesWay s t) := by
  obtain ⟨t, ha, ht⟩ := continue_enters tag h hs
  obtain ⟨k1, k2, k3⟩ := enterPhase_waits (enters_continued h hf) hp hd ha.concludes
  refine ⟨t, ht ?_, washEntered_of_suspended k1 k3, k1, ha.awaiting, k2⟩
  obtain ⟨r1, -⟩ := k1.rest
  exact congrArg Part.state r1

/-- CONTINUE into a wash phase behind a closed door with the inlet free. -/
theorem continue_grants (tag : Byte) (hs : s.seq.state = .holding) (hf : s.wpc.fill = none) {k : WashKind} {w : WashRecord}
    (hp : phaseAt s.seq (s.seq.idx + 1) = some (.wash k w)) (hd : s.ddu.doorOpen = false) (hi : s.wpc.inhibit = false)
    (hb : s.wpc.burst = none) (hl : s.wpc.highLevel = false) :
    ∃ t, exec (.continueProgram tag) s = .next t ∧ WashEntered k (continued s) t ∧ MainFillGranted w s t ∧ t.dsu = s.dsu
      ∧ t.lnk.awaiting = some ⟨0x16#8, tag, .ok, .empty⟩ := by
  obtain ⟨t, ha, ht⟩ := continue_enters tag h hs
  obtain ⟨k1, k2, k3, -⟩ := enterPhase_grants (enters_continued h hf) hp hd hi hb hl ha.concludes
  have hw := washEntered_of_goes k2
  obtain ⟨r1, -⟩ := hw.rest
  exact ⟨t, ht (congrArg Part.state r1), hw, k1, k3, ha.awaiting⟩

/-- CONTINUE into a wash phase behind a closed door, however the inlet stands. -/
theorem continue_asks (tag : Byte) (hs : s.seq.state = .holding) (hg : GrantsAgree s) (hf : s.wpc.fill = none) {k : WashKind}
    {w : WashRecord} (hp : phaseAt s.seq (s.seq.idx + 1) = some (.wash k w)) (hd : s.ddu.doorOpen = false)
    (hh : s.wpc.inhibit = true ∨ s.wpc.highLevel = false ∨ 0 < w.holdTime) :
    ∃ t, exec (.continueProgram tag) s = .next t ∧ WashEntered k (continued s) t ∧ MainFillAsked w s t
      ∧ t.lnk.awaiting = some ⟨0x16#8, tag, .ok, .empty⟩ ∧ (s.rge.state ≠ .idle → EngineGivesWay s t) := by
  obtain ⟨t, ha, ht⟩ := continue_enters tag h hs
  obtain ⟨k1, k2, k3, -⟩ := enterPhase_asks (enters_continued h hf) hp hg hd hh ha.concludes
  have hw := washEntered_of_goes k2
  obtain ⟨r1, -⟩ := hw.rest
  exact ⟨t, ht (congrArg Part.state r1), hw, k1, ha.awaiting, k3⟩

/-- CONTINUE into a DRY phase with its drying at rest. -/
theorem continue_dries (tag : Byte) (hs : s.seq.state = .holding) (hx : Sound s) {d o : Nat}
    (hp : phaseAt s.seq (s.seq.idx + 1) = some (.dry d o)) (hst : s.ddu.stage ≠ .retracting) :
    ∃ t, exec (.continueProgram tag) s = .next t ∧ DryBegun d o (continued s) t
      ∧ t.lnk.awaiting = some ⟨0x16#8, tag, .ok, .empty⟩ := by
  have hr : s.part.state = .ready := h.1.2.1
  have hn : s.seq.count ≤ s.seq.idx + 1 + 1 := by
    obtain ⟨-, -, hl, hb⟩ := Laws.sound_programKept hx (by simp [programRuns, hs])
    obtain ⟨-, -, -, -, -, -, h12, -⟩ := Laws.sound_sequencerKept hx
    have hb := hb ⟨s.seq.idx + 1, by have := hl hs; omega⟩ (Nat.lt_succ_self _) (hl hs)
    simp only [slotBad, hp, decide_eq_false_iff_not] at hb
    omega
  obtain ⟨t, ha, ht⟩ := continue_enters tag h hs
  have hh : s.part.homings = {} := Laws.sound_homings hx (by simp [hr])
  have hb := dry_begins (enters_continued h (Laws.sound_fill_none hx (by simp [hs]))) hh (Laws.sound_not_awaited hx (by simp [runningIn, hs])).1 hp ha.concludes hst hn
  obtain ⟨q, -, he⟩ := hb.entered
  obtain ⟨r1, -⟩ := he.rest
  exact ⟨t, ht (congrArg Part.state r1), hb, ha.awaiting⟩

end

/-- Settles O24, by the request's way to its owner and the entry of the next phase. -/
theorem holdAndContinue : Obligations.HoldAndContinue := by
  unfold Obligations.HoldAndContinue
  refine ⟨fun tag s h => ⟨fun hs => ⟨?_, continue_clears tag h hs⟩, fun hs => ⟨?_, continue_refused tag h hs⟩, fun hs => ⟨?_, ?_⟩⟩,
    fun tag s h hx hs => ⟨?_, ?_⟩⟩
  · rw [hold_answers tag h]
    rcases hs with hs | hs | hs <;> rw [hs]
  · rw [hold_answers tag h]
    rcases hs with hs | hs | hs | hs <;> rw [hs]
  · rw [hold_answers tag h, hs]
  · intro hr hi hb hl k w hp
    have hf : s.wpc.fill = none := by simpa [hs] using hr.2.2.1
    cases hd : s.ddu.doorOpen with
    | true =>
      obtain ⟨t, ht, hw, he, ha, -⟩ := continue_suspends h tag hs hf hp hd
      obtain ⟨r1, r2, r3, r4⟩ := hw.rest
      obtain ⟨q1, q2, q3, q4⟩ := hw.seq
      obtain ⟨-, -, e3, -, -⟩ := he.rest
      exact ⟨t, ht, q1, hw.phasesRun, q3, q4, q2, r1, r2, e3, r3, hw.begins,
        fun _ => ⟨by rw [he.seq], by rw [he.seq], he.fill⟩, nofun, ha⟩
    | false =>
      obtain ⟨t, ht, hw, hg, hdsu, ha⟩ := continue_grants h tag hs hf hp hd hi hb hl
      obtain ⟨r1, r2, r3, r4⟩ := hw.rest
      obtain ⟨q1, q2, q3, q4⟩ := hw.seq
      obtain ⟨g1, g2, g3, g4, -, -, g7, -, g9, -⟩ := hg
      exact ⟨t, ht, q1, hw.phasesRun, q3, q4, q2, r1, r2, hdsu, r3, hw.begins, nofun,
        fun _ => ⟨g1, g2, g4, g3, g7, g9⟩, ha⟩
  · intro k w hp hh
    have hf : s.wpc.fill = none := Laws.sound_fill_none hx (by simp [hs])
    have hg := Laws.sound_grantsAgree hx
    cases hd : s.ddu.doorOpen with
    | true =>
      obtain ⟨t, ht, hw, he, ha, hy⟩ := continue_suspends h tag hs hf hp hd
      obtain ⟨r1, r2, r3, r4⟩ := hw.rest
      obtain ⟨q1, -⟩ := hw.seq
      exact ⟨t, ht, q1, hw.phasesRun, hw.begins, fun _ => ⟨by rw [he.seq], by rw [he.seq], by rw [he.seq]; rfl, he.fill⟩,
        nofun, hy hg, ha, r4, r1, r2, r3⟩
    | false =>
      obtain ⟨t, ht, hw, hm, ha, hy⟩ := continue_asks h tag hs hg hf hp hd (hh.resolve_left (by simp [hd]))
      obtain ⟨r1, r2, r3, r4⟩ := hw.rest
      obtain ⟨q1, -⟩ := hw.seq
      exact ⟨t, ht, q1, hw.phasesRun, hw.begins, nofun, fun _ => hm, hy, ha, r4, r1, r2, r3⟩
  · intro d o hp hst
    obtain ⟨t, ht, hb, ha⟩ := continue_dries h tag hs hx hp hst
    obtain ⟨q, -, he⟩ := hb.entered
    obtain ⟨c1, -, -, c2, -⟩ := hb.course
    obtain ⟨r1, -, r3, r4⟩ := he.rest
    refine ⟨t, ht, c1, c2, he.begins, by rw [hb.drying]; rfl, by rw [hb.drying]; rfl, by rw [hb.drying]; rfl,
      fun hd hpos => ?_, fun hd => ?_, ha, he.fill, r3, r4, r1⟩
    · have hv : ¬ DryOver d o (continued s) := by
        rintro (hx | ⟨hx, -⟩)
        · exact Bool.noConfusion (hd.symm.trans hx)
        · omega
      obtain ⟨e1, e2, -, -⟩ := hb.stays hv
      obtain ⟨e3, e4⟩ := hb.dwells hv (.inl hpos)
      exact ⟨by rw [e1]; rfl, by rw [e1]; rfl, e3, e2, e4⟩
    · obtain ⟨e1, e2, -, e4, -, e6⟩ := hb.ended (.inl hd)
      exact ⟨by rw [e1]; rfl, by rw [e1]; rfl, e2, by rw [e4]; exact if_pos hd, e6⟩

end Sys2Proof.Proofs
end

section
/-! PROOFS. START PROGRAM (O23). -/

/- One theorem at a time, as the tests have it: proofs that wait for the kernel cost a thread each. -/
set_option Elab.async false

namespace Sys2Proof.Proofs

open Sys2Proof.Machine
open Sys2Proof.Safety

/-! ## The examination of the program (R5) -/

theorem startOffends_none {b : Bool} {q : Seq} (h0 : 0 < q.count)
    (hb : ∀ k : Fin 12, k.val < q.count → slotBad b q q.count k.val = false) : startOffends b q = none := by
  rw [startOffends, if_neg (by omega), firstBadSlot]
  refine List.find?_eq_none.mpr fun i hi => ?_
  rw [List.mem_range] at hi
  simpa using fun hn => hb ⟨i, hi⟩ hn

theorem startOffends_first {b : Bool} {q : Seq} (j : Fin 12) (hj : j.val < q.count) (hb : slotBad b q q.count j.val = true)
    (hk : ∀ k : Fin 12, k.val < j.val → slotBad b q q.count k.val = false) : startOffends b q = some j.val := by
  rw [startOffends, if_neg (by omega), firstBadSlot, List.find?_range_eq_some]
  refine ⟨by simp [hj, hb], List.mem_range.mpr j.isLt, fun i hi => ?_⟩
  simp [hk ⟨i, by omega⟩ hi]

/-! ## The accepted start -/

/-- The state from which START PROGRAM enters phase 0. -/
def started (s : State) : State := heatingProgramStart (onSeq (fun q => { q with
  summary := {}, holdPending := false, soil := s.cfg.defaultSoil, idx := 0, fault := none }) (counted s))

theorem start_refused (tag : Byte) {s : State} (h : Listens s) (h1 : s.seq.state ≠ .idle) (h2 : s.seq.state ≠ .ended) :
    exec (.startProgram tag) s = .next (finish (answering 0x14#8 tag .wrongState .empty (heard s))) :=
  hostRequest_replied (r := .startProgram) h (by simp [serveOwner, serveStart, h1, h2, refuse])

theorem start_offends (tag : Byte) {s : State} (h : Listens s) (hs : s.seq.state = .idle ∨ s.seq.state = .ended) {i : Nat}
    (ho : startOffends s.dsu.r3.fitted s.seq = some i) :
    exec (.startProgram tag) s = .next (finish (answering 0x14#8 tag .badProgram (.offending i) (heard s))) :=
  hostRequest_replied (r := .startProgram) h (by simp [serveOwner, serveStart, hs, ho])

theorem start_enters (tag : Byte) {s : State} (h : Listens s) (hs : s.seq.state = .idle ∨ s.seq.state = .ended)
    (ho : startOffends s.dsu.r3.fitted s.seq = none) :
    ∃ t, Answered ⟨0x14#8, tag, ⟨.ok, .empty⟩⟩ (enterPhase (started s)) t
      ∧ (t.part.state = s.part.state → exec (.startProgram tag) s = .next t) := by
  have hv : serveOwner .startProgram (counted s) = ⟨settle (enterPhase (started s)), ⟨.ok, .empty⟩⟩ := by
    simp [serveOwner, serveStart, hs, ho, acted, startProgram, started]
  exact hostRequest_settled (r := .startProgram) h hv (congrArg Standing.linkState (Laws.standing_enterPhase (started s)))

/-- What every accepted start leaves, with the phase 0 it has begun (R6). -/
structure StartedProgram (kind : PhaseKind) (s t : State) : Prop where
  rest : t.part = s.part ∧ t.cfg = s.cfg ∧ t.rst.history = s.rst.history
  seq : t.seq.idx = 0 ∧ t.seq.holdPending = false ∧ t.seq.soil = s.cfg.defaultSoil ∧ t.seq.summary.phasesRun = 1
  begins : noticeEnabled s.lnk.mask 4 = true → notified (.phaseBegin 0 kind) t = true

theorem startedProgram_of_wash {k : WashKind} {s t : State} (h : WashEntered k (started s) t) : StartedProgram (.wash k) s t := by
  obtain ⟨r1, r2, -, r4⟩ := h.rest
  obtain ⟨q1, q2, -⟩ := h.seq
  exact ⟨⟨r1, r2, r4⟩, ⟨q1, h.holdPending rfl, q2, h.phasesRun⟩, h.begins⟩

theorem startedProgram_of_dry {q : Seq} {d : Ddu} {s t : State} (h : DryEntered q d (started s) t)
    (hq : q = drySeq (started s).seq ∨ q = completedSeq (drySeq (started s).seq)) : StartedProgram .dry s t := by
  obtain ⟨r1, r2, -, r4⟩ := h.rest
  refine ⟨⟨r1, r2, r4⟩, ?_, h.begins⟩
  have hs := h.seq
  rcases hq with rfl | rfl <;> rw [hs] <;> exact ⟨rfl, rfl, rfl, rfl⟩

section
variable {s : State} (h : Listens s) (hx : Sound s) (hs : s.seq.state = .idle ∨ s.seq.state = .ended)
include h hx hs

omit h in
theorem fill_none_at_rest : s.wpc.fill = none := Laws.sound_fill_none hx (by rcases hs with hs | hs <;> simp [hs])

theorem enters_started : Enters (started s) := by
  have hf : s.wpc.fill = none := fill_none_at_rest hx hs
  exact ⟨h.1.2.1, h.1.2.2, hf⟩

omit h in
theorem no_drying_at_rest : s.ddu.awaited = false ∧ s.ddu.pendingStart = none :=
  Laws.sound_not_awaited hx (by rcases hs with hs | hs <;> simp [runningIn, hs])

/-- A start before an open door: the wash phase 0 SUSPENDED. -/
theorem start_suspends {k : WashKind} {w : WashRecord} (hp : phaseAt s.seq 0 = some (.wash k w)) (hd : s.ddu.doorOpen = true)
    {t : State} (hc : Concludes (enterPhase (started s)) t) :
    StartedProgram (.wash k) s t ∧ EnteredSuspended (started s) t ∧ (s.rge.state ≠ .idle → EngineGivesWay s t) := by
  have hg : GrantsAgree s := Laws.sound_grantsAgree hx
  obtain ⟨k1, k2, k3⟩ := enterPhase_waits (enters_started h hx hs) hp hd hc
  exact ⟨startedProgram_of_wash (washEntered_of_suspended k1 k3), k1, k2 hg⟩

/-- A start behind a closed door: the main fill of the wash phase 0 asked. -/
theorem start_asks {k : WashKind} {w : WashRecord} (hp : phaseAt s.seq 0 = some (.wash k w)) (hd : s.ddu.doorOpen = false)
    (hh : s.wpc.inhibit = true ∨ s.wpc.highLevel = false ∨ 0 < w.holdTime)
    {t : State} (hc : Concludes (enterPhase (started s)) t) :
    StartedProgram (.wash k) s t ∧ MainFillAsked w { s with seq := { s.seq with fault := none } } t
      ∧ (s.rge.state ≠ .idle → EngineGivesWay s t) ∧ t.ddu = s.ddu := by
  have hg : GrantsAgree s := Laws.sound_grantsAgree hx
  obtain ⟨k1, k2, k3, -⟩ := enterPhase_asks (enters_started h hx hs) hp hg hd hh hc
  have hw := washEntered_of_goes k2
  obtain ⟨-, -, r3, -⟩ := hw.rest
  exact ⟨startedProgram_of_wash hw, k1, k3, r3⟩

/-- A start whose DRY phase 0 waits for the end of a retraction. -/
theorem start_pends {d o : Nat} (hp : phaseAt s.seq 0 = some (.dry d o)) (hst : s.ddu.stage = .retracting)
    {t : State} (hc : Concludes (enterPhase (started s)) t) :
    DryEntered (drySeq (started s).seq) { s.ddu with pendingStart := some ⟨d, o⟩, dropPending := false } (started s) t := by
  have hh : s.part.homings = {} := Laws.sound_homings hx (by rw [h.1.2.1]; exact nofun)
  exact dry_pends (enters_started h hx hs) hh (no_drying_at_rest hx hs).1 hp hc hst

/-- A start whose DRY phase 0 begins, the drying at rest. -/
theorem start_dries {d o : Nat} (hp : phaseAt s.seq 0 = some (.dry d o)) (hst : s.ddu.stage ≠ .retracting)
    (hn : s.seq.count ≤ 1) {t : State} (hc : Concludes (enterPhase (started s)) t) : DryBegun d o (started s) t := by
  have hh : s.part.homings = {} := Laws.sound_homings hx (by rw [h.1.2.1]; exact nofun)
  exact dry_begins (enters_started h hx hs) hh (no_drying_at_rest hx hs).1 hp hc hst hn

end

/-! ## The cases of the statement -/

/-- What a start into a wash phase 0 comes to, the inlet free. -/
def WashStarted (s t : State) : Prop := ∀ k w, phaseAt s.seq 0 = some (.wash k w) →
  (noticeEnabled s.lnk.mask 4 = true → notified (.phaseBegin 0 (.wash k)) t = true)
  ∧ (s.ddu.doorOpen = true →
    t.seq.state = .suspended ∧ t.seq.remembered = .sub .fill ∧ t.seq.fillBegun = false ∧ t.wpc.fill = none
      ∧ t.seq.summary = { phasesRun := 1 })
  ∧ (s.ddu.doorOpen = false →
    t.seq.state = .running ∧ t.seq.sub = .fill ∧ t.seq.summary = { phasesRun := 1 }
      ∧ t.wpc.holder = .fill ∧ t.wpc.fill = some ⟨w.fillVolume, .main, true⟩ ∧ t.wpc.inletValve = true
      ∧ t.wpc.brineValve = false ∧ t.wpc.grantCount = 0 ∧ t.wpc.residue = 0 ∧ t.wpc.latchedK = s.cfg.k
      ∧ t.wpc.fillTimer = some 0 ∧ t.sfu.fill.isOpen = true ∧ t.sfu.fill.v = 0 ∧ t.sfu.fill.g = 0
      ∧ t.sfu.hRaw = s.cfg.hRaw ∧ t.sfu.blend = blendOf s.cfg.hRaw s.cfg.hTgt)

/-- What a start into a DRY phase 0 comes to. -/
def DryStarted (s t : State) : Prop := ∀ d o, phaseAt s.seq 0 = some (.dry d o) →
  (noticeEnabled s.lnk.mask 4 = true → notified (.phaseBegin 0 .dry) t = true)
  ∧ (s.ddu.stage = .retracting →
    t.seq.state = .running ∧ t.seq.sub = .dry ∧ t.seq.summary = { phasesRun := 1 }
      ∧ t.ddu = { s.ddu with pendingStart := some ⟨d, o⟩, dropPending := false })
  ∧ (s.ddu.stage ≠ .retracting → t.ddu.dwell = d ∧ t.ddu.openTime = o ∧ t.ddu.pendingStart = none
    ∧ t.ddu.formOpen = opensDoor s.cfg s.ddu ∧ t.ddu.count = s.ddu.count)
  ∧ (s.ddu.stage ≠ .retracting → s.ddu.doorOpen = true ∨ (d = 0 ∧ o = 0 ∧ opensDoor s.cfg s.ddu = false) →
    t.seq.state = .ended ∧ t.seq.sub = .none ∧ t.seq.summary = { phasesRun := 1, outcome := .completed }
      ∧ t.ddu.stage = .done ∧ t.ddu.awaited = false
      ∧ t.ddu.outcome = (if s.ddu.doorOpen then .openedByUser else .completedClosed)
      ∧ (noticeEnabled s.lnk.mask 5 = true → notified (.phaseEnd 0 .dry) t = true)
      ∧ (noticeEnabled s.lnk.mask 7 = true → notified (.programEnd t.seq.summary) t = true))
  ∧ (s.ddu.stage ≠ .retracting → s.ddu.doorOpen = false → ¬ (d = 0 ∧ o = 0 ∧ opensDoor s.cfg s.ddu = false) →
    t.seq.state = .running ∧ t.seq.sub = .dry ∧ t.seq.summary = { phasesRun := 1 } ∧ t.ddu.awaited = true
      ∧ t.ddu.outcome = .none
      ∧ (0 < d ∨ opensDoor s.cfg s.ddu = false →
        t.ddu.stage = .dwell ∧ t.ddu.stageTime = (if opensDoor s.cfg s.ddu then d else d + o))
      ∧ (d = 0 → opensDoor s.cfg s.ddu = true →
        (coolEnough t = true → t.ddu.stage = .opening ∧ t.ddu.drive = .outward)
        ∧ (coolEnough t = false → t.ddu.stage = .waitCool ∧ t.ddu.drive = .stopped)))

theorem washStarted_of_dry {s : State} {d o : Nat} (hp : phaseAt s.seq 0 = some (.dry d o)) (t : State) : WashStarted s t :=
  fun k w hx => by simp [hp] at hx

theorem dryStarted_of_wash {s : State} {k : WashKind} {w : WashRecord} (hp : phaseAt s.seq 0 = some (.wash k w)) (t : State) :
    DryStarted s t := fun d o hx => by simp [hp] at hx

theorem dryStarted_of_begun {s t : State} {d o : Nat} (hp : phaseAt s.seq 0 = some (.dry d o))
    (hst : s.ddu.stage ≠ .retracting) (hn : s.ddu.pendingStart = none) (h : DryBegun d o (started s) t) : DryStarted s t := by
  intro d' o' hx
  obtain ⟨rfl, rfl⟩ : d = d' ∧ o = o' := by simpa using hp.symm.trans hx
  obtain ⟨q, -, he⟩ := h.entered
  refine ⟨he.begins, fun hr => absurd hr hst, fun _ => ?_, fun _ hv => ?_, fun _ hd hv => ?_⟩
  · rw [h.drying]
    exact ⟨rfl, rfl, hn, rfl, rfl⟩
  · obtain ⟨e1, e2⟩ := h.ended hv
    exact ⟨by rw [e1]; rfl, by rw [e1]; rfl, by rw [e1]; rfl, e2⟩
  · have hv : ¬ DryOver d o (started s) := fun hx => hx.elim (fun hx => Bool.noConfusion (hd.symm.trans hx)) hv
    obtain ⟨e1, e2, e3, -⟩ := h.stays hv
    exact ⟨by rw [e1]; rfl, by rw [e1]; rfl, by rw [e1]; rfl, e2, e3, h.dwells hv, h.opens hv⟩

section
variable {s t : State} (h : Listens s) (hx : Sound s) (hs : s.seq.state = .idle ∨ s.seq.state = .ended)
  (hc : Concludes (enterPhase (started s)) t)
include h hx hs hc

theorem start_wash {k : WashKind} {w : WashRecord} (hp : phaseAt s.seq 0 = some (.wash k w)) (hi : s.wpc.inhibit = false)
    (hb : s.wpc.burst = none) (hl : s.wpc.highLevel = false) :
    StartedProgram (.wash k) s t ∧ t.seq.fault = none ∧ t.dsu = s.dsu ∧ WashStarted s t := by
  cases hd : s.ddu.doorOpen with
  | true =>
    obtain ⟨k1, k2, -⟩ := start_suspends h hx hs hp hd hc
    obtain ⟨-, -, e3, -⟩ := k2.rest
    refine ⟨k1, by rw [k2.seq]; rfl, e3, fun k' w' hp' => ?_⟩
    obtain ⟨rfl, rfl⟩ : k = k' ∧ w = w' := by simpa using hp.symm.trans hp'
    exact ⟨k1.begins, fun _ => ⟨by rw [k2.seq], by rw [k2.seq], by rw [k2.seq]; rfl, k2.fill, by rw [k2.seq]; rfl⟩, by simp [hd]⟩
  | false =>
    obtain ⟨k1, k2, k3, k4⟩ := enterPhase_grants (enters_started h hx hs) hp hd hi hb hl hc
    have hw := startedProgram_of_wash (washEntered_of_goes k2)
    refine ⟨hw, by rw [k4]; rfl, k3, fun k' w' hp' => ?_⟩
    obtain ⟨rfl, rfl⟩ : k = k' ∧ w = w' := by simpa using hp.symm.trans hp'
    obtain ⟨g1, g2, g3, g4, g5, g6, g7, g8, g9, g10, g11, g12, -, g14⟩ := k1
    exact ⟨hw.begins, by simp [hd], fun _ => ⟨g1, g2, by rw [k4]; rfl, g4, g3, g5, g6, g7, g8, g9, g10, by rw [g11], by rw [g11],
      by rw [g11], g12, g14⟩⟩

theorem start_dry {d o : Nat} (hp : phaseAt s.seq 0 = some (.dry d o)) (hn : s.seq.count ≤ 1) :
    StartedProgram .dry s t ∧ t.seq.fault = none ∧ t.dsu = s.dsu ∧ DryStarted s t := by
  by_cases hst : s.ddu.stage = .retracting
  · have hd := start_pends h hx hs hp hst hc
    obtain ⟨-, -, e3, -⟩ := hd.rest
    refine ⟨startedProgram_of_dry hd (.inl rfl), by rw [hd.seq]; rfl, e3, fun d' o' hp' => ?_⟩
    obtain ⟨rfl, rfl⟩ : d = d' ∧ o = o' := by simpa using hp.symm.trans hp'
    exact ⟨hd.begins, fun _ => ⟨by rw [hd.seq]; rfl, by rw [hd.seq]; rfl, by rw [hd.seq]; rfl, hd.ddu⟩,
      fun hx => absurd hst hx, fun hx => absurd hst hx, fun hx => absurd hst hx⟩
  · have hb := start_dries h hx hs hp hst hn hc
    obtain ⟨q, hq, he⟩ := hb.entered
    obtain ⟨-, -, c3, -⟩ := hb.course
    obtain ⟨-, -, e3, -⟩ := he.rest
    exact ⟨startedProgram_of_dry he hq, c3, e3, dryStarted_of_begun hp hst (no_drying_at_rest hx hs).2 hb⟩

end

/-- Settles O23, by the examination of the program and the entry of its phase 0. -/
theorem startProgramBeginsPhaseZero : Obligations.StartProgramBeginsPhaseZero := by
  unfold Obligations.StartProgramBeginsPhaseZero
  refine ⟨fun tag s h => ⟨start_refused tag h, fun hs => ⟨fun h0 => ?_, fun j hj hb hk => ?_, ?_⟩⟩, ?_⟩
  · exact start_offends tag h hs (by rw [startOffends, if_pos h0])
  · exact start_offends tag h hs (startOffends_first j hj hb hk)
  · intro _ hx h0 hi hb hl hv
    obtain ⟨t, ha, ht⟩ := start_enters tag h hs (startOffends_none h0 hv)
    have h1 : ∃ kind, StartedProgram kind s t ∧ t.seq.fault = none ∧ t.dsu = s.dsu ∧ WashStarted s t ∧ DryStarted s t := by
      have hv := hv 0 h0
      cases hp : phaseAt s.seq 0 with
      | none => simp [slotBad, hp] at hv
      | some p =>
        cases p with
        | wash k w =>
          obtain ⟨k1, k2, k3, k4⟩ := start_wash h hx hs ha.concludes hp hi hb hl
          exact ⟨_, k1, k2, k3, k4, dryStarted_of_wash hp t⟩
        | dry d o =>
          have hn : s.seq.count ≤ 1 := by simpa [slotBad, hp] using hv
          obtain ⟨k1, k2, k3, k4⟩ := start_dry h hx hs ha.concludes hp hn
          exact ⟨_, k1, k2, k3, washStarted_of_dry hp t, k4⟩
    obtain ⟨kind, k1, k2, k3, k4, k5⟩ := h1
    obtain ⟨r1, r2, r3⟩ := k1.rest
    obtain ⟨q1, q2, q3, q4⟩ := k1.seq
    exact ⟨t, ht (congrArg Part.state r1), q1, k2, q2, q3, ha.table.trans (congrArg Standing.table (Laws.standing_enterPhase (started s))),
      ha.count.trans (congrArg Standing.count (Laws.standing_enterPhase (started s))), ha.awaiting, r1, r2, k3, k4, k5⟩
  · intro tag s h hx hs h0 hv k w hp hh
    obtain ⟨t, ha, ht⟩ := start_enters tag h hs (startOffends_none h0 hv)
    have htable := ha.table.trans (congrArg Standing.table (Laws.standing_enterPhase (started s)))
    have hcount := ha.count.trans (congrArg Standing.count (Laws.standing_enterPhase (started s)))
    cases hd : s.ddu.doorOpen with
    | true =>
      obtain ⟨k1, k2, k3⟩ := start_suspends h hx hs hp hd ha.concludes
      obtain ⟨r1, r2, r3⟩ := k1.rest
      obtain ⟨q1, q2, q3, q4⟩ := k1.seq
      obtain ⟨-, -, -, e4, -⟩ := k2.rest
      exact ⟨t, ht (congrArg Part.state r1), q1, q2, q3, q4, htable, hcount, k1.begins,
        fun _ => ⟨by rw [k2.seq], by rw [k2.seq], by rw [k2.seq]; rfl, k2.fill⟩, nofun, k3, ha.awaiting, r3, r1, r2, e4⟩
    | false =>
      obtain ⟨k1, k2, k3, k4⟩ := start_asks h hx hs hp hd (hh.resolve_left (by simp [hd])) ha.concludes
      obtain ⟨r1, r2, r3⟩ := k1.rest
      obtain ⟨q1, q2, q3, q4⟩ := k1.seq
      exact ⟨t, ht (congrArg Part.state r1), q1, q2, q3, q4, htable, hcount, k1.begins, nofun, fun _ => k2, k3, ha.awaiting,
        r3, r1, r2, k4⟩

end Sys2Proof.Proofs
end

section
/-! PROOFS. The boundary of a phase told from the state before the step (R18): what ends there, or which phase is entered. -/

/- One theorem at a time, as the tests have it: proofs that wait for the kernel cost a thread each. -/
set_option Elab.async false

namespace Sys2Proof.Proofs

open Sys2Proof.Machine
open Sys2Proof.Safety

/-- The phase of `s` is about to end in `z`: the program is the one of `s`, nothing is reported and no fill stands. -/
structure AtBoundary (s z : State) : Prop extends Enters z where
  homings : z.part.homings = {}
  awaited : z.ddu.awaited = false
  part : z.part = s.part
  cfg : z.cfg = s.cfg
  ddu : z.ddu = s.ddu
  mask : z.lnk.mask = s.lnk.mask
  inlet : z.wpc.inhibit = s.wpc.inhibit ∧ z.wpc.burst = s.wpc.burst ∧ z.wpc.highLevel = s.wpc.highLevel
  program : z.seq.table = s.seq.table ∧ z.seq.count = s.seq.count ∧ z.seq.idx = s.seq.idx
    ∧ z.seq.holdPending = s.seq.holdPending ∧ z.seq.summary = s.seq.summary ∧ z.seq.fault = s.seq.fault

/-- What becomes of a boundary in `z` that was the boundary of `s`. -/
structure EndedAt (s z t : State) : Prop where
  phaseEnded : PhaseEnded s t
  request : BoundaryRests s → t.htc.request = z.htc.request

/-- What a boundary leaves behind which no wash phase begins. -/
structure Left (z t : State) : Prop where
  extension : z.seq.extension = none → t.seq.extension = none
  soil : t.seq.soil = z.seq.soil
  seqDrain : t.wpc.seqDrain = z.wpc.seqDrain
  cfg : t.cfg = z.cfg
  part : t.part = z.part

/-- The last phase of the program is a DRY phase, and the next. -/
def DryNext (q : Seq) (d o : Nat) : Prop := phaseAt q (q.idx + 1) = some (.dry d o) ∧ q.count ≤ q.idx + 1 + 1

section
variable {s z t : State} (h : AtBoundary s z) (hc : Concludes (endPhase z) t)
include h

theorem AtBoundary.currentPhase : currentPhase z = currentPhase s := by
  obtain ⟨h1, -, h3, -⟩ := h.program
  exact currentPhase_congr h1 h3

include hc

theorem boundary_completes (hn : s.seq.count ≤ s.seq.idx + 1) : EndedAt s z t ∧ Left z t := by
  obtain ⟨-, h2, h3, -, h5, -⟩ := h.program
  obtain ⟨hb, hp⟩ := endPhase_completes h.ready h.reports h.fill (by rw [h2, h3]; exact hn) hc
  obtain ⟨r1, r2, -⟩ := hb.rest
  have hq := hb.seq
  have he := hb.ends
  rw [h.mask, h.currentPhase, h3] at he
  rw [h.mask] at hp
  refine ⟨⟨⟨fun _ => he, fun _ => ⟨by rw [hq]; rfl, by rw [hq]; rfl, by rw [hq]; rfl, by rw [hq, ← h5]; rfl, hp⟩,
    fun hx => absurd hx (Nat.not_lt.mpr hn), fun hx => absurd hx (Nat.not_lt.mpr hn)⟩,
    fun _ => by rw [hb.htc]⟩, fun he => by rw [hq]; exact he, by rw [hq]; rfl, hb.seqDrain, r2, r1⟩

theorem boundary_holds (hn : s.seq.idx + 1 < s.seq.count) (hh : s.seq.holdPending = true) : EndedAt s z t ∧ Left z t := by
  obtain ⟨-, h2, h3, h4, h5, -⟩ := h.program
  obtain ⟨hb, hp⟩ := endPhase_holds h.ready h.reports h.fill (by rw [h2, h3]; exact hn) (by rw [h4]; exact hh) hc
  obtain ⟨r1, r2, -⟩ := hb.rest
  have hq := hb.seq
  have he := hb.ends
  rw [h.mask, h.currentPhase, h3] at he
  rw [h.mask, h3] at hp
  refine ⟨⟨⟨fun _ => he, fun hx => absurd hn (Nat.not_lt.mpr hx),
    fun _ _ => ⟨by rw [hq]; rfl, by rw [hq]; rfl, by rw [hq, ← h3]; rfl, by rw [hq]; rfl, by rw [hq, ← h5]; rfl, hp⟩,
    fun _ hx => Bool.noConfusion (hh.symm.trans hx)⟩,
    fun _ => by rw [hb.htc]⟩, fun he => by rw [hq]; exact he, by rw [hq]; rfl, hb.seqDrain, r2, r1⟩

/-! ## The next phase -/

/-- The state from which the next phase is entered. -/
def nextOf (z : State) : State := onSeq (fun q => { q with idx := q.idx + 1 }) (phaseEndRaised z)

omit h hc in
theorem nextOf_rest (z : State) : nextOf z = { z with
    seq := { z.seq with idx := z.seq.idx + 1 }, lnk := (phaseEndRaised z).lnk } := by
  unfold nextOf
  rw [phaseEndRaised_rest]
  rfl

omit hc in
theorem endPhase_next (hn : s.seq.idx + 1 < s.seq.count) (hh : s.seq.holdPending = false) :
    endPhase z = enterPhase (nextOf z) := by
  obtain ⟨-, h2, h3, h4, -⟩ := h.program
  have hs : (phaseEndRaised z).seq = z.seq := by rw [phaseEndRaised_rest]
  rw [endPhase_eq, hs, if_neg (by rw [h2, h3]; omega), if_neg (by rw [h4, hh]; simp)]
  rfl

omit h hc in
theorem phaseAt_nextOf (z : State) : currentPhase (nextOf z) = phaseAt z.seq (z.seq.idx + 1) := by
  rw [nextOf_rest]
  rfl

omit hc in
/-- What the state before the next phase shares with the one before the step. -/
theorem nextOf_shares : Enters (nextOf z) ∧ currentPhase (nextOf z) = phaseAt s.seq (s.seq.idx + 1)
    ∧ (nextOf z).seq.idx = s.seq.idx + 1 ∧ (nextOf z).lnk.mask = s.lnk.mask
    ∧ (noticeEnabled s.lnk.mask 5 = true → ∀ p, currentPhase s = some p →
        notified (.phaseEnd s.seq.idx (phaseKind p)) (nextOf z) = true) := by
  obtain ⟨h1, -, h3, -⟩ := h.program
  have hm : (nextOf z).lnk.mask = z.lnk.mask := phaseEndRaised_mask z
  refine ⟨?_, by rw [phaseAt_nextOf, h3, phaseAt_congr h1], by rw [nextOf_rest, h3], hm.trans h.mask, fun h5 p hp => ?_⟩
  · rw [nextOf_rest]
    exact ⟨h.ready, h.reports, h.fill⟩
  · have hx := phaseEndRaised_ends (s := z) (h.currentPhase.trans hp) (by rw [h.mask]; exact h5)
    rw [h3] at hx
    exact hx

variable (hn : s.seq.idx + 1 < s.seq.count) (hh : s.seq.holdPending = false)
include hn hh

omit h hc in
/-- With a next phase and no hold, the boundary rests just where that phase stays. -/
theorem nextPhaseStays_of_rests (hr : BoundaryRests s) : nextPhaseStays s = true := by
  rcases hr with hx | hx | hx
  · exact absurd hn (Nat.not_lt.mpr hx)
  · exact Bool.noConfusion (hh.symm.trans hx)
  · exact hx

omit h hc in
/-- The boundary of a phase after which another is entered. -/
theorem phaseEnded_of_next (h5 : BoundaryRests s → noticeEnabled s.lnk.mask 5 = true → ∀ p, currentPhase s = some p →
      notified (.phaseEnd s.seq.idx (phaseKind p)) t = true) (hx : NextPhaseEntered s t) : PhaseEnded s t :=
  ⟨h5, fun hx => absurd hn (Nat.not_lt.mpr hx), fun _ hx => Bool.noConfusion (hh.symm.trans hx), fun _ _ => hx⟩

/-- A next phase other than DRY, behind a closed door. -/
theorem boundary_washes (hg : GrantsAgree z) (hd : s.ddu.doorOpen = false) {k : WashKind} {w : WashRecord}
    (hp : phaseAt s.seq (s.seq.idx + 1) = some (.wash k w)) (hi : s.wpc.inhibit = false) : EndedAt s z t := by
  obtain ⟨n1, n2, n3, n4, n5⟩ := nextOf_shares h
  have hz := nextOf_rest z
  rw [endPhase_next h hn hh] at hc
  obtain ⟨i1, i2, i3⟩ := h.inlet
  obtain ⟨-, -, -, -, h5, h6⟩ := h.program
  by_cases hl : s.wpc.highLevel = false ∨ 0 < w.holdTime
  · have hg : GrantsAgree (nextOf z) := by rw [hz]; exact grantsAgree_congr rfl rfl hg
    have hdz : (nextOf z).ddu.doorOpen = false := by rw [hz]; exact (congrArg Ddu.doorOpen h.ddu).trans hd
    obtain ⟨k1, k2, -, k4, k5⟩ := enterPhase_asks n1 (n2.trans hp) hg hdz (by rw [hz, i1, i3]; exact .inr hl) hc
    have hw := washEntered_of_goes k2
    obtain ⟨q1, q2, q3, q4⟩ := hw.seq
    have hm : MainFillAsked w s t := by
      rw [hz] at k1
      unfold MainFillAsked at k1 ⊢
      rwa [i1, i2, i3, h.cfg, h6] at k1
    have hb : PhaseBegun (s.seq.idx + 1) (.wash k) s t := by
      refine ⟨q1.trans n3, ?_, fun h4 => ?_⟩
      · rw [k4 (by rw [hz, i1]; exact hi), hz, ← h5]
      · rw [← n3]
        exact hw.begins (by rw [n4]; exact h4)
    refine ⟨phaseEnded_of_next hn hh (fun _ he p hcp => ?_) ⟨fun k' w' hp' => ⟨fun hx => ?_, fun _ _ _ => ?_⟩, fun d o hx => ?_⟩, fun hr => ?_⟩
    · refine k2.noted _ (by simp [noticeCode, phaseNotices, engineNotices, serviceNotices]) ?_
      exact marked_noted (.wash k w) (by simp [noticeCode]) (n5 he p hcp)
    · rw [hd] at hx
      cases hx
    · obtain ⟨rfl, rfl⟩ : k = k' ∧ w = w' := by simpa using hp.symm.trans hp'
      exact ⟨hb, hm⟩
    · simp [hp] at hx
    · have hs := nextPhaseStays_of_rests hn hh hr
      simp only [nextPhaseStays, hp, hd, Bool.false_or, Bool.not_eq_true', Bool.or_eq_false_iff] at hs
      rw [k5 (by rw [hz, i1]; exact hi) (by rw [hz, i3]; exact hs.2), hz]
  · have hno : ¬ BoundaryRests s := fun hr => by
      have hs := nextPhaseStays_of_rests hn hh hr
      simp only [nextPhaseStays, hp, hd, Bool.false_or, Bool.not_eq_true', Bool.or_eq_false_iff] at hs
      exact hl (.inl hs.2)
    refine ⟨phaseEnded_of_next hn hh (fun hr => absurd hr hno) ⟨fun k' w' hp' => ⟨fun hx => ?_, fun _ _ hx => ?_⟩, fun d o hx => ?_⟩,
      fun hr => absurd hr hno⟩
    · rw [hd] at hx
      cases hx
    · obtain ⟨rfl, rfl⟩ : k = k' ∧ w = w' := by simpa using hp.symm.trans hp'
      exact absurd hx hl
    · simp [hp] at hx

/-- A next phase DRY, the last of the program. -/
theorem boundary_dries {d o : Nat} (hd : DryNext s.seq d o) : EndedAt s z t ∧ Left z t := by
  obtain ⟨n1, n2, n3, n4, n5⟩ := nextOf_shares h
  obtain ⟨hp, hc2⟩ := hd
  obtain ⟨-, h2, -, -, hsum, -⟩ := h.program
  have hz := nextOf_rest z
  rw [endPhase_next h hn hh] at hc
  obtain ⟨x, hx⟩ : ∃ x, nextOf z = x := ⟨_, rfl⟩
  rw [hx] at hc n1 n2 n3 n4 n5 hz
  have hho : x.part.homings = {} := by rw [hz]; exact h.homings
  have haw : x.ddu.awaited = false := by rw [hz]; exact h.awaited
  have hxd : x.ddu = s.ddu := by rw [hz]; exact h.ddu
  have hxs : x.seq = { z.seq with idx := z.seq.idx + 1 } := by rw [hz]
  have hlast : x.seq.count ≤ x.seq.idx + 1 := by rw [n3, hxs, h2]; exact hc2
  have hdry : ∀ {k w}, phaseAt s.seq (s.seq.idx + 1) ≠ some (.wash k w) := fun hx => by simp [hp] at hx
  have hrests : BoundaryRests s → s.ddu.doorOpen = false ∧ 0 < d ∧ s.ddu.stage ≠ .retracting := fun hr => by
    have hs := nextPhaseStays_of_rests hn hh hr
    simp only [nextPhaseStays, hp, Bool.and_eq_true, Bool.not_eq_true', decide_eq_true_eq, bne_iff_ne] at hs
    obtain ⟨⟨⟨s1, s2⟩, -⟩, s4⟩ := hs
    exact ⟨s1, s2, s4⟩
  by_cases hst : s.ddu.stage = .retracting
  · have hy := dry_pends n1 hho haw (n2.trans hp) hc (by rw [hxd]; exact hst)
    obtain ⟨r1, r2, -⟩ := hy.rest
    refine ⟨⟨phaseEnded_of_next hn hh (fun hr => absurd hst (hrests hr).2.2)
      ⟨fun k w hx => absurd hx hdry, fun _ _ _ _ _ _ hx => absurd hst hx⟩, fun hr => absurd hst (hrests hr).2.2⟩, fun _ => ?_, ?_, ?_, ?_, ?_⟩
    · rw [hy.seq]; rfl
    · rw [hy.seq, hxs]; rfl
    · rw [hy.seqDrain, hz]
    · rw [r2, hz]
    · rw [r1, hz]
  · have hy := dry_begins n1 hho haw (n2.trans hp) hc (by rw [hxd]; exact hst) hlast
    obtain ⟨q, hq, hye⟩ := hy.entered
    obtain ⟨r1, r2, -⟩ := hye.rest
    have hnot : s.ddu.doorOpen = false → 0 < d → ¬ DryOver d o x := by
      rintro h1 h2 (hx | ⟨hx, -⟩)
      · rw [hxd, h1] at hx
        cases hx
      · omega
    refine ⟨⟨phaseEnded_of_next hn hh (fun hr h5 p hcp => ?_) ⟨fun k w hx => absurd hx hdry, fun d' o' hp' h1 h2 _ _ => ?_⟩,
      fun _ => ?_⟩, fun _ => ?_, ?_, ?_, ?_, ?_⟩
    · obtain ⟨h1, h2, -⟩ := hrests hr
      obtain ⟨-, -, -, hno⟩ := hy.stays (hnot h1 h2)
      exact hno _ (by simp [noticeCode, engineNotices]) (n5 h5 p hcp)
    · obtain ⟨rfl, rfl⟩ : d = d' ∧ o = o' := by simpa using hp.symm.trans hp'
      obtain ⟨e1, e2, -⟩ := hy.stays (hnot h1 h2)
      obtain ⟨e3, -⟩ := hy.dwells (hnot h1 h2) (.inl h2)
      refine ⟨⟨by rw [e1, ← n3]; rfl, by rw [e1, hxs, ← hsum]; rfl, fun h4 => ?_⟩, by rw [e1]; rfl, by rw [e1]; rfl, e3, e2,
        by rw [hy.drying]; rfl, by rw [hy.drying]; rfl⟩
      have hbeg := hye.begins (by rw [n4]; exact h4)
      rw [n3] at hbeg
      exact hbeg
    · rw [hye.request, hz]
    · rcases hq with rfl | rfl <;> rw [hye.seq] <;> rfl
    · rcases hq with rfl | rfl <;> rw [hye.seq, hxs] <;> rfl
    · rw [hye.seqDrain, hz]
    · rw [r2, hz]
    · rw [r1, hz]

end

end Sys2Proof.Proofs
end

section
/-! PROOFS. The edits of the program table (O22): LOAD PHASE, SET PHASE COUNT and CLEAR PROGRAM, and the end of a drain extension
with an edit. -/

/- One theorem at a time, as the tests have it: proofs that wait for the kernel cost a thread each. -/
set_option Elab.async false

namespace Sys2Proof.Proofs

open Sys2Proof.Machine
open Sys2Proof.Safety

/-! ## What an accepted edit does beside the table (R30) -/

theorem isWash_iff (q : Seq) (j : Fin 12) : isWash q j.val = true ↔ ∃ p ∈ q.table[j], phaseKind p ≠ .dry := by
  have hx : phaseAt q j.val = q.table[j] := phaseAt_eq j.isLt
  unfold isWash
  rw [hx]
  cases q.table[j] with
  | none => simp
  | some p => cases p <;> simp [phaseKind]

theorem laterWash_iff (q : Seq) : laterWash q = true ↔ washLater q := by
  simp only [laterWash, List.any_eq_true, List.mem_range, Bool.and_eq_true, decide_eq_true_eq, washLater, ← isWash_iff]
  exact ⟨fun ⟨i, h1, ⟨h2, h3⟩, h4⟩ => ⟨⟨i, h1⟩, h2, h3, h4⟩, fun ⟨j, h2, h3, h4⟩ => ⟨j.val, j.isLt, ⟨h2, h3⟩, h4⟩⟩

theorem afterEdit_stays {u : State} (h : Extending u → washLater u.seq) : afterEdit u = u := by
  unfold afterEdit
  rw [if_neg]
  simp only [Bool.and_eq_true, Bool.not_eq_true', not_and, Bool.not_eq_false]
  exact fun hx => (laterWash_iff _).mpr (h hx)

theorem afterEdit_ends {u : State} (h : Extending u) (hw : ¬ washLater u.seq) : afterEdit u = settle (endDrain u) := by
  unfold afterEdit
  rw [if_pos]
  rw [← laterWash_iff] at hw
  simp [h.1, h.2, hw]

/-! ## An edit's answer -/

/-- The counted state with the sequencer's fields of an edit. -/
def edited (q : Seq) (s : State) : State := onSeq (fun _ => q) (counted s)

/-- An edit changes table and count alone. -/
def Edits (s : State) (q : Seq) : Prop := q = { s.seq with table := q.table, count := q.count }

theorem Edits.extending {s : State} {q : Seq} (h : Edits s q) : Extending (edited q s) ↔ Extending s := by
  have h1 : q.state = s.seq.state := by rw [h]
  have h2 : q.sub = s.seq.sub := by rw [h]
  have h3 : q.extension = s.seq.extension := by rw [h]
  simp only [Extending, runningIn, edited, Laws.onSeq_seq, h1, h2, h3]

section
variable {r : Request} {tag : Byte} {s : State} {st : Status} {b : ReplyBody} {q : Seq} (h : Listens s) (hq : Edits s q)
  (hv : serveOwner r (counted s) = ⟨afterEdit (edited q s), ⟨st, b⟩⟩)
include h hq hv

theorem hostRequest_edits (hx : Extending s → washLater q) :
    hostRequest tag r s = .next (finish (answering r.kind tag st b (onSeq (fun _ => q) (heard s)))) := by
  rw [afterEdit_stays (fun he => hx (hq.extending.mp he))] at hv
  refine (hostRequest_acted h hv rfl rfl).trans ?_
  rw [edited, silenced_onSeq, silenced_counted]

theorem hostRequest_ends_drain (hx : Extending s) (hw : ¬ washLater q) :
    ∃ t, Answered ⟨r.kind, tag, ⟨st, b⟩⟩ (endDrain (edited q s)) t ∧ (t.part.state = s.part.state → hostRequest tag r s = .next t) := by
  rw [afterEdit_ends (hq.extending.mpr hx) hw] at hv
  exact hostRequest_settled h hv (congrArg Standing.linkState (Laws.standing_endDrain _))

end

/-! ## The end of the extension (R30, R18) -/

/-- The state at whose boundary an edit ends the phase. -/
def atBoundary (q : Seq) (s : State) : State := dropDrain (onSeq (fun q => { q with extension := none }) (edited q s))

theorem endDrain_edited (q : Seq) (s : State) : endDrain (edited q s) = endPhase (atBoundary q s) := rfl

section
variable {s t : State} {q : Seq} (h : Listens s) (hs : Sound s) (hx : Extending s)
include hs hx

theorem fill_none_extending : s.wpc.fill = none := by
  obtain ⟨h1, h2⟩ := (runningIn_iff _ _).mp hx.1
  have hf := (Laws.sound_waterKept hs).1
  simpa [runningIn, h1, h2] using hf

theorem not_awaited_extending : s.ddu.awaited = false := by
  obtain ⟨h1, h2⟩ := (runningIn_iff _ _).mp hx.1
  exact (Laws.sound_not_awaited hs (by simp [runningIn, h2])).1

include h

theorem atBoundary_edited : AtBoundary { s with seq := q } (atBoundary q s) where
  ready := h.1.2.1
  reports := h.1.2.2
  fill := show s.wpc.fill = none from fill_none_extending hs hx
  homings := show s.part.homings = {} from Laws.sound_homings hs (by rw [h.1.2.1]; exact nofun)
  awaited := show s.ddu.awaited = false from not_awaited_extending hs hx
  part := rfl
  cfg := rfl
  ddu := rfl
  mask := rfl
  inlet := ⟨rfl, rfl, rfl⟩
  program := ⟨rfl, rfl, rfl, rfl, rfl, rfl⟩

/-- What the statement asks of the boundary that an edit brings, beside table and count. -/
def EndsPhase (q : Seq) (s t : State) : Prop :=
  t.seq.extension = none ∧ PhaseEnded { s with seq := q } t ∧ t.wpc.seqDrain = none ∧ t.seq.soil = q.soil
    ∧ t.cfg = s.cfg ∧ t.part = s.part

theorem edit_ends (hc : Concludes (endPhase (atBoundary q s)) t) (hd : q.idx + 1 < q.count → ∃ d o, DryNext q d o) :
    EndsPhase q s t := by
  have hb : AtBoundary { s with seq := q } (atBoundary q s) := atBoundary_edited h hs hx
  obtain ⟨k, l⟩ : EndedAt { s with seq := q } (atBoundary q s) t ∧ Left (atBoundary q s) t := by
    by_cases hn : q.idx + 1 < q.count
    · cases hh : q.holdPending with
      | true => exact boundary_holds hb hc hn hh
      | false =>
        obtain ⟨d, o, hd⟩ := hd hn
        exact boundary_dries hb hc hn hh hd
    · exact boundary_completes hb hc (Nat.not_lt.mp hn)
  exact ⟨l.extension rfl, k.phaseEnded, l.seqDrain, l.soil, l.cfg, l.part⟩

end

end Sys2Proof.Proofs
end

section
/-! PROOFS. LOAD PHASE, SET PHASE COUNT and CLEAR PROGRAM, request by request (O22). -/

/- One theorem at a time, as the tests have it: proofs that wait for the kernel cost a thread each. -/
set_option Elab.async false

namespace Sys2Proof.Proofs

open Sys2Proof.Machine
open Sys2Proof.Safety

/-! ## The end of an extension, request by request -/

theorem dryNext_of_slot {b : Bool} {q : Seq} (h12 : q.count ≤ 12) (hw : ¬ washLater q) (hn : q.idx + 1 < q.count)
    (hb : slotBad b q q.count (q.idx + 1) = false) : ∃ d o, DryNext q d o := by
  cases hp : phaseAt q (q.idx + 1) with
  | none => simp [slotBad, hp] at hb
  | some p =>
    cases p with
    | dry d o =>
      simp only [slotBad, hp, decide_eq_false_iff_not] at hb
      exact ⟨d, o, hp, by omega⟩
    | wash k w =>
      refine absurd ⟨⟨q.idx + 1, by omega⟩, Nat.lt_succ_self _, hn, .wash k w, ?_, by simp [phaseKind]⟩ hw
      exact (phaseAt_eq (q := q) (i := q.idx + 1) (by omega)).symm.trans hp

theorem programRuns_of_editing {s : State} (h : editing s = true) : programRuns s = true := by
  unfold editing at h
  unfold programRuns
  split at h <;> simp_all

theorem editing_of_extending {s : State} (h : Extending s) : editing s = true := by
  obtain ⟨h1, -⟩ := (runningIn_iff _ _).mp h.1
  simp [editing, h1]

section
variable {r : Request} {tag : Byte} {s : State} {st : Status} {b : ReplyBody} {q : Seq} (h : Listens s) (hq : Edits s q)
  (hv : serveOwner r (counted s) = ⟨afterEdit (edited q s), ⟨st, b⟩⟩)
include h hq hv

theorem hostRequest_drainEnded (hx : Extending s) (hs : Sound s) (hw : ¬ washLater q)
    (hd : q.idx + 1 < q.count → ∃ d o, DryNext q d o) :
    ∃ t, hostRequest tag r s = .next t ∧ t.lnk.awaiting = some ⟨r.kind, tag, ⟨st, b⟩⟩ ∧ DrainEndedByEdit q s t := by
  obtain ⟨t, ha, ht⟩ := hostRequest_ends_drain (tag := tag) h hq hv hx hw
  obtain ⟨e1, e2, e3, e4, e5, e6⟩ := edit_ends h hs hx ha.concludes hd
  have hsoil : q.soil = s.seq.soil := by rw [hq]
  have hy := Laws.standing_endDrain (edited q s)
  exact ⟨t, ht (congrArg Part.state e6), ha.awaiting, ha.table.trans (congrArg Standing.table hy),
    ha.count.trans (congrArg Standing.count hy), e1, e2,
    fun _ => ⟨e3, e4.trans hsoil⟩, e5, e6⟩

end

/-! ## LOAD PHASE (R2, R4) -/

theorem loadAllowed_eq_false {s : State} {i : Nat} (h : s.seq.state = .ending ∨ (editing s = true ∧ i ≤ s.seq.idx)) :
    loadAllowed s i = false := by
  rcases h with h | ⟨h, hi⟩
  · simp [loadAllowed, h]
  · unfold editing at h
    unfold loadAllowed
    split at h <;> simp_all

theorem loadAllowed_eq_true {s : State} {i : Nat} (h : s.seq.state = .idle ∨ s.seq.state = .ended ∨ s.seq.state = .faulted
    ∨ (editing s = true ∧ s.seq.idx < i)) : loadAllowed s i = true := by
  rcases h with h | h | h | ⟨h, hi⟩
  · simp [loadAllowed, h]
  · simp [loadAllowed, h]
  · simp [loadAllowed, h]
  · unfold editing at h
    unfold loadAllowed
    split at h <;> simp_all

/-- The sequencer's fields with a record in a slot. -/
def withSlot (i : Nat) (p : Phase) (q : Seq) : Seq := { q with table := q.table.setIfInBounds i (some p) }

theorem edits_withSlot (s : State) (i : Nat) (p : Phase) : Edits s (withSlot i p s.seq) := rfl

theorem phaseAt_withSlot {i j : Nat} (p : Phase) (q : Seq) (hi : i < 12) :
    phaseAt (withSlot i p q) j = if i = j then some p else phaseAt q j := by
  by_cases hj : j < 12
  · rw [phaseAt_eq hj]
    simp only [withSlot, Vector.getElem_setIfInBounds hj]
    split
    · rfl
    · rw [phaseAt_eq hj]
  · rw [if_neg (by omega)]
    simp [phaseAt, hj]

section
variable {tag i : Byte} {p : PhasePayload} {s : State} (h : Listens s)
include h

theorem load_refused (hl : loadAllowed s i.toNat = false) :
    exec (.loadPhase tag i p) s = .next (finish (answering 0x10#8 tag .wrongState .empty (heard s))) := by
  have hl : loadAllowed (counted s) i.toNat = false := hl
  exact hostRequest_replied (r := .loadPhase i p) h (by simp [serveOwner, serveLoadPhase, hl, refuse])

variable (hl : loadAllowed s i.toNat = true)
include hl

theorem load_badField (hx : 11 < i.toNat ∨ examinePhase s.dsu.r3.fitted p = .badField) :
    exec (.loadPhase tag i p) s = .next (finish (answering 0x10#8 tag .badField .empty (heard s))) := by
  have hl : loadAllowed (counted s) i.toNat = true := hl
  refine hostRequest_replied (r := .loadPhase i p) h ?_
  by_cases hi : 11 < i.toNat
  · simp [serveOwner, serveLoadPhase, hl, hi, refuse]
  · simp [serveOwner, serveLoadPhase, hl, hi, hx.resolve_left hi, refuse]

variable (hi : i.toNat ≤ 11)
include hi

theorem load_notFitted (hx : examinePhase s.dsu.r3.fitted p = .notFitted) :
    exec (.loadPhase tag i p) s = .next (finish (answering 0x10#8 tag .notFitted .empty (heard s))) := by
  have hl : loadAllowed (counted s) i.toNat = true := hl
  exact hostRequest_replied (r := .loadPhase i p) h
    (by simp [serveOwner, serveLoadPhase, hl, Nat.not_lt.mpr hi, hx, refuse])

theorem load_badProgram {ph : Phase} {c : Bool} (hx : examinePhase s.dsu.r3.fitted p = .stored ph c)
    (hm : editing s = true ∧ dryMisplaced s i.toNat ph = true) :
    exec (.loadPhase tag i p) s = .next (finish (answering 0x10#8 tag .badProgram (.offending i.toNat) (heard s))) := by
  have hl : loadAllowed (counted s) i.toNat = true := hl
  have hm : editing (counted s) = true ∧ dryMisplaced (counted s) i.toNat ph = true := hm
  exact hostRequest_replied (r := .loadPhase i p) h
    (by simp [serveOwner, serveLoadPhase, hl, Nat.not_lt.mpr hi, hx, hm])

omit h in
/-- An accepted record is stored (R2, R4). -/
theorem load_serves {ph : Phase} {c : Bool} (hx : examinePhase s.dsu.r3.fitted p = .stored ph c)
    (hm : ¬ (editing s = true ∧ dryMisplaced s i.toNat ph = true)) : serveOwner (.loadPhase i p) (counted s)
      = ⟨afterEdit (edited (withSlot i.toNat ph s.seq) s), ⟨if c then .clamped else .ok, .index i⟩⟩ := by
  have hl : loadAllowed (counted s) i.toNat = true := hl
  have hm : ¬ (editing (counted s) = true ∧ dryMisplaced (counted s) i.toNat ph = true) := hm
  have hw : writeSlot i.toNat ph (counted s) = edited (withSlot i.toNat ph s.seq) s := rfl
  simp [serveOwner, serveLoadPhase, hl, Nat.not_lt.mpr hi, hx, hm, hw]

end

/-! ### The examination of the record -/

theorem kindOfCode_wash {b : Byte} (h : b.toNat < 4) : ∃ k, kindOfCode b = some (.wash k) := by
  obtain h | h | h | h : b.toNat = 0 ∨ b.toNat = 1 ∨ b.toNat = 2 ∨ b.toNat = 3 := by omega
  · exact ⟨.prewash, by simp only [kindOfCode, h]⟩
  · exact ⟨.main, by simp only [kindOfCode, h]⟩
  · exact ⟨.rinse, by simp only [kindOfCode, h]⟩
  · exact ⟨.finalRinse, by simp only [kindOfCode, h]⟩

theorem kindOfCode_none {b : Byte} (h : 4 < b.toNat) : kindOfCode b = none := by
  unfold kindOfCode
  split <;> first | omega | rfl

theorem refsOf_none {p : PhasePayload} (h : 2 < p.refCount.toNat
    ∨ (1 ≤ p.refCount.toNat ∧ channelOfCode p.ref1.channel = none)
    ∨ (p.refCount.toNat = 2 ∧ (channelOfCode p.ref2.channel = none ∨ p.ref1.channel = p.ref2.channel))) : refsOf p = none := by
  unfold refsOf
  dsimp only
  split
  · omega
  · next h1 =>
    obtain ⟨-, hc⟩ := (h.resolve_left (by omega)).resolve_right (by omega)
    rw [hc]
    rfl
  · next h2 =>
    rcases h with h | ⟨-, hc⟩ | ⟨-, hc | hc⟩
    · omega
    · rw [hc]
      rfl
    · rw [hc]
      cases channelOfCode p.ref1.channel <;> rfl
    · rw [hc]
      cases channelOfCode p.ref2.channel <;> simp
  · rfl

/-- No weight is above 0 just where every byte of weight is 0. -/
theorem rawWash_weights (p : PhasePayload) (refs : List (Channel × Nat × Nat)) : (rawWash p refs).weights = ⟨0, 0, 0, 0⟩ ↔
    (p.weight1 = 0#8 ∧ p.weight2 = 0#8 ∧ p.weight3 = 0#8 ∧ p.weight4 = 0#8) := by
  have hz : ∀ b : Byte, b.toNat = 0 ↔ b = 0#8 := fun b =>
    ⟨fun h => BitVec.eq_of_toNat_eq h, fun h => by rw [h]; rfl⟩
  simp [rawWash, hz]

theorem examinePhase_badField {b : Bool} {p : PhasePayload} (h : 4 < p.kind.toNat
    ∨ (p.kind.toNat < 4 ∧ (2 < p.refCount.toNat
      ∨ (1 ≤ p.refCount.toNat ∧ channelOfCode p.ref1.channel = none)
      ∨ (p.refCount.toNat = 2 ∧ (channelOfCode p.ref2.channel = none ∨ p.ref1.channel = p.ref2.channel))
      ∨ (p.weight1 = 0#8 ∧ p.weight2 = 0#8 ∧ p.weight3 = 0#8 ∧ p.weight4 = 0#8)))) : examinePhase b p = .badField := by
  unfold examinePhase
  rcases h with h | ⟨hk, h⟩
  · rw [kindOfCode_none h]
  obtain ⟨k, hk⟩ := kindOfCode_wash hk
  rw [hk]
  dsimp only
  cases hr : refsOf p with
  | none => rfl
  | some refs =>
    have hw : (rawWash p refs).weights = ⟨0, 0, 0, 0⟩ := (rawWash_weights p refs).mpr <| by
      rcases h with h | h | h | h
      · simp [refsOf_none (.inl h)] at hr
      · simp [refsOf_none (.inr (.inl h))] at hr
      · simp [refsOf_none (.inr (.inr h))] at hr
      · exact h
    exact if_pos hw

theorem examinePhase_dry {b : Bool} {p : PhasePayload} (h : p.kind = 4#8) : examinePhase b p
    = .stored (.dry (min 3600 p.dwell.toNat) (min 3600 p.openTime.toNat))
      (decide (3600 < p.dwell.toNat) || decide (3600 < p.openTime.toNat)) := by
  simp [examinePhase, kindOfCode, h, limitTo]

theorem examinePhase_wash {b : Bool} {p : PhasePayload} {k : WashKind} {refs : List (Channel × Nat × Nat)}
    (hk : kindOfCode p.kind = some (.wash k)) (hr : refsOf p = some refs)
    (hw : ¬ (p.weight1 = 0#8 ∧ p.weight2 = 0#8 ∧ p.weight3 = 0#8 ∧ p.weight4 = 0#8)) : examinePhase b p =
      if b = false ∧ refs.any (fun r => r.1 == .d3) = true then .notFitted
      else .stored (.wash k (limitWash (rawWash p refs))) (decide (limitWash (rawWash p refs) ≠ rawWash p refs)) := by
  unfold examinePhase
  rw [hk]
  dsimp only
  rw [hr]
  dsimp only
  rw [← rawWash_weights p refs] at hw
  rw [if_neg hw]
  have hd : (rawWash p refs).refs.any (fun r => r.channel == .d3) = refs.any fun r => r.1 == .d3 := by
    simp [rawWash, List.any_map, Function.comp_def]
  rw [hd]
  cases b with
  | true => simp
  | false => by_cases ha : (refs.any fun r => r.1 == .d3) = true <;> simp [ha]

end Sys2Proof.Proofs
end

section
/-! PROOFS. The edits of the program table, settled (O22). -/

/- One theorem at a time, as the tests have it: proofs that wait for the kernel cost a thread each. -/
set_option Elab.async false

namespace Sys2Proof.Proofs

open Sys2Proof.Machine
open Sys2Proof.Safety

theorem count_le_of_sound {s : State} (h : Sound s) : s.seq.count ≤ 12 := by
  obtain ⟨-, -, -, -, -, -, h12, -⟩ := Laws.sound_sequencerKept h
  exact h12

theorem slot_of_sound {s : State} (h : Sound s) (hr : programRuns s = true) (hn : s.seq.idx + 1 < s.seq.count) :
    slotBad true s.seq s.seq.count (s.seq.idx + 1) = false := by
  obtain ⟨-, -, -, hb⟩ := Laws.sound_programKept h hr
  have h12 := count_le_of_sound h
  exact hb ⟨s.seq.idx + 1, by omega⟩ (Nat.lt_succ_self _) hn

/-- A program that can go on has a next phase, DRY at most as the last (R4, R5). -/
theorem next_of_sound {s : State} (h : Sound s) (hr : programRuns s = true) (hn : s.seq.idx + 1 < s.seq.count) :
    (∃ d o, DryNext s.seq d o) ∨ ∃ k w, phaseAt s.seq (s.seq.idx + 1) = some (.wash k w) := by
  have hb := slot_of_sound h hr hn
  cases hp : phaseAt s.seq (s.seq.idx + 1) with
  | none => simp [slotBad, hp] at hb
  | some p =>
    cases p with
    | wash k w => exact .inr ⟨k, w, rfl⟩
    | dry d o =>
      simp only [slotBad, hp, decide_eq_false_iff_not] at hb
      exact .inl ⟨d, o, hp, by omega⟩

/-! ## LOAD PHASE with a DRY record -/

section
variable {tag i : Byte} {p : PhasePayload} {s : State} {d o : Nat} (h : Listens s)

/-- With the record stored, the phase after the current one still stands, DRY at most as the last. -/
theorem slot_withSlot_dry (hi : i.toNat ≤ 11) (hm : ¬ (editing s = true ∧ i.toNat + 1 < s.seq.count)) (hs : Sound s)
    (hx : Extending s) (hn : s.seq.idx + 1 < s.seq.count) :
    slotBad true (withSlot i.toNat (.dry d o) s.seq) s.seq.count (s.seq.idx + 1) = false := by
  by_cases he : i.toNat = s.seq.idx + 1
  · have hm : ¬ i.toNat + 1 < s.seq.count := fun hl => hm ⟨editing_of_extending hx, hl⟩
    simp only [slotBad, phaseAt_withSlot (.dry d o) s.seq (show i.toNat < 12 by omega), if_pos he, decide_eq_false_iff_not]
    omega
  · have hb := slot_of_sound hs (programRuns_of_editing (editing_of_extending hx)) hn
    simpa only [slotBad, phaseAt_withSlot (.dry d o) s.seq (show i.toNat < 12 by omega), if_neg he] using hb

include h

theorem load_dry (hl : loadAllowed s i.toNat = true) (hi : i.toNat ≤ 11) (hk : p.kind = 4#8)
    (hm : ¬ (editing s = true ∧ i.toNat + 1 < s.seq.count)) {q : Seq}
    (hq : q = withSlot i.toNat (.dry (min 3600 p.dwell.toNat) (min 3600 p.openTime.toNat)) s.seq) {st : Status}
    (hst : st = if 3600 < p.dwell.toNat ∨ 3600 < p.openTime.toNat then .clamped else .ok) :
    ((Extending s → washLater q) → exec (.loadPhase tag i p) s = .next (finish (answering 0x10#8 tag st (.index i)
      (onSeq (fun _ => q) (heard s)))))
    ∧ (Sound s → Extending s → ¬ washLater q → ∃ t, exec (.loadPhase tag i p) s = .next t
      ∧ t.lnk.awaiting = some ⟨0x10#8, tag, st, .index i⟩ ∧ DrainEndedByEdit q s t) := by
  have hv := load_serves (s := s) hl hi (examinePhase_dry (b := s.dsu.r3.fitted) hk) (by simpa [dryMisplaced] using hm)
  rw [← hq] at hv
  have hst' : (if (decide (3600 < p.dwell.toNat) || decide (3600 < p.openTime.toNat)) = true then Status.clamped else .ok) = st := by
    rw [hst]
    simp
  rw [hst'] at hv
  have he : Edits s q := by rw [hq]; exact edits_withSlot _ _ _
  refine ⟨fun hx => hostRequest_edits (r := .loadPhase i p) h he hv hx, fun hs hx hw => ?_⟩
  have h12 := count_le_of_sound hs
  refine hostRequest_drainEnded (r := .loadPhase i p) h he hv hx hs hw fun hn => ?_
  subst hq
  exact dryNext_of_slot h12 hw hn (slot_withSlot_dry hi hm hs hx hn)

end

/-! ## LOAD PHASE with a wash record -/

/-- The record that LOAD PHASE stores for a wash phase, each field limited to its range (R2). -/
theorem limitWash_rawWash (p : PhasePayload) (refs : List (Channel × Nat × Nat)) : limitWash (rawWash p refs) = {
    fillVolume := max 1500 (min 6000 p.fillVolume.toNat)
    target := if p.target = 0#8 then 0 else max 30 (min 75 p.target.toNat)
    heatLimit := max 60 (min 3600 p.heatLimit.toNat)
    holdTime := min 3600 p.holdTime.toNat
    weights := ⟨min 7 p.weight1.toNat, min 7 p.weight2.toNat, min 7 p.weight3.toNat, min 7 p.weight4.toNat⟩
    slotLength := max 10 (min 60 p.slotLength.toNat)
    refs := refs.map fun r => ⟨r.1, min 400 r.2.1, max 10 (min 600 r.2.2)⟩
    drain := p.flags.getLsbD 0
    sample := p.flags.getLsbD 1 } := by
  have hz : p.target.toNat = 0 ↔ p.target = 0#8 := ⟨fun h => BitVec.eq_of_toNat_eq h, fun h => by rw [h]; rfl⟩
  simp [limitWash, rawWash, limitTo, limitTarget, hz, Function.comp_def]

theorem washLater_withSlot {q : Seq} {i : Nat} {k : WashKind} {w : WashRecord} (hi : i < 12) (h : washLater q) :
    washLater (withSlot i (.wash k w) q) := by
  obtain ⟨j, h1, h2, p, h3, h4⟩ := h
  have hj : ∀ q : Seq, q.table[j] = phaseAt q j.val := fun q => (phaseAt_eq j.isLt).symm
  by_cases he : i = j.val
  · refine ⟨j, h1, h2, .wash k w, ?_, by simp [phaseKind]⟩
    rw [hj, phaseAt_withSlot _ _ hi, if_pos he]
    rfl
  · refine ⟨j, h1, h2, p, ?_, h4⟩
    rw [hj, phaseAt_withSlot _ _ hi, if_neg he, ← hj]
    exact h3

section
variable {tag i : Byte} {p : PhasePayload} {s : State} (h : Listens s)
include h

theorem load_wash (hl : loadAllowed s i.toNat = true) (hi : i.toNat ≤ 11) {k : WashKind} (hk : kindOfCode p.kind = some (.wash k))
    {refs : List (Channel × Nat × Nat)} (hr : refsOf p = some refs)
    (hw : ¬ (p.weight1 = 0#8 ∧ p.weight2 = 0#8 ∧ p.weight3 = 0#8 ∧ p.weight4 = 0#8))
    (hf : ¬ (s.dsu.r3.fitted = false ∧ refs.any (fun r => r.1 == .d3) = true)) (hx : Extending s → washLater s.seq) :
    ∃ t, exec (.loadPhase tag i p) s = .next t
      ∧ t.seq.table = s.seq.table.setIfInBounds i.toNat (some (.wash k (limitWash (rawWash p refs))))
      ∧ t = finish (answering 0x10#8 tag (if limitWash (rawWash p refs) = rawWash p refs then .ok else .clamped) (.index i)
          (onSeq (fun _ => { s.seq with table := t.seq.table }) (heard s))) := by
  have he := examinePhase_wash (b := s.dsu.r3.fitted) hk hr hw
  rw [if_neg hf] at he
  have hv := load_serves (s := s) hl hi he (by simp [dryMisplaced])
  have hst : (if decide (limitWash (rawWash p refs) ≠ rawWash p refs) = true then Status.clamped else .ok)
      = if limitWash (rawWash p refs) = rawWash p refs then .ok else .clamped := by
    by_cases hc : limitWash (rawWash p refs) = rawWash p refs <;> simp [hc]
  rw [hst] at hv
  have ht := hostRequest_edits (r := .loadPhase i p) (tag := tag) h (edits_withSlot _ _ _) hv
    fun h => washLater_withSlot (by omega) (hx h)
  have hs : ∀ u : State, (finish u).seq = u.seq := fun u => by simp
  refine ⟨_, ht, ?_, ?_⟩ <;> rw [hs] <;> rfl

end

/-! ## SET PHASE COUNT and CLEAR PROGRAM -/

/-- The sequencer's fields with a phase count. -/
def withCount (n : Nat) (q : Seq) : Seq := { q with count := n }

theorem firstBadSlot_none {b : Bool} {q : Seq} {lo n : Nat}
    (h : ∀ j : Fin 12, lo ≤ j.val → j.val < n → slotBad b q n j.val = false) : firstBadSlot b q lo n = none := by
  rw [firstBadSlot]
  refine List.find?_eq_none.mpr fun i hi => ?_
  rw [List.mem_range] at hi
  simpa using fun hl hn => h ⟨i, hi⟩ hl hn

theorem firstBadSlot_some {b : Bool} {q : Seq} {lo n : Nat} (j : Fin 12) (hl : lo ≤ j.val) (hn : j.val < n)
    (hb : slotBad b q n j.val = true) (hk : ∀ k : Fin 12, lo ≤ k.val → k.val < j.val → slotBad b q n k.val = false) :
    firstBadSlot b q lo n = some j.val := by
  rw [firstBadSlot, List.find?_range_eq_some]
  refine ⟨by simp [hl, hn, hb], List.mem_range.mpr j.isLt, fun i hi => ?_⟩
  by_cases hli : lo ≤ i
  · simp [hk ⟨i, by omega⟩ hli hi]
  · simp [hli]

section
variable {tag n : Byte} {s : State} (h : Listens s)
include h

theorem setCount_badField (hn : 12 < n.toNat) :
    exec (.setPhaseCount tag n) s = .next (finish (answering 0x12#8 tag .badField .empty (heard s))) :=
  hostRequest_replied (r := .setPhaseCount n) h (by simp [serveOwner, serveSetCount, hn, refuse])

theorem setCount_wrongState (hn : n.toNat ≤ 12) (hs : s.seq.state = .ending ∨ (editing s = true ∧ n.toNat ≤ s.seq.idx + 1)) :
    exec (.setPhaseCount tag n) s = .next (finish (answering 0x12#8 tag .wrongState .empty (heard s))) := by
  refine hostRequest_replied (r := .setPhaseCount n) h ?_
  rcases hs with hs | ⟨hs, hl⟩
  · simp [serveOwner, serveSetCount, Nat.not_lt.mpr hn, hs, refuse]
  · have he : editing (counted s) = true := hs
    have hne : s.seq.state ≠ .ending := fun hx => by simp [editing, hx] at hs
    simp [serveOwner, serveSetCount, Nat.not_lt.mpr hn, he, hne, hl, refuse]

theorem setCount_rests (hn : n.toNat ≤ 12) (hs : s.seq.state = .idle ∨ s.seq.state = .ended ∨ s.seq.state = .faulted) :
    exec (.setPhaseCount tag n) s = .next (finish (answering 0x12#8 tag .ok (.count n)
      (onSeq (fun q => { q with count := n.toNat }) (heard s)))) := by
  have hv : serveOwner (.setPhaseCount n) (counted s) = ⟨onSeq (fun q => { q with count := n.toNat }) (counted s), ⟨.ok, .count n⟩⟩ := by
    rcases hs with hs | hs | hs <;>
      simp [serveOwner, serveSetCount, Nat.not_lt.mpr hn, hs, editing, reply, writeCount]
  refine (hostRequest_acted (r := .setPhaseCount n) h hv rfl rfl).trans ?_
  rw [silenced_onSeq, silenced_counted]
  rfl

theorem setCount_badProgram (hn : n.toNat ≤ 12) (hs : editing s = true) (hl : s.seq.idx + 1 < n.toNat) {i : Nat}
    (hb : firstBadSlot s.dsu.r3.fitted s.seq (s.seq.idx + 1) n.toNat = some i) :
    exec (.setPhaseCount tag n) s = .next (finish (answering 0x12#8 tag .badProgram (.offending i) (heard s))) := by
  have he : editing (counted s) = true := hs
  have hne : s.seq.state ≠ .ending := fun hx => by simp [editing, hx] at hs
  exact hostRequest_replied (r := .setPhaseCount n) h
    (by simp [serveOwner, serveSetCount, Nat.not_lt.mpr hn, he, hne, Nat.not_le.mpr hl, hb])

theorem setCount_edits (hn : n.toNat ≤ 12) (hs : editing s = true) (hl : s.seq.idx + 1 < n.toNat)
    (hb : ∀ j : Fin 12, s.seq.idx < j.val → j.val < n.toNat → slotBad s.dsu.r3.fitted s.seq n.toNat j.val = false) {q : Seq}
    (hq : q = withCount n.toNat s.seq) :
    ((Extending s → washLater q) → exec (.setPhaseCount tag n) s = .next (finish (answering 0x12#8 tag .ok (.count n)
      (onSeq (fun _ => q) (heard s)))))
    ∧ (Sound s → Extending s → ¬ washLater q → ∃ t, exec (.setPhaseCount tag n) s = .next t
      ∧ t.lnk.awaiting = some ⟨0x12#8, tag, .ok, .count n⟩ ∧ DrainEndedByEdit q s t) := by
  have he : editing (counted s) = true := hs
  have hne : s.seq.state ≠ .ending := fun hx => by simp [editing, hx] at hs
  have hw : writeCount n.toNat (counted s) = edited q s := by rw [hq]; rfl
  have hv : serveOwner (.setPhaseCount n) (counted s) = ⟨afterEdit (edited q s), ⟨.ok, .count n⟩⟩ := by
    simp [serveOwner, serveSetCount, Nat.not_lt.mpr hn, he, hne, Nat.not_le.mpr hl, firstBadSlot_none hb, hw, reply]
  have hed : Edits s q := by rw [hq]; rfl
  refine ⟨fun hx => hostRequest_edits (r := .setPhaseCount n) h hed hv hx, fun hs hx hw => ?_⟩
  refine hostRequest_drainEnded (r := .setPhaseCount n) h hed hv hx hs hw fun hnq => ?_
  subst hq
  exact dryNext_of_slot (b := s.dsu.r3.fitted) hn hw hnq (hb ⟨s.seq.idx + 1, by omega⟩ (Nat.lt_succ_self _) hl)

theorem clearProgram_rests (hs : s.seq.state = .idle ∨ s.seq.state = .ended ∨ s.seq.state = .faulted) :
    exec (.clearProgram tag) s = .next (finish (answering 0x13#8 tag .ok .empty
      (onSeq (fun q => { q with table := Vector.replicate 12 none, count := 0 }) (heard s)))) := by
  have hr : seqRests (counted s) = true := by rcases hs with hs | hs | hs <;> simp [seqRests, hs]
  have hv : serveOwner .clearProgram (counted s)
      = ⟨onSeq (fun q => { q with table := Vector.replicate 12 none, count := 0 }) (counted s), ⟨.ok, .empty⟩⟩ := by
    simp [serveOwner, serveClearProgram, hr, reply]
  refine (hostRequest_acted (r := .clearProgram) h hv rfl rfl).trans ?_
  rw [silenced_onSeq, silenced_counted]
  rfl

theorem clearProgram_refused (h1 : s.seq.state ≠ .idle) (h2 : s.seq.state ≠ .ended) (h3 : s.seq.state ≠ .faulted) :
    exec (.clearProgram tag) s = .next (finish (answering 0x13#8 tag .wrongState .empty (heard s))) := by
  have hr : seqRests (counted s) = false := by simp [seqRests, h1, h2, h3]
  exact hostRequest_replied (r := .clearProgram) h (by simp [serveOwner, serveClearProgram, hr, refuse])

end

/-- Settles O22, request by request; an edit that ends a drain extension by the boundary of its phase. -/
theorem theProgramTableIsEdited : Obligations.TheProgramTableIsEdited := by
  unfold Obligations.TheProgramTableIsEdited
  refine ⟨fun tag i p s h => ⟨fun hs => load_refused h (loadAllowed_eq_false hs), fun hs => ?_⟩, fun tag n s h => ?_⟩
  · have hl : loadAllowed s i.toNat = true := loadAllowed_eq_true hs
    refine ⟨fun hb => load_badField h hl (hb.imp_right examinePhase_badField), fun hi hk => ⟨fun hm => ?_, fun hm q hq st hst => ?_⟩,
      fun hi k hk refs hr hw => ⟨fun hf => ?_, fun hf hx => ?_⟩⟩
    · exact load_badProgram h hl hi (examinePhase_dry hk) (by simpa [dryMisplaced] using hm)
    · exact load_dry h hl hi hk hm hq hst
    · refine load_notFitted h hl hi ?_
      rw [examinePhase_wash hk hr hw, if_pos hf]
    · obtain ⟨t, ht, h1, h2⟩ := load_wash (tag := tag) h hl hi hk hr hw hf hx
      have hi' : i.toNat < 12 := by omega
      have h3 : t.seq.table[i.toNat]? = some (some (.wash k (limitWash (rawWash p refs)))) := by
        rw [h1]
        simp [hi']
      refine ⟨t, ht, by rw [h3, limitWash_rawWash], fun j hj => ?_, ?_⟩
      · rw [h1]
        simp [hj.symm]
      · have hc : (some (some (Phase.wash k (limitWash (rawWash p refs)))) = some (some (.wash k (rawWash p refs))))
            ↔ limitWash (rawWash p refs) = rawWash p refs := by simp
        rw [h3]
        simp only [hc]
        exact h2
  · refine ⟨setCount_badField h, fun hn hs => setCount_rests h hn hs, fun hn hs => setCount_wrongState h hn (.inl hs),
      fun hn hs => ⟨fun hl => setCount_wrongState h hn (.inr ⟨hs, hl⟩), fun hl hb q hq => setCount_edits h hn hs hl hb hq,
        fun hl j hj hjn hb hk => setCount_badProgram h hn hs hl (firstBadSlot_some j hj hjn hb fun k hk1 => hk k hk1)⟩,
      fun hs => clearProgram_rests h hs, clearProgram_refused h⟩

end Sys2Proof.Proofs
end

section
/-! PROOFS. The resumption of a program at the end of the settling time (R25), a part at rest: the water wait, DRAIN, CIRCULATE,
HEAT and DOSE. -/

/- One theorem at a time, as the tests have it: proofs that wait for the kernel cost a thread each. -/
set_option Elab.async false

namespace Sys2Proof.Proofs

open Sys2Proof.Machine
open Sys2Proof.Safety

/-! ## The expiry of the settling time -/

/-- A program SUSPENDED behind a closed door, its settling time running. -/
structure Settling (s : State) : Prop where
  awake : Awake s
  sound : Sound s
  state : s.seq.state = .suspended
  settling : s.seq.settling.isSome = true
  door : s.ddu.doorOpen = false

namespace Settling

variable {s : State} (h : Settling s)
include h

theorem expires : exec .settlingTimerExpiry s = .next (conclude (resumeProgram s)) := by
  have hp : s.part.powered = true := h.awake.1
  have hx : exec .settlingTimerExpiry s = execSettlingTimerExpiry s := rfl
  simp [hx, execSettlingTimerExpiry, whenPowered, hp, h.state, h.settling, h.door]

theorem fill : s.wpc.fill = none := Laws.sound_fill_none h.sound (by simp [h.state])

theorem dry : waterFlows s = false := waterFlows_suspended h.state

end Settling

/-- The state in which a remembered sub-stage is resumed: the settling time and the memory are gone (R25). -/
def recalled (s : State) : State := onSeq (fun q => { q with settling := none, remembered := .none }) s

theorem resumeProgram_waits {s : State} (h : s.seq.remembered = .waitWater) :
    resumeProgram s = seqTo .waitWater .none (recalled s) := by
  simp only [resumeProgram, h, recalled]

theorem currentWash_recalled (s : State) : currentWash (recalled s) = currentWash s := rfl

theorem resumeProgram_sub {s : State} {b : SubStage} {w : WashRecord} (h : s.seq.remembered = .sub b)
    (hw : currentWash s = some w) : resumeProgram s = resumeSub b w (recalled s) := by
  have hw : currentWash (recalled s) = some w := hw
  simp only [recalled] at hw
  simp only [resumeProgram, h, hw, recalled]

/-! ## A resumption at rest -/

/-- What the water path needs to rest is unchanged, and brine or rinse water does not flow. -/
theorem rests_of_same {s y : State} (h : Rests s) (hf : s.wpc.fill = none) (hs : waterFlows s = false) (hp : y.part = s.part)
    (hr : y.reports = []) (hw : y.wpc = s.wpc) (he : y.rge = s.rge) (hc : y.sfu = s.sfu) (hy : waterFlows y = false)
    (hd : runningIn y .drain = false) : Rests y := by
  obtain ⟨⟨a1, a2, -⟩, -, -, w3, w4, w5, -, w7, w8, w9⟩ := h
  refine ⟨⟨by rw [hp]; exact a1, by rw [hp]; exact a2, hr⟩, by simp [hw, hf], by simp [hw, hf], ?_, fun g hg => ?_, ?_,
    fun _ => hd, ?_, by rw [hw]; exact w8, by rw [hw]; exact w9⟩
  · rw [hw]
    exact fun hx => absurd (w3 hx) (by simp [hs])
  · exact .inr (.inr (.inl hy))
  · rw [he, hc]
    exact w5
  · rw [he, hw]
    exact w7

/-- What a step that ends at rest leaves of the state it has reached. -/
structure Remains (y t : State) : Prop where
  part : t.part = y.part
  cfg : t.cfg = y.cfg
  dsu : t.dsu = y.dsu
  ddu : t.ddu = y.ddu
  sfu : t.sfu = y.sfu
  rge : t.rge = y.rge
  history : t.rst.history = y.rst.history
  seq : t.seq = { y.seq with permit := t.seq.permit }
  pump : t.czs.pump = y.czs.pump
  htc : t.htc = { y.htc with output := t.htc.output }

theorem outputs_keeps (y : State) : (outputs y).sfu = y.sfu ∧ (outputs y).rge = y.rge := ⟨rfl, rfl⟩

theorem remains_of_rests {y : State} (h : Rests y) (hf : y.wpc.fill = none)
    (hx : runningIn y .drain = false ∨ y.seq.extension = none) : Remains y (conclude y) := by
  have hc := concludes_conclude y
  have hd := drifts_of_silent h.1.2.1 hf h.1.2.2 hx hc
  have hs := hd.seq_of_quiet h.1.2.2
  obtain ⟨k1, k2⟩ := outputs_keeps y
  have hsfu : (conclude y).sfu = y.sfu := by rw [Laws.conclude_rests h, Laws.finish_sfu, k1]
  have hrge : (conclude y).rge = y.rge := by rw [Laws.conclude_rests h, Laws.finish_rge, k2]
  exact ⟨hd.part, hd.cfg, hd.dsu, hd.ddu, hsfu, hrge, hd.history, hs, by rw [hd.czs], hd.htc⟩

/-- A running program past its fill and before its drain. -/
def Resumes (b : SubStage) (y : State) : Prop := y.seq.state = .running ∧ y.seq.sub = b ∧ (b = .dose ∨ b = .heat ∨ b = .circulate)

theorem Resumes.dry {b : SubStage} {y : State} (h : Resumes b y) : waterFlows y = false ∧ runningIn y .drain = false := by
  obtain ⟨h1, h2, h3⟩ := h
  rcases h3 with rfl | rfl | rfl <;> simp [waterFlows, permitCondition, runningIn, h1, h2]

/-- What the step that resumes a program from rest leaves, with what the resumption has made of heater, circulation and
dosing in `y`. -/
structure Resumed (s y t : State) : Prop where
  seq : t.seq = { y.seq with permit := false }
  pump : t.czs.pump = y.czs.pump
  request : t.htc.request = y.htc.request
  limitLeft : t.htc.limitLeft = y.htc.limitLeft
  dsu : t.dsu = y.dsu
  rest : t.ddu = s.ddu ∧ t.sfu = s.sfu ∧ t.rge = s.rge ∧ t.rst.history = s.rst.history

/-- Nothing outside sequencer, heater, circulation and dosing has changed. -/
structure Beside (s y : State) : Prop where
  part : y.part = s.part
  wpc : y.wpc = s.wpc
  sfu : y.sfu = s.sfu
  rge : y.rge = s.rge
  ddu : y.ddu = s.ddu
  history : y.rst.history = s.rst.history

namespace Beside

variable {s t u : State}

theorem refl (s : State) : Beside s s := ⟨rfl, rfl, rfl, rfl, rfl, rfl⟩

theorem onSeq (h : Beside s t) (f : Seq → Seq) : Beside s (onSeq f t) := ⟨h.part, h.wpc, h.sfu, h.rge, h.ddu, h.history⟩

theorem bides (h : Beside s t) (k : Bides t u) : Beside s u :=
  ⟨k.part.trans h.part, k.wpc.trans h.wpc, k.sfu.trans h.sfu, k.rge.trans h.rge, k.ddu.trans h.ddu, k.history.trans h.history⟩

theorem resuming (s : State) (st : SeqState) (b : SubStage) : Beside s (seqTo st b (recalled s)) := ((refl s).onSeq _).onSeq _

end Beside

/-- A resumption into DOSE, HEAT or CIRCULATE from rest, heater, circulation and dosing having gone on (R25). -/
theorem resumed_of_beside {s y : State} {b : SubStage} (h : Settling s) (hr : Rests s) (hb : Beside s y) (hn : y.reports = [])
    (hs : Resumes b y) : Resumed s y (conclude y) := by
  obtain ⟨hy1, hy2⟩ := hs.dry
  have hy := rests_of_same hr h.fill h.dry hb.part hn hb.wpc hb.rge hb.sfu hy1 hy2
  have hk := remains_of_rests hy (by rw [hb.wpc]; exact h.fill) (.inl hy2)
  obtain ⟨h1, h2, h3⟩ := hs
  have hp := (concludes_conclude y).settled.permit_of_running (by rw [hk.seq]; exact h1)
    (by rw [hk.seq]; rcases h3 with rfl | rfl | rfl <;> simp [h2]) (by rw [hk.seq]; rcases h3 with rfl | rfl | rfl <;> simp [h2])
  refine ⟨by rw [← hp]; exact hk.seq, hk.pump, by rw [hk.htc], by rw [hk.htc], hk.dsu, hk.ddu.trans hb.ddu,
    hk.sfu.trans hb.sfu, hk.rge.trans hb.rge, hk.history.trans hb.history⟩

/-! ## The sub-stages -/

theorem commandDiverter_pump (z : Zone) (s : State) : (commandDiverter z s).czs.pump = s.czs.pump := by
  unfold commandDiverter
  split <;> rfl

theorem beginSlot_pump (z : Zone) (s : State) : (beginSlot z s).czs.pump = s.czs.pump := by
  unfold beginSlot
  dsimp only
  split
  · rfl
  · rw [commandDiverter_pump]
    rfl

theorem nextSlot_pump (s : State) : (nextSlot s).czs.pump = s.czs.pump := by
  unfold nextSlot
  split
  · rfl
  · split
    · split
      · exact beginSlot_pump _ _
      · rfl
    · exact beginSlot_pump _ _

/-- A run request leaves the pump running (R145). -/
theorem runCirculation_pump (w : WashRecord) (s : State) : (runCirculation w s).czs.pump = true := by
  unfold runCirculation
  split
  · assumption
  · split
    · unfold resumeSlot
      split
      · exact nextSlot_pump (startPump s)
      · rfl
    · rfl

section
variable {s : State} (h : Settling s) (hr : Rests s)
include h

/-- The water wait goes on (R25). -/
theorem wait_resumes (hr : Rests s) (hm : s.seq.remembered = .waitWater) :
    conclude (resumeProgram s) = finish (outputs (onSeq (fun q => { q with
      state := .waitWater, sub := .none, settling := none, remembered := .none }) s)) := by
  have hy : Rests (seqTo .waitWater .none (recalled s)) :=
    rests_of_same hr h.fill h.dry rfl h.awake.2.2 rfl rfl rfl (by simp [waterFlows, permitCondition, seqTo]) rfl
  rw [resumeProgram_waits hm, Laws.conclude_rests hy]
  rfl

/-- The drain is begun anew (R25). -/
theorem drain_resumes (hr : Rests s) {w : WashRecord} (hw : currentWash s = some w) (hm : s.seq.remembered = .sub .drain)
    (he : s.rge.state ≠ .effluentDrain) (hg : s.wpc.regen = none) :
    conclude (resumeProgram s) = finish (outputs { s with
      seq := { s.seq with state := .running, sub := .drain, settling := none, remembered := .none }
      wpc := { s.wpc with seqDrain := some ⟨if s.wpc.sumpEmpty then .runOn 0 else .pumping 0, false⟩ } }) := by
  obtain ⟨⟨a1, a2, a3⟩, -, -, w3, -, w5, -, w7, w8, -⟩ := hr
  have hd : s.wpc.holder = .none := by simp [w8, holderOf, h.fill, hg]
  have hf := h.fill
  have hy : Rests (enterDrain (recalled s)) := by
    refine ⟨⟨a1, a2, a3⟩, ?_, ?_, ?_, ?_, w5, ?_, w7, w8, ?_⟩ <;>
      simp [enterDrain, placeDrain, seqTo, recalled, hf, hg, hd, he]
  rw [resumeProgram_sub hm hw, resumeSub, Laws.conclude_rests hy]
  rfl

/-- CIRCULATE goes on with its hold timer (R25). -/
theorem circulate_resumes (hr : Rests s) {w : WashRecord} (hw : currentWash s = some w) (hm : s.seq.remembered = .sub .circulate) :
    ∃ y, Resumed s y (conclude (resumeProgram s)) ∧ y.dsu = s.dsu ∧ y.czs.pump = true
      ∧ y.seq = { s.seq with state := .running, sub := .circulate, settling := none, remembered := .none }
      ∧ (0 < w.target → s.seq.heaterOff = false → y.htc.request = some ⟨w.target, false⟩) := by
  obtain ⟨u, hu, hu1, hu2, hu3, hu4, hu5⟩ : ∃ u, resumeProgram s = runCirculation w u
      ∧ Beside s u ∧ u.reports = []
      ∧ u.seq = (seqTo .running .circulate (recalled s)).seq ∧ u.dsu = s.dsu
      ∧ (0 < w.target → s.seq.heaterOff = false → u.htc.request = some ⟨w.target, false⟩) := by
    rw [resumeProgram_sub hm hw]
    by_cases hx : 0 < w.target ∧ s.seq.heaterOff = false
    · refine ⟨placeRegulating w.target (seqTo .running .circulate (recalled s)), ?_, (Beside.resuming s _ _).bides ((Bides.refl _).onHtc _), h.awake.2.2, rfl, rfl,
        fun _ _ => rfl⟩
      have hx : 0 < w.target ∧ (seqTo .running .circulate (recalled s)).seq.heaterOff = false := hx
      simp only [resumeSub, resumeCirculate, if_pos hx]
    · refine ⟨seqTo .running .circulate (recalled s), ?_, Beside.resuming s _ _, h.awake.2.2, rfl, rfl, fun h1 h2 => absurd ⟨h1, h2⟩ hx⟩
      have hx : ¬ (0 < w.target ∧ (seqTo .running .circulate (recalled s)).seq.heaterOff = false) := hx
      simp only [resumeSub, resumeCirculate, if_neg hx]
  have hq : (runCirculation w u).seq = (seqTo .running .circulate (recalled s)).seq := by rw [runCirculation_seq, hu3]
  have hy := runCirculation_rest w u
  refine ⟨runCirculation w u, ?_, by rw [hy, hu4], runCirculation_pump w u, by rw [hq]; rfl, by rw [hy]; exact hu5⟩
  rw [hu]
  exact resumed_of_beside h hr (hu1.bides ((Bides.refl u).runCirculation w)) (by rw [runCirculation_reports, hu2])
    (b := .circulate) ⟨by rw [hq]; rfl, by rw [hq]; rfl, by simp⟩

/-- CIRCULATE is entered from the resumption, its hold time before it (R13, R25). -/
theorem enterCirculate_resumes (hr : Rests s) {w : WashRecord} (hh : 0 < w.holdTime) {v : State}
    (hb : Beside s v) (hn : v.reports = []) (hu : resumeProgram s = enterCirculate w v) :
    ∃ y, Resumed s y (conclude (resumeProgram s)) ∧ y.dsu = v.dsu ∧ y.czs.pump = true ∧ y.htc.request = v.htc.request
      ∧ y.seq = { v.seq with state := .running, sub := .circulate, holdTimer := 0 } := by
  obtain ⟨u, he⟩ : ∃ u, onSeq (fun q => { q with holdTimer := 0 }) (seqTo .running .circulate v) = u := ⟨_, rfl⟩
  have hu' : enterCirculate w v = runCirculation w u := by
    unfold enterCirculate
    dsimp only
    rw [if_neg (by omega), he]
  have hy := runCirculation_rest w u
  have hq : (runCirculation w u).seq = { v.seq with state := .running, sub := .circulate, holdTimer := 0 } := by
    rw [runCirculation_seq, ← he]
    rfl
  refine ⟨runCirculation w u, ?_, by rw [hy, ← he]; rfl, runCirculation_pump w u, by rw [hy, ← he]; rfl, hq⟩
  rw [hu, hu']
  have hbu : Beside s u := by
    rw [← he]
    exact (hb.onSeq _).onSeq _
  exact resumed_of_beside h hr (hbu.bides ((Bides.refl u).runCirculation w))
    (by rw [runCirculation_reports, ← he]; exact hn) (b := .circulate) ⟨by rw [hq], by rw [hq], by simp⟩

/-- HEAT is re-evaluated, the heater disabled for the rest of the program: CIRCULATE (R25, R26). -/
theorem heat_disabled_resumes (hr : Rests s) {w : WashRecord} (hw : currentWash s = some w) (hm : s.seq.remembered = .sub .heat)
    (hh : 0 < w.holdTime) (ho : s.seq.heaterOff = true) :
    ∃ y, Resumed s y (conclude (resumeProgram s)) ∧ y.dsu = s.dsu ∧ y.czs.pump = true ∧ y.htc.request = s.htc.request
      ∧ y.seq.state = .running ∧ y.seq.idx = s.seq.idx ∧ y.seq.sub = .circulate := by
  have hu : resumeProgram s = enterCirculate w (recalled s) := by
    have ho : (recalled s).seq.heaterOff = true := ho
    rw [resumeProgram_sub hm hw]
    simp only [resumeSub, resumeHeat, if_pos ho]
  obtain ⟨y, k1, k2, k3, k4, k5⟩ := enterCirculate_resumes h hr hh ((Beside.refl s).onSeq _) h.awake.2.2 hu
  exact ⟨y, k1, k2, k3, k4, by rw [k5], by rw [k5]; rfl, by rw [k5]⟩

/-- HEAT is re-evaluated with the target reached: CIRCULATE, the heater regulating (R25). -/
theorem heat_reached_resumes (hr : Rests s) {w : WashRecord} (hw : currentWash s = some w) (hm : s.seq.remembered = .sub .heat)
    (hh : 0 < w.holdTime) (ho : s.seq.heaterOff = false) (ht : atTarget s w.target = true) :
    ∃ y, Resumed s y (conclude (resumeProgram s)) ∧ y.dsu = s.dsu ∧ y.czs.pump = true
      ∧ y.htc.request = some ⟨w.target, false⟩ ∧ y.seq.state = .running ∧ y.seq.idx = s.seq.idx ∧ y.seq.sub = .circulate := by
  have hu : resumeProgram s = enterCirculate w (placeRegulating w.target (recalled s)) := by
    have ho : ¬ (recalled s).seq.heaterOff = true := by simp [recalled, ho]
    have ht : atTarget (recalled s) w.target = true := ht
    rw [resumeProgram_sub hm hw]
    simp only [resumeSub, resumeHeat, if_neg ho, if_pos ht]
  have hb : Beside s (placeRegulating w.target (recalled s)) := ((Beside.refl s).onSeq _).bides ((Bides.refl _).onHtc _)
  obtain ⟨y, k1, k2, k3, k4, k5⟩ := enterCirculate_resumes h hr hh hb h.awake.2.2 hu
  exact ⟨y, k1, k2, k3, k4, by rw [k5], by rw [k5]; rfl, by rw [k5]⟩

omit h in
theorem placeHeating_waits {n l : Nat} {u : State} (h1 : u.htc.valid = true) (h2 : atTarget u n = false) (h3 : 0 < l) :
    placeHeating n l u = onHtc (fun h => { h with
      request := some ⟨n, true⟩, limitLeft := l, demand := belowTarget u n }) u := by
  have h2 : ∀ f : Htc → Htc, (f u.htc).temp = u.htc.temp → atTarget (onHtc f u) n = false := fun f hf => by
    simpa [atTarget, hf] using h2
  unfold placeHeating
  dsimp only
  rw [if_neg (by simp [h1]), if_neg (by rw [h2 _ rfl]; simp), if_neg (by omega)]

/-- HEAT is re-evaluated below its target: it goes on with the rest of its limit (R25). -/
theorem heat_goes_on (hr : Rests s) {w : WashRecord} (hw : currentWash s = some w) (hm : s.seq.remembered = .sub .heat)
    (ho : s.seq.heaterOff = false) (ht : atTarget s w.target = false) (hv : s.htc.valid = true) (hl : 0 < s.seq.heatLeft) :
    ∃ y, Resumed s y (conclude (resumeProgram s)) ∧ y.dsu = s.dsu ∧ y.czs.pump = true
      ∧ y.htc.request = some ⟨w.target, true⟩ ∧ y.htc.limitLeft = s.seq.heatLeft ∧ y.seq.state = .running
      ∧ y.seq.idx = s.seq.idx ∧ y.seq.sub = .heat := by
  obtain ⟨u, he⟩ : ∃ u, runCirculation w (seqTo .running .heat (recalled s)) = u := ⟨_, rfl⟩
  have hur := runCirculation_rest w (seqTo .running .heat (recalled s))
  have hpump := runCirculation_pump w (seqTo .running .heat (recalled s))
  have hbu : Beside s u := by
    rw [← he]
    exact (Beside.resuming s _ _).bides ((Bides.refl _).runCirculation w)
  rw [he] at hur hpump
  have hu : resumeProgram s = placeHeating w.target s.seq.heatLeft u := by
    have ho : ¬ (recalled s).seq.heaterOff = true := by simp [recalled, ho]
    have ht : ¬ atTarget (recalled s) w.target = true := by
      rw [show atTarget (recalled s) w.target = atTarget s w.target from rfl, ht]
      simp
    rw [resumeProgram_sub hm hw]
    simp only [resumeSub, resumeHeat, if_neg ho, if_neg ht, he]
    rfl
  have hx : placeHeating w.target s.seq.heatLeft u = onHtc (fun h => { h with
      request := some ⟨w.target, true⟩, limitLeft := s.seq.heatLeft, demand := belowTarget u w.target }) u := by
    refine placeHeating_waits (by rw [hur]; exact hv) ?_ hl
    rw [hur]
    exact ht
  have hb : Beside s (placeHeating w.target s.seq.heatLeft u) := hbu.bides ((Bides.refl u).placeHeating _ _)
  obtain ⟨y, hy⟩ : ∃ y, placeHeating w.target s.seq.heatLeft u = y := ⟨_, rfl⟩
  rw [hy] at hx hu hb
  have hq : y.seq = (seqTo .running .heat (recalled s)).seq := by
    rw [hx, Laws.onHtc_seq, hur]
  refine ⟨y, ?_, by rw [hx, Laws.onHtc_dsu, hur]; rfl, by rw [hx]; exact hpump, by rw [hx]; rfl, by rw [hx]; rfl, by rw [hq]; rfl,
    by rw [hq]; rfl, by rw [hq]; rfl⟩
  rw [hu]
  refine resumed_of_beside h hr hb ?_ (b := .heat) ⟨by rw [hq]; rfl, by rw [hq]; rfl, by simp⟩
  rw [hx, Laws.onHtc_reports, hur]
  exact h.awake.2.2

end

end Sys2Proof.Proofs
end

section
/-! PROOFS. DOSE resumed at the end of the settling time (R25, R127): the paused service goes on, or what follows DOSE begins. -/

/- One theorem at a time, as the tests have it: proofs that wait for the kernel cost a thread each. -/
set_option Elab.async false

namespace Sys2Proof.Proofs

open Sys2Proof.Machine
open Sys2Proof.Safety

/-- The service goes on with the request at the head, which is ACTIVE: a move to its channel, or a stroke where the selector
stands on it with enough in its reservoir (R118 to R120). -/
theorem serveOn_active {u : State} {r : DoseReq} {l : List DoseReq} {p : Channel} (h1 : u.dsu.stroke = none)
    (h2 : u.dsu.move = none) (hb : u.dsu.batch = r :: l) (hr : r.state = .active) (hp : u.dsu.pause = false)
    (hs : u.dsu.selector = some p) (hc : p ≠ r.channel ∨ r.strokeVolume ≤ (reservoirOf u.dsu p).level) :
    serveOn u = onDsu (fun d => { d with
      state := .serving
      move := if p = r.channel then none else some ⟨false, r.channel, 0⟩
      stroke := if p = r.channel then some 0 else none
      batch := (if p = r.channel then { r with commanded := r.commanded + 1 } else r) :: l }) u := by
  obtain ⟨ch, og, vol, tgt, sv, arr, st, com, conf, mis, cfs, can⟩ := r
  obtain rfl : st = .active := hr
  show serve (15 + 1) u = _
  rw [serve.eq_def]
  simp only [h1, h2, Option.isSome_none, Bool.or_self, Bool.false_eq_true, if_false, hb, hp, putHead, Laws.onDsu_dsu, hs,
    List.tail_cons]
  by_cases hx : p = ch
  · subst hx
    have hl : ¬ (reservoirOf u.dsu p).level < sv := by simpa using hc
    have hres : ∀ d : Dsu, d.r1 = u.dsu.r1 → d.r2 = u.dsu.r2 → d.r3 = u.dsu.r3 → reservoirOf d p = reservoirOf u.dsu p :=
      fun d e1 e2 e3 => by simp only [reservoirOf, e1, e2, e3]
    rw [if_neg (by simp), if_neg]
    · simp only [onDsu, if_true, h2, hb, List.tail_cons]
    · rw [hres] <;> first | exact hl | rfl
  · rw [if_pos hx]
    simp only [onDsu, moveSelector, if_neg hx, h1, hb, List.tail_cons]

section
variable {s : State} (h : Settling s) {w : WashRecord} (hw : currentWash s = some w)
  (hm : s.seq.remembered = .sub .dose)
include h hw hm

/-- What the resumption of DOSE has made of circulation and dosing, before what may follow it. -/
theorem dose_recalled : ∃ u, Beside s u ∧ u.reports = [] ∧ u.czs.pump = true ∧ u.htc = s.htc ∧ u.dsu = s.dsu
    ∧ u.seq = { s.seq with state := .running, sub := .dose, settling := none, remembered := .none }
    ∧ resumeProgram s = if (resumeDosing u).seq.placed.isEmpty then enterHeat w (resumeDosing u) else resumeDosing u := by
  have hu := runCirculation_rest w (seqTo .running .dose (recalled s))
  refine ⟨runCirculation w (seqTo .running .dose (recalled s)), (Beside.resuming s _ _).bides ((Bides.refl _).runCirculation w), ?_,
    runCirculation_pump w _, by rw [hu]; rfl, by rw [hu]; rfl, by rw [hu]; rfl, ?_⟩
  · rw [runCirculation_reports]
    exact h.awake.2.2
  · rw [resumeProgram_sub hm hw]
    rfl

/-- DOSE goes on with what the service makes of the queue (R125). -/
theorem dose_goes_on (hr : Rests s) (f : Dsu → Dsu) (hv : ∀ u, u.dsu = s.dsu → resumeDosing u = onDsu f u)
    (hp : s.seq.placed ≠ []) :
    ∃ y, Resumed s y (conclude (resumeProgram s)) ∧ y.dsu = f s.dsu ∧ y.czs.pump = true
      ∧ y.seq = { s.seq with state := .running, sub := .dose, settling := none, remembered := .none } := by
  obtain ⟨u, u1, u2, u3, -, u5, u6, u7⟩ := dose_recalled h hw hm
  rw [hv u u5] at u7
  have hn : (onDsu f u).seq.placed.isEmpty = false := by
    rw [Laws.onDsu_seq, u6]
    simpa using hp
  rw [hn, if_neg (by simp)] at u7
  refine ⟨onDsu f u, ?_, by rw [Laws.onDsu_dsu, u5], u3, u6⟩
  rw [u7]
  exact resumed_of_beside h hr (u1.bides ((Bides.refl u).onDsu f)) u2 (b := .dose)
    ⟨by rw [Laws.onDsu_seq, u6], by rw [Laws.onDsu_seq, u6], by simp⟩

omit h hw hm in
theorem resumeDosing_unpaused {u : State} (hu : u.dsu = s.dsu) (hs : s.dsu.state ≠ .paused) :
    resumeDosing u = onDsu (fun d => { d with pause := false }) u := by
  have hx : (onDsu (fun d => { d with pause := false }) u).dsu.state ≠ .paused := by rw [← hu] at hs; exact hs
  unfold resumeDosing
  dsimp only
  rw [if_neg (by simpa using hx)]

theorem dose_unpaused (hr : Rests s) (hp : s.seq.placed ≠ []) (hs : s.dsu.state ≠ .paused) :
    ∃ y, Resumed s y (conclude (resumeProgram s)) ∧ y.dsu = { s.dsu with pause := false } ∧ y.czs.pump = true
      ∧ y.seq = { s.seq with state := .running, sub := .dose, settling := none, remembered := .none } :=
  dose_goes_on h hw hm hr (fun d => { d with pause := false }) (fun _ hu => resumeDosing_unpaused hu hs) hp

/-- The paused service goes on with the request that was ACTIVE (R125). -/
theorem dose_paused (hr : Rests s) (hp : s.seq.placed ≠ []) (hs : s.dsu.state = .paused) (h1 : s.dsu.stroke = none)
    (h2 : s.dsu.move = none) {r : DoseReq} (hb : s.dsu.batch.head? = some r) (ha : r.state = .active) {p : Channel}
    (hsel : s.dsu.selector = some p) (hc : p ≠ r.channel ∨ r.strokeVolume ≤ (reservoirOf s.dsu p).level) :
    ∃ y, Resumed s y (conclude (resumeProgram s))
      ∧ y.dsu = { s.dsu with
          pause := false, state := .serving
          move := if p = r.channel then none else some ⟨false, r.channel, 0⟩
          stroke := if p = r.channel then some 0 else none
          batch := (if p = r.channel then { r with commanded := r.commanded + 1 } else r) :: s.dsu.batch.tail }
      ∧ y.czs.pump = true
      ∧ y.seq = { s.seq with state := .running, sub := .dose, settling := none, remembered := .none } := by
  refine dose_goes_on h hw hm hr (fun d => { d with
    pause := false, state := .serving
    move := if p = r.channel then none else some ⟨false, r.channel, 0⟩
    stroke := if p = r.channel then some 0 else none
    batch := (if p = r.channel then { r with commanded := r.commanded + 1 } else r) :: s.dsu.batch.tail }) (fun u hu => ?_) hp
  have hbt : s.dsu.batch = r :: s.dsu.batch.tail := by
    cases hx : s.dsu.batch with
    | nil => simp [hx] at hb
    | cons a l =>
      obtain rfl : a = r := by simpa [hx] using hb
      rfl
  have hres : (reservoirOf (onDsu (fun d => { d with pause := false }) u).dsu p) = reservoirOf s.dsu p := by
    rw [← hu]
    cases p <;> rfl
  rw [← hu] at hs h1 h2 hbt hsel hc ⊢
  have hx : (onDsu (fun d => { d with pause := false }) u).dsu.state = .paused := hs
  unfold resumeDosing
  dsimp only
  rw [if_pos (by simpa using hx),
    serveOn_active (u := onDsu (fun d => { d with pause := false }) u) h1 h2 hbt ha rfl hsel (by rw [hres, ← hu]; exact hc)]
  rfl

/-- With nothing left to dose and no heating, CIRCULATE follows (R13, R127). -/
theorem dose_over (hr : Rests s) (hp : s.seq.placed = []) (hs : s.dsu.state ≠ .paused) (hh : 0 < w.holdTime)
    (ht : w.target = 0 ∨ s.seq.heaterOff = true) :
    ∃ y, Resumed s y (conclude (resumeProgram s)) ∧ y.dsu = { s.dsu with pause := false } ∧ y.czs.pump = true
      ∧ y.seq = { s.seq with state := .running, sub := .circulate, holdTimer := 0, settling := none, remembered := .none } := by
  obtain ⟨u, u1, u2, -, -, u5, u6, u7⟩ := dose_recalled h hw hm
  rw [resumeDosing_unpaused u5 hs] at u7
  obtain ⟨v, hv⟩ : ∃ v, onDsu (fun d => { d with pause := false }) u = v := ⟨_, rfl⟩
  have hvq : v.seq = u.seq := by rw [← hv]; rfl
  rw [hv, if_pos (by simp [hvq, u6, hp])] at u7
  have hx : enterHeat w v = enterCirculate w v := by
    have hn : ¬ (0 < w.target ∧ v.seq.heaterOff = false) := by
      rw [hvq, u6]
      rintro ⟨n1, n2⟩
      rcases ht with ht | ht
      · omega
      · exact Bool.noConfusion (ht.symm.trans n2)
    rw [enterHeat, if_neg hn]
  rw [hx] at u7
  obtain ⟨y, k1, k2, k3, -, k5⟩ := enterCirculate_resumes h hr hh (by rw [← hv]; exact u1.bides ((Bides.refl u).onDsu _))
    (by rw [← hv]; exact u2) u7
  exact ⟨y, k1, by rw [k2, ← hv, Laws.onDsu_dsu, u5], k3, by rw [k5, hvq, u6]⟩

end

end Sys2Proof.Proofs
end

section
/-! PROOFS. FILL resumed at the end of the settling time (R25): the rest of the fill asked, or the whole of one not yet begun. -/

/- One theorem at a time, as the tests have it: proofs that wait for the kernel cost a thread each. -/
set_option Elab.async false

namespace Sys2Proof.Proofs

open Sys2Proof.Machine
open Sys2Proof.Safety

/-! ## What a fill asked leaves of columns and heater -/

theorem unqueued_granted {q : FillReq} {o : State} (h : Unqueued o) : Unqueued (granted q o) := by
  obtain ⟨-, -, -, -, y5, y6⟩ := revokeRegen_yields o
  intro hi
  have hs : (granted q o).sfu = o.sfu := y5
  rw [hs]
  exact h (y6 hi)

theorem FillGranted.keeps {n : Nat} {w : WashRecord} {o t : State} (h : FillGranted n o t) (ha : Asks w o) (hu : Unqueued o) :
    t.sfu = o.sfu ∧ t.htc.request = o.htc.request := by
  have hw := granted_wets ⟨n, .main, false⟩ o
  obtain ⟨-, -, -, -, y5, -⟩ := revokeRegen_yields o
  have hs : (granted ⟨n, .main, false⟩ o).sfu = o.sfu := y5
  obtain ⟨k, -⟩ := h.drifts.columns (by rw [hw.runningIn, ha.not_drain]) (unqueued_granted hu)
  exact ⟨k.trans hs, by rw [h.drifts.htc, hw.htc]⟩

theorem FillWaits.keeps {n : Nat} {w : WashRecord} {o t : State} (h : FillWaits n o t) (ha : Asks w o) (hu : Unqueued o) :
    t.sfu = o.sfu := (h.drifts.columns ha.not_drain hu).1

theorem openFill_closed {s : State} (h : s.sfu.fill.isOpen = false) : (openFill s).sfu.regenQ = s.sfu.regenQ
    ∧ (openFill s).sfu.valveFault = s.sfu.valveFault ∧ (openFill s).sfu.service = s.sfu.service := by
  unfold openFill
  rw [closeFill_closed h]
  exact ⟨rfl, rfl, rfl⟩

/-! ## The resumption into FILL -/

/-- The state from which a suspended fill is asked again. -/
def refilling (s : State) : State := seqTo .running .fill (recalled s)

section
variable {s : State} {w : WashRecord} (hw : currentWash s = some w) (hm : s.seq.remembered = .sub .fill)
include hw hm

theorem fill_continues (hb : s.seq.fillBegun = true) :
    resumeProgram s = placeFill (w.fillVolume - s.sfu.fill.v) .main (refilling s) := by
  have hb : (refilling s).seq.fillBegun = true := hb
  rw [resumeProgram_sub hm hw]
  show (if (refilling s).seq.fillBegun then continueFill w (refilling s) else beginFill w (refilling s)) = _
  rw [if_pos hb]
  rfl

theorem fill_begins (hb : s.seq.fillBegun = false) : resumeProgram s = beginFill w (refilling s) := by
  have hb : (refilling s).seq.fillBegun = false := hb
  rw [resumeProgram_sub hm hw]
  show (if (refilling s).seq.fillBegun then continueFill w (refilling s) else beginFill w (refilling s)) = _
  rw [if_neg (by simp [hb])]

omit hm in
theorem asks_refilling (h : Settling s) : Asks w (refilling s) := by
  have hf : s.wpc.fill = none := h.fill
  exact ⟨h.awake.2.1, h.awake.2.2, rfl, hw, hf⟩

omit hw hm in
theorem grantsAgree_refilling (h : Settling s) : GrantsAgree (refilling s) :=
  grantsAgree_congr (s := s) rfl rfl (Laws.sound_grantsAgree h.sound)

end

/-- What the resumption into FILL leaves, whatever becomes of the fill. -/
structure Refilled (s t : State) : Prop where
  seq : t.seq.idx = s.seq.idx ∧ t.seq.settling = none ∧ t.seq.remembered = .none ∧ t.seq.table = s.seq.table
    ∧ t.seq.count = s.seq.count
  rest : t.rst.history = s.rst.history ∧ t.part = s.part ∧ t.cfg = s.cfg ∧ t.ddu = s.ddu

theorem refilled_of_goes {s t : State} (h : Goes (refilling s) t) : Refilled s t :=
  ⟨⟨h.idx, h.settling rfl, h.remembered rfl, by rw [h.seq]; rfl, by rw [h.seq]; rfl⟩, ⟨h.history, h.part, h.cfg, h.ddu⟩⟩

/-- The rest of a fill, granted with its record and its timeout count kept. -/
def RestGranted (w : WashRecord) (s t : State) : Prop :=
  t.seq.state = .running ∧ t.seq.sub = .fill ∧ t.wpc.fill = some ⟨w.fillVolume - s.sfu.fill.v, .main, true⟩
    ∧ t.wpc.holder = .fill ∧ t.wpc.inletValve = true ∧ t.wpc.brineValve = false ∧ t.wpc.grantCount = 0
    ∧ t.wpc.residue = 0 ∧ t.wpc.latchedK = s.cfg.k ∧ t.wpc.fillTimer = some 0 ∧ t.sfu = s.sfu
    ∧ t.seq.fillTimeouts = s.seq.fillTimeouts

/-- The rest of a fill, waiting behind a drain burst. -/
def RestWaits (w : WashRecord) (s t : State) : Prop :=
  t.seq.state = .running ∧ t.seq.sub = .fill ∧ t.wpc.fill = some ⟨w.fillVolume - s.sfu.fill.v, .main, false⟩
    ∧ t.wpc.holder = .none ∧ t.wpc.inletValve = false ∧ t.wpc.burst = s.wpc.burst ∧ t.sfu = s.sfu
    ∧ t.seq.fillTimeouts = s.seq.fillTimeouts

/-- The rest of a fill, over at once under the high level. -/
def RestOver (s t : State) : Prop :=
  t.seq.state = .running ∧ (t.seq.sub = .dose ∨ t.seq.sub = .heat ∨ t.seq.sub = .circulate)
    ∧ t.wpc.fill = none ∧ t.wpc.holder = .none ∧ t.wpc.inletValve = false
    ∧ t.sfu.fill = { s.sfu.fill with
        isOpen := false
        hFill := if s.sfu.fill.v = 0 then s.sfu.hRaw
          else (s.sfu.fill.g + 500 * s.sfu.fill.v) / (1000 * s.sfu.fill.v) }

/-- The rest of a fill, refused. -/
def RestRefused (s t : State) : Prop :=
  t.seq.state = .faulted ∧ t.seq.sub = .none ∧ t.seq.fault = some (s.seq.fault.getD .flood)
    ∧ t.seq.summary.outcome = .faulted ∧ t.wpc.fill = none ∧ t.wpc.holder = .none ∧ t.wpc.inletValve = false
    ∧ t.sfu.fill.isOpen = false

section
variable {s : State} (h : Settling s) {w : WashRecord} (hw : currentWash s = some w)
include h hw

theorem rest_granted {t : State} (hu : Unqueued s) (hi : s.wpc.inhibit = false) (hb : s.wpc.burst = none) (hl : s.wpc.highLevel = false)
    (hc : Concludes (placeFill (w.fillVolume - s.sfu.fill.v) .main (refilling s)) t) :
    RestGranted w s t ∧ Refilled s t ∧ (s.rge.state ≠ .idle → EngineGivesWay s t) ∧ t.dsu = s.dsu
      ∧ t.htc.request = s.htc.request := by
  have ha := asks_refilling hw h
  obtain ⟨k, kg, ke⟩ := fill_granted ha hi hb hl hc
  obtain ⟨k1, k2⟩ := k.keeps ha hu
  obtain ⟨w1, w2, w3, w4, w5, w6, w7, w8⟩ := k.wpc
  exact ⟨⟨by rw [k.seq]; rfl, by rw [k.seq]; rfl, w1, w2, w3, w4, w5, w6, w7, w8, k1, by rw [k.seq]; rfl⟩, refilled_of_goes kg,
    ke (grantsAgree_refilling h), k.dsu, k2⟩

theorem rest_waits {t : State} (hu : Unqueued s) (hi : s.wpc.inhibit = false) (hb : s.wpc.burst.isSome = true)
    (hc : Concludes (placeFill (w.fillVolume - s.sfu.fill.v) .main (refilling s)) t) :
    RestWaits w s t ∧ Refilled s t ∧ (s.rge.state ≠ .idle → EngineGivesWay s t) := by
  have ha := asks_refilling hw h
  obtain ⟨k, kg, ke⟩ := fill_waits ha (grantsAgree_refilling h) hi hb hc
  obtain ⟨w1, w2, w3⟩ := k.wpc
  exact ⟨⟨by rw [k.seq]; rfl, by rw [k.seq]; rfl, w1, w2, w3, kg.burst, k.keeps ha hu, by rw [k.seq]; rfl⟩, refilled_of_goes kg, ke⟩

theorem rest_over {t : State} (hi : s.wpc.inhibit = false) (hb : s.wpc.burst = none) (hl : s.wpc.highLevel = true)
    (hh : 0 < w.holdTime) (hc : Concludes (placeFill (w.fillVolume - s.sfu.fill.v) .main (refilling s)) t) :
    (s.sfu.fill.isOpen = true → RestOver s t) ∧ Refilled s t ∧ (s.rge.state ≠ .idle → EngineGivesWay s t) := by
  obtain ⟨k, kg, ke⟩ := fill_over (asks_refilling hw h) (grantsAgree_refilling h) hi hb hl hh hc
  refine ⟨fun ho => ⟨k.running, k.sub, k.fill, k.holder, k.inlet, ?_⟩, refilled_of_goes kg, ke⟩
  have ho : (refilling s).sfu.fill.isOpen = true := ho
  have hr := k.record
  rw [closedRecord, if_pos ho] at hr
  exact hr

theorem rest_refused {t : State} (hi : s.wpc.inhibit = true)
    (hc : Concludes (placeFill (w.fillVolume - s.sfu.fill.v) .main (refilling s)) t) :
    RestRefused s t ∧ Refilled s t ∧ (s.rge.state ≠ .idle → EngineGivesWay s t) := by
  obtain ⟨k, kg, ke⟩ := fill_refused (asks_refilling hw h) (grantsAgree_refilling h) hi hc
  obtain ⟨k1, k2⟩ := k.state
  obtain ⟨k3, k4, k5⟩ := k.wpc
  exact ⟨⟨k1, k2, k.fault, k.outcome, k3, k4, k5, k.closed⟩, refilled_of_goes kg, ke⟩

/-- The rest of the fill has been asked, however the inlet stands (R25, R38, R41, R49). -/
theorem rest_asked {t : State} (hu : Unqueued s) (hh : s.wpc.inhibit = true ∨ s.wpc.highLevel = false ∨ 0 < w.holdTime)
    (hc : Concludes (placeFill (w.fillVolume - s.sfu.fill.v) .main (refilling s)) t) :
    Refilled s t ∧ (s.rge.state ≠ .idle → EngineGivesWay s t)
      ∧ (s.wpc.inhibit = false → s.wpc.burst = none → s.wpc.highLevel = false → RestGranted w s t)
      ∧ (s.wpc.inhibit = false → s.wpc.burst.isSome = true → RestWaits w s t)
      ∧ (s.wpc.inhibit = false → s.wpc.burst = none → s.wpc.highLevel = true → s.sfu.fill.isOpen = true → RestOver s t)
      ∧ (s.wpc.inhibit = true → RestRefused s t) := by
  cases hi : s.wpc.inhibit with
  | true =>
    obtain ⟨k1, k2, k3⟩ := rest_refused h hw hi hc
    exact ⟨k2, k3, nofun, nofun, nofun, fun _ => k1⟩
  | false =>
    cases hb : s.wpc.burst with
    | some b =>
      obtain ⟨k1, k2, k3⟩ := rest_waits h hw hu hi (by rw [hb]; rfl) hc
      exact ⟨k2, k3, nofun, fun _ _ => k1, nofun, nofun⟩
    | none =>
      cases hl : s.wpc.highLevel with
      | true =>
        have hh : 0 < w.holdTime := by simpa [hi, hl] using hh
        obtain ⟨k1, k2, k3⟩ := rest_over h hw hi hb hl hh hc
        exact ⟨k2, k3, nofun, nofun, fun _ _ _ => k1, nofun⟩
      | false =>
        obtain ⟨k1, k2, k3, -⟩ := rest_granted h hw hu hi hb hl hc
        exact ⟨k2, k3, fun _ _ _ => k1, nofun, nofun, nofun⟩

/-- A fill not yet begun has been granted, its record before closed (R9, R25). -/
theorem first_granted {t : State} (hu : Unqueued s) (hi : s.wpc.inhibit = false) (hb : s.wpc.burst = none) (hl : s.wpc.highLevel = false)
    (ho : s.sfu.fill.isOpen = false) (hc : Concludes (beginFill w (refilling s)) t) :
    MainFillGranted w s t ∧ Refilled s t ∧ t.dsu = s.dsu ∧ t.sfu.service = s.sfu.service
      ∧ t.seq = { s.seq with
          state := .running, sub := .fill, settling := none, remembered := .none, fillBegun := true, permit := false } := by
  have ha := asks_refilling hw h
  obtain ⟨k1, k2, k3, k4, -⟩ := beginFill_granted ha hi hb hl hc
  refine ⟨k1, refilled_of_goes k2, k3, ?_, k4⟩
  have hx := opened_opened (refilling s)
  obtain ⟨o1, o2, o3⟩ := openFill_closed (s := onSeq (fun q => { q with fillBegun := true }) (refilling s)) ho
  rw [beginFill_eq] at hc
  obtain ⟨k, -⟩ := fill_granted ha.opened (by rw [hx.wpc]; exact hi) (by rw [hx.wpc]; exact hb) (by rw [hx.wpc]; exact hl) hc
  have huo : Unqueued (opened (refilling s)) := fun hidle => by
    rw [hx.rge] at hidle
    exact (hu hidle).imp o1.trans o2.trans
  obtain ⟨k5, -⟩ := k.keeps ha.opened huo
  rw [k5]
  exact o3

end

end Sys2Proof.Proofs
end

section
/-! PROOFS. HEAT resumed when it is over and no hold time follows (R25, R13, R18), and the resumptions settled (O28). -/

/- One theorem at a time, as the tests have it: proofs that wait for the kernel cost a thread each. -/
set_option Elab.async false

namespace Sys2Proof.Proofs

open Sys2Proof.Machine
open Sys2Proof.Safety

/-! ## The end of CIRCULATE -/

/-- The state in which CIRCULATE has ended: heat and circulation gone, the soil sampled where the record asks it (R13, R14). -/
def circulated (w : WashRecord) (x : State) : State :=
  let u := stopCirculation (withdrawHeat x)
  if w.sample then onSeq (fun q => { q with soil := soilOf (transmission u.pins.turbidity) }) u else u

theorem endCirculate_eq {w : WashRecord} {x : State} (hf : x.wpc.fill = none) :
    endCirculate w x = if w.drain then enterDrain (circulated w x) else endPhase (circulated w x) := by
  have hx : withdrawFill (withdrawHeat x) = withdrawHeat x := by
    have hw : (withdrawHeat x).wpc = x.wpc := (Bides.refl x).withdrawHeat.wpc
    simp only [withdrawFill, hw, hf]
  unfold endCirculate
  dsimp only
  rw [hx]
  rfl

theorem withdrawHeat_rest (x : State) : withdrawHeat x = { x with
    seq := { x.seq with heatLeft := (withdrawHeat x).seq.heatLeft }, htc := (withdrawHeat x).htc }
    ∧ (withdrawHeat x).htc.request = none := by
  unfold withdrawHeat
  split
  · next h => exact ⟨rfl, h⟩
  · exact ⟨rfl, rfl⟩

theorem stopCirculation_rest (x : State) : stopCirculation x = { x with
    ties := (stopCirculation x).ties, czs := (stopCirculation x).czs } ∧ (stopCirculation x).czs.pump = false := by
  unfold stopCirculation
  split
  · exact ⟨rfl, rfl⟩
  · next h => exact ⟨rfl, by simpa using h⟩

theorem circulated_rest (w : WashRecord) (x : State) : circulated w x = { x with
    seq := { x.seq with heatLeft := (circulated w x).seq.heatLeft, soil := (circulated w x).seq.soil }
    htc := (circulated w x).htc, ties := (circulated w x).ties, czs := (circulated w x).czs }
    ∧ (circulated w x).htc.request = none ∧ (circulated w x).czs.pump = false := by
  obtain ⟨h1, h2⟩ := withdrawHeat_rest x
  obtain ⟨h3, h4⟩ := stopCirculation_rest (withdrawHeat x)
  obtain ⟨u, hu⟩ : ∃ u, stopCirculation (withdrawHeat x) = u := ⟨_, rfl⟩
  have h5 : u.htc.request = none := by rw [← hu, h3]; exact h2
  rw [hu] at h3 h4
  have h6 : u = { x with
      seq := { x.seq with heatLeft := u.seq.heatLeft }, htc := u.htc, ties := u.ties, czs := u.czs } := by
    rw [h1] at h3
    rw [h3]
  unfold circulated
  dsimp only
  rw [hu]
  split
  · exact ⟨by rw [h6]; rfl, h5, h4⟩
  · exact ⟨by rw [h6], h5, h4⟩

/-! ## HEAT over, no hold time -/

section
variable {s : State} (h : Settling s) {w : WashRecord} (hw : currentWash s = some w) (hm : s.seq.remembered = .sub .heat)
  (hh : w.holdTime = 0) (ho : s.seq.heaterOff = true ∨ ∃ temp, s.htc.temp = some temp ∧ w.target ≤ temp)

/-- The state in which CIRCULATE ends as it is entered from the resumption. -/
def passedBy (v : State) : State := onSeq (fun q => { q with holdTimer := 0 }) (seqTo .running .circulate v)

include hm hw hh ho in
theorem heat_passes : ∃ v, v = { recalled s with htc := v.htc }
    ∧ resumeProgram s = endCirculate w (passedBy v) := by
  have hx : ∀ v, enterCirculate w v = endCirculate w (passedBy v) := fun v => by
    unfold enterCirculate
    dsimp only
    rw [if_pos hh]
    rfl
  rw [resumeProgram_sub hm hw]
  by_cases hoff : s.seq.heaterOff = true
  · have hoff : (recalled s).seq.heaterOff = true := hoff
    refine ⟨recalled s, rfl, ?_⟩
    simp only [resumeSub, resumeHeat, if_pos hoff]
    exact hx _
  · obtain ⟨temp, h1, h2⟩ := ho.resolve_left hoff
    have hat : atTarget (recalled s) w.target = true := by
      have h1 : (recalled s).htc.temp = some temp := h1
      simp [atTarget, h1, h2]
    have hoff : ¬ (recalled s).seq.heaterOff = true := hoff
    refine ⟨placeRegulating w.target (recalled s), rfl, ?_⟩
    simp only [resumeSub, resumeHeat, if_neg hoff, if_pos hat]
    exact hx _

include h hm hw hh ho

/-- What the resumption has made of the state as CIRCULATE ends. -/
theorem heat_ends : ∃ z, resumeProgram s = (if w.drain then enterDrain z else endPhase z)
    ∧ AtBoundary s z ∧ z.wpc = s.wpc ∧ z.rge = s.rge ∧ z.htc.request = none ∧ z.czs.pump = false
    ∧ z.seq.extension = none := by
  obtain ⟨v, hv, hx⟩ := heat_passes hw hm hh ho
  have hsv : passedBy v = { s with
      seq := { s.seq with state := .running, sub := .circulate, settling := none, remembered := .none, holdTimer := 0 }
      htc := v.htc } := by
    rw [hv]
    rfl
  obtain ⟨h1, h2, h3⟩ := circulated_rest w (passedBy v)
  have hf : (passedBy v).wpc.fill = none := by rw [hsv]; exact h.fill
  rw [endCirculate_eq hf] at hx
  obtain ⟨z, hz⟩ : ∃ z, circulated w (passedBy v) = z := ⟨_, rfl⟩
  rw [hz] at hx h1 h2 h3
  rw [hsv] at h1
  have hr := h.awake.2.1
  have hext : s.seq.extension = none := Laws.sound_extension_none h.sound (by simp [runningIn, h.state])
  have hfs := h.fill
  have hho : s.part.homings = {} := Laws.sound_homings h.sound (by rw [hr]; exact nofun)
  obtain ⟨haw, -⟩ := Laws.sound_not_awaited h.sound (by simp [runningIn, h.state])
  have hb : AtBoundary s z := by
    rw [h1]
    exact ⟨⟨hr, h.awake.2.2, hfs⟩, hho, haw, rfl, rfl, rfl, rfl, ⟨rfl, rfl, rfl⟩,
      ⟨rfl, rfl, rfl, rfl, rfl, rfl⟩⟩
  refine ⟨z, hx, hb, ?_, ?_, h2, h3, ?_⟩
  · rw [h1]
  · rw [h1]
  · rw [h1]
    exact hext

theorem heat_to_drain (hd : w.drain = true) : ∃ t, conclude (resumeProgram s) = t
    ∧ t.htc.request = none ∧ t.cfg = s.cfg ∧ t.part = s.part ∧ t.seq.state = .running ∧ t.seq.sub = .drain ∧ t.seq.idx = s.seq.idx
    ∧ t.seq.table = s.seq.table ∧ t.czs.pump = false
    ∧ t.wpc.seqDrain = some ⟨if s.wpc.sumpEmpty then .runOn 0 else .pumping 0, false⟩ := by
  obtain ⟨z, hz, hb, z2, -, z4, z5, z6⟩ := heat_ends h hw hm hh ho
  rw [hd, if_pos rfl] at hz
  obtain ⟨p1, -, p3, -⟩ := hb.program
  have hk := drifts_of_silent (y := enterDrain z) hb.ready hb.fill hb.reports (.inr z6) (concludes_conclude _)
  rw [hz]
  refine ⟨_, rfl, by rw [hk.htc]; exact z4, hk.cfg.trans hb.cfg, hk.part.trans hb.part, hk.state, hk.sub, hk.idx.trans p3, ?_,
    by rw [hk.czs]; exact z5, ?_⟩
  · rw [hk.seq]
    exact p1
  · rw [hk.seqDrain, ← z2]
    rfl

theorem heat_to_boundary (hd : w.drain = false) : ∃ t, conclude (resumeProgram s) = t
    ∧ (BoundaryRests s → t.htc.request = none) ∧ t.cfg = s.cfg ∧ t.part = s.part ∧ t.seq.table = s.seq.table
    ∧ PhaseEnded s t := by
  obtain ⟨z, hz, hb, z2, z3, z4, -, z6⟩ := heat_ends h hw hm hh ho
  rw [hd, if_neg (by simp)] at hz
  have hc := concludes_conclude (endPhase z)
  have hs : standing (conclude (endPhase z)) = standing z := by
    rw [Laws.standing_conclude, Laws.standing_endPhase]
  obtain ⟨p1, -⟩ := hb.program
  have hu : Undrained z := ⟨by rw [hb.reports]; simp, z6⟩
  have hl : Lasts z (endPhase z) := (Lasts.refl z).endPhase
  have hpz := hl.part hb.homings
  have hpart : (conclude (endPhase z)).part = s.part := by
    rw [hc.drifts.part, (Lasts.settle (hl.undrained hu) (by rw [hpz]; exact hb.ready) (by rw [hpz]; exact hb.homings)).part
      (by rw [hpz]; exact hb.homings), hpz, hb.part]
  have he : EndedAt s z (conclude (endPhase z)) := by
    by_cases hn : s.seq.idx + 1 < s.seq.count
    · cases hhold : s.seq.holdPending with
      | true => exact (boundary_holds hb hc hn hhold).1
      | false =>
        have hi : s.wpc.inhibit = false := by
          obtain ⟨-, -, -, -, hin, -⟩ := Laws.sound_waterKept h.sound
          cases hx : s.wpc.inhibit with
          | false => rfl
          | true => simp [(hin hx).2.2 h.state] at hm
        rcases next_of_sound h.sound (by simp [programRuns, h.state]) hn with ⟨d, o, hdry⟩ | ⟨k, w', hp⟩
        · exact (boundary_dries hb hc hn hhold hdry).1
        · exact boundary_washes hb hc hn hhold (grantsAgree_congr z2 z3 (Laws.sound_grantsAgree h.sound)) h.door hp hi
    · exact (boundary_completes hb hc (Nat.not_lt.mp hn)).1
  rw [hz]
  exact ⟨_, rfl, fun hr => (he.request hr).trans z4, (congrArg Standing.cfg hs).trans hb.cfg, hpart, (congrArg Standing.table hs).trans p1,
     he.phaseEnded⟩

end

/-! ## The statement -/

/-- Settles O28, by what the program remembers. -/
theorem settlingResumesTheProgram : Obligations.SettlingResumesTheProgram := by
  unfold Obligations.SettlingResumesTheProgram
  refine ⟨fun s hr hx hs hset hd => ?_, fun s hr hx hs hset hd w hw => ?_, fun s ha hx hs hset hd hm w hw hu hh => ?_⟩
  · have h : Settling s := ⟨hr.1, hx, hs, hset, hd⟩
    have hu : Unqueued s := hr.2.2.2.2.2.1
    rw [h.expires]
    refine ⟨fun hm => by rw [wait_resumes h hr hm], fun w hw => ⟨fun hm he hg => by rw [drain_resumes h hr hw hm he hg], fun hm => ?_,
      fun hm hh hv hl => ?_, fun hm hb hi hbu hl => ?_⟩⟩
    · obtain ⟨y, k, k1, k2, k3, k4⟩ := circulate_resumes h hr hw hm
      obtain ⟨r1, r2, r3, r4⟩ := k.rest
      exact ⟨_, rfl, by rw [k.seq, k3], k.pump.trans k2, fun h1 h2 => k.request.trans (k4 h1 h2), k.dsu.trans k1, r1, r2, r3, r4⟩
    · cases ho : s.seq.heaterOff with
      | true =>
        obtain ⟨y, k, k1, k2, k3, k4, k5, k6⟩ := heat_disabled_resumes h hr hw hm hh ho
        obtain ⟨r1, r2, r3, r4⟩ := k.rest
        exact ⟨_, rfl, by rw [k.seq]; exact k4, k.pump.trans k2, by rw [k.seq]; exact k5,
          fun _ => ⟨by rw [k.seq]; exact k6, k.request.trans k3⟩, nofun, k.dsu.trans k1, r1, r2, r3, r4⟩
      | false =>
        cases hat : atTarget s w.target with
        | true =>
          obtain ⟨y, k, k1, k2, k3, k4, k5, k6⟩ := heat_reached_resumes h hr hw hm hh ho hat
          obtain ⟨r1, r2, r3, r4⟩ := k.rest
          refine ⟨_, rfl, by rw [k.seq]; exact k4, k.pump.trans k2, by rw [k.seq]; exact k5, nofun,
            fun _ temp ht => ⟨fun _ => ⟨by rw [k.seq]; exact k6, k.request.trans k3⟩, fun hlt => ?_⟩, k.dsu.trans k1, r1, r2, r3, r4⟩
          simp only [atTarget, ht, decide_eq_true_eq] at hat
          omega
        | false =>
          obtain ⟨y, k, k1, k2, k3, k4, k5, k6, k7⟩ := heat_goes_on h hr hw hm ho hat hv hl
          obtain ⟨r1, r2, r3, r4⟩ := k.rest
          refine ⟨_, rfl, by rw [k.seq]; exact k5, k.pump.trans k2, by rw [k.seq]; exact k6, nofun,
            fun _ temp ht => ⟨fun hle => ?_, fun _ => ⟨by rw [k.seq]; exact k7, k.request.trans k3, k.limitLeft.trans k4⟩⟩,
            k.dsu.trans k1, r1, r2, r3, r4⟩
          simp only [atTarget, ht, decide_eq_false_iff_not] at hat
          omega
    · have hc := concludes_conclude (resumeProgram s)
      rw [fill_continues hw hm hb] at hc ⊢
      obtain ⟨k, kr, -, kd, kh⟩ := rest_granted h hw hu hi hbu hl hc
      obtain ⟨g1, g2, g3, g4, -, -, g7, -, -, g10, g11, -⟩ := k
      obtain ⟨q1, -⟩ := kr.seq
      obtain ⟨r1, -, -, r4⟩ := kr.rest
      exact ⟨_, rfl, g1, g2, q1, g3, g4, g7, g10, g11, kd, r4, kh, r1⟩
  · have h : Settling s := ⟨hr.1, hx, hs, hset, hd⟩
    have hu : Unqueued s := hr.2.2.2.2.2.1
    rw [h.expires]
    refine ⟨fun hm hb hi hbu hl hop => ?_, fun hm hp => ⟨_, rfl, fun hs' => ?_, fun hs' h1 h2 r hbr hra p hsel hcond => ?_⟩,
      fun hm hp hs' hh ht => ?_, fun hm hh ho => ?_⟩
    · have hc := concludes_conclude (resumeProgram s)
      rw [fill_begins hw hm hb] at hc ⊢
      obtain ⟨k, kr, kd, ks, kq⟩ := first_granted h hw hu hi hbu hl hop hc
      obtain ⟨-, -, g3, g4, -, -, g7, -, g9, g10, g11, g12, -, g14⟩ := k
      obtain ⟨r1, -, -, r4⟩ := kr.rest
      exact ⟨_, rfl, kq, g3, g4, g7, g10, g9, g11, g12, g14, ks, kd, r4, r1⟩
    · obtain ⟨y, k, k1, k2, k3⟩ := dose_unpaused h hw hm hr hp hs'
      exact ⟨k.dsu.trans k1, by rw [k.seq, k3], k.pump.trans k2⟩
    · obtain ⟨y, k, k1, k2, k3⟩ := dose_paused h hw hm hr hp hs' h1 h2 hbr hra hsel hcond
      exact ⟨k.dsu.trans k1, by rw [k.seq, k3], k.pump.trans k2⟩
    · obtain ⟨y, k, k1, k2, k3⟩ := dose_over h hw hm hr hp hs' hh ht
      obtain ⟨-, -, -, r4⟩ := k.rest
      exact ⟨_, rfl, by rw [k.seq, k3], k.pump.trans k2, k.dsu.trans k1, r4⟩
    · cases hdr : w.drain with
      | true =>
        obtain ⟨t, ht, k1, k2, k3, k4, k5, k6, k7, k8, k9⟩ := heat_to_drain h hw hm hh ho hdr
        exact ⟨t, by rw [ht], fun _ => k1, k2, k3, k7, fun _ => ⟨k4, k5, k6, k8, k9⟩, nofun⟩
      | false =>
        obtain ⟨t, ht, k1, k2, k3, k4, k5⟩ := heat_to_boundary h hw hm hh ho hdr
        exact ⟨t, by rw [ht], fun hr => k1 (hr.resolve_left (by simp)), k2, k3, k4, nofun, fun _ => k5⟩
  · have h : Settling s := ⟨ha, hx, hs, hset, hd⟩
    have hc := concludes_conclude (resumeProgram s)
    rw [h.expires]
    cases hb : s.seq.fillBegun with
    | true =>
      rw [fill_continues hw hm hb] at hc ⊢
      obtain ⟨kr, ke, k⟩ := rest_asked h hw hu hh hc
      obtain ⟨q1, q2, q3, q4, q5⟩ := kr.seq
      exact ⟨_, rfl, q1, q2, q3, q4, q5, ke, nofun, fun _ => k, kr.rest⟩
    | false =>
      rw [fill_begins hw hm hb] at hc ⊢
      obtain ⟨k1, k2, k3, -⟩ := beginFill_asked (asks_refilling hw h) (grantsAgree_refilling h) hh hc
      have kr := refilled_of_goes k2
      obtain ⟨q1, q2, q3, q4, q5⟩ := kr.seq
      exact ⟨_, rfl, q1, q2, q3, q4, q5, k3, fun _ => k1, nofun, kr.rest⟩

end Sys2Proof.Proofs
end

section
/-! PROOFS. The cancellation of the sequencer's dose requests (R126): what is reported, what is left in the queue, and how the
service goes on with the host's primes. -/

/- One theorem at a time, as the tests have it: proofs that wait for the kernel cost a thread each. -/
set_option Elab.async false

namespace Sys2Proof.Proofs

open Sys2Proof.Machine
open Sys2Proof.Safety

/-! ## The report of a cancelled dose -/

@[simp] theorem perChannelGet_set {α : Type} (p : PerChannel α) (ch c : Channel) (v : α) :
    perChannelGet (perChannelSet p ch v) c = if ch = c then v else perChannelGet p c := by cases ch <;> cases c <;> rfl

theorem ofSequencer_eq (r : DoseReq) : ofSequencer r = !(r.origin == .hostPrime) := by
  cases h : r.origin <;> simp [ofSequencer, sameOrigin, h]

/-- The volume of the confirmed strokes on a channel (R124). -/
def confirmedOn (ch : Channel) (l : List DoseReq) : Nat :=
  ((l.filter fun r => r.channel = ch).map fun r => r.confirmed * r.strokeVolume).sum

theorem confirmedOn_cons (ch : Channel) (r : DoseReq) (l : List DoseReq) :
    confirmedOn ch (r :: l) = (if r.channel = ch then r.confirmed * r.strokeVolume else 0) + confirmedOn ch l := by
  by_cases h : r.channel = ch <;> simp [confirmedOn, h]

theorem reportDose_dsu (r : DoseReq) (o : DoseOutcome) (w : Option DoseReason) (s : State) : (reportDose r o w s).dsu = s.dsu := by
  unfold reportDose
  cases r.origin <;> cases o <;> simp only [raiseNotice] <;> split <;> rfl

theorem reportDose_asks (r : DoseReq) (o : DoseOutcome) (w : Option DoseReason) (s : State) :
    writeAsked .reservoirs (reportDose r o w s) = true := writeAsked_askWrite_self _ _

theorem askWrite_dose (i : RecordId) (c : Content) (s : State) : (askWrite i (raiseNotice c s)).seq = s.seq := by
  unfold raiseNotice
  split <;> rfl

theorem cancelled_dose {r : DoseReq} (h : ofSequencer r = true) (w : Option DoseReason) (s : State) :
    (reportDose r .cancelled w s).seq = addDose r.channel (r.confirmed * r.strokeVolume) s.seq := by
  unfold reportDose
  cases ho : r.origin with
  | sequencer p => exact askWrite_dose _ _ _
  | hostPrime => simp [ofSequencer_eq, ho] at h

theorem cancelled_notified {r : DoseReq} {s : State} (w : Option DoseReason) (h : noticeEnabled s.lnk.mask 16 = true) :
    notified (.doseDone (doseReport r .cancelled w)) (reportDose r .cancelled w s) = true := by
  have hn : ∀ u : State, u.lnk = s.lnk → notified (.doseDone (doseReport r .cancelled w))
      (askWrite .reservoirs (raiseNotice (.doseDone (doseReport r .cancelled w)) u)) = true := fun u hu =>
    notified_raiseNotice (s := u) (by rw [hu]; exact h)
  unfold reportDose
  cases ho : r.origin with
  | sequencer p => exact hn _ rfl
  | hostPrime => exact hn _ rfl

/-! ## The requests that end at once -/

/-- The queue and the notices of the doses after the ends of a list of cancelled requests (R124, R126). -/
structure EndsReported (l : List DoseReq) (s t : State) : Prop where
  dsu : t.dsu = s.dsu
  mask : t.lnk.mask = s.lnk.mask
  dose : ∀ ch, perChannelGet t.seq.summary.dose ch = perChannelGet s.seq.summary.dose ch + confirmedOn ch l
  last : ∀ r, l.getLast? = some r → writeAsked .reservoirs t = true
    ∧ (noticeEnabled s.lnk.mask 16 = true → notified (.doseDone (doseReport r .cancelled none)) t = true)

theorem endsReported_foldl (l : List DoseReq) (hl : ∀ r ∈ l, ofSequencer r = true) (s : State) :
    EndsReported l s (l.foldl (fun s r => reportDose r .cancelled none s) s) := by
  induction l generalizing s with
  | nil => exact ⟨rfl, rfl, fun _ => rfl, fun _ hr => by simp at hr⟩
  | cons x l ih =>
    obtain ⟨h1, h2, h3, h4⟩ := ih (fun r hr => hl r (List.mem_cons_of_mem _ hr)) (reportDose x .cancelled none s)
    have hm := ((Aside.refl s).reportDose x .cancelled none).mask
    rw [List.foldl_cons]
    refine ⟨h1.trans (reportDose_dsu _ _ _ _), h2.trans hm, fun ch => ?_, fun r hr => ?_⟩
    · rw [h3, cancelled_dose (hl x List.mem_cons_self), confirmedOn_cons]
      by_cases hc : x.channel = ch <;> simp [addDose, hc, Nat.add_assoc]
    · cases l with
      | nil =>
        obtain rfl : x = r := by simpa using hr
        exact ⟨reportDose_asks _ _ _ _, cancelled_notified none⟩
      | cons y l =>
        rw [hm] at h4
        exact h4 r (by simpa using hr)

/-! ## What is left of the queue -/

/-- The queue after a cancellation, before the service goes on. -/
def leftQueue (d : Dsu) : Dsu := { d with batch := cancelLeft d d.batch, waiting := cancelLeft d d.waiting, pause := false }

/-- How the service goes on after a cancellation (R116, R126). -/
def servesOn (s : State) : State :=
  if s.dsu.state == .gathering then
    if s.dsu.waiting.isEmpty then onDsu (fun d => { d with state := .idle, windowLeft := 0 }) s else s
  else if s.dsu.state == .idle then s
  else serveOn s

theorem cancelLeft_eq (d : Dsu) (l : List DoseReq) :
    (l.filter fun r => !(ofSequencer r && !staysMarked d r)).map (fun r => if ofSequencer r then { r with cancel := true } else r)
      = cancelLeft d l := by
  have hk : (fun r : DoseReq => !(ofSequencer r && !staysMarked d r))
      = fun r => r.origin == .hostPrime || (r.state == .active && (d.stroke.isSome || d.move.isSome)) := by
    funext r
    cases hb : (r.origin == Origin.hostPrime) <;> simp [ofSequencer_eq, hb, staysMarked, dosingBusy]
  have hm : (fun r : DoseReq => if ofSequencer r then { r with cancel := true } else r)
      = fun r => if r.origin = .hostPrime then r else { r with cancel := true } := by
    funext r
    by_cases hb : r.origin = .hostPrime <;> simp [ofSequencer_eq, hb]
  unfold cancelLeft
  rw [hk, hm]

theorem cancelFound_eq (s : State) : cancelFound ofSequencer s
    = servesOn ((cancelEnds s.dsu).foldl (fun s r => reportDose r .cancelled none s) (onDsu leftQueue s)) := by
  have hq : onDsu leftQueue s = onDsu (fun d => { d with
      batch := (d.batch.filter fun r => !(ofSequencer r && !staysMarked s.dsu r)).map
        fun r => if ofSequencer r then { r with cancel := true } else r
      waiting := (d.waiting.filter fun r => !(ofSequencer r && !staysMarked s.dsu r)).map
        fun r => if ofSequencer r then { r with cancel := true } else r
      pause := false }) s := by
    simp only [onDsu, cancelLeft_eq]
    rfl
  rw [hq]
  rfl

theorem mem_cancelEnds {d : Dsu} {r : DoseReq} (h : r ∈ cancelEnds d) : ofSequencer r = true := by
  have h := (List.mem_filter.mp h).2
  simp only [Bool.and_eq_true] at h
  exact h.1

/-- With no stroke and no move in progress only the host's primes are left (R126). -/
theorem mem_cancelLeft {d : Dsu} {l : List DoseReq} {r : DoseReq} (h1 : d.stroke = none) (h2 : d.move = none)
    (h : r ∈ cancelLeft d l) : r.origin = .hostPrime := by
  unfold cancelLeft at h
  obtain ⟨x, hx, rfl⟩ := List.mem_map.mp h
  have hx : x.origin = .hostPrime := by simpa [h1, h2] using (List.mem_filter.mp hx).2
  simp [hx]

/-! ## The service of the host's primes -/

/-- The doses of the program, the write and the notices of doses stand; the queue has gone on. -/
structure DosesStand (s t : State) : Prop where
  pause : t.dsu.pause = s.dsu.pause
  dose : t.seq.summary.dose = s.seq.summary.dose
  asked : writeAsked .reservoirs s = true → writeAsked .reservoirs t = true
  noted : ∀ r, notified (.doseDone r) s = true → notified (.doseDone r) t = true

namespace DosesStand

variable {s t : State}

theorem refl (s : State) : DosesStand s s := ⟨rfl, rfl, id, fun _ => id⟩

theorem trans {u : State} (h : DosesStand s t) (k : DosesStand t u) : DosesStand s u :=
  ⟨k.pause.trans h.pause, k.dose.trans h.dose, k.asked ∘ h.asked, fun r => k.noted r ∘ h.noted r⟩

theorem onDsu (h : DosesStand s t) (f : Dsu → Dsu) (hf : (f t.dsu).pause = t.dsu.pause := by rfl) :
    DosesStand s (onDsu f t) := h.trans ⟨hf, rfl, id, fun _ => id⟩

theorem setEmpty (h : DosesStand s t) (ch : Channel) (e : Bool) : DosesStand s (setEmpty ch e t) := by
  refine h.trans ?_
  unfold Machine.setEmpty
  split
  · exact refl t
  · refine ⟨?_, rfl, writeAsked_askWrite, fun _ => id⟩
    show (Machine.setReservoir _ _ _).pause = _
    cases ch <;> rfl

/-- The UNDERDOSE end of a prime (R123, R124). -/
theorem underdosed (h : DosesStand s t) {r : DoseReq} (hr : r.origin = .hostPrime) (w : Option DoseReason) :
    DosesStand s (endHead r .underdose w t) := by
  refine (h.onDsu fun d => { d with batch := d.batch.tail }).trans ?_
  refine ⟨by rw [endHead, reportDose_dsu], ?_, fun _ => reportDose_asks _ _ _ _, fun c hc => ?_⟩
  · unfold endHead reportDose
    rw [hr]
    exact congrArg (fun q : Seq => q.summary.dose) (askWrite_dose _ _ _)
  · unfold endHead reportDose
    rw [hr]
    exact notified_raiseNotice_ne (c := .underdose _) (by simp [noticeCode]) hc

end DosesStand

/-- Only primes stand in the queue. -/
def Primes (d : Dsu) : Prop := (∀ r ∈ d.batch, r.origin = .hostPrime) ∧ ∀ r ∈ d.waiting, r.origin = .hostPrime

theorem Primes.setEmpty {s : State} (h : Primes s.dsu) (ch : Channel) (e : Bool) : Primes (setEmpty ch e s).dsu := by
  unfold Machine.setEmpty
  split
  · exact h
  · show Primes (setReservoir _ _ _)
    cases ch <;> exact h

theorem Primes.endHead {s : State} (h : Primes s.dsu) (r : DoseReq) (o : DoseOutcome) (w : Option DoseReason) :
    Primes (endHead r o w s).dsu := by
  rw [Machine.endHead, reportDose_dsu]
  exact ⟨fun x hx => h.1 x (List.mem_of_mem_tail hx), h.2⟩

theorem dosesStand_serve {s : State} (h : Primes s.dsu) (n : Nat) : DosesStand s (serve n s) := by
  induction n generalizing s with
  | zero => exact .refl s
  | succ n ih =>
    obtain ⟨h1, h2⟩ := h
    unfold serve
    split
    · exact .refl s
    · split
      · split
        · exact (DosesStand.refl s).onDsu _
        · refine ((DosesStand.refl s).onDsu _).trans (ih (s := formBatch s) ⟨fun r hr => ?_, fun r hr => by simp [formBatch] at hr⟩)
          exact h2 r ((sweep_perm _ _).mem_iff.mp hr)
      · next r l hb =>
        have ho : r.origin = .hostPrime := h1 r (by simp [hb])
        split
        · exact (DosesStand.refl s).onDsu _
        · dsimp only
          split
          · next hs _ _ => exact absurd (hs.symm.trans ho) (by simp)
          · have hp := ((DosesStand.refl s).onDsu fun d => { d with state := .serving }).onDsu
              (fun d => { d with batch := { r with state := .active } :: d.batch.tail })
            split
            · exact hp.onDsu _
            · split
              · exact hp.onDsu _
              · split
                · refine ((hp.setEmpty r.channel true).underdosed (r := { r with state := .active }) ho (some .levelLow)).trans (ih ?_)
                  refine Primes.endHead (Primes.setEmpty ?_ _ _) _ _ _
                  refine ⟨fun x hx => ?_, h2⟩
                  rcases List.mem_cons.mp hx with rfl | hx
                  · exact ho
                  · exact h1 x (List.mem_of_mem_tail hx)
                · exact (hp.onDsu _).onDsu _

end Sys2Proof.Proofs
end

section
/-! PROOFS. The cancellation of R126 meets its statement: the queue, the summary's doses, the notice and the write. -/

/- One theorem at a time, as the tests have it: proofs that wait for the kernel cost a thread each. -/
set_option Elab.async false

namespace Sys2Proof.Proofs

open Sys2Proof.Machine
open Sys2Proof.Safety

/-! ## One turn of the service -/

theorem serveOn_busy {s : State} (h : s.dsu.stroke.isSome = true ∨ s.dsu.move.isSome = true) : serveOn s = s := by
  show serve (15 + 1) s = s
  rw [serve.eq_def]
  dsimp only
  rw [if_pos (by simpa using h)]

theorem reservoirOf_congr {c d : Dsu} (h1 : c.r1 = d.r1) (h2 : c.r2 = d.r2) (h3 : c.r3 = d.r3) (ch : Channel) :
    reservoirOf c ch = reservoirOf d ch := by
  unfold reservoirOf
  rw [h1, h2, h3]

section
variable {s : State} (h1 : s.dsu.stroke = none) (h2 : s.dsu.move = none)
include h1 h2

theorem serve_empty (hb : s.dsu.batch = []) (hw : s.dsu.waiting = []) (n : Nat) :
    serve (n + 1) s = onDsu (fun d => { d with state := .idle }) s := by
  unfold serve
  simp [h1, h2, hb, hw]

theorem serve_forms (hb : s.dsu.batch = []) (hw : s.dsu.waiting ≠ []) (n : Nat) : serve (n + 1) s = serve n (formBatch s) := by
  rw [serve.eq_def]
  simp [h1, h2, hb, hw]

variable {p : DoseReq} {l : List DoseReq} (hb : s.dsu.batch = p :: l) (ho : p.origin = .hostPrime) (hp : s.dsu.pause = false)
include hb ho hp

/-- The prime at the head waits for the selector, which is homed or moved (R118). -/
theorem serve_prime_moves (hc : s.dsu.selector ≠ some p.channel) (n : Nat) : (serve (n + 1) s).dsu = { s.dsu with
    state := .serving, batch := { p with state := .active } :: l
    move := some (if s.dsu.selector = none then ⟨true, .d1, 0⟩ else ⟨false, p.channel, 0⟩) } := by
  rw [serve.eq_def]
  simp only [h1, h2, Option.isSome_none, Bool.or_self, Bool.false_eq_true, if_false, hb, hp, putHead, Laws.onDsu_dsu,
    List.tail_cons]
  split
  · next hs _ _ => exact absurd (hs.symm.trans ho) (by simp)
  · cases hsel : s.dsu.selector with
    | none => simp [homeSelector, hb, h1, hp, hsel]
    | some c =>
      have hne : c ≠ p.channel := fun he => hc (by rw [hsel, he])
      simp [hne, moveSelector, hb, h1, hp, hsel]

/-- The prime at the head has its position and enough in its reservoir: a stroke begins (R120). -/
theorem serve_prime_strokes (hc : s.dsu.selector = some p.channel) (hl : p.strokeVolume ≤ (reservoirOf s.dsu p.channel).level)
    (n : Nat) : (serve (n + 1) s).dsu = { s.dsu with
      state := .serving, batch := { p with state := .active, commanded := p.commanded + 1 } :: l, stroke := some 0 } := by
  rw [serve.eq_def]
  simp only [h1, h2, Option.isSome_none, Bool.or_self, Bool.false_eq_true, if_false, hb, hp, putHead, Laws.onDsu_dsu,
    List.tail_cons, hc]
  split
  · next hs _ _ => exact absurd (hs.symm.trans ho) (by simp)
  · simp only [ne_eq, not_true_eq_false, if_false]
    rw [if_neg]
    · simp [hb, h2, hp, hc]
    · exact Nat.not_lt.mpr (hl.trans_eq (congrArg Reservoir.level (reservoirOf_congr rfl rfl rfl _)))

end

/-! ## The service after a cancellation -/

theorem primes_leftQueue {d : Dsu} (h1 : d.stroke = none) (h2 : d.move = none) : Primes (leftQueue d) :=
  ⟨fun _ => mem_cancelLeft h1 h2, fun _ => mem_cancelLeft h1 h2⟩

theorem dosesStand_servesOn {d : Dsu} {u : State} (hu : u.dsu = leftQueue d) : DosesStand u (servesOn u) := by
  unfold servesOn
  split
  · split
    · exact (DosesStand.refl u).onDsu _
    · exact .refl u
  · split
    · exact .refl u
    · by_cases hb : u.dsu.stroke.isSome = true ∨ u.dsu.move.isSome = true
      · rw [serveOn_busy hb]
        exact .refl u
      · simp only [not_or, Bool.not_eq_true, Option.isSome_eq_false_iff, Option.isNone_iff_eq_none] at hb
        obtain ⟨h1, h2⟩ := hb
        refine dosesStand_serve ?_ 16
        rw [hu] at h1 h2 ⊢
        exact primes_leftQueue h1 h2

theorem servesOn_gathering {d : Dsu} {u : State} (hu : u.dsu = leftQueue d) (h : d.state = .gathering) :
    (servesOn u).dsu = { d with
      batch := cancelLeft d d.batch, waiting := cancelLeft d d.waiting, pause := false
      state := if cancelLeft d d.waiting = [] then .idle else .gathering
      windowLeft := if cancelLeft d d.waiting = [] then 0 else d.windowLeft } := by
  unfold servesOn
  by_cases hw : cancelLeft d d.waiting = [] <;> simp [hu, leftQueue, h, hw]

section
variable {d : Dsu} {u : State} (hu : u.dsu = leftQueue d) (h : d.state = .serving ∨ d.state = .paused)
include hu h

theorem servesOn_serves : servesOn u = serveOn u := by
  unfold servesOn
  rcases h with h | h <;> simp [hu, leftQueue, h]

theorem servesOn_busy (hb : d.stroke.isSome = true ∨ d.move.isSome = true) : (servesOn u).dsu = leftQueue d := by
  rw [servesOn_serves hu h, serveOn_busy (by rw [hu]; exact hb), hu]

variable (h1 : d.stroke = none) (h2 : d.move = none)
include h1 h2

theorem servesOn_empty (hb : batchLeft d = []) :
    (servesOn u).dsu = { d with batch := [], waiting := [], pause := false, state := .idle } := by
  have e1 : cancelLeft d d.batch = [] := by
    by_contra hx
    rw [batchLeft, if_neg hx] at hb
    exact hx hb
  have e2 : cancelLeft d d.waiting = [] := by
    rw [batchLeft, if_pos e1] at hb
    exact (hb ▸ sweep_perm d.selector (cancelLeft d d.waiting)).nil_eq.symm
  rw [servesOn_serves hu h]
  have hs : serveOn u = onDsu (fun d => { d with state := .idle }) u :=
    serve_empty (by rw [hu]; exact h1) (by rw [hu]; exact h2) (by rw [hu]; exact e1) (by rw [hu]; exact e2) 15
  rw [hs, Laws.onDsu_dsu, hu, leftQueue, e1, e2]

/-- The service comes to the head of what is left, with the next batch formed where this one is empty (R117). -/
theorem servesOn_head {p : DoseReq} (hp : (batchLeft d).head? = some p) : ∃ n v, servesOn u = serve (n + 1) v
    ∧ v.dsu = { d with batch := p :: (batchLeft d).tail, waiting := waitingLeft d, pause := false } ∧ p.origin = .hostPrime := by
  have hl : batchLeft d = p :: (batchLeft d).tail := List.eq_cons_of_mem_head? hp
  rw [servesOn_serves hu h]
  by_cases hb : cancelLeft d d.batch = []
  · have he : batchLeft d = sweep d.selector (cancelLeft d d.waiting) := if_pos hb
    have hw : cancelLeft d d.waiting ≠ [] := fun hx => by
      have hs := sweep_perm d.selector (cancelLeft d d.waiting)
      rw [← he, hl, hx] at hs
      exact absurd hs.eq_nil (List.cons_ne_nil _ _)
    refine ⟨14, formBatch u, serve_forms (by rw [hu]; exact h1) (by rw [hu]; exact h2) (by rw [hu]; exact hb)
      (by rw [hu]; exact hw) 15, ?_, ?_⟩
    · rw [← hl, he, waitingLeft, if_pos hb]
      simp [formBatch, hu, leftQueue]
    · have hm : p ∈ sweep d.selector (cancelLeft d d.waiting) := by rw [← he, hl]; simp
      exact mem_cancelLeft h1 h2 ((sweep_perm _ _).mem_iff.mp hm)
  · have he : batchLeft d = cancelLeft d d.batch := if_neg hb
    refine ⟨15, u, rfl, ?_, ?_⟩
    · rw [← hl, he, waitingLeft, if_neg hb, hu]
      rfl
    · have hm : p ∈ cancelLeft d d.batch := by rw [← he, hl]; simp
      exact mem_cancelLeft h1 h2 hm

end

/-! ## The statement of R126 -/

theorem any_ofSequencer (l : List DoseReq) : l.any ofSequencer = !l.all fun r => r.origin == .hostPrime := by
  rw [List.not_all_eq_any_not]
  exact congrArg (List.any l) (funext ofSequencer_eq)

/-- The cancellation of the sequencer's requests is what R126 has of it. -/
theorem dosesCancelled (s : State) : DosesCancelled s (cancelSequencerDoses s) := by
  have ha : (doseQueue s.dsu).any ofSequencer = !(s.dsu.batch ++ s.dsu.waiting).all fun r => r.origin == .hostPrime :=
    any_ofSequencer _
  unfold cancelSequencerDoses cancelWhere
  refine ⟨fun hn => ?_, fun hn => ?_⟩
  · rw [hn] at ha
    rw [ha]
    exact ⟨rfl, rfl⟩
  · have ha : (doseQueue s.dsu).any ofSequencer = true := by rw [ha, hn]; rfl
    rw [if_pos ha, cancelFound_eq]
    obtain ⟨he, hm, hd, hr⟩ := endsReported_foldl (cancelEnds s.dsu) (fun _ => mem_cancelEnds) (onDsu leftQueue s)
    obtain ⟨u, hu⟩ : ∃ u, (cancelEnds s.dsu).foldl (fun s r => reportDose r .cancelled none s) (onDsu leftQueue s) = u :=
      ⟨_, rfl⟩
    rw [hu] at he hm hd hr ⊢
    have hk := dosesStand_servesOn (d := s.dsu) he
    refine ⟨?_, fun ch => ?_, fun r hx => ⟨hk.asked (hr r hx).1, fun h16 => hk.noted _ ((hr r hx).2 h16)⟩,
      servesOn_gathering he, fun hs => ⟨servesOn_busy he hs, fun h1 h2 => ⟨servesOn_empty he hs h1 h2, fun p hp => ?_⟩⟩⟩
    · rw [hk.pause, he]
      rfl
    · rw [hk.dose, hd]
      rfl
    · obtain ⟨n, v, hv, hvd, ho⟩ := servesOn_head he hs h1 h2 hp
      rw [hv]
      refine ⟨fun hc => ?_, fun hc hl => ?_⟩
      · rw [serve_prime_moves (by rw [hvd]; exact h1) (by rw [hvd]; exact h2) (p := p) (by rw [hvd]) ho (by rw [hvd])
          (by rw [hvd]; exact hc), hvd]
      · rw [serve_prime_strokes (by rw [hvd]; exact h1) (by rw [hvd]; exact h2) (p := p) (by rw [hvd]) ho (by rw [hvd])
          (by rw [hvd]; exact hc) (by rw [hvd]; exact hl), hvd]

/-- What a later part of the step, which leaves the queue, keeps of a cancellation. -/
structure DosesRest (s t : State) : Prop where
  dsu : t.dsu = s.dsu
  dose : t.seq.summary.dose = s.seq.summary.dose
  asked : writeAsked .reservoirs s = true → writeAsked .reservoirs t = true
  noted : ∀ r, notified (.doseDone r) s = true → notified (.doseDone r) t = true

namespace DosesRest

variable {s t u : State}

theorem trans (h : DosesRest s t) (k : DosesRest t u) : DosesRest s u :=
  ⟨k.dsu.trans h.dsu, k.dose.trans h.dose, k.asked ∘ h.asked, fun r => k.noted r ∘ h.noted r⟩

theorem of_wets (h : Wets s t) : DosesRest s t :=
  ⟨h.dsu, by rw [h.seq], h.asked _, fun _ => h.noted _ (by simp [noticeCode, engineNotices])⟩

theorem raiseNotice (s : State) (c : Content) (hc : noticeCode c ≠ 16) : DosesRest s (raiseNotice c s) := by
  refine ⟨?_, ?_, ?_, fun r hr => notified_raiseNotice_ne (fun hx => hc hx.symm) hr⟩
  all_goals rw [raiseNotice_rest]
  exact id

end DosesRest

/-- A step that cancels the doses of `x`, which has the queue, the doses and the mask of `s`, and goes on to `t`. -/
theorem dosesCancelled_of_rest {s x t : State} (h1 : x.dsu = s.dsu) (h2 : x.seq.summary.dose = s.seq.summary.dose)
    (h3 : x.lnk.mask = s.lnk.mask) (h : DosesRest (cancelSequencerDoses x) t) : DosesCancelled s t := by
  obtain ⟨k1, k2⟩ := dosesCancelled x
  rw [← h.dsu, ← h.dose, h1, h2] at k1
  rw [← h.dsu, ← h.dose, h1, h2, h3] at k2
  refine ⟨k1, fun hn => ?_⟩
  obtain ⟨hp, hd, hr, hs⟩ := k2 hn
  exact ⟨hp, hd, fun r hx => ⟨h.asked (hr r hx).1, fun h16 => h.noted _ ((hr r hx).2 h16)⟩, hs⟩

end Sys2Proof.Proofs
end

section
/-! PROOFS. The stopping actions of a program whose fill may stand (R21): the request and the record closed, the doses
cancelled, and nothing reported but their ends. -/

/- One theorem at a time, as the tests have it: proofs that wait for the kernel cost a thread each. -/
set_option Elab.async false

namespace Sys2Proof.Proofs

open Sys2Proof.Machine
open Sys2Proof.Safety

/-! ## The fill withdrawn -/

/-- From `s` to `t` the fill has gone, with at most its own end reported, the record as it was (R43). -/
structure FillGone (s t : State) : Prop where
  fill : t.wpc.fill = none
  record : t.sfu.fill = s.sfu.fill ∧ t.sfu.hRaw = s.sfu.hRaw
  told : t.reports = s.reports ∨ ∃ k n, t.reports = s.reports ++ [.fillEnded k .withdrawn n]
  free : GrantsAgree s → t.wpc.holder ≠ .fill

theorem FillGone.serves {s t u : State} (h : FillGone s t) (k : Serves t u) : FillGone s u :=
  ⟨by rw [k.wpc]; exact h.fill, ⟨k.record.1.trans h.record.1, k.record.2.1.trans h.record.2⟩, by rw [k.reports]; exact h.told,
    by rw [k.wpc]; exact h.free⟩

/-- The inlet is free, and a burst that waited for it runs (R37, R49). -/
theorem fillGone_freed (s : State) (k : FillKind) (n : Nat) : FillGone s
    (startBurst (closeInlet (onWpc (fun w => { w with fill := none }) (report (.fillEnded k .withdrawn n) s)))) := by
  unfold startBurst
  split
  · exact ⟨rfl, ⟨rfl, rfl⟩, .inr ⟨_, _, rfl⟩, fun _ => by simp [onWpc, closeInlet]⟩
  · exact ⟨rfl, ⟨rfl, rfl⟩, .inr ⟨_, _, rfl⟩, fun _ => by simp [onWpc, closeInlet]⟩

theorem fillGone_endFill {s : State} {q : FillReq} (hq : s.wpc.fill = some q) : FillGone s (endFill .withdrawn s) := by
  have hf := fillGone_freed s q.kind s.wpc.grantCount
  unfold endFill
  simp only [hq]
  cases hk : q.kind with
  | main => rw [hk] at hf; exact hf
  | topUp => rw [hk] at hf; exact hf.serves (Serves.refl _).endTopUp

theorem fillGone_withdrawFill (s : State) : FillGone s (withdrawFill s) := by
  unfold withdrawFill
  split
  · next hq => exact ⟨hq, ⟨rfl, rfl⟩, .inl rfl, fun hg => holder_of_agree hg hq⟩
  · next q hq =>
    split
    · exact fillGone_endFill hq
    · next hh =>
      refine ⟨rfl, ⟨rfl, rfl⟩, .inl rfl, fun hg => ?_⟩
      obtain ⟨-, hw, -⟩ := hg
      obtain ⟨v, k, held⟩ := q
      obtain rfl : held = false := by simpa using hh
      show s.wpc.holder ≠ .fill
      rw [hw, holderOf, hq]
      rcases s.wpc.regen with _ | ⟨_ | _, _ | _⟩ <;> simp

/-! ## Before the doses are cancelled -/

/-- The heat request and the fill are gone, the fill record closed (R21). -/
def emptied (s : State) : State := closeFill (withdrawFill (withdrawHeat s))

/-- What the sequencer's own requests leave when they are withdrawn. -/
structure Emptied (s t : State) : Prop where
  part : t.part = s.part
  pins : t.pins = s.pins
  cfg : t.cfg = s.cfg
  dsu : t.dsu = s.dsu
  ddu : t.ddu = s.ddu
  history : t.rst.history = s.rst.history
  mask : t.lnk.mask = s.lnk.mask
  seq : t.seq = { s.seq with heatLeft := t.seq.heatLeft, permit := t.seq.permit, placed := t.seq.placed }
  sump : t.wpc.sumpEmpty = s.wpc.sumpEmpty
  request : t.htc.request = none
  fill : t.wpc.fill = none
  free : GrantsAgree s → t.wpc.holder ≠ .fill
  record : t.sfu.fill = closedRecord s.sfu
  told : t.reports = s.reports ∨ ∃ k n, t.reports = s.reports ++ [.fillEnded k .withdrawn n]

theorem emptied_emptied (s : State) : Emptied s (emptied s) := by
  have h1 := (Bides.refl s).withdrawHeat
  obtain ⟨h2, h3⟩ := withdrawHeat_rest s
  have hw : Wets (withdrawHeat s) (emptied s) := (Wets.refl _).withdrawFill.closeFill
  obtain ⟨f1, ⟨f2, f3⟩, f4, f5⟩ := fillGone_withdrawFill (withdrawHeat s)
  obtain ⟨c1, -, c3, c4, -⟩ := closeFill_keeps (withdrawFill (withdrawHeat s))
  have hr : (withdrawHeat s).rge = s.rge := h1.rge
  refine ⟨hw.part.trans h1.part, hw.pins.trans h1.pins, hw.cfg.trans h1.cfg, hw.dsu.trans ?_, hw.ddu.trans h1.ddu,
    hw.history.trans h1.history, hw.mask.trans ?_, ?_, hw.sumpEmpty.trans (by rw [h1.wpc]), ?_, ?_, fun hg => ?_, ?_, ?_⟩
  · rw [h2]
  · rw [h2]
  · rw [hw.seq, h2]
  · rw [hw.htc]
    exact h3
  · exact (congrArg Wpc.fill c1).trans f1
  · exact (congrArg Wpc.holder c1).trans_ne (f5 (grantsAgree_congr h1.wpc h1.rge hg))
  · refine c4.trans ?_
    rw [closedRecord, closedRecord, f2, f3, h1.sfu]
  · rw [withdrawHeat_reports] at f4
    exact c3 ▸ f4

/-! ## The doses cancelled leave the heater -/

theorem reportDose_htc (r : DoseReq) (o : DoseOutcome) (w : Option DoseReason) (s : State) : (reportDose r o w s).htc = s.htc := by
  unfold reportDose
  cases r.origin <;> cases o <;> simp only [raiseNotice] <;> split <;> rfl

theorem endHead_htc (r : DoseReq) (o : DoseOutcome) (w : Option DoseReason) (s : State) : (endHead r o w s).htc = s.htc :=
  reportDose_htc _ _ _ _

theorem setEmpty_htc (ch : Channel) (e : Bool) (s : State) : (setEmpty ch e s).htc = s.htc := by
  unfold setEmpty
  split <;> rfl

theorem serve_htc (n : Nat) (s : State) : (serve n s).htc = s.htc := by
  induction n generalizing s with
  | zero => rfl
  | succ n ih =>
    unfold serve
    split
    · rfl
    · split
      · split
        · rfl
        · exact ih _
      · split
        · rfl
        · dsimp only
          split
          · exact (ih _).trans (endHead_htc _ _ _ _)
          · split
            · rfl
            · split
              · rfl
              · split
                · exact (ih _).trans ((endHead_htc _ _ _ _).trans (setEmpty_htc _ _ _))
                · rfl

theorem foldl_reportDose_htc (l : List DoseReq) (s : State) :
    (l.foldl (fun s r => reportDose r .cancelled none s) s).htc = s.htc := by
  induction l generalizing s with
  | nil => rfl
  | cons r l ih => exact (ih _).trans (reportDose_htc _ _ _ _)

theorem servesOn_htc (s : State) : (servesOn s).htc = s.htc := by
  unfold servesOn
  split
  · split <;> rfl
  · split
    · rfl
    · exact serve_htc 16 s

theorem cancelSequencerDoses_htc (s : State) : (cancelSequencerDoses s).htc = s.htc := by
  unfold cancelSequencerDoses cancelWhere
  split
  · rw [cancelFound_eq, servesOn_htc, foldl_reportDose_htc]
    rfl
  · rfl

/-! ## The stopping actions -/

/-- What the stopping actions leave, whatever stood (R21). -/
structure Halted (s t : State) : Prop where
  part : t.part = s.part
  cfg : t.cfg = s.cfg
  ddu : t.ddu = s.ddu
  history : t.rst.history = s.rst.history
  mask : t.lnk.mask = s.lnk.mask
  seq : t.seq = { s.seq with
    heatLeft := t.seq.heatLeft, permit := t.seq.permit, placed := t.seq.placed
    summary := { s.seq.summary with dose := t.seq.summary.dose }
    holdTimer := 0, waterWait := none, settling := none, extension := none, remembered := .none, holdPending := false }
  sump : t.wpc.sumpEmpty = s.wpc.sumpEmpty
  request : t.htc.request = none
  pump : t.czs.pump = false
  fill : t.wpc.fill = none
  free : GrantsAgree s → t.wpc.holder ≠ .fill
  record : t.sfu.fill = closedRecord s.sfu
  told : ∀ r ∈ t.reports, r ∈ s.reports ∨ (∃ k n, r = .fillEnded k .withdrawn n) ∨ ∃ a, r = .doseEnded a
  doses : DosesRest (cancelSequencerDoses (emptied s)) t

/-- The rest of the stopping actions, after the doses have been cancelled. -/
def haltedWith (c : State) : State := onSeq (fun q => { q with
    holdTimer := 0, waterWait := none, settling := none, extension := none, remembered := .none, holdPending := false })
  (if runningIn (stopCirculation c) .drain then dropDrain (stopCirculation c) else stopCirculation c)

theorem stopProgram_halts (s : State) : stopProgram s = haltedWith (cancelSequencerDoses (emptied s)) := rfl

theorem haltedWith_rest (c : State) : haltedWith c = { c with
    czs := (stopCirculation c).czs, ties := (stopCirculation c).ties
    wpc := { c.wpc with seqDrain := (haltedWith c).wpc.seqDrain }
    seq := { c.seq with
      holdTimer := 0, waterWait := none, settling := none, extension := none, remembered := .none, holdPending := false } } := by
  obtain ⟨h, -⟩ := stopCirculation_rest c
  obtain ⟨u, hu⟩ : ∃ u, stopCirculation c = u := ⟨_, rfl⟩
  unfold haltedWith
  rw [hu] at h ⊢
  rw [h]
  split <;> rfl

theorem halted_stopProgram (s : State) : Halted s (stopProgram s) := by
  have h := emptied_emptied s
  have hb := (Bides.refl (emptied s)).cancelSequencerDoses
  have hd := (DosesReported.of_eq (rfl : (emptied s).reports = (emptied s).reports)).cancelSequencerDoses
  have hm : (cancelSequencerDoses (emptied s)).lnk.mask = (emptied s).lnk.mask := (Aside.refl _).cancelSequencerDoses.mask
  have hq : (cancelSequencerDoses (emptied s)).htc = (emptied s).htc := cancelSequencerDoses_htc _
  rw [stopProgram_halts]
  obtain ⟨c, hc⟩ : ∃ c, cancelSequencerDoses (emptied s) = c := ⟨_, rfl⟩
  have hx : DosesRest c (haltedWith c) := by
    refine ⟨?_, ?_, ?_, ?_⟩
    all_goals rw [haltedWith_rest]
    · exact id
    · exact fun _ => id
  have hp := (stopCirculation_rest c).2
  have hr := haltedWith_rest c
  rw [hc] at hb hd hm hq ⊢
  obtain ⟨t, ht⟩ : ∃ t, haltedWith c = t := ⟨_, rfl⟩
  rw [ht] at hr hx ⊢
  refine ⟨?_, ?_, ?_, ?_, ?_, ?_, ?_, ?_, ?_, ?_, fun hg => ?_, ?_, fun r hr' => ?_, hc ▸ hx⟩
  · rw [hr]; exact hb.part.trans h.part
  · rw [hr]; exact hb.cfg.trans h.cfg
  · rw [hr]; exact hb.ddu.trans h.ddu
  · rw [hr]; exact hb.history.trans h.history
  · rw [hr]; exact hm.trans h.mask
  · rw [hr, hb.seq, h.seq]
  · rw [hr]; exact (congrArg Wpc.sumpEmpty hb.wpc).trans h.sump
  · rw [hr]; exact (congrArg Htc.request hq).trans h.request
  · rw [hr]; exact hp
  · rw [hr]; exact (congrArg Wpc.fill hb.wpc).trans h.fill
  · rw [hr]; exact (congrArg Wpc.holder hb.wpc).trans_ne (h.free hg)
  · rw [hr]; exact (congrArg Sfu.fill hb.sfu).trans h.record
  · rw [hr] at hr'
    rcases hd r hr' with hr' | hr'
    · rcases h.told with he | ⟨k, n, he⟩
      · exact .inl (he ▸ hr')
      · rw [he] at hr'
        rcases List.mem_append.mp hr' with hr' | hr'
        · exact .inl hr'
        · exact .inr (.inl ⟨k, n, List.mem_singleton.mp hr'⟩)
    · exact .inr (.inr hr')

end Sys2Proof.Proofs
end

section
/-! PROOFS. A step that settles with no program running: what the other blocks report then moves the sequencer no more (R10, R90,
R124, R165). -/

/- One theorem at a time, as the tests have it: proofs that wait for the kernel cost a thread each. -/
set_option Elab.async false

namespace Sys2Proof.Proofs

open Sys2Proof.Machine
open Sys2Proof.Safety

/-- Reports of which a sequencer without a program takes no notice, but for the list of its doses. -/
def Idling : Report → Prop
  | .engineLeft | .fillEnded _ _ _ | .fillRefused | .doseEnded _ | .dryingDone _ => True
  | _ => False

/-! ## What the settling water path reports -/

/-- From `s` to `t` only such reports have been added. -/
def Appends (s t : State) : Prop := ∃ l, t.reports = s.reports ++ l ∧ ∀ r ∈ l, Idling r

namespace Appends

variable {s t u a b : State}

theorem of_eq (h : t.reports = s.reports) : Appends s t := ⟨[], by simpa using h, by simp⟩

theorem one {r : Report} (h : t.reports = s.reports ++ [r]) (hr : Idling r) : Appends s t :=
  ⟨[r], h, fun x hx => by rw [List.mem_singleton.mp hx]; exact hr⟩

theorem trans (h : Appends s t) (k : Appends t u) : Appends s u := by
  obtain ⟨l, h1, h2⟩ := h
  obtain ⟨m, k1, k2⟩ := k
  exact ⟨l ++ m, by rw [k1, h1, List.append_assoc], fun r hr => (List.mem_append.mp hr).elim (h2 r) (k2 r)⟩

theorem ite {c : Prop} [Decidable c] (ha : c → Appends s a) (hb : ¬ c → Appends s b) : Appends s (if c then a else b) := by
  split
  · exact ha ‹_›
  · exact hb ‹_›

theorem endFill (s : State) (r : FillEnd) : Appends s (endFill r s) := by
  unfold Machine.endFill
  split
  · exact of_eq rfl
  · next q _ =>
    have hb : ∀ u : State, (startBurst u).reports = u.reports := fun u => by unfold startBurst; split <;> rfl
    have h : Appends s (startBurst (closeInlet (onWpc (fun w => { w with fill := none })
        (report (.fillEnded q.kind r s.wpc.grantCount) s)))) := (one (r := .fillEnded q.kind r s.wpc.grantCount) rfl trivial).trans (of_eq (hb _))
    cases hk : q.kind with
    | main => rw [hk] at h; exact h
    | topUp => rw [hk] at h; exact h.trans (of_eq (Serves.refl _).endTopUp.reports)

theorem grantFill (s : State) (q : FillReq) : Appends s (grantFill q s) :=
  .ite (fun _ => (of_eq rfl).trans (endFill _ _)) fun _ => of_eq rfl

theorem offerFill (s : State) (q : FillReq) : Appends s (offerFill q s) :=
  .ite (fun _ => one rfl trivial) fun _ => .ite (fun _ => of_eq rfl) fun _ =>
    (of_eq (revokeRegen_reports s)).trans (grantFill _ q)

theorem grantDeferred (s : State) : Appends s (grantDeferred s) := by
  unfold Machine.grantDeferred
  split
  · exact .ite (fun _ => offerFill _ _) fun _ => of_eq rfl
  · exact of_eq rfl

theorem effluentMeetsDrain (s : State) : Appends s (effluentMeetsDrain s) := by
  refine .ite (fun _ => ?_) fun _ => of_eq rfl
  rcases (finishRegen_keeps (withdrawBurst s)).2.2.1 with h | h
  · exact of_eq h
  · exact one h trivial

theorem waterSettle (s : State) : Appends s (waterSettle s) := by
  refine (grantDeferred s).trans ?_
  refine Appends.trans (t := Machine.refreshPump (Machine.grantDeferred s)) (of_eq rfl) ?_
  refine (effluentMeetsDrain _).trans ?_
  exact of_eq ((grantRegen_reports _).trans ((handOver_reports _).trans (revokeUnlessFlows_reports _)))

end Appends

/-! ## The reports taken -/

/-- The part is READY, no program runs, and nothing is reported that would move the sequencer. -/
structure Hushed (s : State) : Prop where
  ready : s.part.state = .ready
  rests : programRuns s = false
  idling : ∀ r ∈ s.reports, Idling r

theorem not_runningIn {s : State} (h : programRuns s = false) (b : SubStage) : runningIn s b = false := by
  unfold programRuns at h
  split at h <;> simp_all [runningIn]

theorem takeReport_hushed {s : State} {r : Report} (h : programRuns s = false) (hr : Idling r) : takeReport r s = s
    ∨ ∃ a, r = .doseEnded a ∧ takeReport r s = onSeq (fun q => { q with placed := q.placed.erase a }) s := by
  cases r with
  | fillRefused => exact .inl (if_neg (by simp [h]))
  | engineLeft => exact takeReport_harmless (.inl (not_runningIn h _))
  | fillEnded => exact takeReport_harmless (.inr (.inr (.inr (not_runningIn h _))))
  | doseEnded => exact takeReport_harmless (not_runningIn h _)
  | dryingDone => exact takeReport_harmless (not_runningIn h _)
  | _ => exact hr.elim

theorem Wets.programRuns {s t : State} (h : Wets s t) : programRuns t = programRuns s := by
  simp only [Machine.programRuns, h.state]

theorem wets_takeReport {s : State} {r : Report} {l : List Report} (hl : s.reports = r :: l) (h : programRuns s = false)
    (hr : Idling r) : Wets s (takeReport r (onReports (fun _ => l) s)) ∧ (takeReport r (onReports (fun _ => l) s)).reports = l := by
  have hw : Wets s (onReports (fun _ => l) s) :=
    (Wets.refl s).onReports _ fun hx hm => hx (by rw [hl]; exact List.mem_cons_of_mem _ hm)
  rcases takeReport_hushed (s := onReports (fun _ => l) s) h hr with he | ⟨a, -, he⟩
  · rw [he]
    exact ⟨hw, rfl⟩
  · rw [he]
    exact ⟨hw.trans ⟨rfl, rfl, rfl, rfl, rfl, rfl, rfl, rfl, rfl, rfl, rfl, rfl, rfl, fun _ => id, fun _ _ => id, id, id⟩, rfl⟩

theorem Hushed.of_wets {s t : State} (h : Hushed s) (hw : Wets s t) (hr : ∀ r ∈ t.reports, Idling r) : Hushed t :=
  ⟨by rw [hw.part]; exact h.ready, hw.programRuns.trans h.rests, hr⟩

theorem Hushed.waterSettle {s : State} (h : Hushed s) : Hushed (waterSettle s) := by
  refine h.of_wets (Wets.refl s).waterSettle fun r hr => ?_
  obtain ⟨l, he, hl⟩ := Appends.waterSettle s
  rw [he] at hr
  exact (List.mem_append.mp hr).elim (h.idling r) (hl r)

theorem Hushed.takeReports {s : State} (h : Hushed s) (n : Nat) : Wets s (takeReports n s) := by
  induction n generalizing s with
  | zero => exact (Wets.refl s).onReports _ (by simp)
  | succ n ih =>
    unfold Machine.takeReports
    split
    · exact .refl s
    · next r l hl =>
      obtain ⟨hw, hr⟩ := wets_takeReport hl h.rests (h.idling r (by simp [hl]))
      have hv := h.of_wets hw fun x hx => h.idling x (by rw [hl]; exact List.mem_cons_of_mem _ (hr ▸ hx))
      exact (hw.trans (Wets.refl _).waterSettle).trans (ih hv.waterSettle)

theorem wets_rested (s : State) : Wets s (rested s) := (drifts_rested s).toWets

/-- Without a program a step ends with what the water path and the outputs make of it. -/
theorem Hushed.settle {s : State} (h : Hushed s) : Wets s (settle s) := by
  have ht := (Wets.refl s).waterSettle.trans (h.waterSettle.takeReports 64)
  rw [settle_ready (by rw [ht.part]; exact h.ready)]
  exact ht.trans (wets_rested _)

theorem Hushed.wets {y t : State} (h : Hushed y) (hc : Concludes y t) : Wets y t := h.settle.trans hc.drifts.toWets

end Sys2Proof.Proofs
end

section
/-! PROOFS. ABORT PROGRAM outside DRY: the program is stopped and ENDING begins with the abort drain (R21, R22, R126). -/

/- One theorem at a time, as the tests have it: proofs that wait for the kernel cost a thread each. -/
set_option Elab.async false

namespace Sys2Proof.Proofs

open Sys2Proof.Machine
open Sys2Proof.Safety

theorem abort_refused (tag : Byte) {s : State} (h : Listens s)
    (hs : s.seq.state = .idle ∨ s.seq.state = .ended ∨ s.seq.state = .ending ∨ s.seq.state = .faulted) :
    exec (.abortProgram tag) s = .next (finish (answering 0x17#8 tag .wrongState .empty (heard s))) := by
  refine hostRequest_replied (r := .abortProgram) h ?_
  rcases hs with hs | hs | hs | hs <;> simp [serveOwner, serveAbort, editing, hs, refuse]

/-- A program that ABORT stops through ENDING (R21). -/
def Stoppable (s : State) : Prop := s.seq.state = .holding ∨ s.seq.state = .suspended ∨ s.seq.state = .waitWater
  ∨ (s.seq.state = .running ∧ s.seq.sub ≠ .dry)

theorem Stoppable.runs {s : State} (h : Stoppable s) : editing s = true ∧ runningIn s .dry = false ∧ programRuns s = true := by
  rcases h with h | h | h | ⟨h, hb⟩
  · simp [editing, runningIn, programRuns, h]
  · simp [editing, runningIn, programRuns, h]
  · simp [editing, runningIn, programRuns, h]
  · simp [editing, runningIn, programRuns, h, hb]

/-- The aborted program, before the step settles. -/
def aborted (s : State) : State := enterEnding (stopProgram (counted s))

theorem aborted_seq (s : State) : (aborted s).seq = { (stopProgram (counted s)).seq with state := .ending, sub := .none } := rfl

theorem aborted_wpc (s : State) : (aborted s).wpc = { (stopProgram (counted s)).wpc with
    seqDrain := some ⟨if (stopProgram (counted s)).wpc.sumpEmpty then .runOn 0 else .pumping 0, false⟩ } := rfl

theorem enterEnding_keeps (z : State) : (enterEnding z).part = z.part ∧ (enterEnding z).cfg = z.cfg
    ∧ (enterEnding z).ddu = z.ddu ∧ (enterEnding z).rst = z.rst ∧ (enterEnding z).sfu = z.sfu := ⟨rfl, rfl, rfl, rfl, rfl⟩

theorem aborted_keeps (s : State) : (aborted s).part = s.part ∧ (aborted s).cfg = s.cfg ∧ (aborted s).ddu = s.ddu
    ∧ (aborted s).rst.history = s.rst.history ∧ (aborted s).sfu.fill = closedRecord s.sfu := by
  have k := halted_stopProgram (counted s)
  obtain ⟨e1, e2, e3, e4, e5⟩ := enterEnding_keeps (stopProgram (counted s))
  exact ⟨e1.trans k.part, e2.trans k.cfg, e3.trans k.ddu, (congrArg Rst.history e4).trans k.history,
    (congrArg Sfu.fill e5).trans k.record⟩

theorem not_runningIn_of_ending {s : State} (h : s.seq.state = .ending) (b : SubStage) : runningIn s b = false := by
  simp [runningIn, h]

theorem quieted_aborted {s : State} (h : Listens s) : Quieted (aborted s) := by
  have k := halted_stopProgram (counted s)
  refine ⟨(congrArg Part.state k.part).trans h.1.2.1, fun q hq => ?_, fun r hr => ?_⟩
  · rw [aborted_wpc] at hq
    exact absurd hq (by simp [k.fill])
  · rcases k.told r hr with hr | ⟨_, _, rfl⟩ | ⟨_, rfl⟩
    · exact absurd hr (by simp [h.1.2.2])
    · exact .inr (.inl rfl)
    · exact not_runningIn_of_ending rfl _

/-- ABORT settles the aborted program. -/
theorem abort_settles (tag : Byte) {s : State} (h : Listens s) (hs : Stoppable s) :
    ∃ t, exec (.abortProgram tag) s = .next t ∧ Answered ⟨0x17#8, tag, ⟨.ok, .empty⟩⟩ (aborted s) t ∧ Drifts (aborted s) t := by
  obtain ⟨he, hd, -⟩ := hs.runs
  have hv : serveOwner .abortProgram (counted s) = ⟨settle (aborted s), ⟨.ok, .empty⟩⟩ := by
    have he : editing (counted s) = true := he
    have hd : runningIn (counted s) .dry = false := hd
    simp only [serveOwner, serveAbort, he, if_true, abortProgram, hd, Bool.false_eq_true, if_false, acted]
    rfl
  have hy : standing (aborted s) = standing (counted s) := by simp [aborted]
  obtain ⟨t, ha, ht⟩ := hostRequest_settled (r := .abortProgram) (tag := tag) h hv (congrArg Standing.linkState hy)
  have hdr := ((quieted_aborted h).settle (.inl (not_runningIn_of_ending rfl _))).trans ha.concludes.drifts
  exact ⟨t, ht (by rw [hdr.part]; exact congrArg Part.state (halted_stopProgram (counted s)).part), ha, hdr⟩

theorem dosesRest_enterEnding (z : State) : DosesRest z (enterEnding z) := ⟨rfl, rfl, id, fun _ => id⟩

section
variable {s t : State} {a : Awaiting} (ha : Answered a (aborted s) t) (hd : Drifts (aborted s) t)
include hd

theorem aborted_doses : DosesCancelled s t := by
  have k := halted_stopProgram (counted s)
  have he := emptied_emptied (counted s)
  refine dosesCancelled_of_rest (x := emptied (counted s)) he.dsu (by rw [he.seq]; rfl) he.mask (k.doses.trans ?_)
  exact (dosesRest_enterEnding _).trans (.of_wets hd.toWets)

/-- What the sequencer keeps and loses in ENDING (R21). -/
theorem aborted_sequencer : t.seq = { s.seq with
    state := .ending, sub := .none, holdPending := false, waterWait := none, settling := none, extension := none
    remembered := .none, holdTimer := 0, summary := { s.seq.summary with dose := t.seq.summary.dose }
    heatLeft := t.seq.heatLeft, permit := t.seq.permit, placed := t.seq.placed } := by
  have k := (halted_stopProgram (counted s)).seq
  have hq := hd.seq
  rw [aborted_seq, k] at hq
  rw [hq]
  rfl

include ha

theorem aborted_outputs (hg : GrantsAgree s) : t.seq.permit = false
    ∧ t.wpc.seqDrain = some ⟨if s.wpc.sumpEmpty then .runOn 0 else .pumping 0, false⟩ ∧ t.wpc.drainPump = true
    ∧ t.wpc.fill = none ∧ t.wpc.holder = .none ∧ t.htc.request = none ∧ t.htc.output = .off ∧ t.czs.pump = false := by
  have k := halted_stopProgram (counted s)
  have hst : t.seq.state = .ending := hd.state
  have hs := ha.concludes.settled
  have hdr : t.wpc.seqDrain = some ⟨if s.wpc.sumpEmpty then .runOn 0 else .pumping 0, false⟩ := by
    rw [hd.seqDrain, aborted_wpc, k.sump]
    rfl
  have hf : (aborted s).wpc.fill = none := k.fill
  refine ⟨by rw [hs.permit]; simp [permitCondition, hst], hdr, ?_, hd.fill.trans hf,
    hs.holder_none (by simp [waterFlows, permitCondition, hst]) (hd.free hf (k.free hg)), ?_, ?_, ?_⟩
  · rw [hs.pump, pumpAsked, hdr]
    cases s.wpc.sumpEmpty <;> rfl
  · rw [hd.htc]
    exact k.request
  · rw [hs.heater, heaterOutput, heaterEnabled, not_runningIn_of_ending hst, not_runningIn_of_ending hst]
    simp
  · rw [hd.czs]
    exact k.pump

end

end Sys2Proof.Proofs
end

section
/-! PROOFS. RESET UNIT SEQUENCER with a program, and the end of a drying at the sequencer's request (R32, R171). -/

/- One theorem at a time, as the tests have it: proofs that wait for the kernel cost a thread each. -/
set_option Elab.async false

namespace Sys2Proof.Proofs

open Sys2Proof.Machine
open Sys2Proof.Safety

/-! ## The end of a drying -/

theorem Dries.enterDone {s t : State} (h : Dries s t) : Dries s (enterDone t) := by
  unfold Machine.enterDone
  dsimp only
  split
  · exact h.reachDone
  · exact .ite (fun _ => ((h.reachDone.onDdu _).onDdu _).report _) fun _ => (h.reachDone.onDdu _).takeStart _

theorem Dries.actuatorHomed {s t : State} (h : Dries s t) : Dries s (actuatorHomed t) :=
  h.trans ⟨rfl, rfl, fun hh => by
    show { t.part with homings := { t.part.homings with actuator := false } } = t.part
    rw [show ({ t.part.homings with actuator := false } : Homings) = t.part.homings by rw [hh]], rfl, fun _ _ => id⟩

theorem Dries.retract {s t : State} (h : Dries s t) : Dries s (retract t) := by
  have h := (h.onDdu fun d => { d with drive := .stopped, stall := none }).enterStage .retracting 0
  refine .ite (fun _ => ?_) fun _ => h.onDdu _
  have h := ((h.onDdu fun d => { d with count := 0, homed := true }).onDdu
    fun d => { d with drive := .stopped, stall := none }).actuatorHomed
  exact .ite (fun _ => h.enterDone) fun _ => h

theorem Dries.endDrying {s t : State} (h : Dries s t) : Dries s (endDrying t) := by
  unfold Machine.endDrying
  refine .ite (fun _ => ?_) fun _ => h.onDdu _
  dsimp only
  split
  · exact (h.onDdu _).reachDone
  · exact (h.onDdu _).reachDone
  · exact (h.onDdu _).retract
  · exact (h.onDdu _).retract
  all_goals exact h.onDdu _

/-- No drying awaits its report, none is to follow, and none stands before its retraction. -/
structure DryingGone (s t : State) : Prop where
  stage : t.ddu.stage = .none ∨ t.ddu.stage = .done ∨ t.ddu.stage = .retracting
  awaited : t.ddu.awaited = false
  reports : t.reports = s.reports

theorem dryingGone_reachDone {s : State} (h : s.ddu.awaited = false) : DryingGone s (reachDone s) := by
  have he := enterStage_ddu .done 0 (onDdu (fun d => { d with awaited := false }) s)
  unfold reachDone
  rw [h]
  exact ⟨.inr (.inl (by rw [if_neg (by simp), he])), by rw [if_neg (by simp), he]; rfl,
    enterStage_reports .done 0 (onDdu (fun d => { d with awaited := false }) s)⟩

theorem dryingGone_enterDone {s : State} (h : s.ddu.awaited = false) (hp : s.ddu.pendingStart = none) :
    DryingGone s (enterDone s) := by
  have hk : (reachDone s).ddu.pendingStart = none := by
    unfold reachDone
    rw [h, if_neg (by simp), enterStage_ddu]
    exact hp
  unfold enterDone
  simp only [hk]
  exact dryingGone_reachDone h

theorem dryingGone_retract {s : State} (h : s.ddu.awaited = false) (hp : s.ddu.pendingStart = none) :
    DryingGone s (retract s) := by
  have he := enterStage_ddu .retracting 0 (stopDrive s)
  have hr := enterStage_reports .retracting 0 (stopDrive s)
  obtain ⟨u, hu⟩ : ∃ u, enterStage .retracting 0 (stopDrive s) = u := ⟨_, rfl⟩
  unfold retract
  rw [hu] at he hr ⊢
  unfold driveInward
  split
  · have hx : DryingGone (actuatorHomed (stopDrive (onDdu (fun d => { d with count := 0, homed := true }) u)))
        (enterDone (actuatorHomed (stopDrive (onDdu (fun d => { d with count := 0, homed := true }) u)))) :=
      dryingGone_enterDone (by show u.ddu.awaited = false; rw [he]; exact h) (by show u.ddu.pendingStart = none; rw [he]; exact hp)
    have hs : (actuatorHomed (stopDrive (onDdu (fun d => { d with count := 0, homed := true }) u))).ddu.stage = .retracting := by
      show u.ddu.stage = _
      rw [he]
    unfold homeArrived
    dsimp only
    rw [if_pos hs]
    exact ⟨hx.stage, hx.awaited, hx.reports.trans hr⟩
  · refine ⟨.inr (.inr ?_), ?_, hr⟩
    · show u.ddu.stage = _
      rw [he]
    · show u.ddu.awaited = _
      rw [he]
      exact h

/-- A drying that runs with its report, its retry pause and its pending start withdrawn (R171). -/
def unawaited (s : State) : State := onDdu (fun d => { d with
  awaited := false, retryPause := none, outcome := if s.ddu.outcome = .none then .ended else s.ddu.outcome
  pendingStart := none, dropPending := false }) s

theorem DryingGone.of_unawaited {s t : State} (h : DryingGone (unawaited s) t) : DryingGone s t :=
  ⟨h.stage, h.awaited, h.reports⟩

/-- The sequencer's end request leaves no drying that it awaits (R171). -/
theorem dryingGone_endDrying (s : State) : DryingGone s (endDrying s) := by
  unfold endDrying
  dsimp only
  split
  · have hd : DryingGone (unawaited s) (reachDone (unawaited s)) := dryingGone_reachDone rfl
    have hr : DryingGone (unawaited s) (retract (unawaited s)) := dryingGone_retract rfl rfl
    split
    · exact hd.of_unawaited
    · exact hd.of_unawaited
    · exact hr.of_unawaited
    · exact hr.of_unawaited
    · next hs => exact ⟨.inl hs, rfl, rfl⟩
    · next hs => exact ⟨.inr (.inr hs), rfl, rfl⟩
    · next hs => exact ⟨.inr (.inl hs), rfl, rfl⟩
  · next hd =>
    refine ⟨?_, rfl, rfl⟩
    show s.ddu.stage = _ ∨ s.ddu.stage = _ ∨ s.ddu.stage = _
    cases hs : s.ddu.stage <;> simp [dryingRuns, hs] at hd ⊢

end Sys2Proof.Proofs
end

section
/-! PROOFS. RESET UNIT SEQUENCER with a program: it ends without a drain, ABORTED, and IDLE begins (R32, R126). -/

/- One theorem at a time, as the tests have it: proofs that wait for the kernel cost a thread each. -/
set_option Elab.async false

namespace Sys2Proof.Proofs

open Sys2Proof.Machine
open Sys2Proof.Safety

/-- A program's actions have been stopped, or its drying ended; the sequencer has not moved yet. -/
structure Ceased (s z : State) : Prop where
  part : z.part.state = s.part.state
  cfg : z.cfg = s.cfg
  mask : z.lnk.mask = s.lnk.mask
  sump : z.wpc.sumpEmpty = s.wpc.sumpEmpty
  stored : z.seq.table = s.seq.table ∧ z.seq.count = s.seq.count ∧ z.seq.soil = s.seq.soil
  summary : z.seq.summary = { s.seq.summary with dose := z.seq.summary.dose }
  idling : ∀ r ∈ z.reports, r ∈ s.reports ∨ Idling r
  standing : standing z = standing s

theorem ceased_stopProgram (s : State) : Ceased s (stopProgram s) := by
  have k := halted_stopProgram s
  refine ⟨congrArg Part.state k.part, k.cfg, k.mask, k.sump, ⟨by rw [k.seq], by rw [k.seq], by rw [k.seq]⟩, by rw [k.seq],
    fun r hr => (k.told r hr).imp_right ?_, Laws.standing_stopProgram s⟩
  rintro (⟨_, _, rfl⟩ | ⟨_, rfl⟩)
  · trivial
  · trivial

theorem ceased_endDrying (s : State) : Ceased s (endDrying s) := by
  have k := (Dries.refl s).endDrying
  have hr := (dryingGone_endDrying s).reports
  refine ⟨by rw [k.part], by rw [k.rest], k.mask, by rw [k.rest], ⟨by rw [k.rest], by rw [k.rest], by rw [k.rest]⟩, ?_,
    fun r hx => .inl (hr ▸ hx), Laws.standing_endDrying s⟩
  rw [k.rest]

/-- What RESET UNIT SEQUENCER makes of a program whose actions have ceased (R32). -/
def toIdle (z : State) : State :=
  onSeq (fun q => { q with state := .idle, sub := .none, idx := 0, holdPending := false, fault := none })
    (programEnd (setOutcome .aborted (dropDrain z)))

theorem toIdle_rest (z : State) : toIdle z = { z with
    lnk := (toIdle z).lnk
    wpc := { z.wpc with seqDrain := none }
    seq := { z.seq with
      state := .idle, sub := .none, idx := 0, holdPending := false, fault := none
      summary := { z.seq.summary with outcome := .aborted } } } := by
  unfold toIdle programEnd raiseNotice
  split <;> rfl

theorem toIdle_mask (z : State) : (toIdle z).lnk.mask = z.lnk.mask :=
  raiseNotice_mask (.programEnd (setOutcome .aborted (dropDrain z)).seq.summary) (setOutcome .aborted (dropDrain z))

/-- PROGRAM_END carries the summary, ABORTED (R31, R32). -/
theorem toIdle_notified {z : State} (h : noticeEnabled z.lnk.mask 7 = true) :
    notified (.programEnd (toIdle z).seq.summary) (toIdle z) = true := by
  have hs : (toIdle z).seq.summary = (setOutcome .aborted (dropDrain z)).seq.summary := by rw [toIdle_rest]; rfl
  rw [hs]
  exact notified_raiseNotice (c := .programEnd (setOutcome .aborted (dropDrain z)).seq.summary)
    (s := setOutcome .aborted (dropDrain z)) h

theorem dosesRest_toIdle (z : State) : DosesRest z (toIdle z) := by
  obtain ⟨u, hu⟩ : ∃ u, setOutcome .aborted (dropDrain z) = u := ⟨_, rfl⟩
  have h1 : DosesRest z u := hu ▸ ⟨rfl, rfl, id, fun _ => id⟩
  have h2 : DosesRest u (programEnd u) := .raiseNotice u (.programEnd u.seq.summary) (by simp [noticeCode])
  unfold toIdle
  rw [hu]
  exact (h1.trans h2).trans ⟨rfl, rfl, id, fun _ => id⟩

/-- The state that RESET UNIT SEQUENCER settles, with a program. -/
def resetting (s : State) : State :=
  if runningIn s .dry then endDrying (counted s) else stopProgram (counted s)

theorem ceased_resetting (s : State) : Ceased (counted s) (resetting s) := by
  unfold resetting
  split
  · exact ceased_endDrying _
  · exact ceased_stopProgram _

theorem hushed_toIdle {s z : State} (h : Awake s) (k : Ceased s z) : Hushed (toIdle z) := by
  rw [toIdle_rest]
  refine ⟨k.part.trans h.2.1, rfl, fun r hr => ?_⟩
  rcases k.idling r hr with hr | hr
  · exact absurd hr (by simp [h.2.2])
  · exact hr

/-- RESET UNIT SEQUENCER with a program settles in IDLE. -/
theorem reset_settles (tag : Byte) {s : State} (h : Listens s) (hs : programRuns s = true) :
    ∃ t, exec (.resetUnitSequencer tag) s = .next t
      ∧ Answered ⟨0x09#8, tag, ⟨.ok, .unit 1#8⟩⟩ (toIdle (resetting s)) t ∧ Wets (toIdle (resetting s)) t := by
  have hv : serveOwner (.resetUnit 1#8) (counted s) = ⟨settle (toIdle (resetting s)), ⟨.ok, .unit 1#8⟩⟩ := by
    have hr : resetSequencer (counted s) = toIdle (resetting s) := by
      have hx : (counted s).seq = s.seq := rfl
      unfold programRuns at hs
      unfold resetSequencer
      rw [hx]
      split at hs
      all_goals simp_all
      all_goals rfl
    rw [← hr]
    rfl
  have k := ceased_resetting s
  have hy : standing (toIdle (resetting s)) = standing (counted s) := by
    rw [← k.standing]
    simp [toIdle]
  obtain ⟨t, ha, ht⟩ := hostRequest_settled (r := .resetUnit 1#8) (tag := tag) h hv (congrArg Standing.linkState hy)
  have hw := (hushed_toIdle (s := counted s) h.1 k).wets ha.concludes
  refine ⟨t, ht ?_, ha, hw⟩
  rw [hw.part, toIdle_rest]
  exact k.part

section
variable {s t : State} {a : Awaiting} (hw : Wets (toIdle (resetting s)) t)
include hw

/-- The sequencer in IDLE after the reset (R32). -/
theorem reset_sequencer : t.seq.state = .idle ∧ t.seq.sub = .none ∧ t.seq.idx = 0 ∧ t.seq.holdPending = false
    ∧ t.seq.summary = { s.seq.summary with outcome := .aborted, dose := t.seq.summary.dose }
    ∧ t.seq.table = s.seq.table ∧ t.seq.count = s.seq.count ∧ t.seq.soil = s.seq.soil ∧ t.wpc.seqDrain = none
    ∧ t.wpc.sumpEmpty = s.wpc.sumpEmpty ∧ t.part.state = s.part.state ∧ t.cfg = s.cfg := by
  obtain ⟨hp, hc, -, hse, ⟨h1, h2, h3⟩, hsm, -, -⟩ := ceased_resetting s
  have hr := toIdle_rest (resetting s)
  have hq := hw.seq
  have hd := hw.seqDrain
  have hx := hw.sumpEmpty
  have hpt := hw.part
  have hcf := hw.cfg
  obtain ⟨y, hy⟩ : ∃ y, toIdle (resetting s) = y := ⟨_, rfl⟩
  rw [hy] at hr hq hd hx hpt hcf
  rw [hq, hd, hx, hpt, hcf, hr]
  refine ⟨rfl, rfl, rfl, rfl, ?_, h1, h2, h3, rfl, hse, hp, hc⟩
  show { (resetting s).seq.summary with outcome := .aborted } = _
  rw [hsm]
  rfl

theorem reset_notified (h : noticeEnabled s.lnk.mask 7 = true) : notified (.programEnd t.seq.summary) t = true := by
  have hs : t.seq.summary = (toIdle (resetting s)).seq.summary := by rw [hw.seq]
  rw [hs]
  refine hw.noted _ (by simp [noticeCode, engineNotices]) (toIdle_notified ?_)
  rw [(ceased_resetting s).mask]
  exact h

theorem reset_doses (hd : runningIn s .dry = false) : DosesCancelled s t := by
  have k := halted_stopProgram (counted s)
  have he := emptied_emptied (counted s)
  have hr : resetting s = stopProgram (counted s) := if_neg (by simp [hd])
  have hz := dosesRest_toIdle (resetting s)
  have hdoses := k.doses
  rw [← hr] at hdoses
  exact dosesCancelled_of_rest (x := emptied (counted s)) he.dsu (by rw [he.seq]; rfl) he.mask
    (hdoses.trans (hz.trans (.of_wets hw)))

/-- Outside DRY fill, heat and circulation have gone (R21, R32). -/
theorem reset_outputs (h : Listens s) (hc : Answered a (toIdle (resetting s)) t) (hd : runningIn s .dry = false) :
    t.wpc.fill = none ∧ t.htc.request = none ∧ t.htc.output = .off ∧ t.czs.pump = false := by
  have k := halted_stopProgram (counted s)
  have hr : resetting s = stopProgram (counted s) := if_neg (by simp [hd])
  have hy := toIdle_rest (resetting s)
  have hu := hushed_toIdle (s := counted s) h.1 (ceased_resetting s)
  rw [← hr] at k
  obtain ⟨y, he⟩ : ∃ y, toIdle (resetting s) = y := ⟨_, rfl⟩
  rw [he] at hw hc hy hu
  have hf : y.wpc.fill = none := by rw [hy]; exact k.fill
  have hst : t.seq.state = .idle := by rw [hw.state, hy]
  have hn : ∀ b, runningIn t b = false := fun b => by simp [runningIn, hst]
  have hq : Quieted y := by
    refine ⟨hu.ready, fun q hq => absurd hq (by simp [hf]), fun r hx => ?_⟩
    rw [hy] at hx
    rcases k.told r hx with hx | ⟨_, _, rfl⟩ | ⟨_, rfl⟩
    · exact absurd hx (by simp [h.1.2.2])
    · exact .inr (.inl rfl)
    · exact not_runningIn hu.rests _
  have hdr := (hq.settle (.inl (not_runningIn hu.rests _))).trans hc.concludes.drifts
  refine ⟨hdr.fill.trans hf, ?_, ?_, ?_⟩
  · rw [hw.htc, hy]
    exact k.request
  · rw [hc.concludes.settled.heater, heaterOutput, heaterEnabled, hn, hn]
    simp
  · rw [hw.czs, hy]
    exact k.pump

end

end Sys2Proof.Proofs
end

section
/-! PROOFS. A flood stops a running program and FAULTS it, its dose requests cancelled (R26, R51, R126). -/

/- One theorem at a time, as the tests have it: proofs that wait for the kernel cost a thread each. -/
set_option Elab.async false

namespace Sys2Proof.Proofs

open Sys2Proof.Machine
open Sys2Proof.Safety

/-! ## The fault reaches the sequencer -/

theorem programFault_stops {s : State} {c : FaultCode} (h : Stoppable s) (hc : drainsAfter c = false) :
    programFault c s = faultedBy c (stopProgram s) := by
  obtain ⟨-, hd, -⟩ := h.runs
  unfold programFault faultedBy
  rcases h with h | h | h | ⟨h, -⟩ <;> simp [h, hd, hc]

theorem Stoppable.of_wets {s t : State} (h : Stoppable s) (hw : Wets s t) : Stoppable t := by
  unfold Stoppable
  rw [hw.state, hw.sub]
  exact h

theorem dosesRest_faultedBy (c : FaultCode) (z : State) : DosesRest z (faultedBy c z) := by
  obtain ⟨u, hu⟩ : ∃ u, seqTo .faulted .none (setOutcome .faulted (holdCode c z)) = u := ⟨_, rfl⟩
  have h1 : DosesRest z u := hu ▸ ⟨rfl, rfl, id, fun _ => id⟩
  have h2 : DosesRest u (programEnd u) := .raiseNotice u (.programEnd u.seq.summary) (by simp [noticeCode])
  unfold faultedBy enterFaulted
  rw [hu]
  exact h1.trans h2

/-- The sequencer takes the fault and what has been reported behind it: the doses are cancelled, and nothing follows. -/
theorem fault_taken {u : State} {c : FaultCode} {l : List Report} (hp : u.part.state = .ready) (hs : Stoppable u)
    (hc : drainsAfter c = false) (hr : u.reports = .programFault c :: l) (hl : ∀ r ∈ l, Idling r) (n : Nat) :
    DosesRest (cancelSequencerDoses (emptied (onReports (fun _ => l) u))) (takeReports (n + 1) u)
      ∧ (takeReports (n + 1) u).part.state = .ready := by
  have he : takeReports (n + 1) u
      = takeReports n (waterSettle (faultedBy c (stopProgram (onReports (fun _ => l) u)))) := by
    conv_lhs => unfold takeReports
    rw [hr]
    exact congrArg (fun z => takeReports n (waterSettle z)) (programFault_stops (s := onReports (fun _ => l) u) hs hc)
  have k := halted_stopProgram (onReports (fun _ => l) u)
  obtain ⟨z, hz⟩ : ∃ z, stopProgram (onReports (fun _ => l) u) = z := ⟨_, rfl⟩
  rw [hz] at k he
  have hd := dosesRest_faultedBy c z
  have hq := faultedBy_seq c z
  have hzr := faultedBy_reports c z
  have hzp : (faultedBy c z).part = z.part := ((Moves.refl z).faultedBy c).part
  obtain ⟨v, hv⟩ : ∃ v, faultedBy c z = v := ⟨_, rfl⟩
  rw [hv] at hd hq hzr hzp he
  have hh : Hushed v := by
    refine ⟨by rw [hzp, k.part]; exact hp, by rw [programRuns, hq], fun r hx => ?_⟩
    rw [hzr] at hx
    rcases k.told r hx with hx | ⟨_, _, rfl⟩ | ⟨_, rfl⟩
    · exact hl r hx
    · trivial
    · trivial
  have hw := (Wets.refl v).waterSettle.trans (hh.waterSettle.takeReports n)
  rw [he]
  exact ⟨(k.doses.trans hd).trans (.of_wets hw), by rw [hw.part]; exact hh.ready⟩

/-! ## The flood begins -/

/-- What a flood leaves of the sequencer and the dosing before its fault is taken. -/
structure Flooded (s y : State) : Prop where
  part : y.part = s.part
  dsu : y.dsu = s.dsu
  seq : y.seq = { s.seq with permit := y.seq.permit, placed := y.seq.placed }
  mask : y.lnk.mask = s.lnk.mask
  told : y.reports = s.reports ++ [.programFault .flood]
    ∨ ∃ k n, y.reports = s.reports ++ [.fillEnded k .revoked n] ++ [.programFault .flood]

theorem endFill_reports {s : State} {q : FillReq} (hq : s.wpc.fill = some q) (r : FillEnd) :
    (endFill r s).reports = s.reports ++ [.fillEnded q.kind r s.wpc.grantCount] := by
  have hb : ∀ u : State, (startBurst u).reports = u.reports := fun u => by unfold startBurst; split <;> rfl
  unfold endFill
  simp only [hq]
  cases q.kind with
  | main => exact hb _
  | topUp => exact ((Serves.refl _).endTopUp.reports).trans (hb _)

theorem raiseFault_rest (c : FaultCode) (d1 d2 : Detail) (s : State) : raiseFault c d1 d2 s = { s with
    lnk := (raiseFault c d1 d2 s).lnk, rst := (raiseFault c d1 d2 s).rst } := by
  unfold raiseFault enterFault raiseNotice
  dsimp only
  split <;> rfl

/-- The inlet is closed, the fault entered and reported (R51). -/
def floodEntered (s : State) : State :=
  report (.programFault .flood) (raiseFault .flood (.num 0) (.num 0) (closeInlet (onWpc (fun w => { w with floodReq := some .active }) s)))

theorem floodEntered_keeps (s : State) : (floodEntered s).part = s.part ∧ (floodEntered s).dsu = s.dsu
    ∧ (floodEntered s).seq = s.seq ∧ (floodEntered s).lnk.mask = s.lnk.mask
    ∧ (floodEntered s).reports = s.reports ++ [.programFault .flood] := by
  have hm : (floodEntered s).lnk.mask = s.lnk.mask :=
    ((((Aside.refl s).onWpc _).closeInlet).raiseFault .flood (.num 0) (.num 0)).mask
  refine ⟨?_, ?_, ?_, hm, ?_⟩
  all_goals
    unfold floodEntered
    rw [raiseFault_rest]
    rfl

theorem flooded_floodBegins (s : State) : Flooded s (floodBegins s) := by
  have hf : ∀ {u : State}, Wets (onWpc (fun w => { w with inhibit := true }) s) u →
      (u.reports = s.reports ∨ ∃ k n, u.reports = s.reports ++ [.fillEnded k .revoked n]) → Flooded s (floodEntered u) := by
    intro u hw hr
    obtain ⟨h1, h2, h3, h4, h5⟩ := floodEntered_keeps u
    refine ⟨h1.trans hw.part, h2.trans hw.dsu, by rw [h3, hw.seq]; rfl, h4.trans hw.mask, ?_⟩
    rw [h5]
    rcases hr with hr | ⟨k, n, hr⟩
    · exact .inl (by rw [hr])
    · exact .inr ⟨k, n, by rw [hr]⟩
  unfold floodBegins
  dsimp only
  split
  · next h => exact hf ((Wets.refl _).endFill _) (.inr ⟨_, _, endFill_reports h .revoked⟩)
  · exact hf (Wets.refl _).revokeRegen (.inl (revokeRegen_reports _))

theorem not_drainEnded {l : List Report} (h : ∀ r ∈ l, Idling r) : .drainEnded ∉ l := fun hx => h _ hx

/-- The flood of a program settles: its doses are cancelled from what the water path had made of the part (R26, R126). -/
theorem flood_settles {s y t : State} (h : Awake s) (hs : Stoppable s) (k : Flooded s y) (hc : Concludes y t) :
    ∃ v, Wets y v ∧ DosesRest (cancelSequencerDoses (emptied v)) t := by
  have hy : Stoppable y := by
    unfold Stoppable
    rw [k.seq]
    exact hs
  have hp : y.part.state = .ready := by rw [k.part]; exact h.2.1
  have hw : Wets y (waterSettle y) := (Wets.refl y).waterSettle
  have hend : ∀ {c : State}, DosesRest c (takeReports 64 (waterSettle y)) ∧ (takeReports 64 (waterSettle y)).part.state = .ready →
      DosesRest c t := by
    rintro c ⟨h1, h2⟩
    have hsr := settle_ready h2
    have ht := hc.drifts.toWets
    rw [hsr] at ht
    exact h1.trans ((DosesRest.of_wets (wets_rested _)).trans (.of_wets ht))
  obtain ⟨l, hl, hi⟩ := Appends.waterSettle y
  rcases k.told with hr | ⟨kd, n, hr⟩
  · rw [hr, h.2.2] at hl
    exact ⟨_, hw.onReports (fun _ => l) fun _ => not_drainEnded hi, hend (fault_taken (by rw [hw.part]; exact hp) (hy.of_wets hw) rfl hl hi 63)⟩
  · rw [hr, h.2.2] at hl
    have hl : (waterSettle y).reports = .fillEnded kd .revoked n :: .programFault .flood :: l := hl
    obtain ⟨u, hu⟩ : ∃ u, waterSettle y = u := ⟨_, rfl⟩
    rw [hu] at hw hl hend
    have hx : Wets u (onReports (fun _ => .programFault .flood :: l) u) :=
      (Wets.refl u).onReports _ fun _ hm => not_drainEnded hi (by simpa using hm)
    have he : takeReports 64 u = takeReports 63 (waterSettle (onReports (fun _ => .programFault .flood :: l) u)) := by
      conv_lhs => unfold takeReports
      rw [hl]
      exact congrArg (fun z => takeReports 63 (waterSettle z)) (fillEnded_harmless (.inr (.inr (.inl rfl))))
    obtain ⟨a, ha⟩ : ∃ a, onReports (fun _ => .programFault .flood :: l) u = a := ⟨_, rfl⟩
    have har : a.reports = .programFault .flood :: l := ha ▸ rfl
    rw [ha] at hx he
    rw [he] at hend
    obtain ⟨m, hm, hmi⟩ := Appends.waterSettle a
    rw [har] at hm
    have hi2 : ∀ r ∈ l ++ m, Idling r := fun r hr => (List.mem_append.mp hr).elim (hi r) (hmi r)
    have hw2 := (hw.trans hx).trans (Wets.refl a).waterSettle
    exact ⟨_, hw2.onReports (fun _ => l ++ m) fun _ => not_drainEnded hi2,
      hend (fault_taken (by rw [hw2.part]; exact hp) (hy.of_wets hw2) rfl hm hi2 62)⟩

/-- The flood switch turns ACTIVE in a program (R51, R126). -/
theorem flood_cancels {s : State} (h : Awake s) (hf : s.wpc.flood = false) (hs : Stoppable s) :
    ∃ t, exec (.floodSwitchChange true) s = .next t ∧ DosesCancelled s t := by
  obtain ⟨x, hx⟩ : ∃ x, onWpc (fun w => { w with flood := true }) (onPins (fun p => { p with flood := true }) s) = x := ⟨_, rfl⟩
  have he : exec (.floodSwitchChange true) s = .next (conclude (floodBegins x)) := by
    have hw : wakeIf .flood (onPins (fun p => { p with flood := true }) s) = onPins (fun p => { p with flood := true }) s :=
      if_neg (by simp [onPins, h.2.1])
    show execFloodSwitchChange true s = _
    unfold execFloodSwitchChange
    simp only [whenPowered, h.1, if_true]
    rw [if_neg (by simp [onPins, hf]), hw]
    unfold floodChanged
    rw [if_neg (by simp [onPins, hf]), ← hx]
    rfl
  have k := flooded_floodBegins x
  have k : Flooded s (floodBegins x) := by
    subst hx
    exact ⟨k.part, k.dsu, k.seq, k.mask, k.told⟩
  obtain ⟨v, hv, hd⟩ := flood_settles h hs k (concludes_conclude _)
  have hem := emptied_emptied v
  exact ⟨_, he, dosesCancelled_of_rest (x := emptied v) (hem.dsu.trans (hv.dsu.trans k.dsu))
    (by rw [hem.seq, hv.seq, k.seq]) (hem.mask.trans (hv.mask.trans k.mask)) hd⟩

end Sys2Proof.Proofs
end

section
/-! PROOFS. ABORT PROGRAM in DRY and RESET UNIT SEQUENCER without a program, at rest; and the statement of them all (R21, R32,
R50, R126). -/

/- One theorem at a time, as the tests have it: proofs that wait for the kernel cost a thread each. -/
set_option Elab.async false

namespace Sys2Proof.Proofs

open Sys2Proof.Machine
open Sys2Proof.Safety

/-- Where the conditions of the inlet stand, a part at rest without a fill stays at rest. -/
theorem rests_of_flow {s y : State} (h : Rests s) (hf : s.wpc.fill = none) (hp : y.part.powered = s.part.powered)
    (hst : y.part.state = s.part.state) (hr : y.reports = []) (hw : y.wpc = { s.wpc with seqDrain := y.wpc.seqDrain })
    (he : y.rge = s.rge) (hc : y.sfu = s.sfu) (hy : waterFlows y = waterFlows s) (hd : runningIn y .drain = false) :
    Rests y := by
  obtain ⟨⟨a1, a2, -⟩, -, -, w3, w4, w5, -, w7, w8, w9⟩ := h
  obtain ⟨d, hw⟩ : ∃ d, y.wpc = { s.wpc with seqDrain := d } := ⟨_, hw⟩
  refine ⟨⟨hp.trans a1, hst.trans a2, hr⟩, by simp [hw, hf], by simp [hw, hf], ?_, ?_, ?_, fun _ => hd, ?_, ?_, ?_⟩
  · rw [hy, hw]
    exact w3
  · rw [hy, hw]
    exact w4
  · rw [he, hc]
    exact w5
  · rw [he, hw]
    exact w7
  · rw [hw]
    exact w8
  · rw [hw]
    exact w9

/-! ## ABORT in DRY -/

/-- The program ABORTED in DRY, before the step settles. -/
def dryAborted (s : State) : State :=
  programEnd (setOutcome .aborted (onSeq (fun q => { q with state := .ended, sub := .none, holdPending := false })
    (endDrying (counted s))))

/-- What the abort of a drying leaves before the step settles. -/
structure DryStopped (s y : State) : Prop where
  part : y.part.powered = s.part.powered ∧ y.part.state = s.part.state
  cfg : y.cfg = s.cfg
  wpc : y.wpc = s.wpc
  sfu : y.sfu = s.sfu
  rge : y.rge = s.rge
  dsu : y.dsu = s.dsu
  seq : y.seq = { s.seq with
    state := .ended, sub := .none, holdPending := false, summary := { s.seq.summary with outcome := .aborted } }
  stage : y.ddu.stage = .none ∨ y.ddu.stage = .done ∨ y.ddu.stage = .retracting
  awaited : y.ddu.awaited = false
  reports : y.reports = s.reports
  noted : noticeEnabled s.lnk.mask 7 = true → notified (.programEnd y.seq.summary) y = true

theorem dryStopped (s : State) : DryStopped s (dryAborted s) := by
  have k := (Dries.refl (counted s)).endDrying
  have k1 := k.rest
  have k2 := k.part
  have k3 := k.mask
  obtain ⟨g1, g2, g3⟩ := dryingGone_endDrying (counted s)
  obtain ⟨u, hu⟩ : ∃ u, endDrying (counted s) = u := ⟨_, rfl⟩
  rw [hu] at k1 k2 k3 g1 g2 g3
  obtain ⟨x, hx⟩ : ∃ x, setOutcome .aborted (onSeq (fun q => { q with state := .ended, sub := .none, holdPending := false }) u) = x :=
    ⟨_, rfl⟩
  have hn : noticeEnabled s.lnk.mask 7 = true → notified (.programEnd x.seq.summary) (raiseNotice (.programEnd x.seq.summary) x) = true :=
    fun h => notified_raiseNotice (by rw [← hx]; exact k3 ▸ h)
  have hr := raiseNotice_rest (.programEnd x.seq.summary) x
  have hy : dryAborted s = raiseNotice (.programEnd x.seq.summary) x := by rw [dryAborted, hu, hx]; rfl
  rw [hy]
  obtain ⟨y, hy⟩ : ∃ y, raiseNotice (.programEnd x.seq.summary) x = y := ⟨_, rfl⟩
  rw [hy] at hn hr ⊢
  have hs : y.seq = x.seq := by rw [hr]
  rw [← hs] at hn
  obtain ⟨l, hr⟩ : ∃ l, y = { x with lnk := l } := ⟨_, hr⟩
  subst hx
  refine ⟨⟨?_, ?_⟩, ?_, ?_, ?_, ?_, ?_, ?_, ?_, ?_, ?_, hn⟩
  · rw [hr]; exact (congrArg Part.powered k2).trans rfl
  · rw [hr]; exact (congrArg Part.state k2).trans rfl
  · rw [hr]; exact (congrArg State.cfg k1).trans rfl
  · rw [hr]; exact (congrArg State.wpc k1).trans rfl
  · rw [hr]; exact (congrArg State.sfu k1).trans rfl
  · rw [hr]; exact (congrArg State.rge k1).trans rfl
  · rw [hr]; exact (congrArg State.dsu k1).trans rfl
  · have hq : u.seq = s.seq := (congrArg State.seq k1).trans rfl
    rw [hr]
    show { u.seq with
      state := .ended, sub := .none, holdPending := false, summary := { u.seq.summary with outcome := .aborted } } = _
    rw [hq]
  · rw [hr]; exact g1
  · rw [hr]; exact g2
  · rw [hr]; exact g3

section
variable {s : State} (h : Listens s) (hr : Rests s) (hs : s.seq.state = .running) (hb : s.seq.sub = .dry)
include hr hs hb

omit hs in
theorem fill_none_in_dry : s.wpc.fill = none := by
  cases hx : s.wpc.fill with
  | none => rfl
  | some q => exact absurd hb (hr.2.2.1 (by rw [hx]; rfl)).2.2.2

theorem rests_dryAborted : Rests (dryAborted s) := by
  have k := dryStopped s
  refine rests_of_flow hr (fill_none_in_dry hr hb) k.part.1 k.part.2 (k.reports.trans hr.1.2.2) (by rw [k.wpc]) k.rge k.sfu ?_ ?_
  · simp [waterFlows, permitCondition, k.wpc, k.seq, hs, hb, show (SubStage.dry == .drain) = false from rfl]
  · rw [runningIn, k.seq]
    rfl

include h

/-- ABORT in DRY ends the program ABORTED at once (R21, R171). -/
theorem abort_ends_dry (tag : Byte) : ∃ t, exec (.abortProgram tag) s = .next t
    ∧ t.seq = { s.seq with
        state := .ended, sub := .none, holdPending := false
        summary := { s.seq.summary with outcome := .aborted }, permit := t.seq.permit }
    ∧ (noticeEnabled s.lnk.mask 7 = true → notified (.programEnd t.seq.summary) t = true)
    ∧ (t.ddu.stage = .none ∨ t.ddu.stage = .done ∨ t.ddu.stage = .retracting) ∧ t.ddu.awaited = false
    ∧ t.wpc.seqDrain = s.wpc.seqDrain ∧ t.lnk.awaiting = some ⟨0x17#8, tag, .ok, .empty⟩
    ∧ t.cfg = s.cfg ∧ t.dsu = s.dsu ∧ t.sfu = s.sfu ∧ t.rge = s.rge := by
  have k := dryStopped s
  have hy := rests_dryAborted hr hs hb
  have hv : serveOwner .abortProgram (counted s) = ⟨settle (dryAborted s), ⟨.ok, .empty⟩⟩ := by
    have hd : runningIn (counted s) .dry = true := by simp [runningIn, hs, hb]
    have he : editing (counted s) = true := by simp [editing, hs]
    simp only [serveOwner, serveAbort, he, if_true, abortProgram, hd, acted]
    rfl
  have hst : standing (dryAborted s) = standing (counted s) := by simp [dryAborted]
  obtain ⟨t, ha, ht⟩ := hostRequest_settled (r := .abortProgram) (tag := tag) h hv (congrArg Standing.linkState hst)
  have hset := Laws.settle_rests hy
  obtain ⟨y, he⟩ : ∃ y, dryAborted s = y := ⟨_, rfl⟩
  rw [he] at k hy ha hset
  have hc := ha.concludes
  have hd := drifts_of_silent hy.1.2.1 (by rw [k.wpc]; exact fill_none_in_dry hr hb) hy.1.2.2
    (.inl (by rw [runningIn, k.seq]; rfl)) hc
  have hq := hd.seq_of_quiet hy.1.2.2
  have hsm : t.seq.summary = y.seq.summary := by rw [hq]
  refine ⟨t, ht (by rw [hd.part]; exact k.part.2), ?_, fun h7 => ?_, by rw [hd.ddu]; exact k.stage, by rw [hd.ddu]; exact k.awaited,
    by rw [hd.seqDrain, k.wpc], ha.awaiting, hd.cfg.trans k.cfg, hd.dsu.trans k.dsu, ?_, ?_⟩
  · rw [hq, k.seq]
  · rw [hsm]
    exact hd.noted _ (by simp [noticeCode, engineNotices]) (k.noted h7)
  · rw [hc.sfu, hset]
    exact k.sfu
  · rw [hc.rge, hset]
    exact k.rge

end

/-! ## RESET UNIT SEQUENCER without a program -/

section
variable {s : State} (h : Listens s) (hr : Rests s)
include h hr

omit hr in
/-- RESET UNIT SEQUENCER whose action leaves the part at rest. -/
theorem reset_rests (tag : Byte) {y : State} (hv : resetSequencer (counted s) = y) (hy : Rests y)
    (hl : y.lnk = (counted s).lnk) (hp : y.part = s.part) :
    exec (.resetUnitSequencer tag) s = .next (finish (answering 0x09#8 tag .ok (.unit 1#8) (outputs (silenced s y)))) := by
  have hv : serveOwner (.resetUnit 1#8) (counted s) = ⟨outputs y, ⟨.ok, .unit 1#8⟩⟩ := by
    rw [← Laws.settle_rests hy, ← hv]
    rfl
  have ho : (outputs y).lnk = y.lnk ∧ (outputs y).part = y.part := ⟨rfl, rfl⟩
  have he := hostRequest_acted (r := .resetUnit 1#8) (tag := tag) h hv (congrArg Lnk.state (ho.1.trans hl))
    (congrArg Part.state (ho.2.trans hp))
  rw [silenced_outputs] at he
  exact he

omit h in
theorem fill_none_unless_running (hs : s.seq.state ≠ .running) : s.wpc.fill = none := by
  cases hx : s.wpc.fill with
  | none => rfl
  | some q => exact absurd (hr.2.2.1 (by rw [hx]; rfl)).1 hs

theorem reset_ended (tag : Byte) (hs : s.seq.state = .ended) :
    exec (.resetUnitSequencer tag) s = .next (finish (answering 0x09#8 tag .ok (.unit 1#8)
      (outputs (onSeq (fun q => { q with state := .idle, idx := 0 }) (onWpc (fun w => { w with seqDrain := none }) (heard s)))))) := by
  have hv : resetSequencer (counted s) = dropDrain (onSeq (fun q => { q with state := .idle, idx := 0 }) (counted s)) := by
    simp [resetSequencer, hs]
  refine (reset_rests h tag hv (rests_of_flow hr (fill_none_unless_running hr (by simp [hs])) rfl rfl hr.1.2.2 rfl rfl rfl ?_ ?_) rfl rfl).trans ?_
  · simp [waterFlows, permitCondition, dropDrain, onWpc, onSeq, hs]
  · simp [runningIn, dropDrain]
  · rfl

theorem reset_idle (tag : Byte) (hs : s.seq.state = .idle) :
    exec (.resetUnitSequencer tag) s = .next (finish (answering 0x09#8 tag .ok (.unit 1#8) (outputs (heard s)))) :=
  reset_rests h tag (y := counted s) (by simp [resetSequencer, hs]) (rests_counted hr) rfl rfl

theorem reset_faulted (tag : Byte) (hs : s.seq.state = .faulted) :
    exec (.resetUnitSequencer tag) s = .next (finish (answering 0x09#8 tag .ok (.unit 1#8)
      (outputs (onWpc (fun w => { w with seqDrain := none }) (heard s))))) := by
  have hv : resetSequencer (counted s) = dropDrain (counted s) := by simp [resetSequencer, hs]
  refine (reset_rests h tag hv (rests_of_flow hr (fill_none_unless_running hr (by simp [hs])) rfl rfl hr.1.2.2 rfl rfl rfl ?_ ?_) rfl rfl).trans ?_
  · simp [waterFlows, permitCondition, dropDrain, onWpc, hs]
  · simp [runningIn, dropDrain, hs]
  · rfl

end

/-! ## The statement -/

theorem closedRecord_hardness {f : Sfu} (h : f.fill.isOpen = true) :
    (closedRecord f).hFill = deliveredHardness f.fill.g f.fill.v f.hRaw := by simp [closedRecord, h]

/-- The pause goes with the sequencer's requests (R126). -/
theorem pause_of_dosesCancelled {s t : State} (h : DosesCancelled s t) :
    t.dsu.pause = (s.dsu.pause && !(s.dsu.batch ++ s.dsu.waiting).any ofSequencer) := by
  obtain ⟨h1, h2⟩ := h
  rw [any_ofSequencer]
  cases hn : (s.dsu.batch ++ s.dsu.waiting).all fun r => r.origin == .hostPrime with
  | true => rw [(h1 hn).1]; simp
  | false => rw [(h2 hn).1]; simp

/-- Settles O25: what ABORT, RESET UNIT SEQUENCER and a flood stop is settled without a move of the sequencer. -/
theorem abortAndResetEndTheProgram : Obligations.AbortAndResetEndTheProgram := by
  refine ⟨fun tag s h hg => ⟨abort_refused tag h, fun hs => ?_, fun hs hb hr => abort_ends_dry h hr hs hb tag⟩,
    fun tag s h => ⟨fun hp => ?_, fun hr => ⟨reset_ended h hr tag, reset_idle h hr tag, reset_faulted h hr tag⟩⟩,
    fun tag s => ⟨fun h hg hs => ?_, fun h _ hp hd => ?_, fun h _ hf hs => flood_cancels h hf hs⟩⟩
  · obtain ⟨t, ht, ha, hd⟩ := abort_settles tag h hs
    have hq := aborted_sequencer hd
    obtain ⟨k1, k2, k3, k4, k5⟩ := aborted_keeps s
    obtain ⟨o1, o2, o3, o4, o5, o6, o7, o8⟩ := aborted_outputs ha hd hg
    have hrec : t.sfu.fill = closedRecord s.sfu := hd.record.1.trans k5
    refine ⟨t, ht, ?_, ?_, ?_, ?_, ?_, ?_, ?_, ?_, ?_, o1, ?_, ?_, ?_, ?_, o2, o3, o4, o5, by rw [hrec]; exact closedRecord_isOpen _,
      fun ho => by rw [hrec]; exact closedRecord_hardness ho, o6, o7, o8, pause_of_dosesCancelled (aborted_doses hd), ha.awaiting,
      hd.part.trans k1, hd.cfg.trans k2, hd.ddu.trans k3, hd.history.trans k4⟩
    all_goals rw [hq]
  · obtain ⟨t, ht, ha, hw⟩ := reset_settles tag h hp
    obtain ⟨r1, r2, r3, r4, r5, r6, r7, r8, r9, r10, r11, r12⟩ := reset_sequencer hw
    refine ⟨t, ht, r1, r2, r3, r4, r5, r6, r7, r8, ?_, r9, reset_outputs hw h ha, reset_notified hw, ha.awaiting, r11, r12⟩
    rw [ha.concludes.settled.permit, ← r10]
    simp [permitCondition, r1]
  · obtain ⟨t, ht, -, hd⟩ := abort_settles tag h hs
    exact ⟨t, ht, aborted_doses hd⟩
  · obtain ⟨t, ht, -, hw⟩ := reset_settles tag h hp
    exact ⟨t, ht, reset_doses hw hd⟩

end Sys2Proof.Proofs
end

section
/-! PROOFS. The agreement of the inlet's holder, its requests, the valves and the engine, as every operation of the water path and
of the engine leaves it (R37 to R40); and what the blocks report while the sequencer stands. -/

/- One theorem at a time, as the tests have it: proofs that wait for the kernel cost a thread each. -/
set_option Elab.async false

namespace Sys2Proof.Proofs

open Sys2Proof.Machine
open Sys2Proof.Safety

/-! ## The inlet -/

/-- Holder, requests, valves and engine agree, and a FILL request held stands beside no held regeneration request (R37, R38). -/
structure Inlet (s : State) : Prop where
  grants : GrantsAgree s
  apart : ∀ q ∈ s.wpc.fill, q.held = true → ∀ g ∈ s.wpc.regen, g.held = false

/-- The end of a main fill that the sequencer has to hear: it closes the fill, or begins the water wait (R9, R10). -/
def spent : Report → Bool
  | .fillEnded .main .volumeReached _ | .fillEnded .main .highLevel _ | .fillEnded .main .limitExpired _ => true
  | _ => false

/-- The reports on which a sequencer without a fill enters another phase: a drying done, the loss of the link (R17, R23). -/
def moving : Report → Bool
  | .dryingDone _ | .linkLost => true
  | _ => false

/-- The number of main fills that stand: 0 or 1. -/
def mains (w : Wpc) : Nat :=
  match w.fill with
  | some ⟨_, .main, _⟩ => 1
  | _ => 0

/-- From `s` to `t`, whose inlet agrees, the sequencer's course stands, no fill has been asked and no fill record opened, part state and inhibit stand, a main
fill has gone with at most one report of its end, and nothing else is reported that moves the sequencer on. -/
structure Flows (s t : State) : Prop where
  inlet : Inlet t
  part : t.part.state = s.part.state
  inhibit : t.wpc.inhibit = s.wpc.inhibit
  course : courseOf t.seq = courseOf s.seq
  kinds : ∀ q ∈ t.wpc.fill, ∃ p ∈ s.wpc.fill, p.kind = q.kind
  record : t.sfu.fill.isOpen = true → s.sfu.fill.isOpen = true
  spends : t.reports.countP spent + mains t.wpc ≤ s.reports.countP spent + mains s.wpc
  reports : s.reports <+: t.reports
  still : ∀ r ∈ t.reports, moving r = true → r ∈ s.reports

/-! ## What the holder says -/

theorem holderOf_brine {w : Wpc} : holderOf w = .brine ↔ w.regen = some ⟨.brine, true⟩ ∧ ∀ q ∈ w.fill, q.held = false := by
  unfold holderOf
  rcases w.fill with _ | ⟨n, k, _ | _⟩ <;> rcases w.regen with _ | ⟨_ | _, _ | _⟩ <;> simp

theorem holderOf_rinse {w : Wpc} : holderOf w = .rinse ↔ w.regen = some ⟨.rinse, true⟩ ∧ ∀ q ∈ w.fill, q.held = false := by
  unfold holderOf
  rcases w.fill with _ | ⟨n, k, _ | _⟩ <;> rcases w.regen with _ | ⟨_ | _, _ | _⟩ <;> simp

theorem holderOf_none {w : Wpc} : holderOf w = .none ↔ (∀ g ∈ w.regen, g.held = false) ∧ ∀ q ∈ w.fill, q.held = false := by
  unfold holderOf
  rcases w.fill with _ | ⟨n, k, _ | _⟩ <;> rcases w.regen with _ | ⟨_ | _, _ | _⟩ <;> simp

theorem holderOf_fill {w : Wpc} : holderOf w = .fill ↔ ∃ q ∈ w.fill, q.held = true := by
  unfold holderOf
  rcases w.fill with _ | ⟨n, k, _ | _⟩ <;> rcases w.regen with _ | ⟨_ | _, _ | _⟩ <;> simp

theorem engineRequest_brine {s : State} : engineRequest s = some ⟨.brine, true⟩ ↔ s.rge.state = .brineDraw := by
  unfold engineRequest
  split <;> simp_all

theorem engineRequest_rinse {s : State} : engineRequest s = some ⟨.rinse, true⟩ ↔ s.rge.state = .rinse := by
  unfold engineRequest
  split <;> simp_all

namespace Inlet

variable {s : State}

theorem holder (h : Inlet s) : s.wpc.holder = holderOf s.wpc := h.grants.2.1

theorem holder_fill (h : Inlet s) (hh : s.wpc.holder = .fill) : ∀ q ∈ s.wpc.fill, q.held = true := fun q hq => by
  obtain ⟨p, hp, hb⟩ := holderOf_fill.mp (h.holder.symm.trans hh)
  rwa [Option.mem_unique hq hp]

/-- Brine is drawn: the engine draws, its request is held, and no fill is (R37, R81). -/
theorem holder_brine (h : Inlet s) (hh : s.wpc.holder = .brine) :
    s.rge.state = .brineDraw ∧ s.wpc.regen = some ⟨.brine, true⟩ ∧ ∀ q ∈ s.wpc.fill, q.held = false := by
  obtain ⟨hr, hf⟩ := holderOf_brine.mp (h.holder.symm.trans hh)
  exact ⟨engineRequest_brine.mp (h.grants.1.symm.trans hr), hr, hf⟩

theorem holder_rinse (h : Inlet s) (hh : s.wpc.holder = .rinse) :
    s.rge.state = .rinse ∧ s.wpc.regen = some ⟨.rinse, true⟩ ∧ ∀ q ∈ s.wpc.fill, q.held = false := by
  obtain ⟨hr, hf⟩ := holderOf_rinse.mp (h.holder.symm.trans hh)
  exact ⟨engineRequest_rinse.mp (h.grants.1.symm.trans hr), hr, hf⟩

theorem fill_of_regen_held (h : Inlet s) {k : RegenKind} (hr : s.wpc.regen = some ⟨k, true⟩) :
    ∀ q ∈ s.wpc.fill, q.held = false := fun q hq => by
  cases hh : q.held
  · rfl
  · exact absurd (h.apart q hq hh _ hr) (by simp)

/-- The engine draws only while it holds the inlet. -/
theorem draws (h : Inlet s) (he : s.rge.state = .brineDraw) : s.wpc.holder = .brine ∧ s.wpc.regen = some ⟨.brine, true⟩ := by
  have hr := h.grants.1.trans (engineRequest_brine.mpr he)
  exact ⟨h.holder.trans (holderOf_brine.mpr ⟨hr, h.fill_of_regen_held hr⟩), hr⟩

theorem rinses (h : Inlet s) (he : s.rge.state = .rinse) : s.wpc.holder = .rinse ∧ s.wpc.regen = some ⟨.rinse, true⟩ := by
  have hr := h.grants.1.trans (engineRequest_rinse.mpr he)
  exact ⟨h.holder.trans (holderOf_rinse.mpr ⟨hr, h.fill_of_regen_held hr⟩), hr⟩

theorem column_isSome (h : Inlet s) (he : s.rge.state ≠ .idle) : s.rge.column.isSome = true := by
  obtain ⟨⟨-, -, -, -, -, -, h7, -⟩, -⟩ := h
  simp [h7, he]

/-- What the agreement depends on stands. -/
theorem congr {t : State} (h : Inlet s) (h1 : t.wpc.holder = s.wpc.holder) (h2 : t.wpc.fill = s.wpc.fill)
    (h3 : t.wpc.regen = s.wpc.regen) (h4 : t.wpc.inletValve = s.wpc.inletValve) (h5 : t.wpc.brineValve = s.wpc.brineValve)
    (h6 : t.wpc.fillTimer.isSome = s.wpc.fillTimer.isSome) (h7 : t.wpc.burst.isSome = s.wpc.burst.isSome)
    (h8 : t.rge.state = s.rge.state) (h9 : t.rge.column.isSome = s.rge.column.isSome) (h10 : t.rge.lidOpen = s.rge.lidOpen) :
    Inlet t := by
  obtain ⟨hg, hx⟩ := h
  refine ⟨?_, by rw [h2, h3]; exact hx⟩
  have ho : holderOf t.wpc = holderOf s.wpc := by simp only [holderOf, h2, h3]
  simpa only [GrantsAgree, engineRequest, h1, h2, h3, h4, h5, h6, h7, h8, h9, h10, ho] using hg

/-- No fill is held or asked, and the inlet is closed. -/
theorem unfilled {t : State} (h : Inlet s) (hr : t.wpc.regen = s.wpc.regen) (hh : ∀ g ∈ s.wpc.regen, g.held = false)
    (hf : ∀ q ∈ t.wpc.fill, q.held = false) (h1 : t.wpc.holder = .none) (h4 : t.wpc.inletValve = false)
    (h5 : t.wpc.brineValve = false) (h6 : t.wpc.fillTimer = none) (h7 : t.wpc.burst.isSome = s.wpc.burst.isSome)
    (h8 : t.rge = s.rge) : Inlet t := by
  obtain ⟨⟨g1, g2, g3, g4, g5, g6, g7, g8⟩, hx⟩ := h
  have ho : holderOf t.wpc = .none := holderOf_none.mpr ⟨by rw [hr]; exact hh, hf⟩
  refine ⟨⟨by rw [hr, g1, engineRequest, engineRequest, h8], by rw [h1, ho], by rw [h1, h4]; rfl, by rw [h1, h5]; rfl,
    by rw [h1, h6]; rfl, by rw [h7, g6, h8], by rw [h8]; exact g7, by rw [h8]; exact g8⟩, fun q hq hh => ?_⟩
  exact absurd (hf q hq) (by simp [hh])

end Inlet

theorem mains_le_one (w : Wpc) : mains w ≤ 1 := by unfold mains; split <;> simp

theorem mains_none {w : Wpc} (h : w.fill = none) : mains w = 0 := by simp [mains, h]

theorem mains_congr {w v : Wpc} (h : w.fill = v.fill) : mains w = mains v := by simp [mains, h]

theorem mains_main {w : Wpc} {q : FillReq} (h : q ∈ w.fill) (hk : q.kind = .main) : mains w = 1 := by
  obtain ⟨n, k, b⟩ := q
  cases hk
  simp [mains, Option.mem_def.mp h]

theorem mains_topUp {w : Wpc} {q : FillReq} (h : q ∈ w.fill) (hk : q.kind = .topUp) : mains w = 0 := by
  obtain ⟨n, k, b⟩ := q
  cases hk
  simp [mains, Option.mem_def.mp h]

/-- From `s` to `t` the softener has taken a millilitre into account: its own records, the summary, the notices and the writes
asked may have changed, no fill record has been opened or closed. -/
structure Accounts (s t : State) : Prop where
  rest : t = { s with sfu := t.sfu, lnk := t.lnk, rst := t.rst, seq := { s.seq with summary := t.seq.summary } }
  opened : t.sfu.fill.isOpen = s.sfu.fill.isOpen

namespace Accounts

variable {s t u a b : State}

theorem refl (s : State) : Accounts s s := ⟨rfl, rfl⟩

theorem trans (h : Accounts s t) (k : Accounts t u) : Accounts s u := by
  obtain ⟨h1, h2⟩ := h
  obtain ⟨k1, k2⟩ := k
  refine ⟨?_, k2.trans h2⟩
  rw [h1] at k1
  exact k1

theorem ite {c : Prop} [Decidable c] (ha : c → Accounts s a) (hb : ¬ c → Accounts s b) : Accounts s (if c then a else b) := by
  split
  · exact ha ‹_›
  · exact hb ‹_›

theorem serves (h : Accounts s t) (k : Serves t u) : Accounts s u :=
  h.trans ⟨by rw [k.rest], by rw [k.record.1]⟩

theorem onSfu (h : Accounts s t) (f : Sfu → Sfu) (hf : (f t.sfu).fill.isOpen = t.sfu.fill.isOpen := by rfl) :
    Accounts s (onSfu f t) := h.trans ⟨rfl, hf⟩

theorem onSummary (h : Accounts s t) (f : Seq → Seq) (hf : f t.seq = { t.seq with summary := (f t.seq).summary } := by rfl) :
    Accounts s (onSeq f t) := h.trans ⟨congrArg (fun q => { t with seq := q }) hf, rfl⟩

theorem raiseNotice (h : Accounts s t) (c : Content) : Accounts s (raiseNotice c t) := h.serves ((Serves.refl t).raiseNotice c)

theorem exhaustionCheck (h : Accounts s t) : Accounts s (exhaustionCheck t) := by
  have hm : ∀ col, Accounts s (markExhausted col t) := fun col => (h.onSfu _ (by cases col <;> rfl)).serves ((Serves.refl _).askWrite _)
  simp only [Machine.exhaustionCheck]
  split
  · exact h
  · exact .ite (fun _ => .ite (fun _ => hm _) fun _ => (hm _).serves ((Serves.refl _).switchService _)) fun _ => h

theorem chargeColumn (h : Accounts s t) (col : Column) : Accounts s (chargeColumn col t) := by
  unfold Machine.chargeColumn
  exact (h.onSfu _ (by cases col <;> rfl)).onSummary _ (by unfold drawFrom; split <;> rfl)

theorem addG (h : Accounts s t) (k : FillKind) (n : Nat) : Accounts s (addG k n t) := by
  cases k
  · exact h.onSfu fun f => { f with fill := { f.fill with g := f.fill.g + f.hRaw * n } }
  · exact h

theorem breakthroughMl (h : Accounts s t) (k : FillKind) (col : Column) : Accounts s (breakthroughMl k col t) := by
  cases k
  · exact .ite (fun _ => ((h.onSummary _).onSfu _).raiseNotice _) fun _ => (h.onSummary _).onSfu _
  · exact .ite (fun _ => h.onSummary _) fun _ => ((h.onSummary _).onSfu _).raiseNotice _

theorem softenMl (h : Accounts s t) (k : FillKind) : Accounts s (softenMl k t) := by
  unfold Machine.softenMl
  split
  · exact h.addG _ _
  · exact .ite (fun _ => h.addG _ _) fun _ => .ite (fun _ => (h.addG _ _).breakthroughMl _ _) fun _ =>
      .ite (fun _ => (h.chargeColumn _).addG _ _) fun _ => h.addG _ _

theorem accountMl (h : Accounts s t) (k : FillKind) (b : Bool) : Accounts s (accountMl k b t) := by
  cases k
  · exact ((h.onSfu _).softenMl _).exhaustionCheck
  · have h : Accounts s (if b then Machine.onSfu (fun f => { f with topUpCount := 1, topUpMark := false }) t
        else Machine.onSfu (fun f => { f with topUpCount := f.topUpCount + 1 }) t) :=
      .ite (fun _ => h.onSfu _) fun _ => h.onSfu _
    exact (h.softenMl _).exhaustionCheck

end Accounts

namespace Flows

variable {s t u a b : State}

theorem refl (h : Inlet s) : Flows s s := ⟨h, rfl, rfl, rfl, fun q hq => ⟨q, hq, rfl⟩, id, le_rfl, List.prefix_rfl, fun _ h _ => h⟩

theorem trans (h : Flows s t) (k : Flows t u) : Flows s u where
  inlet := k.inlet
  part := k.part.trans h.part
  inhibit := k.inhibit.trans h.inhibit
  course := k.course.trans h.course
  kinds := fun q hq => by
    obtain ⟨p, hp, he⟩ := k.kinds q hq
    obtain ⟨o, ho, hk⟩ := h.kinds p hp
    exact ⟨o, ho, hk.trans he⟩
  record := h.record ∘ k.record
  spends := k.spends.trans h.spends
  reports := h.reports.trans k.reports
  still := fun r hr hm => h.still r (k.still r hr hm) hm

theorem ite {c : Prop} [Decidable c] (ha : c → Flows s a) (hb : ¬ c → Flows s b) : Flows s (if c then a else b) := by
  split
  · exact ha ‹_›
  · exact hb ‹_›

/-- Inlet and engine stand, and so do the fill record and the reports. -/
theorem keep (h : Flows s t) (hw : u.wpc = t.wpc) (he : u.rge = t.rge) (hf : u.sfu.fill.isOpen = t.sfu.fill.isOpen)
    (hp : u.part.state = t.part.state) (hr : u.reports = t.reports) (hc : courseOf u.seq = courseOf t.seq := by rfl) :
    Flows s u :=
  h.trans ⟨h.inlet.congr (by rw [hw]) (by rw [hw]) (by rw [hw]) (by rw [hw]) (by rw [hw]) (by rw [hw]) (by rw [hw])
    (by rw [he]) (by rw [he]) (by rw [he]), hp, by rw [hw], hc, by rw [hw]; exact fun q hq => ⟨q, hq, rfl⟩,
    by rw [hf]; exact id, by rw [hr, hw], by rw [hr], by rw [hr]; exact fun _ h _ => h⟩

theorem serves (h : Flows s t) (k : Serves t u) : Flows s u :=
  h.keep k.wpc k.rge (by rw [k.record.1]) (by rw [k.rest]) k.reports (by rw [k.seq])

/-! ## Updates of one block -/

theorem onPart (h : Flows s t) (f : Part → Part) (hf : (f t.part).state = t.part.state := by rfl) : Flows s (onPart f t) :=
  h.keep rfl rfl rfl hf rfl

theorem onPins (h : Flows s t) (f : Pins → Pins) : Flows s (onPins f t) := h.keep rfl rfl rfl rfl rfl
theorem onCfg (h : Flows s t) (f : ConfigRec → ConfigRec) : Flows s (onCfg f t) := h.keep rfl rfl rfl rfl rfl
theorem onLnk (h : Flows s t) (f : Lnk → Lnk) : Flows s (onLnk f t) := h.keep rfl rfl rfl rfl rfl
theorem onSeq (h : Flows s t) (f : Seq → Seq) (hc : courseOf (f t.seq) = courseOf t.seq := by rfl) : Flows s (onSeq f t) :=
  h.keep rfl rfl rfl rfl rfl hc
theorem onDsu (h : Flows s t) (f : Dsu → Dsu) : Flows s (onDsu f t) := h.keep rfl rfl rfl rfl rfl
theorem onHtc (h : Flows s t) (f : Htc → Htc) : Flows s (onHtc f t) := h.keep rfl rfl rfl rfl rfl
theorem onCzs (h : Flows s t) (f : Czs → Czs) : Flows s (onCzs f t) := h.keep rfl rfl rfl rfl rfl
theorem onDdu (h : Flows s t) (f : Ddu → Ddu) : Flows s (onDdu f t) := h.keep rfl rfl rfl rfl rfl
theorem onRst (h : Flows s t) (f : Rst → Rst) : Flows s (onRst f t) := h.keep rfl rfl rfl rfl rfl
theorem onTies (h : Flows s t) (f : Ties → Ties) : Flows s (onTies f t) := h.keep rfl rfl rfl rfl rfl

theorem onSfu (h : Flows s t) (f : Sfu → Sfu) (hf : (f t.sfu).fill.isOpen = t.sfu.fill.isOpen := by rfl) :
    Flows s (onSfu f t) := h.keep rfl rfl hf rfl rfl

/-- A change of the inlet's fields that the agreement does not depend on. -/
theorem onWpc (h : Flows s t) (f : Wpc → Wpc) (hw : f t.wpc = { f t.wpc with
    holder := t.wpc.holder, fill := t.wpc.fill, regen := t.wpc.regen, inletValve := t.wpc.inletValve
    brineValve := t.wpc.brineValve, fillTimer := t.wpc.fillTimer, burst := t.wpc.burst, inhibit := t.wpc.inhibit } := by rfl) :
    Flows s (onWpc f t) := by
  have h1 : (f t.wpc).holder = t.wpc.holder := by rw [hw]
  have h2 : (f t.wpc).fill = t.wpc.fill := by rw [hw]
  have h3 : (f t.wpc).regen = t.wpc.regen := by rw [hw]
  have h4 : (f t.wpc).inletValve = t.wpc.inletValve := by rw [hw]
  have h5 : (f t.wpc).brineValve = t.wpc.brineValve := by rw [hw]
  have h6 : (f t.wpc).fillTimer = t.wpc.fillTimer := by rw [hw]
  have h7 : (f t.wpc).burst = t.wpc.burst := by rw [hw]
  have h8 : (f t.wpc).inhibit = t.wpc.inhibit := by rw [hw]
  exact h.trans ⟨h.inlet.congr h1 h2 h3 h4 h5 (congrArg Option.isSome h6) (congrArg Option.isSome h7) rfl rfl rfl, rfl, h8, rfl,
    fun q hq => ⟨q, h2 ▸ hq, rfl⟩, id, le_of_eq (congrArg _ (mains_congr h2)), List.prefix_rfl, fun _ h _ => h⟩

/-- A change of the engine's fields that the agreement does not depend on. -/
theorem onRge (h : Flows s t) (f : Rge → Rge) (h1 : (f t.rge).state = t.rge.state := by rfl)
    (h2 : (f t.rge).column.isSome = t.rge.column.isSome := by rfl) (h3 : (f t.rge).lidOpen = t.rge.lidOpen := by rfl) :
    Flows s (onRge f t) :=
  h.trans ⟨h.inlet.congr rfl rfl rfl rfl rfl rfl rfl h1 h2 h3, rfl, rfl, rfl, fun q hq => ⟨q, hq, rfl⟩, id, le_rfl,
    List.prefix_rfl, fun _ h _ => h⟩

theorem report (h : Flows s t) (r : Report) (hs : spent r = false := by rfl) (hm : moving r = false := by rfl) :
    Flows s (report r t) := by
  refine h.trans ⟨h.inlet.congr rfl rfl rfl rfl rfl rfl rfl rfl rfl rfl, rfl, rfl, rfl, fun q hq => ⟨q, hq, rfl⟩, id, ?_,
    ⟨[r], rfl⟩, fun x hx hv => ?_⟩
  · simp [Machine.report, Machine.onReports, hs]
  · rcases List.mem_append.mp hx with hx | hx
    · exact hx
    · rw [List.mem_singleton.mp hx, hm] at hv
      cases hv

/-! ## Operations of Machine/Ops.lean -/

theorem raiseNotice (h : Flows s t) (c : Content) : Flows s (raiseNotice c t) := .ite (fun _ => h.onLnk _) fun _ => h

theorem askWrite (h : Flows s t) (id : RecordId) : Flows s (askWrite id t) := h.onRst _

theorem askAllWrites (h : Flows s t) : Flows s (askAllWrites t) := (((h.askWrite _).askWrite _).askWrite _).askWrite _

theorem raiseFault (h : Flows s t) (c : FaultCode) (d1 d2 : Detail) : Flows s (raiseFault c d1 d2 t) := by
  unfold Machine.raiseFault enterFault
  exact (((h.onRst _).askWrite _).raiseNotice _).onLnk _

theorem finish (h : Flows s t) : Flows s (finish t) := h.keep (by simp) (by simp) (by simp) (by simp) (by simp) (by simp)

/-! ## The softener -/

theorem switchService (h : Flows s t) (r : SwitchReason) : Flows s (switchService r t) := h.serves ((Serves.refl t).switchService r)

theorem readyTest (h : Flows s t) : Flows s (readyTest t) := h.serves (Serves.refl t).readyTest

theorem releaseRule (h : Flows s t) : Flows s (releaseRule t) := h.serves (Serves.refl t).releaseRule

theorem endTopUp (h : Flows s t) : Flows s (endTopUp t) := h.serves (Serves.refl t).endTopUp

theorem homeValve (h : Flows s t) : Flows s (homeValve t) := h.onSfu _

theorem closeFill (h : Flows s t) : Flows s (closeFill t) := by
  refine .ite (fun ho => Flows.releaseRule (Flows.askWrite ?_ _)) fun _ => h
  exact h.trans ⟨h.inlet.congr rfl rfl rfl rfl rfl rfl rfl rfl rfl rfl, rfl, rfl, rfl, fun q hq => ⟨q, hq, rfl⟩, fun _ => ho,
    le_rfl, List.prefix_rfl, fun _ h _ => h⟩

theorem accounts (h : Flows s t) (k : Accounts t u) : Flows s u := by
  have hr := k.rest
  exact h.keep (by rw [hr]) (by rw [hr]) k.opened (by rw [hr]) (by rw [hr]) (by rw [hr]; rfl)

end Flows

end Sys2Proof.Proofs
end

section
/-! PROOFS. Grants end and begin, and the engine goes from state to state, with the inlet in agreement (R37 to R43, R49, R81 to R92). -/

/- One theorem at a time, as the tests have it: proofs that wait for the kernel cost a thread each. -/
set_option Elab.async false

namespace Sys2Proof.Proofs

open Sys2Proof.Machine
open Sys2Proof.Safety

/-! ## The end of a regeneration grant -/

/-- From `s` to `t` a grant of the engine has ended, if there was one; a fill stands, and so does the sequencer's course, and nothing is reported but that the engine
has left. What the engine asks now is open. -/
structure Ungranted (s t : State) : Prop where
  part : t.part.state = s.part.state
  inhibit : t.wpc.inhibit = s.wpc.inhibit
  course : courseOf t.seq = courseOf s.seq
  fill : t.wpc.fill = s.wpc.fill
  ended : s.wpc.holder = .brine ∨ s.wpc.holder = .rinse →
    t.wpc.holder = .none ∧ t.wpc.inletValve = false ∧ t.wpc.brineValve = false ∧ t.wpc.fillTimer = none
  stands : ¬ (s.wpc.holder = .brine ∨ s.wpc.holder = .rinse) →
    t.wpc.holder = s.wpc.holder ∧ t.wpc.inletValve = s.wpc.inletValve ∧ t.wpc.brineValve = s.wpc.brineValve
      ∧ t.wpc.fillTimer = s.wpc.fillTimer
  record : t.sfu.fill.isOpen = s.sfu.fill.isOpen
  reports : ∃ l, t.reports = s.reports ++ l ∧ ∀ r ∈ l, r = .engineLeft

namespace Ungranted

variable {s t u : State}

/-- What a grant leaves to the engine goes on: request, burst, residue and the blocks beside. -/
theorem keep (h : Ungranted s t) (hp : u.part.state = t.part.state) (hi : u.wpc.inhibit = t.wpc.inhibit)
    (hf : u.wpc.fill = t.wpc.fill) (hh : u.wpc.holder = t.wpc.holder) (hv : u.wpc.inletValve = t.wpc.inletValve)
    (hb : u.wpc.brineValve = t.wpc.brineValve) (ht : u.wpc.fillTimer = t.wpc.fillTimer)
    (hr : u.sfu.fill.isOpen = t.sfu.fill.isOpen) (hx : u.reports = t.reports) (hc : courseOf u.seq = courseOf t.seq := by rfl) :
    Ungranted s u where
  part := hp.trans h.part
  inhibit := hi.trans h.inhibit
  course := hc.trans h.course
  fill := hf.trans h.fill
  ended := by rw [hh, hv, hb, ht]; exact h.ended
  stands := by rw [hh, hv, hb, ht]; exact h.stands
  record := hr.trans h.record
  reports := by rw [hx]; exact h.reports

theorem ite {c : Prop} [Decidable c] {a b : State} (ha : c → Ungranted s a) (hb : ¬ c → Ungranted s b) :
    Ungranted s (if c then a else b) := by
  split
  · exact ha ‹_›
  · exact hb ‹_›

theorem onRge (h : Ungranted s t) (f : Rge → Rge) : Ungranted s (onRge f t) := h.keep rfl rfl rfl rfl rfl rfl rfl rfl rfl

theorem askWrite (h : Ungranted s t) (id : RecordId) : Ungranted s (askWrite id t) :=
  h.keep rfl rfl rfl rfl rfl rfl rfl rfl rfl

theorem onLnk (h : Ungranted s t) (f : Lnk → Lnk) : Ungranted s (onLnk f t) := h.keep rfl rfl rfl rfl rfl rfl rfl rfl rfl

theorem raiseNotice (h : Ungranted s t) (c : Content) : Ungranted s (raiseNotice c t) := .ite (fun _ => h.onLnk _) fun _ => h

theorem regenDone (h : Ungranted s t) (col : Column) (o : RegenOutcome) (p : ColPlace) :
    Ungranted s (regenDone col o p t) := h.raiseNotice _

theorem onSfu (h : Ungranted s t) (f : Sfu → Sfu) (hf : (f t.sfu).fill.isOpen = t.sfu.fill.isOpen := by rfl) :
    Ungranted s (onSfu f t) := h.keep rfl rfl rfl rfl rfl rfl rfl hf rfl

theorem serves (h : Ungranted s t) (k : Serves t u) : Ungranted s u := by
  have hw := k.wpc
  refine h.keep ?_ ?_ ?_ ?_ ?_ ?_ ?_ (by rw [k.record.1]) k.reports (by rw [k.seq])
  · rw [k.rest]
  all_goals rw [hw]

theorem withdrawBurst (h : Ungranted s t) : Ungranted s (withdrawBurst t) := h.keep rfl rfl rfl rfl rfl rfl rfl rfl rfl

theorem placeRegen (h : Ungranted s t) (k : RegenKind) : Ungranted s (placeRegen k t) :=
  h.keep rfl rfl rfl rfl rfl rfl rfl rfl rfl

theorem engineLeft (h : Ungranted s t) : Ungranted s (report .engineLeft t) where
  part := h.part
  inhibit := h.inhibit
  course := h.course
  fill := h.fill
  ended := h.ended
  stands := h.stands
  record := h.record
  reports := by
    obtain ⟨l, hl, hx⟩ := h.reports
    refine ⟨l ++ [.engineLeft], by simp [report, onReports, hl], fun r hr => ?_⟩
    rcases List.mem_append.mp hr with hr | hr
    · exact hx r hr
    · exact List.mem_singleton.mp hr

end Ungranted

variable {s t u : State}

theorem Inlet.regen_of_holder (h : Inlet s) (hh : s.wpc.holder = .brine ∨ s.wpc.holder = .rinse) :
    ∃ k, s.wpc.regen = some ⟨k, true⟩ := by
  rcases hh with hh | hh
  · exact ⟨_, (h.holder_brine hh).2.1⟩
  · exact ⟨_, (h.holder_rinse hh).2.1⟩

theorem Inlet.holder_of_regen (h : Inlet s) {k : RegenKind} (hr : s.wpc.regen = some ⟨k, true⟩) :
    s.wpc.holder = .brine ∨ s.wpc.holder = .rinse := by
  have he := h.grants.1.symm.trans hr
  cases k
  · exact .inl (h.draws (engineRequest_brine.mp he)).1
  · exact .inr (h.rinses (engineRequest_rinse.mp he)).1

theorem ungranted_withdrawRegen (h : Inlet s) : Ungranted s (withdrawRegen s) := by
  have hk : ∀ b, (∀ k, s.wpc.regen = some ⟨k, b⟩ → (s.wpc.holder = .brine ∨ s.wpc.holder = .rinse ↔ b = true)) := by
    intro b k hr
    cases b
    · refine ⟨fun hh => ?_, fun hx => by simp at hx⟩
      obtain ⟨j, hj⟩ := h.regen_of_holder hh
      simp [hj] at hr
    · exact ⟨fun _ => rfl, fun _ => h.holder_of_regen hr⟩
  unfold withdrawRegen
  split
  · next hr =>
    have hn : ¬ (s.wpc.holder = .brine ∨ s.wpc.holder = .rinse) := fun hh => by
      obtain ⟨j, hj⟩ := h.regen_of_holder hh
      simp [hj] at hr
    exact ⟨rfl, rfl, rfl, rfl, fun hh => absurd hh hn, fun _ => ⟨rfl, rfl, rfl, rfl⟩, rfl, [], by simp, by simp⟩
  · next r hr =>
    obtain ⟨k, b⟩ := r
    cases b
    · have hn := mt (hk _ _ hr).mp (by simp)
      exact ⟨rfl, rfl, rfl, rfl, fun hh => absurd hh hn, fun _ => ⟨rfl, rfl, rfl, rfl⟩, rfl, [], by simp [onWpc], by simp⟩
    · have hn := (hk _ _ hr).mpr rfl
      exact ⟨rfl, rfl, rfl, rfl, fun _ => ⟨rfl, rfl, rfl, rfl⟩, fun hh => absurd hn hh, rfl, [], by simp [onWpc, closeInlet], by simp⟩

theorem ungranted_revokeRegen (s : State) : Ungranted s (revokeRegen s) := by
  have hr := revokeRegen_reports s
  unfold revokeRegen at hr ⊢
  split
  · next hh => exact ⟨rfl, rfl, rfl, rfl, fun _ => ⟨rfl, rfl, rfl, rfl⟩, fun hx => absurd (.inl hh) hx, rfl, [], by simp [onWpc, closeInlet, onRge], by simp⟩
  · next hh => exact ⟨rfl, rfl, rfl, rfl, fun _ => ⟨rfl, rfl, rfl, rfl⟩, fun hx => absurd (.inr hh) hx, rfl, [], by simp [onWpc, closeInlet, onRge], by simp⟩
  · next hh => exact ⟨rfl, rfl, rfl, rfl, fun hx => by simp [hh] at hx, fun _ => ⟨rfl, rfl, rfl, rfl⟩, rfl, [], by simp, by simp⟩
  · next hh => exact ⟨rfl, rfl, rfl, rfl, fun hx => by simp [hh] at hx, fun _ => ⟨rfl, rfl, rfl, rfl⟩, rfl, [], by simp, by simp⟩

/-- With its grant over, the engine asks what its state asks (Table 23): the inlet agrees. -/
theorem Ungranted.inlet (k : Ungranted s t) (h : Inlet s) (hr : t.wpc.regen = engineRequest t)
    (hu : ∀ g ∈ t.wpc.regen, g.held = false) (hb : t.wpc.burst.isSome = (t.rge.state == .effluentDrain))
    (hc : t.rge.column.isSome = (t.rge.state != .idle)) : Inlet t := by
  have hd : t.rge.state ≠ .brineDraw := fun he => by
    have := hu _ (Option.mem_def.mpr (hr.trans (engineRequest_brine.mpr he)))
    simp at this
  obtain ⟨⟨-, g2, g3, g4, g5, -, -, -⟩, -⟩ := id h
  by_cases hh : s.wpc.holder = .brine ∨ s.wpc.holder = .rinse
  · obtain ⟨k1, k2, k3, k4⟩ := k.ended hh
    have hf : ∀ q ∈ t.wpc.fill, q.held = false := by
      rw [k.fill]
      rcases hh with hh | hh
      · exact (h.holder_brine hh).2.2
      · exact (h.holder_rinse hh).2.2
    refine ⟨⟨hr, by rw [k1, holderOf_none.mpr ⟨hu, hf⟩], by rw [k1, k2]; rfl, by rw [k1, k3]; rfl, by rw [k1, k4]; rfl, hb, hc,
      fun he => absurd he hd⟩, fun q hq hx => ?_⟩
    exact absurd (hf q hq) (by simp [hx])
  · obtain ⟨k1, k2, k3, k4⟩ := k.stands hh
    have ho : holderOf t.wpc = holderOf s.wpc := by
      have e1 : holderOf s.wpc ≠ .brine := fun hx => hh (.inl (g2.trans hx))
      have e2 : holderOf s.wpc ≠ .rinse := fun hx => hh (.inr (g2.trans hx))
      cases hx : holderOf s.wpc with
      | none => exact holderOf_none.mpr ⟨hu, by rw [k.fill]; exact (holderOf_none.mp hx).2⟩
      | fill => exact holderOf_fill.mpr (by rw [k.fill]; exact holderOf_fill.mp hx)
      | brine => exact absurd hx e1
      | rinse => exact absurd hx e2
    exact ⟨⟨hr, by rw [k1, g2, ho], by rw [k1, k2, g3], by rw [k1, k3, g4], by rw [k1, k4, g5], hb, hc,
      fun he => absurd he hd⟩, fun q hq hx => hu⟩

/-- So the water path flows on. -/
theorem Flows.ungranted (h : Flows s t) (k : Ungranted t u) (hr : u.wpc.regen = engineRequest u)
    (hu : ∀ g ∈ u.wpc.regen, g.held = false) (hb : u.wpc.burst.isSome = (u.rge.state == .effluentDrain))
    (hc : u.rge.column.isSome = (u.rge.state != .idle)) : Flows s u := by
  obtain ⟨l, hl, hx⟩ := k.reports
  refine h.trans ⟨k.inlet h.inlet hr hu hb hc, k.part, k.inhibit, k.course, fun q hq => ⟨q, k.fill ▸ hq, rfl⟩, fun ho => k.record ▸ ho, ?_,
    ⟨l, hl.symm⟩, fun r hr hm => ?_⟩
  · have hz : l.countP spent = 0 := List.countP_eq_zero.mpr fun r hr => by rw [hx r hr]; simp [spent]
    rw [hl, List.countP_append, hz, mains_congr k.fill]
    simp
  · rcases List.mem_append.mp (hl ▸ hr) with hr | hr
    · exact hr
    · rw [hx r hr] at hm
      cases hm

/-! ## FILL grants -/

/-- The state in which a FILL grant has ended, before the softener hears of a top-up's end. -/
def afterFill (r : FillEnd) (q : FillReq) (s : State) : State :=
  startBurst (closeInlet (onWpc (fun w => { w with fill := none }) (report (.fillEnded q.kind r s.wpc.grantCount) s)))

theorem endFill_eq {q : FillReq} (hq : s.wpc.fill = some q) (r : FillEnd) :
    endFill r s = match q.kind with
      | .main => afterFill r q s
      | .topUp => endTopUp (afterFill r q s) := by
  simp only [endFill, hq]
  rfl

theorem startBurst_eq (s : State) : ∃ b, startBurst s = onWpc (fun w => { w with burst := b }) s
    ∧ b.isSome = s.wpc.burst.isSome := by
  unfold startBurst
  split
  · next hb => exact ⟨_, rfl, by simp [hb]⟩
  · exact ⟨s.wpc.burst, rfl, rfl⟩

theorem spent_fillEnded {k : FillKind} {r : FillEnd} {n : Nat} (h : spent (.fillEnded k r n) = true) : k = .main := by
  cases k
  · rfl
  · cases h

theorem afterFill_eq (r : FillEnd) (q : FillReq) (s : State) : ∃ b, b.isSome = s.wpc.burst.isSome
    ∧ afterFill r q s = { s with
        wpc := { s.wpc with
          fill := none, holder := .none, inletValve := false, brineValve := false, fillTimer := none, burst := b }
        reports := s.reports ++ [.fillEnded q.kind r s.wpc.grantCount] } := by
  obtain ⟨b, hb, hs⟩ := startBurst_eq
    (closeInlet (onWpc (fun w => { w with fill := none }) (report (.fillEnded q.kind r s.wpc.grantCount) s)))
  exact ⟨b, hs, hb⟩

/-- A FILL grant that has ended leaves no request. -/
theorem endFill_empty (r : FillEnd) (s : State) : (endFill r s).wpc.fill = none := by
  cases hq : s.wpc.fill with
  | none => simp [endFill, hq]
  | some q =>
    obtain ⟨b, -, he⟩ := afterFill_eq r q s
    rw [endFill_eq hq, he]
    split
    · rfl
    · exact congrArg Wpc.fill (Serves.refl _).endTopUp.wpc

theorem withdrawFill_empty (s : State) : (withdrawFill s).wpc.fill = none := by
  unfold withdrawFill
  split
  · assumption
  · split
    · exact endFill_empty _ _
    · rfl

theorem flows_afterFill (h : Inlet s) {q : FillReq} (hq : s.wpc.fill = some q) (hh : q.held = true) (r : FillEnd) :
    Flows s (afterFill r q s) := by
  obtain ⟨b, hb, he⟩ := afterFill_eq r q s
  rw [he]
  refine ⟨h.unfilled rfl (h.apart q hq hh) (fun _ hx => nomatch hx) rfl rfl rfl rfl hb rfl, rfl, rfl, rfl,
    (fun _ hx => nomatch hx), id, ?_, ⟨_, rfl⟩, fun x hx hm => ?_⟩
  · rw [List.countP_append, List.countP_singleton, mains_none rfl]
    split
    · next hs =>
      rw [mains_main (Option.mem_def.mpr hq) (spent_fillEnded hs)]
    · simp
  · rcases List.mem_append.mp hx with hx | hx
    · exact hx
    · rw [List.mem_singleton.mp hx] at hm
      cases hm

/-- A request that waits goes, or comes to wait: the inlet agrees as before. -/
theorem Inlet.unheldFill (h : Inlet s) (hh : ∀ q ∈ s.wpc.fill, q.held = false) {f : Option FillReq}
    (hf : ∀ q ∈ f, q.held = false) : Inlet (onWpc (fun w => { w with fill := f }) s) := by
  obtain ⟨⟨g1, g2, g3, g4, g5, g6, g7, g8⟩, -⟩ := id h
  have ho : holderOf { s.wpc with fill := f } = holderOf s.wpc := by
    cases hx : holderOf s.wpc with
    | none => exact holderOf_none.mpr ⟨(holderOf_none.mp hx).1, hf⟩
    | fill =>
      obtain ⟨q, hq, hb⟩ := holderOf_fill.mp hx
      exact absurd (hh q hq) (by simp [hb])
    | brine => exact holderOf_brine.mpr ⟨(holderOf_brine.mp hx).1, hf⟩
    | rinse => exact holderOf_rinse.mpr ⟨(holderOf_rinse.mp hx).1, hf⟩
  exact ⟨⟨g1, g2.trans ho.symm, g3, g4, g5, g6, g7, g8⟩, fun q hq hx => absurd (hf q hq) (by simp [hx])⟩

namespace Flows

theorem endFill (h : Flows s t) (hh : ∀ q ∈ t.wpc.fill, q.held = true) (r : FillEnd) : Flows s (endFill r t) := by
  cases hq : t.wpc.fill with
  | none =>
    have he : Machine.endFill r t = t := by simp [Machine.endFill, hq]
    rwa [he]
  | some q =>
    have hf := h.trans (flows_afterFill h.inlet hq (hh q hq) r)
    rw [endFill_eq hq]
    cases q.kind
    · exact hf
    · exact hf.endTopUp

/-- A request that waits goes, or comes to wait. -/
theorem unheldFill (h : Flows s t) (hh : ∀ q ∈ t.wpc.fill, q.held = false) {f : Option FillReq}
    (hf : ∀ q ∈ f, q.held = false ∧ ∃ p ∈ t.wpc.fill, p.kind = q.kind) :
    Flows s (Machine.onWpc (fun w => { w with fill := f }) t) := by
  refine h.trans ⟨h.inlet.unheldFill hh fun q hq => (hf q hq).1, rfl, rfl, rfl, fun q hq => (hf q hq).2, id, ?_,
    List.prefix_rfl, fun _ h _ => h⟩
  refine Nat.add_le_add_left ?_ _
  cases f with
  | none => simp [mains, Machine.onWpc]
  | some q =>
    obtain ⟨-, p, hp, hk⟩ := hf q rfl
    rcases hkq : q.kind with _ | _
    · rw [mains_main hp (hk.trans hkq)]
      exact mains_le_one _
    · rw [mains_topUp (q := q) rfl hkq]
      exact Nat.zero_le _

theorem withdrawFill (h : Flows s t) : Flows s (withdrawFill t) := by
  unfold Machine.withdrawFill
  split
  · exact h
  · next q hq =>
    refine .ite (fun hh => h.endFill (fun p hp => ?_) _) fun hh => h.unheldFill (fun p hp => ?_) (fun _ hx => nomatch hx)
    · rwa [Option.mem_unique hp hq]
    · rw [Option.mem_unique hp hq]
      simpa using hh

/-! ## The engine -/

theorem revokeRegen (h : Flows s t) : Flows s (revokeRegen t) := by
  by_cases hh : t.wpc.holder = .brine ∨ t.wpc.holder = .rinse
  · have hc : t.rge.column.isSome = true := h.inlet.column_isSome fun hx => by
      rcases hh with hh | hh
      · simp [(h.inlet.holder_brine hh).1] at hx
      · simp [(h.inlet.holder_rinse hh).1] at hx
    have hb : t.wpc.burst.isSome = false := by
      obtain ⟨⟨-, -, -, -, -, g6, -, -⟩, -⟩ := id h.inlet
      rw [g6]
      rcases hh with hh | hh
      · simp [(h.inlet.holder_brine hh).1]
      · simp [(h.inlet.holder_rinse hh).1]
    have hl : t.wpc.holder = .brine → t.rge.lidOpen = false := fun hx =>
      h.inlet.grants.2.2.2.2.2.2.2 (h.inlet.holder_brine hx).1
    have k := ungranted_revokeRegen t
    rcases hh with hh | hh
    · have e : Machine.revokeRegen t = Machine.onRge (fun e => { e with state := .brineWait })
          (closeInlet (Machine.onWpc (fun w => { w with regen := some ⟨.brine, false⟩, residue := 0 }) t)) := by
        simp [Machine.revokeRegen, hh]
      rw [e] at k ⊢
      exact h.ungranted k (by simp [engineRequest, Machine.onRge, closeInlet, Machine.onWpc, hl hh]) (by simp [Machine.onRge, closeInlet, Machine.onWpc]) hb hc
    · have e : Machine.revokeRegen t = Machine.onRge (fun e => { e with state := .rinseWait })
          (closeInlet (Machine.onWpc (fun w => { w with regen := some ⟨.rinse, false⟩, residue := 0 }) t)) := by
        simp [Machine.revokeRegen, hh]
      rw [e] at k ⊢
      exact h.ungranted k (by simp [engineRequest, Machine.onRge, closeInlet, Machine.onWpc]) (by simp [Machine.onRge, closeInlet, Machine.onWpc]) hb hc
  · have e : Machine.revokeRegen t = t := by
      unfold Machine.revokeRegen
      split
      · next hx => exact absurd (.inl hx) hh
      · next hx => exact absurd (.inr hx) hh
      all_goals rfl
    rwa [e]

end Flows

end Sys2Proof.Proofs
end

section
/-! PROOFS. Fills and regenerations are granted, the engine takes and finishes columns, and the water settles, with the inlet in
agreement (R37 to R40, R49, R65, R80 to R92). -/

/- One theorem at a time, as the tests have it: proofs that wait for the kernel cost a thread each. -/
set_option Elab.async false

namespace Sys2Proof.Proofs

open Sys2Proof.Machine
open Sys2Proof.Safety

variable {s t u : State}

/-- The engine's finish changes the softener, makes the engine IDLE and reports it, and makes SFU's test (R91, R64). -/
theorem finishRegen_serves {col : Column} (hc : t.rge.column = some col) :
    ∃ u, Serves t u ∧ Serves (report .engineLeft (askWrite .columns (onRge (fun e => engineIdle e) u))) (finishRegen t) := by
  simp only [finishRegen, hc]
  exact ⟨_, .ite (fun _ => (((Serves.refl t).enterResult col).admitColumn col).raiseNotice _)
    fun _ => ((Serves.refl t).onSfu _).raiseNotice _, (Serves.refl _).readyTest⟩

theorem finishRegen_rge (hc : t.rge.column.isSome = true) : (finishRegen t).rge = engineIdle t.rge := by
  obtain ⟨col, hc⟩ := Option.isSome_iff_exists.mp hc
  obtain ⟨u, hu, hf⟩ := finishRegen_serves hc
  rw [hf.rge, ← hu.rge]
  rfl

theorem Ungranted.finishRegen (h : Ungranted s t) : Ungranted s (finishRegen t) := by
  cases hc : t.rge.column with
  | none =>
    have he : Machine.finishRegen t = t := by simp [Machine.finishRegen, hc]
    rwa [he]
  | some col =>
    obtain ⟨u, hu, hf⟩ := finishRegen_serves hc
    exact (((h.serves hu).onRge _).askWrite _).engineLeft.serves hf

theorem Ungranted.refl (hh : ¬ (s.wpc.holder = .brine ∨ s.wpc.holder = .rinse)) : Ungranted s s :=
  ⟨rfl, rfl, rfl, rfl, fun hx => absurd hx hh, fun _ => ⟨rfl, rfl, rfl, rfl⟩, rfl, [], by simp, by simp⟩

/-- An engine that neither draws nor rinses has no grant. -/
theorem Inlet.no_grant (h : Inlet s) (hd : s.rge.state ≠ .brineDraw) (hr : s.rge.state ≠ .rinse) :
    ¬ (s.wpc.holder = .brine ∨ s.wpc.holder = .rinse) := by
  rintro (hh | hh)
  · exact hd (h.holder_brine hh).1
  · exact hr (h.holder_rinse hh).1

theorem Inlet.no_burst (h : Inlet s) (he : s.rge.state ≠ .effluentDrain) : s.wpc.burst = none := by
  have h6 := h.grants.2.2.2.2.2.1
  rw [← Option.not_isSome_iff_eq_none, h6]
  simpa using he

theorem Inlet.draining (h : Inlet s) (hb : s.wpc.burst.isSome = true) : s.rge.state = .effluentDrain := by
  have h6 := h.grants.2.2.2.2.2.1
  simpa [hb] using h6

theorem Inlet.no_regen (h : Inlet s) (he : engineRequest s = none) : s.wpc.regen = none := h.grants.1.trans he

theorem engineRequest_brineWait {s : State} :
    engineRequest s = some ⟨.brine, false⟩ ↔ s.rge.state = .brineWait ∧ s.rge.lidOpen = false := by
  unfold engineRequest
  split <;> simp_all

theorem engineRequest_rinseWait {s : State} : engineRequest s = some ⟨.rinse, false⟩ ↔ s.rge.state = .rinseWait := by
  unfold engineRequest
  split
  · split <;> simp_all
  all_goals simp_all

theorem withdrawRegen_wpc (s : State) : (withdrawRegen s).wpc.regen = none ∧ (withdrawRegen s).wpc.burst = s.wpc.burst := by
  simp only [withdrawRegen]
  split
  · next hr => exact ⟨hr, rfl⟩
  · split <;> exact ⟨rfl, rfl⟩

@[simp] theorem withdrawRegen_rge (s : State) : (withdrawRegen s).rge = s.rge := by
  simp only [withdrawRegen]
  split
  · rfl
  · split <;> rfl

namespace Flows

theorem keepRge (h : Flows s t) (f : Rge → Rge) (h1 : (f t.rge).state = t.rge.state := by rfl)
    (h2 : (f t.rge).column = t.rge.column := by rfl) (h3 : (f t.rge).lidOpen = t.rge.lidOpen := by rfl) :
    Flows s (Machine.onRge f t) := h.onRge f h1 (congrArg _ h2) h3

/-! ## The engine's stages -/

/-- With its request and its burst gone, an engine that asks nothing leaves the inlet in agreement. -/
theorem released (h : Flows s t) (k : Ungranted t u) (hr : u.wpc.regen = none) (hb : u.wpc.burst = none)
    (hq : engineRequest u = none) (he : u.rge.state ≠ .effluentDrain)
    (hc : u.rge.column.isSome = (u.rge.state != .idle)) : Flows s u :=
  h.ungranted k (hr.trans hq.symm) (by simp [hr]) (by simpa [hb] using he) hc

theorem finished (h : Flows s t) (k : Ungranted t u) (hr : u.wpc.regen = none) (hb : u.wpc.burst = none)
    (hc : u.rge.column.isSome = true) : Flows s (finishRegen u) := by
  have hw := (finishRegen_keeps u).1
  have he := finishRegen_rge hc
  exact h.released k.finishRegen (by rw [hw, hr]) (by rw [hw, hb]) (by simp [engineRequest, he, engineIdle])
    (by simp [he, engineIdle]) (by simp [he, engineIdle])

/-- The engine leaves its request behind and drains its effluent, or finishes (R90). -/
theorem enterEffluent (h : Flows s t) (k : Ungranted t u) (hr : u.wpc.regen = none) (hb : u.wpc.burst = none)
    (hc : u.rge.column.isSome = true) : Flows s (enterEffluent u) := by
  have k := (k.onRge fun e => { e with state := .effluentDrain }).engineLeft
  refine .ite (fun _ => h.finished k hr hb hc) fun _ => ?_
  exact h.ungranted (k.keep rfl rfl rfl rfl rfl rfl rfl rfl rfl) (by simp [engineRequest, Machine.report, hr])
    (by simp [Machine.report, hr]) (by simp [Machine.report]) (by simp [Machine.report, hc])

theorem brineMl (h : Flows s t) (hd : t.rge.state = .brineDraw) : Flows s (brineMl t) := by
  have h := h.keepRge fun e => { e with brineDrawn := e.brineDrawn + 1 }
  refine .ite (fun _ => ?_) fun _ => h
  obtain ⟨hr, hb⟩ := withdrawRegen_wpc (Machine.onRge (fun e => { e with brineDrawn := e.brineDrawn + 1 }) t)
  have hn : t.wpc.burst = none := h.inlet.no_burst (by simp [hd])
  have hc : t.rge.column.isSome = true := h.inlet.column_isSome (by simp [hd])
  exact h.released ((ungranted_withdrawRegen h.inlet).onRge fun e => { e with state := .dwell, dwellLeft := e.dwellTime }).engineLeft
    (by simp [Machine.report, hr]) (by simp [Machine.report, hb, hn]) (by simp [engineRequest, Machine.report]) (by simp [Machine.report])
    (by simp [Machine.report, hc])

theorem rinseMl (h : Flows s t) (hd : t.rge.state = .rinse) : Flows s (rinseMl t) := by
  have h := h.keepRge fun e => { e with rinseDelivered := e.rinseDelivered + 1 }
  refine .ite (fun _ => ?_) fun _ => h
  obtain ⟨hr, hb⟩ := withdrawRegen_wpc (Machine.onRge (fun e => { e with rinseDelivered := e.rinseDelivered + 1 }) t)
  have hn : t.wpc.burst = none := h.inlet.no_burst (by simp [hd])
  have hc : t.rge.column.isSome = true := h.inlet.column_isSome (by simp [hd])
  exact h.enterEffluent ((ungranted_withdrawRegen h.inlet).onRge _) (by simp [hr]) (by simp [hb, hn]) (by simp [hc])

/-- A stage that has used its time goes to the effluent's drain (R84, R88). -/
theorem timedOut (h : Flows s t) (hd : t.rge.state = .brineDraw ∨ t.rge.state = .rinse) (f : Rge → Rge)
    (h1 : (f t.rge).state = t.rge.state) (h2 : (f t.rge).column = t.rge.column) (h3 : (f t.rge).lidOpen = t.rge.lidOpen) :
    Flows s (Machine.enterEffluent (withdrawRegen (Machine.onRge f t))) := by
  have h := h.keepRge f h1 h2 h3
  obtain ⟨hr, hb⟩ := withdrawRegen_wpc (Machine.onRge f t)
  have hn : t.wpc.burst = none := h.inlet.no_burst (by rcases hd with hd | hd <;> simp [h1, hd])
  have hc : (f t.rge).column.isSome = true := h.inlet.column_isSome (by rcases hd with hd | hd <;> simp [h1, hd])
  exact h.enterEffluent (ungranted_withdrawRegen h.inlet) hr (by simp [hb, hn]) (by simp [hc])

theorem brineTimedOut (h : Flows s t) (col : Column) (hd : t.rge.state = .brineDraw) : Flows s (brineTimedOut col t) :=
  (h.raiseFault .brineTimeout (.column col) (.num t.rge.brineDrawn)).timedOut
    (.inl (by rw [raiseFault_rest]; exact hd)) _ rfl rfl rfl

theorem rinseTimedOut (h : Flows s t) (col : Column) (hd : t.rge.state = .rinse) : Flows s (rinseTimedOut col t) :=
  (h.raiseFault .rinseTimeout (.column col) (.num t.rge.rinseDelivered)).timedOut
    (.inr (by rw [raiseFault_rest]; exact hd)) _ rfl rfl rfl

/-- The engine is IDLE at once, and reports it (R92, R94). -/
theorem reset (h : Flows s t) (k : Ungranted t u) (hr : u.wpc.regen = none) (hb : u.wpc.burst = none) :
    Flows s (Machine.report .engineLeft (Machine.askWrite .columns (Machine.onRge (fun e => engineReset e) u))) :=
  h.released ((k.onRge _).askWrite _).engineLeft hr hb rfl (by simp [Machine.report, Machine.askWrite, engineReset]) rfl

theorem regenDone_wpc (col : Column) (o : RegenOutcome) (p : ColPlace) (s : State) : (regenDone col o p s).wpc = s.wpc := by
  rw [regenDone, raiseNotice_rest]

/-- The engine abandons a regeneration whose request has gone (R92). -/
theorem abandoned (h : Flows s t) (k : Ungranted t u) (he : u.rge = t.rge) (hr : u.wpc.regen = none)
    (hb : u.wpc.burst = none ∨ u.wpc.burst = t.wpc.burst) : Flows s (abandonRegen u) := by
  unfold Machine.abandonRegen
  split
  · next hc =>
    have hi : t.rge.state = .idle := by
      by_contra hx
      have := h.inlet.column_isSome hx
      rw [← he, hc] at this
      cases this
    refine h.released k hr ?_ (by simp [engineRequest, he, hi]) (by simp [he, hi]) (by rw [hc, he, hi]; rfl)
    rcases hb with hb | hb
    · exact hb
    · rw [hb, h.inlet.no_burst (by simp [hi])]
  · next col hc =>
    have hw : withdrawRegen u = u := by simp [withdrawRegen, hr]
    have kb := k.withdrawBurst
    rw [hw]
    refine h.reset (.ite (fun _ => (kb.onSfu _).regenDone _ _ _) fun _ => (kb.onSfu _).regenDone _ _ _) ?_ ?_
    · split <;> rw [regenDone_wpc] <;> exact hr
    · split <;> rw [regenDone_wpc] <;> rfl

theorem abandonRegen (h : Flows s t) : Flows s (abandonRegen t) := by
  obtain ⟨hr, hb⟩ := withdrawRegen_wpc t
  have he : Machine.abandonRegen (withdrawRegen t) = Machine.abandonRegen t := by
    have hw : withdrawRegen (withdrawRegen t) = withdrawRegen t := by
      generalize withdrawRegen t = x at hr
      simp [withdrawRegen, hr]
    simp only [Machine.abandonRegen, hw, withdrawRegen_rge]
    split
    · next hc =>
      have hi : t.rge.state = .idle := by
        by_contra hx
        have := h.inlet.column_isSome hx
        rw [hc] at this
        cases this
      simp [withdrawRegen, h.inlet.no_regen (by simp [engineRequest, hi])]
    · rfl
  exact he ▸ h.abandoned (ungranted_withdrawRegen h.inlet) (withdrawRegen_rge t) hr (.inr hb)

theorem dropRegen (h : Flows s t) (col : Column) : Flows s (dropRegen col t) := by
  have k := (ungranted_withdrawRegen h.inlet).withdrawBurst
  exact h.reset ((k.onSfu _).regenDone _ _ _) (by rw [regenDone_wpc]; exact (withdrawRegen_wpc t).1) (by rw [regenDone_wpc]; rfl)

theorem dwellOver (h : Flows s t) (hd : t.rge.state = .dwell) : Flows s (dwellOver t) := by
  refine .ite (fun _ => (h.keepRge _).abandonRegen) fun _ => ?_
  have hn : t.wpc.burst = none := h.inlet.no_burst (by simp [hd])
  have hc : t.rge.column.isSome = true := h.inlet.column_isSome (by simp [hd])
  exact h.ungranted (((Ungranted.refl (h.inlet.no_grant (by simp [hd]) (by simp [hd]))).onRge _).placeRegen .rinse)
    (by simp [engineRequest, placeRegen]) (by simp [placeRegen]) (by simp [placeRegen, hn]) (by simp [placeRegen, hc])

theorem withdrawRegen_onRge (f : Rge → Rge) (s : State) :
    withdrawRegen (Machine.onRge f s) = Machine.onRge f (withdrawRegen s) := by
  simp only [withdrawRegen, Laws.onRge_wpc]
  split
  · rfl
  · split <;> rfl

/-- The lid changes in a state in which the engine does not look at it (R81, R83). -/
theorem lidAside (h : Flows s t) (b : Bool) (h1 : t.rge.state ≠ .brineWait) (h2 : t.rge.state ≠ .brineDraw) :
    Flows s (Machine.onRge (fun e => { e with lidOpen := b }) t) := by
  obtain ⟨⟨g1, g2, g3, g4, g5, g6, g7, -⟩, hx⟩ := id h.inlet
  refine h.trans ⟨⟨⟨?_, g2, g3, g4, g5, g6, g7, fun he => absurd he h2⟩, hx⟩, rfl, rfl, rfl, fun q hq => ⟨q, hq, rfl⟩, id, le_rfl,
    List.prefix_rfl, fun _ h _ => h⟩
  refine g1.trans ?_
  simp only [engineRequest, Laws.onRge_rge]
  split <;> first | rfl | contradiction

theorem lidChanged (h : Flows s t) (b : Bool) : Flows s (lidChanged b t) := by
  simp only [Machine.lidChanged]
  split
  · exact h
  · next hl =>
    split
    case h_1 hw =>
      have hs : t.rge.state = .brineWait := hw
      have hn : t.wpc.burst = none := h.inlet.no_burst (by simp [hs])
      have hc : t.rge.column.isSome = true := h.inlet.column_isSome (by simp [hs])
      cases b
      · exact h.ungranted (((Ungranted.refl (h.inlet.no_grant (by simp [hs]) (by simp [hs]))).onRge _).placeRegen .brine)
          (by simp [engineRequest, placeRegen, hs]) (by simp [placeRegen]) (by simp [placeRegen, hn, hs]) (by simp [placeRegen, hc, hs])
      · obtain ⟨hr, hb⟩ := withdrawRegen_wpc t
        rw [if_pos rfl, withdrawRegen_onRge]
        exact h.released ((ungranted_withdrawRegen h.inlet).onRge _) (by simp [hr]) (by simp [hb, hn])
          (by simp [engineRequest, hs]) (by simp [hs]) (by simp [hc, hs])
    case h_2 hw =>
      have hs : t.rge.state = .brineDraw := hw
      have hn : t.wpc.burst = none := h.inlet.no_burst (by simp [hs])
      have hc : t.rge.column.isSome = true := h.inlet.column_isSome (by simp [hs])
      cases b
      · exact absurd (h.inlet.grants.2.2.2.2.2.2.2 hs) hl
      · obtain ⟨hr, hb⟩ := withdrawRegen_wpc t
        rw [if_pos rfl, withdrawRegen_onRge, withdrawRegen_onRge]
        exact h.released (((ungranted_withdrawRegen h.inlet).onRge _).onRge _) (by simp [hr]) (by simp [hb, hn])
          (by simp [engineRequest]) (by simp) (by simp [hc])
    all_goals
      next hw =>
        have hs : t.rge.state = _ := hw
        exact h.lidAside b (by simp [hs]) (by simp [hs])

theorem markSaltLow (h : Flows s t) : Flows s (markSaltLow t) := by
  unfold Machine.markSaltLow
  split
  · exact .ite (fun _ => h) fun _ => (h.keepRge _).raiseNotice _
  · exact h

theorem saltLowChanged (h : Flows s t) (b : Bool) : Flows s (saltLowChanged b t) :=
  .ite (fun _ => (h.keepRge _).markSaltLow) fun _ => h.keepRge _

/-- The engine takes the head of the regeneration queue (R65, R80). -/
theorem handOver (h : Flows s t) : Flows s (handOver t) := by
  unfold Machine.handOver
  split
  · exact h
  · next col rest _ =>
    refine .ite (fun hc => ?_) fun _ => h
    simp only [Bool.and_eq_true, beq_iff_eq] at hc
    have hi := hc.1.2
    have k := Ungranted.refl (h.inlet.no_grant (by simp [hi]) (by simp [hi]))
    have hn : t.wpc.burst = none := h.inlet.no_burst (by simp [hi])
    have hr : t.wpc.regen = none := h.inlet.no_regen (by simp [engineRequest, hi])
    have k := k.onSfu fun f => { f with regenQ := rest }
    refine h.ungranted ((Ungranted.ite (fun _ => k.onRge _) fun _ => (k.onRge _).placeRegen .brine).askWrite _) ?_ ?_ ?_ ?_
    all_goals
      simp only [takeColumn, Machine.askWrite, Laws.onRst_wpc, Laws.onRst_rge, engineRequest]
      split <;> simp_all [placeRegen]

/-- A revoked grant leaves no request of the engine held. -/
theorem revokeRegen_unheld (h : Inlet t) : ∀ g ∈ (Machine.revokeRegen t).wpc.regen, g.held = false := by
  rintro ⟨k, b⟩ hg
  cases b
  · rfl
  · exfalso
    unfold Machine.revokeRegen at hg
    split at hg
    · cases hg
    · cases hg
    · next hh =>
      rcases h.holder_of_regen hg with hx | hx <;> simp [hh] at hx
    · next hh =>
      rcases h.holder_of_regen hg with hx | hx <;> simp [hh] at hx

/-- A FILL request is granted: the inlet is its own (R37, R38). -/
theorem granted (h : Flows s t) (q : FillReq) (hk : ∃ p ∈ t.wpc.fill, p.kind = q.kind) : Flows s (granted q t) := by
  have hr := revokeRegen_unheld h.inlet
  have hf := (ungranted_revokeRegen t).fill
  have k := h.revokeRegen
  obtain ⟨⟨g1, -, -, -, -, g6, g7, g8⟩, -⟩ := id k.inlet
  refine k.trans ⟨⟨⟨g1, rfl, rfl, rfl, rfl, g6, g7, g8⟩, fun _ _ _ => hr⟩, rfl, rfl, rfl, fun p hp => ?_, id, ?_, List.prefix_rfl,
    fun _ h _ => h⟩
  · rw [← Option.some.inj hp, hf]
    exact hk
  · refine Nat.add_le_add_left ?_ _
    obtain ⟨p, hp, hk⟩ := hk
    rcases hq : q.kind with _ | _
    · exact (mains_le_one _).trans_eq (mains_main (by rwa [hf]) (hk.trans hq)).symm
    · exact (mains_topUp (q := { q with held := true }) rfl hq).trans_le (Nat.zero_le _)

/-- A FILL request meets the inlet (R38): the waiting request goes, stays, or is granted, at the level HIGH ended at once. -/
theorem offerFill (h : Flows s t) (q : FillReq) (hf : ∀ p ∈ t.wpc.fill, p.held = false) (hk : ∃ p ∈ t.wpc.fill, p.kind = q.kind) :
    Flows s (offerFill q t) := by
  refine .ite (fun _ => (h.unheldFill hf (f := none) fun _ hx => nomatch hx).report _) fun _ => .ite (fun _ => ?_) fun _ => ?_
  · refine h.unheldFill hf fun p hp => ?_
    rw [← Option.some.inj hp]
    exact ⟨rfl, hk⟩
  · have hg := h.granted q hk
    refine .ite (fun _ => hg.endFill (fun p hp => ?_) _) fun _ => hg
    rw [← Option.some.inj hp]

theorem grantDeferred (h : Flows s t) : Flows s (grantDeferred t) := by
  unfold Machine.grantDeferred
  split
  · next n k hq =>
    refine .ite (fun _ => h.offerFill _ (fun p hp => ?_) ⟨_, hq, rfl⟩) fun _ => h
    rw [Option.mem_unique hp hq]
  · exact h

/-- A waiting request of the engine is granted (R39). -/
theorem grantRegen (h : Flows s t) : Flows s (grantRegen t) := by
  obtain ⟨⟨g1, g2, g3, g4, g5, g6, g7, g8⟩, -⟩ := id h.inlet
  have ht : regenGrantable t = true → t.wpc.fill = none ∧ t.wpc.fillTimer = none := fun hg => by
    simp only [regenGrantable, Bool.and_eq_true, beq_iff_eq, Option.isNone_iff_eq_none] at hg
    rw [hg.2] at g5
    exact ⟨hg.1.1.1, Option.not_isSome_iff_eq_none.mp (by rw [g5]; decide)⟩
  unfold Machine.grantRegen
  split
  · next hr =>
    obtain ⟨hs, hl⟩ := engineRequest_brineWait.mp (g1.symm.trans hr)
    refine .ite (fun hg => ?_) fun _ => h
    obtain ⟨hf, hn⟩ := ht hg
    have k : Flows s (Machine.onRge (fun e => { e with state := .brineDraw })
        (beginGrant .brine (Machine.onWpc (fun w => { w with regen := some ⟨.brine, true⟩ }) t))) := by
      refine h.trans ⟨⟨⟨rfl, ?_, rfl, rfl, ?_, ?_, ?_, fun _ => hl⟩, ?_⟩, rfl, rfl, rfl, fun q hq => ⟨q, hq, rfl⟩, id, le_rfl,
        List.prefix_rfl, fun _ h _ => h⟩
      · exact (holderOf_brine.mpr ⟨rfl, by simp [beginGrant, hf]⟩).symm
      · simp [beginGrant, hn]
      · simp [beginGrant, g6, hs]
      · exact g7.trans (by rw [hs]; rfl)
      · simp [beginGrant, hf]
    exact .ite (fun _ => k.markSaltLow) fun _ => k
  · next hr =>
    have hs := engineRequest_rinseWait.mp (g1.symm.trans hr)
    refine .ite (fun hg => ?_) fun _ => h
    obtain ⟨hf, hn⟩ := ht hg
    refine h.trans ⟨⟨⟨rfl, ?_, rfl, rfl, ?_, ?_, ?_, fun he => nomatch he⟩, ?_⟩, rfl, rfl, rfl, fun q hq => ⟨q, hq, rfl⟩, id, le_rfl,
      List.prefix_rfl, fun _ h _ => h⟩
    · exact (holderOf_rinse.mpr ⟨rfl, by simp [beginGrant, hf]⟩).symm
    · simp [beginGrant, hn]
    · simp [beginGrant, g6, hs]
    · exact g7.trans (by rw [hs]; rfl)
    · simp [beginGrant, hf]
  · exact h

/-! ## The water settles, and its switches -/

theorem refreshPump (h : Flows s t) : Flows s (refreshPump t) := by
  unfold Machine.refreshPump
  exact (h.onWpc _).onSeq _

/-- The burst goes and the engine finishes (R49, R90). -/
theorem burstOver (h : Flows s t) (hd : t.rge.state = .effluentDrain) : Flows s (Machine.finishRegen (withdrawBurst t)) :=
  h.finished (Ungranted.refl (h.inlet.no_grant (by simp [hd]) (by simp [hd]))).withdrawBurst
    (h.inlet.no_regen (by simp [engineRequest, hd])) rfl (h.inlet.column_isSome (by simp [hd]))

theorem effluentMeetsDrain (h : Flows s t) : Flows s (effluentMeetsDrain t) :=
  .ite (fun hc => h.burstOver (by simp only [Bool.and_eq_true, beq_iff_eq] at hc; exact hc.1)) fun _ => h

theorem revokeUnlessFlows (h : Flows s t) : Flows s (revokeUnlessFlows t) := .ite (fun _ => h) fun _ => h.revokeRegen

theorem waterSettle (h : Flows s t) : Flows s (waterSettle t) :=
  h.grantDeferred.refreshPump.effluentMeetsDrain.refreshPump.revokeUnlessFlows.refreshPump.handOver.grantRegen

theorem dropDrain (h : Flows s t) : Flows s (dropDrain t) := h.onWpc _

theorem placeDrain (h : Flows s t) : Flows s (placeDrain t) := h.onWpc _

/-- A grant of the engine is revoked unless a FILL request holds the inlet, which ends (R39, R41, R51). -/
theorem endGrant (h : Flows s t) (r : FillEnd) : Flows s (match t.wpc.fill with
    | some ⟨_, _, true⟩ => Machine.endFill r t
    | _ => Machine.revokeRegen t) := by
  split
  · next hq =>
    refine h.endFill (fun p hp => ?_) r
    rw [Option.mem_unique hp hq]
  · exact h.revokeRegen

theorem sumpEmptyChanged (h : Flows s t) (b : Bool) : Flows s (sumpEmptyChanged b t) := by
  simp only [Machine.sumpEmptyChanged]
  split
  · exact h
  · split
    · exact .ite (fun _ => (h.onWpc _).onWpc _) fun _ => h.onWpc _
    · exact h.onWpc _

theorem heaterCoverChanged (h : Flows s t) (b : Bool) : Flows s (heaterCoverChanged b t) := h.onWpc _

theorem highLevelChanged (h : Flows s t) (b : Bool) : Flows s (highLevelChanged b t) :=
  .ite (fun _ => h) fun _ => .ite (fun _ => (h.onWpc _).endGrant _) fun _ => h.onWpc _

/-! ## Metering (R34 to R36) -/

theorem inletLeaks (h : Flows s t) : Flows s (inletLeaks t) := by
  unfold Machine.inletLeaks
  exact ((h.raiseFault _ _ _).onWpc _).report _

theorem strayMl (h : Flows s t) : Flows s (strayMl t) := .ite (fun _ => (h.onWpc _).inletLeaks) fun _ => h.onWpc _

theorem emitStray (h : Flows s t) (n : Nat) : Flows s (emitStray n t) := by
  induction n generalizing t with
  | zero => exact h
  | succ n ih => exact .ite (fun _ => ih (h.onWpc _).strayMl) fun _ => h

theorem fillMl (h : Flows s t) (hh : t.wpc.holder = .fill) (r : FillReq) : Flows s (fillMl r t) := by
  have k := (Accounts.refl t).onSummary fun q => { q with summary := { q.summary with water := q.summary.water + 1 } }
  have ka := k.accountMl r.kind (t.wpc.grantCount == 1)
  have hw := congrArg State.wpc ka.rest
  have ha := h.accounts ka
  exact .ite (fun _ => ha.endFill (ha.inlet.holder_fill ((congrArg Wpc.holder hw).trans hh)) _) fun _ => ha

theorem grantMl (h : Flows s t) : Flows s (grantMl t) := by
  have k := h.onWpc fun w => { w with grantCount := min 65535 (w.grantCount + 1) }
  simp only [Machine.grantMl]
  split
  · exact k
  · next hh =>
    split
    · exact k.fillMl hh _
    · exact k
  · next hh => exact k.brineMl (k.inlet.holder_brine hh).1
  · next hh => exact k.rinseMl (k.inlet.holder_rinse hh).1

theorem emitGrant (h : Flows s t) (n : Nat) (x : Holder) : Flows s (emitGrant n x t) := by
  induction n generalizing t with
  | zero => exact h
  | succ n ih => exact .ite (fun _ => ih (h.onWpc _).grantMl) fun _ => h

theorem meterPulse (h : Flows s t) : Flows s (meterPulse t) :=
  .ite (fun _ => (h.onWpc _).emitStray _) fun _ => (h.onWpc _).emitGrant _ _

end Flows
end Sys2Proof.Proofs
end

section
/-! PROOFS. Dosing, heating, circulation and the softener's requests leave inlet and engine alone, and report nothing that moves the
sequencer on. -/

/- One theorem at a time, as the tests have it: proofs that wait for the kernel cost a thread each. -/
set_option Elab.async false

namespace Sys2Proof.Proofs

open Sys2Proof.Machine
open Sys2Proof.Safety

namespace Flows

variable {s t : State}

/-! ## Circulation -/

theorem commandDiverter (h : Flows s t) (z : Zone) : Flows s (commandDiverter z t) := by
  unfold Machine.commandDiverter
  split <;> exact h.onCzs _

theorem beginSlot (h : Flows s t) (z : Zone) : Flows s (beginSlot z t) :=
  .ite (fun _ => h.onCzs _) fun _ => (h.onCzs _).commandDiverter _

theorem nextSlot (h : Flows s t) : Flows s (nextSlot t) := by
  unfold Machine.nextSlot
  split
  · exact h
  · split
    · split
      · exact (h.onCzs _).beginSlot _
      · exact h
    · exact h.beginSlot _

theorem startSchedule (h : Flows s t) (w : PerZone Nat) (l : Nat) : Flows s (startSchedule w l t) := by
  simp only [Machine.startSchedule]
  split
  · exact h.onCzs _
  · exact .ite (fun _ => (h.onCzs _).onCzs _) fun _ => (h.onCzs _).beginSlot _

theorem runCirculation (h : Flows s t) (w : WashRecord) : Flows s (runCirculation w t) :=
  .ite (fun _ => h) fun _ => .ite (fun _ => .ite (fun _ => (h.onCzs _).nextSlot.onCzs _) fun _ => h.onCzs _)
    fun _ => (h.startSchedule _ _).onCzs _

theorem stopCirculation (h : Flows s t) : Flows s (stopCirculation t) := .ite (fun _ => (h.onCzs _).onTies _) fun _ => h

theorem pressureChanged (h : Flows s t) (p : Bool) : Flows s (pressureChanged p t) := by
  simp only [Machine.pressureChanged]
  split
  · exact h
  · split
    · split <;> exact (h.onCzs fun z => { z with reading := p }).onCzs fun _ => _
    · exact h.onCzs fun z => { z with reading := p }

theorem diverterReported (h : Flows s t) (z : Zone) : Flows s (diverterReported z t) := by
  have ha : ∀ {u}, Flows s u → Flows s (afterDiverterHoming u) := fun {u} hu => by
    unfold afterDiverterHoming
    split
    · exact .ite (fun _ => hu.commandDiverter _) fun _ => hu
    · exact hu
  unfold Machine.diverterReported
  split
  · exact .ite (fun _ => h.onCzs _) fun _ => h
  · exact .ite (fun _ => .ite (fun _ => (h.onCzs _).onPart _)
      fun _ => .ite (fun _ => ha (h.onCzs _)) fun _ => h.onCzs _) fun _ => h

theorem diverterFailed (h : Flows s t) (m : DiverterMove) : Flows s (diverterFailed m t) :=
  .ite (fun _ => (((h.raiseFault _ _ _).onCzs _).onPart _).onPart _) fun _ => (h.raiseFault _ _ _).onCzs _

theorem armStalled (h : Flows s t) (arm : Arm) : Flows s (armStalled arm t) := by
  unfold Machine.armStalled
  have h1 : Flows s (firstStall arm t) :=
    .ite (fun _ => (h.onCzs _).raiseNotice _) fun _ => (((h.onCzs _).raiseNotice _).onCzs _).nextSlot
  have h2 : Flows s (secondStall arm t) :=
    .ite (fun _ => ((h.onCzs _).onCzs _).raiseNotice _) fun _ => (((h.onCzs _).onCzs _).raiseNotice _).nextSlot
  have h3 : Flows s (if armStalls t.czs arm = 0 then firstStall arm t else secondStall arm t) := .ite (fun _ => h1) fun _ => h2
  exact h3.onCzs _

theorem abruptCirculation (h : Flows s t) : Flows s (abruptCirculation t) := by
  simp only [Machine.abruptCirculation]
  split
  · exact h.stopCirculation
  · exact h.stopCirculation.onCzs _

/-! ## Reservoirs and doses -/

theorem lowTest (h : Flows s t) (ch : Channel) : Flows s (lowTest ch t) := by
  simp only [Machine.lowTest]
  exact .ite (fun _ => .ite (fun _ => h) fun _ => (h.onDsu _).raiseNotice _) fun _ => h.onDsu _

theorem setLevel (h : Flows s t) (ch : Channel) (n : Nat) : Flows s (setLevel ch n t) :=
  .ite (fun _ => h) fun _ => (h.onDsu _).lowTest _

theorem setEmpty (h : Flows s t) (ch : Channel) (e : Bool) : Flows s (setEmpty ch e t) :=
  .ite (fun _ => h) fun _ => (h.onDsu _).askWrite _

theorem readLowSwitch (h : Flows s t) (ch : Channel) (low : Bool) : Flows s (readLowSwitch ch low t) :=
  .ite (fun _ => .ite (fun _ => (h.onDsu _).setLevel _ _) fun _ => h.onDsu _) fun _ => h.onDsu _

theorem readCapSwitch (h : Flows s t) (ch : Channel) (b : Bool) : Flows s (readCapSwitch ch b t) := by
  unfold Machine.readCapSwitch
  exact h.onDsu _

theorem lowSwitchChanged (h : Flows s t) (ch : Channel) (low : Bool) : Flows s (lowSwitchChanged ch low t) :=
  .ite (fun _ => h) fun _ => h.readLowSwitch _ _

theorem capSwitchChanged (h : Flows s t) (ch : Channel) (b : Bool) : Flows s (capSwitchChanged ch b t) := by
  have hd := h.onDsu fun d => { d with capSw := perChannelSet d.capSw ch b }
  exact .ite (fun _ => h) fun _ => .ite (fun _ => .ite (fun _ => hd.onDsu _) fun _ =>
    (Flows.ite (fun _ => (hd.onDsu _).askWrite _) fun _ => hd).onDsu _) fun _ => hd

theorem joinQueue (h : Flows s t) (ch : Channel) (o : Origin) (v n : Nat) : Flows s (joinQueue ch o v n t) := by
  simp only [Machine.joinQueue]
  exact .ite (fun _ => h.onDsu _) fun _ => h.onDsu _

theorem placeDose (h : Flows s t) (p : Nat) (ch : Channel) (v : Nat) : Flows s (placeDose p ch v t) := by
  simp only [Machine.placeDose]
  exact .ite (fun _ => h) fun _ => (h.joinQueue _ _ _ _).onSeq _

theorem reportDose (h : Flows s t) (r : DoseReq) (o : DoseOutcome) (w : Option DoseReason) : Flows s (reportDose r o w t) := by
  have hr : Flows s (match r.origin with
      | .sequencer _ => Machine.report (.doseEnded r.arrival)
          (Machine.onSeq (fun q => addDose r.channel (r.confirmed * r.strokeVolume) q) t)
      | .hostPrime => t) := by
    split
    · exact (h.onSeq _ (Aside.addDose_course _ _ _)).report _
    · exact h
  unfold Machine.reportDose
  cases o <;> exact (hr.raiseNotice _).askWrite _

theorem foldl_reportDose (h : Flows s t) (o : DoseOutcome) (w : Option DoseReason) (l : List DoseReq) :
    Flows s (l.foldl (fun s r => Machine.reportDose r o w s) t) := by
  induction l generalizing t with
  | nil => exact h
  | cons r l ih => exact ih (h.reportDose r o w)

theorem endHead (h : Flows s t) (r : DoseReq) (o : DoseOutcome) (w : Option DoseReason) : Flows s (endHead r o w t) :=
  (h.onDsu _).reportDose _ _ _

theorem putHead (h : Flows s t) (r : DoseReq) : Flows s (putHead r t) := h.onDsu _

theorem homeSelector (h : Flows s t) : Flows s (homeSelector t) := h.onDsu _

theorem serve (h : Flows s t) (n : Nat) : Flows s (serve n t) := by
  induction n generalizing t with
  | zero => exact h
  | succ n ih =>
    unfold Machine.serve
    split
    · exact h
    · split
      · exact .ite (fun _ => h.onDsu _) fun _ => ih (h.onDsu _)
      · have h := h.onDsu fun d => { d with state := .serving }
        split
        · exact Flows.onDsu ‹_› _
        · dsimp only
          split
          · exact ih (h.endHead _ _ _)
          · split
            · exact (h.putHead _).homeSelector
            · split
              · exact (h.putHead _).onDsu _
              · split
                · exact ih (((h.putHead _).setEmpty _ _).endHead _ _ _)
                · exact ((h.putHead _).onDsu _).putHead _

theorem serveOn (h : Flows s t) : Flows s (serveOn t) := h.serve 16

theorem windowCloses (h : Flows s t) : Flows s (windowCloses t) := Flows.serveOn ((h.onDsu _).onDsu _)

theorem countConfirmed (h : Flows s t) (r : DoseReq) : Flows s (countConfirmed r t) := by
  have hs := (((h.onDsu fun d => { d with stroke := none }).putHead (confirmStroke r)).setLevel r.channel
    ((reservoirOf (Machine.putHead (confirmStroke r) (Machine.onDsu (fun d => { d with stroke := none }) t)).dsu
      r.channel).level - r.strokeVolume))
  unfold Machine.countConfirmed
  split
  · exact .ite (fun _ => hs.setEmpty _ _) fun _ => hs
  · exact hs

theorem countMissed (h : Flows s t) (r : DoseReq) : Flows s (countMissed r t) := (h.onDsu _).putHead _

theorem strokeConfirmed (h : Flows s t) (r : DoseReq) : Flows s (strokeConfirmed r t) := by
  have h := h.countConfirmed r
  unfold Machine.strokeConfirmed
  refine .ite (fun _ => (h.endHead _ _ _).serveOn) fun _ => ?_
  split <;> exact .ite (fun _ => (h.endHead _ _ _).serveOn) fun _ => h.serveOn

theorem strokeMissed (h : Flows s t) (r : DoseReq) : Flows s (strokeMissed r t) := by
  have h := h.countMissed r
  unfold Machine.strokeMissed
  refine .ite (fun _ => (h.endHead _ _ _).serveOn) fun _ => ?_
  split
  · exact .ite (fun _ => (((h.raiseFault _ _ _).setEmpty _ _).endHead _ _ _).serveOn) fun _ => h.serveOn
  · exact .ite (fun _ => (h.endHead _ _ _).serveOn) fun _ => h.serveOn

theorem selectorReported (h : Flows s t) (p : Channel) : Flows s (selectorReported p t) := by
  have ha : ∀ {u}, Flows s u → Flows s (afterMove u) := fun {u} hu => by
    unfold afterMove
    split
    · exact hu.serveOn
    · exact .ite (fun _ => (hu.endHead _ _ _).serveOn) fun _ => hu.serveOn
  unfold Machine.selectorReported
  split
  · exact h
  · exact .ite (fun _ => .ite (fun _ => (h.onDsu _).onPart _) fun _ => ha (h.onDsu _)) fun _ => h

theorem selectorFailed (h : Flows s t) (m : SelectorMove) : Flows s (selectorFailed m t) := by
  have hf := (h.raiseFault .selector (.channel m.target) (currentChannel t)).onDsu fun d =>
    { d with move := none, selector := none }
  refine .ite (fun _ => (hf.onPart _).onPart _) fun _ => ?_
  unfold endUnmoved
  split
  · exact hf.serveOn
  · exact .ite (fun _ => (hf.endHead _ _ _).serveOn) fun _ => (hf.endHead _ _ _).serveOn

theorem pauseDosing (h : Flows s t) : Flows s (pauseDosing t) := .ite (fun _ => (h.onDsu _).serveOn) fun _ => h.onDsu _

theorem resumeDosing (h : Flows s t) : Flows s (resumeDosing t) := .ite (fun _ => (h.onDsu _).serveOn) fun _ => h.onDsu _

theorem cancelWhere (h : Flows s t) (which : DoseReq → Bool) : Flows s (cancelWhere which t) := by
  refine .ite (fun _ => ?_) fun _ => h
  have hc := (h.onDsu fun d => { d with
      batch := (d.batch.filter fun r => !(which r && !staysMarked t.dsu r)).map fun r =>
        if which r then { r with cancel := true } else r
      waiting := (d.waiting.filter fun r => !(which r && !staysMarked t.dsu r)).map fun r =>
        if which r then { r with cancel := true } else r
      pause := false }).foldl_reportDose .cancelled none ((doseQueue t.dsu).filter fun r => which r && !staysMarked t.dsu r)
  unfold cancelFound
  exact .ite (fun _ => .ite (fun _ => hc.onDsu _) fun _ => hc) fun _ => .ite (fun _ => hc) fun _ => hc.serveOn

theorem cancelSequencerDoses (h : Flows s t) : Flows s (cancelSequencerDoses t) := h.cancelWhere _

theorem resetDosing (h : Flows s t) : Flows s (resetDosing t) :=
  ((h.onDsu fun d => { d with
      state := .idle, windowLeft := 0, batch := [], waiting := [], next := 0, selector := none, move := none
      stroke := none, pause := false }).foldl_reportDose .cancelled none (doseQueue t.dsu)).askWrite _

/-! ## Heating -/

theorem toRegulating (h : Flows s t) : Flows s (toRegulating t) := h.onHtc _

theorem heatExpires (h : Flows s t) (n : Nat) : Flows s (heatExpires n t) := by
  unfold Machine.heatExpires
  exact ((h.onHtc _).raiseNotice _).toRegulating.report _

theorem reachTarget (h : Flows s t) : Flows s (reachTarget t) := h.toRegulating.report _

theorem placeRegulating (h : Flows s t) (n : Nat) : Flows s (placeRegulating n t) := h.onHtc _

theorem placeHeating (h : Flows s t) (n l : Nat) : Flows s (placeHeating n l t) :=
  .ite (fun _ => (h.onHtc _).report _) fun _ => .ite (fun _ => (h.onHtc _).reachTarget) fun _ =>
    .ite (fun _ => (h.onHtc _).heatExpires _) fun _ => h.onHtc _

theorem withdrawHeat (h : Flows s t) : Flows s (withdrawHeat t) := by
  unfold Machine.withdrawHeat
  split
  · exact h
  · exact (h.onHtc _).onSeq _

theorem enterStage (h : Flows s t) (st : DryStage) (n : Nat) : Flows s (enterStage st n t) := (h.onDdu _).raiseNotice _

theorem enterOpening (h : Flows s t) : Flows s (enterOpening t) := by
  unfold Machine.enterOpening
  exact (h.enterStage _ _).onDdu _

theorem coolCheck (h : Flows s t) : Flows s (coolCheck t) := .ite (fun _ => h.enterOpening) fun _ => h

theorem temperatureChanged (h : Flows s t) (n : Nat) : Flows s (temperatureChanged n t) := by
  have hd : ∀ {u}, Flows s u → Flows s (followDemand n u) := fun {u} hu => by
    unfold followDemand
    split
    · exact hu.onHtc _
    · exact hu
  have hw : ∀ {u}, Flows s u → Flows s (warningBand n u) := fun {u} hu =>
    .ite (fun _ => (hu.onHtc _).raiseNotice _) fun _ => .ite (fun _ => hu.onHtc _) fun _ => hu
  have hl : ∀ {u}, Flows s u → Flows s (lockoutCheck n u) := fun {u} hu =>
    .ite (fun _ => ((hu.onHtc _).raiseFault _ _ _).report _) fun _ => .ite (fun _ => hu.onHtc _) fun _ => hu
  have ht : ∀ {u}, Flows s u → Flows s (targetTest n u) := fun {u} hu => by
    unfold targetTest
    split
    · exact .ite (fun _ => hu.reachTarget) fun _ => hu
    · exact hu
  unfold Machine.temperatureChanged
  exact (ht (hl (hw (hd (h.onHtc _))))).coolCheck

theorem sensorFails (h : Flows s t) (k : SensorKind) : Flows s (sensorFails k t) := by
  simp only [Machine.sensorFails]
  exact .coolCheck (.ite (fun _ => (((h.onHtc _).raiseFault _ _ _).onHtc _).report _)
    fun _ => (h.onHtc _).raiseFault _ _ _)

theorem sensorRecovers (h : Flows s t) (n : Nat) : Flows s (sensorRecovers n t) := (h.onHtc _).temperatureChanged _

theorem firstReading (h : Flows s t) (x : SensorSignal) : Flows s (firstReading x t) := by
  unfold Machine.firstReading
  split
  · exact .ite (fun _ => h.sensorFails _) fun _ => h
  · exact .ite (fun _ => h.temperatureChanged _) fun _ => h.sensorRecovers _

theorem countLoss (h : Flows s t) : Flows s (countLoss t) := by
  have hs : Flows s (secondLoss t) := by
    simp only [secondLoss]
    split
    · exact ((h.onHtc _).raiseFault _ _ _).toRegulating.report _
    · exact (h.onHtc _).raiseFault _ _ _
  exact .ite (fun _ => .ite (fun _ => h.onHtc _) fun _ => .ite (fun _ => hs) fun _ => h) fun _ => h

/-! ## The softener and the link -/

theorem valveConfirmed (h : Flows s t) (m : ValveMove) : Flows s (valveConfirmed m t) :=
  .ite (fun _ => (((h.onSfu _).onSfu _).onPart _).readyTest) fun _ => h.onSfu _

theorem valveFailed (h : Flows s t) (m : ValveMove) : Flows s (valveFailed m t) :=
  .ite (fun _ => ((h.raiseFault _ _ _).onSfu _).onPart _) fun _ => (h.raiseFault _ _ _).onSfu _

theorem nominalChanged (h : Flows s t) : Flows s (nominalChanged t) := by
  refine .ite (fun _ => Flows.askWrite ?_ _) fun _ => h
  unfold clampColumns
  exact h.onSfu _

theorem sweepReady (h : Flows s t) (l : List Column) : Flows s (sweepReady l t) := by
  induction l generalizing t with
  | nil => exact h
  | cons col l ih => exact ih (.ite (fun _ => (h.onSfu _ (by cases col <;> rfl)).askWrite _) fun _ => h)

theorem exhaustionCheck (h : Flows s t) : Flows s (exhaustionCheck t) := h.accounts (Accounts.refl t).exhaustionCheck

theorem reserveRaised (h : Flows s t) : Flows s (reserveRaised t) := (h.sweepReady _).exhaustionCheck

theorem removeColumnC (h : Flows s t) : Flows s (removeColumnC t) := by
  have h : Flows s (if t.sfu.service = some .c then Machine.switchService .fittedColumns t else t) :=
    .ite (fun _ => h.switchService _) fun _ => h
  exact (h.onSfu _).askWrite _

theorem createColumnC (h : Flows s t) : Flows s (createColumnC t) := (h.onSfu _).askWrite _

theorem toRegenQueue (h : Flows s t) (col : Column) : Flows s (toRegenQueue col t) := (h.onSfu _).askWrite _

theorem toRetiredSet (h : Flows s t) (col : Column) : Flows s (toRetiredSet col t) := (h.onSfu _).askWrite _

theorem restartSilence (h : Flows s t) : Flows s (restartSilence t) := h.onLnk _

theorem enableLink (h : Flows s t) : Flows s (enableLink t) :=
  ((Flows.ite (fun _ => h.raiseNotice _) fun _ => h).onLnk _).restartSilence

theorem drainBlocked (h : Flows s t) : Flows s (drainBlocked t) := (h.dropDrain.raiseFault _ _ _).report _

theorem warnPower (h : Flows s t) : Flows s (warnPower t) :=
  ((h.onPart fun p => { p with pfw := true }).onPins fun p => { p with pfw := true }).askAllWrites

theorem readWater (h : Flows s t) (p : Pins) : Flows s (readWater p t) :=
  ((h.sumpEmptyChanged _).heaterCoverChanged _).highLevelChanged _

theorem readSalt (h : Flows s t) (p : Pins) : Flows s (readSalt p t) := (h.lidChanged _).saltLowChanged _

theorem readLowSwitches (h : Flows s t) (p : Pins) : Flows s (readLowSwitches p t) :=
  ((h.readLowSwitch _ _).readLowSwitch _ _).readLowSwitch _ _

theorem readCapSwitches (h : Flows s t) (p : Pins) : Flows s (readCapSwitches p t) :=
  ((h.readCapSwitch _ _).readCapSwitch _ _).readCapSwitch _ _

end Flows
end Sys2Proof.Proofs
end

section
/-! PROOFS. The drying and the loss of the link leave inlet, engine, softener and sequencer alone; how many reports they make. -/

/- One theorem at a time, as the tests have it: proofs that wait for the kernel cost a thread each. -/
set_option Elab.async false

namespace Sys2Proof.Proofs

open Sys2Proof.Machine
open Sys2Proof.Safety

/-- From `s` to `t` drying and link have moved, with their notices and faults and at most `n` reports, none of them of a fill. -/
structure Airs (n : Nat) (s t : State) : Prop where
  rest : t = { s with part := t.part, lnk := t.lnk, ddu := t.ddu, rst := t.rst, reports := t.reports }
  part : t.part.state = s.part.state
  reports : ∃ l, t.reports = s.reports ++ l ∧ l.length ≤ n ∧ ∀ r ∈ l, spent r = false

namespace Airs

variable {s t u a b : State} {n m : Nat}

theorem refl (s : State) : Airs 0 s s := ⟨rfl, rfl, [], by simp, le_rfl, by simp⟩

theorem trans (h : Airs n s t) (k : Airs m t u) : Airs (n + m) s u := by
  obtain ⟨h1, h2, l, h3, h4, h5⟩ := h
  obtain ⟨k1, k2, r, k3, k4, k5⟩ := k
  refine ⟨?_, k2.trans h2, l ++ r, by rw [k3, h3, List.append_assoc], by rw [List.length_append]; omega, fun x hx => ?_⟩
  · rw [h1] at k1
    exact k1
  · exact (List.mem_append.mp hx).elim (h5 x) (k5 x)

theorem mono (h : Airs n s t) (hn : n ≤ m := by omega) : Airs m s t := by
  obtain ⟨h1, h2, l, h3, h4, h5⟩ := h
  exact ⟨h1, h2, l, h3, h4.trans hn, h5⟩

theorem ite {c : Prop} [Decidable c] (ha : c → Airs n s a) (hb : ¬ c → Airs n s b) : Airs n s (if c then a else b) := by
  split
  · exact ha ‹_›
  · exact hb ‹_›

theorem onDdu (h : Airs n s t) (f : Ddu → Ddu) : Airs n s (onDdu f t) := h.trans (m := 0) ⟨rfl, rfl, [], by simp, le_rfl, by simp⟩

theorem onLnk (h : Airs n s t) (f : Lnk → Lnk) : Airs n s (onLnk f t) := h.trans (m := 0) ⟨rfl, rfl, [], by simp, le_rfl, by simp⟩

theorem onRst (h : Airs n s t) (f : Rst → Rst) : Airs n s (onRst f t) := h.trans (m := 0) ⟨rfl, rfl, [], by simp, le_rfl, by simp⟩

theorem onPart (h : Airs n s t) (f : Part → Part) (hf : (f t.part).state = t.part.state := by rfl) : Airs n s (onPart f t) :=
  h.trans ⟨rfl, hf, [], by simp, le_rfl, by simp⟩

theorem raiseNotice (h : Airs n s t) (c : Content) : Airs n s (raiseNotice c t) := .ite (fun _ => h.onLnk _) fun _ => h

theorem raiseFault (h : Airs n s t) (c : FaultCode) (d1 d2 : Detail) : Airs n s (raiseFault c d1 d2 t) := by
  unfold Machine.raiseFault enterFault
  exact (((h.onRst _).onRst _).raiseNotice _).onLnk _

theorem report (h : Airs n s t) (r : Report) (hr : spent r = false := by rfl) : Airs (n + 1) s (report r t) :=
  h.trans ⟨rfl, rfl, [r], rfl, le_rfl, fun x hx => by rw [List.mem_singleton.mp hx]; exact hr⟩

/-! ## The stages of a drying -/

theorem enterStage (h : Airs n s t) (st : DryStage) (k : Nat) : Airs n s (enterStage st k t) := (h.onDdu _).raiseNotice _

theorem reachDone (h : Airs n s t) : Airs (n + 1) s (reachDone t) :=
  have h := (h.onDdu fun d => { d with awaited := false }).enterStage .done 0
  .ite (fun _ => h.report _) fun _ => h.mono

theorem doneWith (h : Airs n s t) (o : DryOutcome) : Airs (n + 1) s (doneWith o t) := (h.onDdu _).reachDone

theorem stopDrive (h : Airs n s t) : Airs n s (stopDrive t) := h.onDdu _

theorem enterOpening (h : Airs n s t) : Airs n s (enterOpening t) := by
  unfold Machine.enterOpening
  exact (h.enterStage _ _).onDdu _

theorem enterWaitCool (h : Airs n s t) : Airs n s (enterWaitCool t) :=
  have h := h.enterStage .waitCool 0
  .ite (fun _ => h.enterOpening) fun _ => h

theorem dwellEnds (h : Airs n s t) : Airs (n + 1) s (dwellEnds t) := .ite (fun _ => h.enterWaitCool.mono) fun _ => h.doneWith _

theorem enterDwell (h : Airs n s t) : Airs (n + 1) s (enterDwell t) :=
  have h := h.enterStage .dwell (if t.ddu.formOpen then t.ddu.dwell else t.ddu.dwell + t.ddu.openTime)
  .ite (fun _ => h.dwellEnds) fun _ => h.mono

theorem takeStart (h : Airs n s t) (p : DryStart) : Airs (n + 1) s (takeStart p t) :=
  .ite (fun _ => (h.onDdu _).doneWith _) fun _ => (h.onDdu _).enterDwell

theorem enterDone (h : Airs n s t) : Airs (n + 2) s (enterDone t) := by
  simp only [Machine.enterDone]
  split
  · exact h.reachDone.mono
  · exact .ite (fun _ => ((h.reachDone.onDdu _).onDdu _).report _) fun _ => (h.reachDone.onDdu _).takeStart _

theorem homeArrived (h : Airs n s t) : Airs (n + 2) s (homeArrived t) := by
  have h : Airs n s (actuatorHomed (Machine.stopDrive (Machine.onDdu (fun d => { d with count := 0, homed := true }) t))) :=
    ((h.onDdu _).stopDrive).onPart _
  exact .ite (fun _ => h.enterDone) fun _ => h.mono

theorem driveInward (h : Airs n s t) : Airs (n + 2) s (driveInward t) := .ite (fun _ => h.homeArrived) fun _ => (h.onDdu _).mono

theorem retract (h : Airs n s t) : Airs (n + 2) s (retract t) := (h.stopDrive.enterStage _ _).driveInward

theorem retractWith (h : Airs n s t) (o : DryOutcome) : Airs (n + 2) s (retractWith o t) := (h.onDdu _).retract

theorem openTimeEnds (h : Airs n s t) : Airs (n + 2) s (openTimeEnds t) := h.retractWith _

theorem enterAjar (h : Airs n s t) (b : Bool) : Airs (n + 2) s (enterAjar b t) := by
  have h := (h.onDdu fun d => { d with gapHeld := d.count, gapShort := b }).stopDrive.enterStage .ajar
    (Machine.stopDrive (Machine.onDdu (fun d => { d with gapHeld := d.count, gapShort := b }) t)).ddu.openTime
  exact .ite (fun _ => h.openTimeEnds) fun _ => h.mono

theorem countReached (h : Airs n s t) : Airs (n + 2) s (countReached t) := by
  unfold Machine.countReached
  split
  · exact .ite (fun _ => h.enterAjar _) fun _ => h.mono
  · exact .ite (fun _ => h.retractWith _) fun _ => h.mono
  · exact h.mono

theorem encoderEdge (h : Airs n s t) (b : Bool) : Airs (n + 2) s (encoderEdge b t) :=
  .ite (fun _ => (h.onDdu _).countReached) fun _ => h.mono

theorem homeReached (h : Airs n s t) : Airs (n + 2) s (homeReached t) :=
  .ite (fun _ => .ite (fun _ => h.homeArrived) fun _ => (h.onDdu _).countReached) fun _ => h.mono

theorem driveStalls (h : Airs n s t) : Airs (n + 2) s (driveStalls t) := by
  unfold Machine.driveStalls
  split
  · exact .ite (fun _ => h.stopDrive.enterAjar _) fun _ =>
      .ite (fun _ => (h.stopDrive.raiseFault _ _ _).retractWith _) fun _ => (h.stopDrive.onDdu _).mono
  · have h := ((h.stopDrive.raiseFault .doorActuator (.stage (Machine.stopDrive t).ddu.stage)
      (.num (Machine.stopDrive t).ddu.count)).onDdu fun d => { d with homed := false })
    have h : Airs n s (actuatorHomingFailed _) := .ite (fun _ => (h.onPart _).onPart _) fun _ => h
    exact .ite (fun _ => .ite (fun _ => h.enterDone) fun _ => (h.onDdu _).enterDone) fun _ => h.mono
  · exact h.mono

theorem doorChanged (h : Airs n s t) (b : Bool) : Airs (n + 3) s (doorChanged b t) := by
  have hm : ∀ {u m}, Airs m s u → Airs (m + 2) s (openingMeetsDrying u) := fun {u m} hu => by
    unfold openingMeetsDrying
    split
    · exact (hu.doneWith _).mono
    · exact (hu.doneWith _).mono
    · exact .ite (fun _ => hu.retractWith _) fun _ => hu.mono
    all_goals exact hu.mono
  refine .ite (fun _ => h.mono) fun _ => ?_
  have h := ((h.onDdu fun d => { d with doorOpen := b }).report (if b then .doorOpened else .doorClosed)
    (by cases b <;> rfl)).raiseNotice (.door b t.ddu.count t.ddu.stage)
  exact .ite (fun _ => hm h) fun _ => h.mono

theorem endDrying (h : Airs n s t) : Airs (n + 2) s (endDrying t) := by
  simp only [Machine.endDrying]
  split
  · split
    · exact (h.onDdu _).reachDone.mono
    · exact (h.onDdu _).reachDone.mono
    · exact (h.onDdu _).retract
    · exact (h.onDdu _).retract
    all_goals exact (h.onDdu _).mono
  · exact (h.onDdu _).mono

theorem startDrying (h : Airs n s t) (p : DryStart) : Airs (n + 3) s (startDrying p t) := by
  have h : Airs (n + 2) s (if t.ddu.awaited then Machine.endDrying t else t) := .ite (fun _ => h.endDrying) fun _ => h.mono
  exact .ite (fun _ => (h.onDdu _).mono) fun _ => h.takeStart _

theorem resetDoor (h : Airs n s t) : Airs (n + 2) s (resetDoor t) := by
  simp only [Machine.resetDoor]
  exact .ite (fun _ => .ite (fun _ => (h.onDdu _).retract) fun _ => (h.onDdu _).stopDrive.driveInward)
    fun _ => .ite (fun _ => (h.onDdu _).enterDone) fun _ => (h.onDdu _).mono

theorem shutdownDoor (h : Airs n s t) : Airs (n + 2) s (shutdownDoor t) := .ite (fun _ => h.driveInward) fun _ => h.mono

theorem abruptDoor (h : Airs n s t) : Airs (n + 1) s (abruptDoor t) :=
  .ite (fun _ => ((h.onDdu _).onDdu _).stopDrive.doneWith _) fun _ => (((h.onDdu _).onDdu _).stopDrive).mono

/-! ## The link -/

theorem loseLink (h : Airs n s t) (c : LostCause) : Airs (n + 1) s (loseLink c t) := by
  unfold Machine.loseLink
  exact ((h.onLnk _).raiseFault _ _ _).report _

theorem followErrors (h : Airs n s t) : Airs (n + 1) s (followErrors t) :=
  .ite (fun _ => .ite (fun _ => h.loseLink _) fun _ => (h.onLnk _).mono) fun _ => h.mono

/-! ## What stands -/

theorem wpc (h : Airs n s t) : t.wpc = s.wpc := by rw [h.rest]
theorem seq (h : Airs n s t) : t.seq = s.seq := by rw [h.rest]
theorem sfu (h : Airs n s t) : t.sfu = s.sfu := by rw [h.rest]
theorem rge (h : Airs n s t) : t.rge = s.rge := by rw [h.rest]

theorem inlet (h : Airs n s t) (hi : Inlet s) : Inlet t := by
  have hw := h.wpc
  have he := h.rge
  exact hi.congr (by rw [hw]) (by rw [hw]) (by rw [hw]) (by rw [hw]) (by rw [hw]) (by rw [hw]) (by rw [hw]) (by rw [he])
    (by rw [he]) (by rw [he])

theorem countP (h : Airs n s t) : t.reports.countP spent = s.reports.countP spent := by
  obtain ⟨-, -, l, hl, -, hs⟩ := h
  have hz : l.countP spent = 0 := List.countP_eq_zero.mpr fun r hr => by simp [hs r hr]
  rw [hl, List.countP_append, hz, Nat.add_zero]

theorem length (h : Airs n s t) : t.reports.length ≤ s.reports.length + n := by
  obtain ⟨-, -, l, hl, hn, -⟩ := h
  rw [hl, List.length_append]
  omega

theorem prefixed (h : Airs n s t) : s.reports <+: t.reports := by
  obtain ⟨-, -, l, hl, -, -⟩ := h
  exact ⟨l, hl.symm⟩

end Airs

end Sys2Proof.Proofs
end

section
/-! PROOFS. The FILL request, the fill record and the engine agree with the sequencer while a step goes on, between the reports that
it still has to take (R9, R16, R43, R57, R67). -/

/- One theorem at a time, as the tests have it: proofs that wait for the kernel cost a thread each. -/
set_option Elab.async false

namespace Sys2Proof.Proofs

open Sys2Proof.Machine
open Sys2Proof.Safety

/-! ## What is agreed -/

/-- A sub-stage in which a FILL request may stand (R9, R16). -/
def Filling (q : Seq) : Prop := q.state = .running ∧ (q.sub = .fill ∨ q.sub = .dose ∨ q.sub = .heat ∨ q.sub = .circulate)

/-- A fill record may be open: in the main fill, its water wait, or the suspension of either (R57, R67). -/
def Recording (q : Seq) : Prop :=
  (q.state = .running ∧ q.sub = .fill) ∨ q.state = .waitWater
    ∨ (q.state = .suspended ∧ (q.remembered = .sub .fill ∨ q.remembered = .waitWater))

/-- Between two reports of a step the inlet agrees, a request stands where one may, at most one main fill stands or has still to
be heard of, and until then the sequencer waits for it in FILL; the record is open where it may be. The reports begin with those
given. -/
structure Astir (base : List Report) (s : State) : Prop where
  inlet : Inlet s
  filled : ∀ q ∈ s.wpc.fill, Filling s.seq ∧ (q.kind = .main ↔ s.seq.sub = .fill)
  one : s.reports.countP spent + mains s.wpc ≤ 1
  due : 0 < s.reports.countP spent → (s.seq.state = .running → s.seq.sub = .fill) ∧ s.seq.state ≠ .holding
  record : s.sfu.fill.isOpen = true → Recording s.seq
  grown : base <+: s.reports

/-- So it is, and a program that can go on runs in READY. -/
structure Mid (base : List Report) (s : State) : Prop extends Astir base s where
  ready : programHeats s = true → s.part.state = .ready

/-- A top-up may stand, no main fill, and none has to be heard of; the record is closed; the part is READY. -/
structure Topped (base : List Report) (s : State) : Prop where
  inlet : Inlet s
  topUp : ∀ q ∈ s.wpc.fill, q.kind = .topUp
  closed : s.sfu.fill.isOpen = false
  unspent : s.reports.countP spent = 0
  ready : s.part.state = .ready
  grown : base <+: s.reports

/-- So it is, and no request stands. -/
structure Clear (base : List Report) (s : State) : Prop extends Topped base s where
  empty : s.wpc.fill = none

/-- No request stands and the record is closed. -/
structure Unfilled (base : List Report) (s : State) : Prop where
  inlet : Inlet s
  empty : s.wpc.fill = none
  closed : s.sfu.fill.isOpen = false
  one : s.reports.countP spent ≤ 1
  grown : base <+: s.reports

variable {base : List Report} {s t : State} {n : Nat}

theorem course_eq {q r : Seq} (h : courseOf q = courseOf r) :
    q.state = r.state ∧ q.sub = r.sub ∧ q.idx = r.idx ∧ q.remembered = r.remembered :=
  ⟨congrArg Course.state h, congrArg Course.sub h, congrArg Course.idx h, congrArg Course.remembered h⟩

theorem programHeats_congr (h : t.seq.state = s.seq.state) : programHeats t = programHeats s := by
  simp only [programHeats, h]

/-! ## What goes on beside the sequencer -/

theorem Astir.flows (h : Astir base s) (k : Flows s t) : Astir base t := by
  obtain ⟨c1, c2, -, c4⟩ := course_eq k.course
  have hone := k.spends.trans h.one
  refine ⟨k.inlet, fun q hq => ?_, hone, fun hd => ?_, fun ho => ?_, h.grown.trans k.reports⟩
  · obtain ⟨p, hp, hk⟩ := k.kinds q hq
    rw [Filling, c1, c2, ← hk]
    exact h.filled p hp
  · rw [c1, c2]
    by_cases hs : 0 < s.reports.countP spent
    · exact h.due hs
    · have hm : mains s.wpc = 1 := by
        have := k.spends
        have := mains_le_one s.wpc
        omega
      obtain ⟨q, hq, hk⟩ : ∃ q ∈ s.wpc.fill, q.kind = .main := by
        unfold mains at hm
        split at hm
        · next hq => exact ⟨_, hq, rfl⟩
        · cases hm
      obtain ⟨⟨hr, -⟩, hb⟩ := h.filled q hq
      exact ⟨fun _ => hb.mp hk, by simp [hr]⟩
  · rw [Recording, c1, c2, c4]
    exact h.record (k.record ho)

theorem Mid.flows (h : Mid base s) (k : Flows s t) : Mid base t :=
  ⟨h.toAstir.flows k, fun hp => k.part.trans (h.ready (programHeats_congr (course_eq k.course).1 ▸ hp))⟩

theorem Astir.airs (h : Astir base s) (k : Airs n s t) : Astir base t := by
  refine ⟨k.inlet h.inlet, ?_, ?_, ?_, ?_, h.grown.trans k.prefixed⟩
  · rw [k.wpc, k.seq]; exact h.filled
  · rw [k.countP, k.wpc]; exact h.one
  · rw [k.countP, k.seq]; exact h.due
  · rw [k.sfu, k.seq]; exact h.record

theorem Mid.airs (h : Mid base s) (k : Airs n s t) : Mid base t :=
  ⟨h.toAstir.airs k, by rw [k.part, programHeats_congr (congrArg Seq.state k.seq)]; exact h.ready⟩

theorem Topped.flows (h : Topped base s) (k : Flows s t) : Topped base t := by
  have hm : mains s.wpc = 0 := by
    cases hq : s.wpc.fill with
    | none => exact mains_none hq
    | some q => exact mains_topUp hq (h.topUp q hq)
  refine ⟨k.inlet, fun q hq => ?_, ?_, ?_, k.part.trans h.ready, h.grown.trans k.reports⟩
  · obtain ⟨p, hp, hk⟩ := k.kinds q hq
    exact hk.symm.trans (h.topUp p hp)
  · have := h.closed
    by_contra ho
    simp only [Bool.not_eq_false] at ho
    simp [k.record ho] at this
  · have := k.spends
    have := h.unspent
    omega

theorem Flows.empty (k : Flows s t) (h : s.wpc.fill = none) : t.wpc.fill = none := by
  cases hq : t.wpc.fill with
  | none => rfl
  | some q =>
    obtain ⟨p, hp, -⟩ := k.kinds q hq
    rw [h] at hp
    cases hp

theorem Clear.flows (h : Clear base s) (k : Flows s t) : Clear base t := ⟨h.toTopped.flows k, k.empty h.empty⟩

theorem Topped.withdrawFill (h : Topped base s) : Clear base (withdrawFill s) :=
  ⟨h.flows (Flows.refl h.inlet).withdrawFill, withdrawFill_empty s⟩

theorem Topped.onSeq (h : Topped base s) (f : Seq → Seq) : Topped base (onSeq f s) :=
  ⟨h.inlet.congr rfl rfl rfl rfl rfl rfl rfl rfl rfl rfl, h.topUp, h.closed, h.unspent, h.ready, h.grown⟩

theorem Clear.onSeq (h : Clear base s) (f : Seq → Seq) : Clear base (onSeq f s) := ⟨h.toTopped.onSeq f, h.empty⟩

theorem Clear.airs (h : Clear base s) (k : Airs n s t) : Clear base t where
  inlet := k.inlet h.inlet
  topUp := by rw [k.wpc]; exact h.topUp
  closed := by rw [k.sfu]; exact h.closed
  unspent := by rw [k.countP]; exact h.unspent
  ready := k.part.trans h.ready
  grown := h.grown.trans k.prefixed
  empty := by rw [k.wpc]; exact h.empty

theorem Clear.mid (h : Clear base s) : Mid base s :=
  ⟨⟨h.inlet, by simp [h.empty], by rw [h.unspent, mains_none h.empty]; exact Nat.zero_le _,
    fun hd => absurd hd (by simp [h.unspent]), fun ho => absurd ho (by simp [h.closed]), h.grown⟩, fun _ => h.ready⟩

theorem Topped.mid (h : Topped base s) (hr : s.seq.state = .running) (hs : s.seq.sub = .dose ∨ s.seq.sub = .heat ∨ s.seq.sub = .circulate) :
    Mid base s := by
  refine ⟨⟨h.inlet, fun q hq => ⟨⟨hr, .inr hs⟩, by rw [h.topUp q hq]; rcases hs with hs | hs | hs <;> simp [hs]⟩, ?_,
    fun hd => absurd hd (by simp [h.unspent]), fun ho => absurd ho (by simp [h.closed]), h.grown⟩, fun _ => h.ready⟩
  rw [h.unspent, Nat.zero_add]
  exact mains_le_one _

theorem Unfilled.mid (h : Unfilled base s) (hr : s.seq.state ≠ .running) (hh : s.seq.state ≠ .holding)
    (hp : programHeats s = true → s.part.state = .ready) : Mid base s :=
  ⟨⟨h.inlet, by simp [h.empty], by rw [mains_none h.empty]; exact h.one,
    fun _ => ⟨fun hx => absurd hx hr, hh⟩, fun ho => absurd ho (by simp [h.closed]), h.grown⟩, hp⟩

/-! ## What the sequencer's state says -/

theorem Astir.no_fill (h : Astir base s) (hs : ¬ Filling s.seq) : s.wpc.fill = none := by
  cases hq : s.wpc.fill with
  | none => rfl
  | some q => exact absurd (h.filled q hq).1 hs

theorem Astir.closed (h : Astir base s) (hs : ¬ Recording s.seq) : s.sfu.fill.isOpen = false := by
  by_contra ho
  exact hs (h.record (by simpa using ho))

theorem Astir.unspent (h : Astir base s) (hs : (s.seq.state = .running ∧ s.seq.sub ≠ .fill) ∨ s.seq.state = .holding) :
    s.reports.countP spent = 0 := by
  by_contra hn
  obtain ⟨h1, h2⟩ := h.due (Nat.pos_of_ne_zero hn)
  rcases hs with ⟨hr, hf⟩ | hh
  · exact hf (h1 hr)
  · exact h2 hh

/-- In DRAIN, in DRY and in HOLDING nothing of a fill is left. -/
theorem Mid.clear (h : Mid base s)
    (hs : (s.seq.state = .running ∧ (s.seq.sub = .drain ∨ s.seq.sub = .dry)) ∨ s.seq.state = .holding) : Clear base s := by
  have hf : ¬ Filling s.seq := by
    rintro ⟨hr, hb⟩
    rcases hs with ⟨-, hs | hs⟩ | hs
    · simp [hs] at hb
    · simp [hs] at hb
    · simp [hs] at hr
  have hc : ¬ Recording s.seq := by
    rintro (⟨hr, hb⟩ | hr | ⟨hr, -⟩)
    · exact hf ⟨hr, .inl hb⟩
    all_goals rcases hs with ⟨hx, -⟩ | hx <;> simp [hx] at hr
  have he := h.no_fill hf
  have hu : (s.seq.state = .running ∧ s.seq.sub ≠ .fill) ∨ s.seq.state = .holding := by
    rcases hs with ⟨hr, hs | hs⟩ | hs
    · exact .inl ⟨hr, by simp [hs]⟩
    · exact .inl ⟨hr, by simp [hs]⟩
    · exact .inr hs
  have hp : programHeats s = true := by
    rcases hs with ⟨hr, -⟩ | hr <;> simp [programHeats, hr]
  exact ⟨⟨h.inlet, by simp [he], h.closed hc, h.unspent hu, h.ready hp, h.grown⟩, he⟩

/-- From DOSE to CIRCULATE only a top-up may stand (R16). -/
theorem Mid.topped (h : Mid base s) (hr : s.seq.state = .running)
    (hs : s.seq.sub = .dose ∨ s.seq.sub = .heat ∨ s.seq.sub = .circulate) : Topped base s := by
  have hb : s.seq.sub ≠ .fill := by rcases hs with hs | hs | hs <;> simp [hs]
  refine ⟨h.inlet, fun q hq => ?_, h.closed ?_, h.unspent (.inl ⟨hr, hb⟩), h.ready (by simp [programHeats, hr]), h.grown⟩
  · have hk := (h.filled q hq).2
    cases hx : q.kind
    · exact absurd (hk.mp hx) hb
    · rfl
  · rintro (⟨-, hx⟩ | hx | ⟨hx, -⟩)
    · exact hb hx
    · simp [hr] at hx
    · simp [hr] at hx

/-! ## A request is placed -/

theorem offerFill_onWpc (q : FillReq) (f : Option FillReq) (s : State) :
    offerFill q (onWpc (fun w => { w with fill := f }) s) = offerFill q s := by
  have hr : ∀ u, grantFill q (revokeRegen (onWpc (fun w => { w with fill := f }) u)) = grantFill q (revokeRegen u) := fun u => by
    unfold revokeRegen
    cases hh : u.wpc.holder <;> simp only [Laws.onWpc_wpc, hh] <;> rfl
  unfold offerFill
  rw [hr]
  rfl

/-- A request placed where one of its kind may stand. -/
theorem mid_offerFill {m : Nat} {k : FillKind} (hi : Inlet s) (he : s.wpc.fill = none) (hu : s.reports.countP spent = 0)
    (hp : s.part.state = .ready) (hs : Filling s.seq) (hk : k = .main ↔ s.seq.sub = .fill)
    (ho : s.sfu.fill.isOpen = true → Recording s.seq) (hg : base <+: s.reports) : Mid base (offerFill ⟨m, k, false⟩ s) := by
  have hm : Mid base (onWpc (fun w => { w with fill := some ⟨m, k, false⟩ }) s) := by
    refine ⟨⟨hi.unheldFill (by simp [he]) fun q hq => ?_, fun q hq => ?_, ?_, fun hd => ?_, ho, hg⟩, fun _ => hp⟩
    · rw [← Option.some.inj hq]
    · rw [← Option.some.inj hq]
      exact ⟨hs, hk⟩
    · rw [Laws.onWpc_reports, hu, Nat.zero_add]
      exact mains_le_one _
    · rw [Laws.onWpc_reports, hu] at hd
      cases hd
  rw [← offerFill_onWpc _ (some ⟨m, k, false⟩)]
  refine hm.flows ((Flows.refl hm.inlet).offerFill _ (fun q hq => ?_) ⟨_, rfl, rfl⟩)
  rw [← Option.some.inj hq]

end Sys2Proof.Proofs
end

section
/-! PROOFS. The sequencer's operations keep FILL request, record and reports in agreement: the phases, the ends of a program, the
door, and the reports taken (R8 to R18, R21 to R26, R30). -/

/- One theorem at a time, as the tests have it: proofs that wait for the kernel cost a thread each. -/
set_option Elab.async false

namespace Sys2Proof.Proofs

open Sys2Proof.Machine
open Sys2Proof.Safety

variable {base : List Report} {s t : State} {n : Nat}

/-! ## The phases -/

/-- What a phase entry, or a resumption, asks for its main fill (R9, R10). -/
theorem mid_continueFill (w : WashRecord) (hi : Inlet s) (he : s.wpc.fill = none) (hu : s.reports.countP spent = 0)
    (hp : s.part.state = .ready) (hr : s.seq.state = .running) (hb : s.seq.sub = .fill) (hg : base <+: s.reports) : Mid base (continueFill w s) := by
  rw [continueFill, placeFill_unfilled _ _ he]
  exact mid_offerFill hi he hu hp ⟨hr, .inl hb⟩ (by simp [hb]) (fun _ => .inl ⟨hr, hb⟩) hg

theorem mid_beginFill (w : WashRecord) (hi : Inlet s) (he : s.wpc.fill = none) (hu : s.reports.countP spent = 0)
    (hp : s.part.state = .ready) (hr : s.seq.state = .running) (hb : s.seq.sub = .fill) (hg : base <+: s.reports) : Mid base (beginFill w s) := by
  have k := ((Flows.refl hi).onSeq fun q => { q with fillBegun := true }).closeFill
  obtain ⟨c1, c2, -⟩ := course_eq k.course
  have hf : (openFill (onSeq (fun q => { q with fillBegun := true }) s)).wpc.fill = none := k.empty he
  rw [beginFill, placeFill_unfilled _ _ hf]
  have hu' : (closeFill (onSeq (fun q => { q with fillBegun := true }) s)).reports.countP spent = 0 := by
    rw [(closeFill_keeps _).2.2.1]
    exact hu
  refine mid_offerFill ?_ hf hu' (k.part.trans hp) ⟨c1.trans hr, .inl (c2.trans hb)⟩ ?_ (fun _ => .inl ⟨c1.trans hr, c2.trans hb⟩)
    (hg.trans k.reports)
  · exact k.inlet.congr rfl rfl rfl rfl rfl rfl rfl rfl rfl rfl
  · exact ⟨fun _ => c2.trans hb, fun _ => rfl⟩

theorem Clear.marked (h : Clear base s) (p : Phase) : Clear base (marked p s) := by
  have h := h.onSeq fun q => phaseMarks q
  unfold Proofs.marked
  exact h.flows ((((Flows.refl h.inlet).raiseNotice _).onHtc _).onCzs _)

theorem Clear.enterPhase (h : Clear base s) : Mid base (enterPhase s) := by
  cases hc : currentPhase s with
  | none => simpa [Machine.enterPhase, hc] using h.mid
  | some p =>
    cases p with
    | dry d o =>
      rw [enterPhase_dry hc]
      exact (((h.marked _).onSeq _).airs ((Airs.refl _).startDrying _)).mid
    | wash k w =>
      cases hd : s.ddu.doorOpen with
      | true =>
        rw [enterPhase_suspended hc hd]
        exact (((h.marked _).onSeq _).onSeq _).mid
      | false =>
        rw [enterPhase_fill hc hd]
        have hm := (h.marked (.wash k w)).onSeq fun q => { q with state := .running, sub := .fill }
        exact mid_beginFill w hm.inlet hm.empty hm.unspent hm.ready rfl rfl hm.grown

theorem Clear.enterNext (h : Clear base s) : Mid base (enterNext s) := (h.onSeq _).enterPhase

theorem Clear.raiseNotice (h : Clear base s) (c : Content) : Clear base (raiseNotice c s) := h.flows ((Flows.refl h.inlet).raiseNotice c)

theorem Clear.endPhase (h : Clear base s) : Mid base (endPhase s) := by
  have h : Clear base (phaseEndRaised s) := by
    unfold phaseEndRaised
    split
    · exact h.raiseNotice _
    · exact h
  rw [endPhase_eq]
  split
  · exact (((h.onSeq _).onSeq _).raiseNotice _).mid
  · split
    · exact ((h.onSeq _).raiseNotice _).mid
    · exact h.enterNext

theorem Clear.dropDrain (h : Clear base s) : Clear base (dropDrain s) := h.flows (Flows.refl h.inlet).dropDrain

theorem Clear.placeDrain (h : Clear base s) : Clear base (placeDrain s) := h.flows (Flows.refl h.inlet).placeDrain

theorem Clear.endDrain (h : Clear base s) : Mid base (endDrain s) := (h.onSeq fun q => { q with extension := none }).dropDrain.endPhase

theorem Clear.enterDrain (h : Clear base s) : Mid base (enterDrain s) := ((h.onSeq _).placeDrain).mid

theorem Topped.endCirculate (h : Topped base s) (w : WashRecord) : Mid base (endCirculate w s) := by
  have h := (h.flows (Flows.refl h.inlet).withdrawHeat).withdrawFill
  have h := h.flows (Flows.refl h.inlet).stopCirculation
  have hs : Clear base (if w.sample then Machine.onSeq (fun q => { q with
      soil := soilOf (transmission (stopCirculation (Machine.withdrawFill (withdrawHeat s))).pins.turbidity) })
      (stopCirculation (Machine.withdrawFill (withdrawHeat s))) else stopCirculation (Machine.withdrawFill (withdrawHeat s))) := by
    split
    · exact h.onSeq _
    · exact h
  unfold Machine.endCirculate
  dsimp only
  split
  · exact hs.enterDrain
  · exact hs.endPhase

/-- RUNNING in a sub-stage of the wash behind FILL. -/
theorem Topped.mid_running (h : Topped base s) {b : SubStage} (hb : b = .dose ∨ b = .heat ∨ b = .circulate)
    (k : Flows (seqTo .running b s) t) : Mid base t := by
  obtain ⟨c1, c2, -⟩ := course_eq k.course
  exact ((h.onSeq _).flows k).mid c1 (by rw [c2]; exact hb)

theorem Topped.seqTo (h : Topped base s) (b : SubStage) : Topped base (seqTo .running b s) := h.onSeq _

theorem Topped.enterCirculate (h : Topped base s) (w : WashRecord) : Mid base (enterCirculate w s) := by
  have hc := (h.seqTo .circulate).onSeq fun q => { q with holdTimer := 0 }
  unfold Machine.enterCirculate
  dsimp only
  split
  · exact hc.endCirculate w
  · exact h.mid_running (.inr (.inr rfl)) (((Flows.refl (h.seqTo .circulate).inlet).onSeq _).runCirculation w)

theorem Topped.enterHeat (h : Topped base s) (w : WashRecord) : Mid base (enterHeat w s) := by
  unfold Machine.enterHeat
  split
  · exact h.mid_running (.inr (.inl rfl)) (((Flows.refl (h.seqTo .heat).inlet).runCirculation w).placeHeating _ _)
  · exact h.enterCirculate w

theorem Flows.placeDoses (h : Flows s t) (w : WashRecord) (l : List DoseRef) : Flows s (placeDoses w l t) := by
  induction l generalizing t with
  | nil => exact h
  | cons r l ih =>
    rw [placeDoses_cons]
    refine ih ?_
    unfold placeRef
    split
    · exact h
    · exact h.placeDose _ _ _

theorem Topped.enterDose (h : Topped base s) (w : WashRecord) : Mid base (enterDose w s) := by
  have k := ((Flows.refl (h.seqTo .dose).inlet).runCirculation w).placeDoses w w.refs
  unfold Machine.enterDose
  dsimp only
  split
  · exact h.enterHeat w
  · split
    · exact ((h.seqTo .dose).flows k).enterHeat w
    · exact h.mid_running (.inl rfl) k

/-! ## The end of a program -/

theorem Unfilled.flows (h : Unfilled base s) (k : Flows s t) : Unfilled base t := by
  refine ⟨k.inlet, k.empty h.empty, ?_, ?_, h.grown.trans k.reports⟩
  · have := h.closed
    by_contra ho
    simp [k.record (by simpa using ho)] at this
  · have := k.spends
    rw [mains_none h.empty] at this
    have := h.one
    omega

theorem Unfilled.onSeq (h : Unfilled base s) (f : Seq → Seq) : Unfilled base (onSeq f s) :=
  ⟨h.inlet.congr rfl rfl rfl rfl rfl rfl rfl rfl rfl rfl, h.empty, h.closed, h.one, h.grown⟩

theorem Unfilled.airs (h : Unfilled base s) (k : Airs n s t) : Unfilled base t :=
  ⟨k.inlet h.inlet, by rw [k.wpc]; exact h.empty, by rw [k.sfu]; exact h.closed, by rw [k.countP]; exact h.one,
    h.grown.trans k.prefixed⟩

theorem Clear.unfilled (h : Clear base s) : Unfilled base s := ⟨h.inlet, h.empty, h.closed, by simp [h.unspent], h.grown⟩

/-- The stopping actions leave neither request nor record (R21). -/
theorem Astir.stopProgram (h : Astir base s) : Unfilled base (stopProgram s) := by
  have k := (Flows.refl h.inlet).withdrawHeat.withdrawFill
  obtain ⟨k1, -, -, k4, -⟩ := closeFill_keeps (withdrawFill (withdrawHeat s))
  have hu : Unfilled base (closeFill (withdrawFill (withdrawHeat s))) := by
    refine ⟨k.closeFill.inlet, by rw [k1]; exact withdrawFill_empty _, by rw [k4]; exact closedRecord_isOpen _, ?_,
      h.grown.trans k.closeFill.reports⟩
    have := k.closeFill.spends.trans h.one
    omega
  have hs := hu.flows (Flows.refl hu.inlet).cancelSequencerDoses.stopCirculation
  have hd : Unfilled base (if runningIn (stopCirculation (cancelSequencerDoses (closeFill (withdrawFill (withdrawHeat s))))) .drain
      then Machine.dropDrain (stopCirculation (cancelSequencerDoses (closeFill (withdrawFill (withdrawHeat s)))))
      else stopCirculation (cancelSequencerDoses (closeFill (withdrawFill (withdrawHeat s))))) := by
    split
    · exact hs.flows (Flows.refl hs.inlet).dropDrain
    · exact hs
  unfold Machine.stopProgram
  exact hd.onSeq _

/-- Neither request nor record, and the sequencer in a state that no program runs in but ENDING. -/
theorem Unfilled.over (h : Unfilled base s) (hs : s.seq.state = .ended ∨ s.seq.state = .faulted ∨ s.seq.state = .ending ∨ s.seq.state = .idle) :
    Mid base s := by
  refine h.mid ?_ ?_ fun hp => ?_
  all_goals rcases hs with hs | hs | hs | hs <;> simp_all [programHeats]

theorem raiseNotice_seq (c : Content) (s : State) : (raiseNotice c s).seq = s.seq := by rw [raiseNotice_rest]

theorem Unfilled.enterFaulted (h : Unfilled base s) : Mid base (enterFaulted s) := by
  have h := h.onSeq fun q => { q with state := .faulted, sub := .none }
  refine (h.flows ((Flows.refl h.inlet).raiseNotice _)).over (.inr (.inl ?_))
  exact congrArg Seq.state (raiseNotice_seq _ _)

theorem Unfilled.enterEnding (h : Unfilled base s) : Mid base (enterEnding s) := by
  have h := h.onSeq fun q => { q with state := .ending, sub := .none }
  exact (h.flows (Flows.refl h.inlet).placeDrain).over (.inr (.inr (.inl rfl)))

/-- Outside the four states of a program that can go on no request stands, and no record. -/
theorem Astir.unfilled (h : Astir base s) (hp : programHeats s = false) : Unfilled base s := by
  have he : s.wpc.fill = none := h.no_fill fun hx => by simp [programHeats, hx.1] at hp
  refine ⟨h.inlet, he, h.closed ?_, by have := h.one; omega, h.grown⟩
  rintro (⟨hr, -⟩ | hr | ⟨hr, -⟩) <;> simp [programHeats, hr] at hp

/-- DRY is ended with its program. -/
theorem Astir.endDrying (h : Astir base s) (hr : runningIn s .dry = true) : Unfilled base (endDrying s) := by
  obtain ⟨hs, hb⟩ := (runningIn_iff _ _).mp hr
  have hu : Unfilled base s := by
    refine ⟨h.inlet, h.no_fill ?_, h.closed ?_, by have := h.one; omega, h.grown⟩
    · rintro ⟨-, hx⟩; simp [hb] at hx
    · rintro (⟨-, hx⟩ | hx | ⟨hx, -⟩)
      · simp [hb] at hx
      · simp [hs] at hx
      · simp [hs] at hx
  exact hu.airs (Airs.refl _).endDrying

theorem Mid.programFault (h : Mid base s) (c : FaultCode) : Mid base (programFault c s) := by
  have hrun : Mid base (if runningIn s .dry then
        Machine.enterFaulted (setOutcome .faulted (holdCode c
          (Machine.onSeq (fun q => { q with holdPending := false }) (Machine.endDrying s))))
      else if drainsAfter c then Machine.enterEnding (setOutcome .faulted (holdCode c (Machine.stopProgram s)))
        else Machine.enterFaulted (setOutcome .faulted (holdCode c (Machine.stopProgram s)))) := by
    split
    · next hr => exact ((((h.endDrying hr).onSeq _).onSeq _).onSeq _).enterFaulted
    · split
      · exact ((h.stopProgram.onSeq _).onSeq _).enterEnding
      · exact ((h.stopProgram.onSeq _).onSeq _).enterFaulted
  unfold Machine.programFault
  split
  case h_1 hs => exact (((h.unfilled (by simp [programHeats, hs])).onSeq _).onSeq _).over (.inr (.inl rfl))
  case h_2 hs => exact (((h.unfilled (by simp [programHeats, hs])).onSeq _).onSeq _).over (.inr (.inl rfl))
  case h_7 hs =>
    have hu := ((h.unfilled (by simp [programHeats, hs])).onSeq fun q => { q with fault := q.fault.orElse fun _ => some c }).onSeq
      fun q => { q with summary := { q.summary with outcome := .faulted } }
    dsimp only
    split
    · exact hu.over (.inr (.inr (.inl hs)))
    · exact (hu.flows (Flows.refl hu.inlet).dropDrain).enterFaulted
  case h_8 => exact h
  all_goals exact hrun

theorem Astir.abortProgram (h : Astir base s) : Mid base (abortProgram s) := by
  unfold Machine.abortProgram
  split
  · next hr =>
    have hu := ((h.endDrying hr).onSeq fun q => { q with state := .ended, sub := .none, holdPending := false }).onSeq
      fun q => { q with summary := { q.summary with outcome := .aborted } }
    refine (hu.flows ((Flows.refl hu.inlet).raiseNotice _)).over (.inl ?_)
    exact congrArg Seq.state (raiseNotice_seq _ _)
  · exact h.stopProgram.enterEnding

theorem Astir.resetSequencer (h : Astir base s) : Mid base (resetSequencer s) := by
  have hrun : Mid base (onSeq (fun q => { q with state := .idle, sub := .none, idx := 0, holdPending := false, fault := none })
      (programEnd (setOutcome .aborted (Machine.dropDrain (if runningIn s .dry then Machine.endDrying s else Machine.stopProgram s))))) := by
    have hu : Unfilled base (if runningIn s .dry then Machine.endDrying s else Machine.stopProgram s) := by
      split
      · next hr => exact h.endDrying hr
      · exact h.stopProgram
    have hu := (hu.flows (Flows.refl hu.inlet).dropDrain).onSeq fun q => { q with summary := { q.summary with outcome := .aborted } }
    exact ((hu.flows ((Flows.refl hu.inlet).raiseNotice _)).onSeq _).over (.inr (.inr (.inr rfl)))
  unfold Machine.resetSequencer
  split
  case h_6 hs =>
    have hu := (h.unfilled (by simp [programHeats, hs])).onSeq fun q => { q with state := .idle, idx := 0 }
    exact (hu.flows (Flows.refl hu.inlet).dropDrain).over (.inr (.inr (.inr rfl)))
  case h_7 hs => exact ((h.unfilled (by simp [programHeats, hs])).flows (Flows.refl h.inlet).dropDrain).over (.inr (.inl hs))
  case h_8 hs => exact (h.unfilled (by simp [programHeats, hs])).over (.inr (.inr (.inr hs)))
  all_goals exact hrun

end Sys2Proof.Proofs
end

section
/-! PROOFS. The door, the resumption and each report taken keep FILL request, record and reports in agreement (R9 to R18, R24, R25). -/

/- One theorem at a time, as the tests have it: proofs that wait for the kernel cost a thread each. -/
set_option Elab.async false

namespace Sys2Proof.Proofs

open Sys2Proof.Machine
open Sys2Proof.Safety

variable {base : List Report} {s t : State} {n : Nat}

/-- A change of the sequencer's fields that leaves its course. -/
theorem Mid.onSeq (h : Mid base s) (f : Seq → Seq) (hc : courseOf (f s.seq) = courseOf s.seq := by rfl) : Mid base (onSeq f s) :=
  h.flows ((Flows.refl h.inlet).onSeq f hc)

/-- A change that leaves state, sub-stage and what is remembered. -/
theorem Mid.onSeq_state (h : Mid base s) (f : Seq → Seq) (h1 : (f s.seq).state = s.seq.state := by rfl)
    (h2 : (f s.seq).sub = s.seq.sub := by rfl) (h3 : (f s.seq).remembered = s.seq.remembered := by rfl) : Mid base (Machine.onSeq f s) := by
  refine ⟨⟨h.inlet.congr rfl rfl rfl rfl rfl rfl rfl rfl rfl rfl, ?_, h.one, ?_, ?_, h.grown⟩, ?_⟩
  · simp only [Laws.onSeq_wpc, Laws.onSeq_seq, Filling, h1, h2]; exact h.filled
  · simp only [Laws.onSeq_reports, Laws.onSeq_seq, h1, h2]; exact h.due
  · simp only [Laws.onSeq_sfu, Laws.onSeq_seq, Recording, h1, h2, h3]; exact h.record
  · rw [programHeats_congr (s := s) h1]; exact h.ready

/-! ## The door (R24, R25) -/

/-- The fill of a suspended phase is withdrawn; its record stands with what is remembered (R24). -/
theorem Mid.suspendedOnly (h : Mid base s) (hr : s.seq.state = .running) : Mid base (Proofs.suspendedOnly s) := by
  have hi : Inlet (Machine.onSeq (fun q => { q with state := .suspended, sub := .none, remembered := .sub q.sub, settling := none }) s) :=
    h.inlet.congr rfl rfl rfl rfl rfl rfl rfl rfl rfl rfl
  have k := (Flows.refl hi).withdrawFill
  have k' := k.withdrawHeat.stopCirculation
  have he := ((Flows.refl k.inlet).withdrawHeat.stopCirculation).empty (withdrawFill_empty _)
  obtain ⟨c1, c2, -, c4⟩ := course_eq k'.course
  have hone : (Proofs.suspendedOnly s).reports.countP spent + mains (Proofs.suspendedOnly s).wpc ≤ 1 := k'.spends.trans h.one
  refine ⟨⟨k'.inlet, fun q hq => ?_, hone, fun _ => ⟨fun hx => ?_, fun hx => ?_⟩, fun ho => .inr (.inr ⟨c1, .inl ?_⟩),
    h.grown.trans k'.reports⟩, fun _ => ?_⟩
  · rw [show (Proofs.suspendedOnly s).wpc.fill = none from he] at hq
    cases hq
  · exact SeqState.noConfusion (c1.symm.trans hx)
  · exact SeqState.noConfusion (c1.symm.trans hx)
  · rcases h.record (k'.record ho) with ⟨-, hb⟩ | hx | ⟨hx, -⟩
    · exact c4.trans (congrArg Remembered.sub hb)
    · simp [hr] at hx
    · simp [hr] at hx
  · exact k'.part.trans (h.ready (by simp [programHeats, hr]))

theorem Mid.doorOpenedToSeq (h : Mid base s) : Mid base (doorOpenedToSeq s) := by
  unfold Machine.doorOpenedToSeq
  split
  case h_1 hr =>
    split
    · exact h
    · have hs := h.suspendedOnly hr
      rw [suspend_eq]
      split
      · exact hs.flows (Flows.refl hs.inlet).pauseDosing
      · have hx := hs.onSeq_state fun q => { q with extension := none }
        exact hx.flows (Flows.refl hx.inlet).dropDrain
      all_goals exact hs
  case h_2 hr =>
    have he := h.no_fill fun hx => by simp [hx.1] at hr
    refine ⟨⟨h.inlet.congr rfl rfl rfl rfl rfl rfl rfl rfl rfl rfl, by simp [he], h.one, fun _ => by simp, fun _ => ?_, h.grown⟩, fun _ => ?_⟩
    · exact .inr (.inr ⟨rfl, .inr rfl⟩)
    · exact h.ready (by simp [programHeats, hr])
  case h_3 => exact h.onSeq_state _
  all_goals exact h

theorem Mid.doorClosedToSeq (h : Mid base s) : Mid base (doorClosedToSeq s) := by
  unfold Machine.doorClosedToSeq
  split
  · exact h.onSeq_state _
  · exact h

/-- The sub-stage remembered is resumed (R25); a record that stands belongs to the fill or to its water wait. -/
theorem Mid.resumeProgram (h : Mid base s) (hs : s.seq.state = .suspended) (hw : (currentWash s).isSome = true) (hu : s.reports = []) :
    Mid base (resumeProgram s) := by
  have he := h.no_fill fun hx => by simp [hx.1] at hs
  have hp := h.ready (by simp [programHeats, hs])
  have hz : s.reports.countP spent = 0 := by simp [hu]
  have ho : s.sfu.fill.isOpen = true → s.seq.remembered = .sub .fill ∨ s.seq.remembered = .waitWater := fun ho => by
    rcases h.record ho with ⟨hx, -⟩ | hx | ⟨-, hx⟩
    · simp [hs] at hx
    · simp [hs] at hx
    · exact hx
  have hi : ∀ f, Inlet (Machine.onSeq f s) := fun f => h.inlet.congr rfl rfl rfl rfl rfl rfl rfl rfl rfl rfl
  have hclear : s.sfu.fill.isOpen = false → ∀ f, Clear base (Machine.onSeq f s) := fun hc f =>
    Clear.onSeq ⟨⟨h.inlet, by simp [he], hc, hz, hp, h.grown⟩, he⟩ f
  have hc : ∀ b, s.seq.remembered = .sub b → b ≠ .fill → s.sfu.fill.isOpen = false := fun b hb hn => by
    by_contra hx
    rcases ho (by simpa using hx) with hx | hx
    · rw [hb] at hx
      exact hn (Remembered.sub.inj hx)
    · simp [hb] at hx
  obtain ⟨w, hw⟩ := Option.isSome_iff_exists.mp hw
  have hw' : currentWash (Machine.onSeq (fun q => { q with settling := none, remembered := .none }) s) = some w := hw
  unfold Machine.resumeProgram
  dsimp only
  rw [hw']
  cases hm : s.seq.remembered with
  | none => exact (hclear (by by_contra hx; rcases ho (by simpa using hx) with hx | hx <;> simp [hm] at hx) _).mid
  | waitWater =>
    refine ⟨⟨h.inlet.congr rfl rfl rfl rfl rfl rfl rfl rfl rfl rfl, by simp [seqTo, he], h.one, ?_, fun _ => .inr (.inl rfl), h.grown⟩, fun _ => hp⟩
    exact fun hd => absurd hd (by simp [seqTo, hz])
  | sub b =>
    cases b with
    | none => exact (hclear (hc _ hm (by simp)) fun q => { q with settling := none, remembered := .none }).mid
    | dry => exact (hclear (hc _ hm (by simp)) fun q => { q with settling := none, remembered := .none }).mid
    | fill =>
      have hi' : ∀ f g, Inlet (Machine.onSeq f (Machine.onSeq g s)) := fun f g =>
        (hi g).congr rfl rfl rfl rfl rfl rfl rfl rfl rfl rfl
      simp only [resumeSub]
      split
      · exact mid_continueFill w (hi' _ _) he hz hp rfl rfl h.grown
      · exact mid_beginFill w (hi' _ _) he hz hp rfl rfl h.grown
    | drain => exact (hclear (hc _ hm (by simp)) fun q => { q with settling := none, remembered := .none }).enterDrain
    | dose =>
      have ht := (hclear (hc _ hm (by simp)) fun q => { q with settling := none, remembered := .none }).toTopped
      have k := ((Flows.refl (ht.seqTo .dose).inlet).runCirculation w).resumeDosing
      simp only [resumeSub, resumeDose]
      split
      · exact ((ht.seqTo .dose).flows k).enterHeat w
      · exact ht.mid_running (.inl rfl) k
    | heat =>
      have ht := (hclear (hc _ hm (by simp)) fun q => { q with settling := none, remembered := .none }).toTopped
      simp only [resumeSub, resumeHeat]
      split
      · exact ht.enterCirculate w
      · split
        · exact (ht.flows ((Flows.refl ht.inlet).placeRegulating _)).enterCirculate w
        · exact ht.mid_running (.inr (.inl rfl)) (((Flows.refl (ht.seqTo .heat).inlet).runCirculation w).placeHeating _ _)
    | circulate =>
      have ht := (hclear (hc _ hm (by simp)) fun q => { q with settling := none, remembered := .none }).toTopped
      exact ht.mid_running (.inr (.inr rfl)) (Flows.runCirculation
        (.ite (fun _ => (Flows.refl (ht.seqTo .circulate).inlet).placeRegulating _) fun _ => Flows.refl (ht.seqTo .circulate).inlet) w)

/-! ## The reports -/

theorem Mid.drop (h : Mid base s) {r : Report} {l : List Report} (hr : s.reports = r :: l) : Mid l (onReports (fun _ => l) s) := by
  have hc : l.countP spent ≤ s.reports.countP spent := by rw [hr, List.countP_cons]; omega
  refine ⟨⟨h.inlet.congr rfl rfl rfl rfl rfl rfl rfl rfl rfl rfl, h.filled, ?_, fun hd => h.due (hd.trans_le hc), h.record, List.prefix_rfl⟩, h.ready⟩
  exact (Nat.add_le_add_right hc _).trans h.one

/-- With the end of the main fill heard of, no request stands and none other has to be heard of (R9). -/
theorem Mid.drop_spent (h : Mid base s) {r : Report} {l : List Report} (hr : s.reports = r :: l) (hs : spent r = true)
    (hf : runningIn s .fill = true) : s.wpc.fill = none ∧ l.countP spent = 0 := by
  have hone := h.one
  rw [hr, List.countP_cons, if_pos hs] at hone
  refine ⟨?_, by omega⟩
  cases hq : s.wpc.fill with
  | none => rfl
  | some q =>
    have hk := (h.filled q hq).2.mpr ((runningIn_iff _ _).mp hf).2
    have := mains_main (Option.mem_def.mpr hq) hk
    omega

theorem Mid.fillLimitReached (h : Mid base s) (hr : s.seq.state = .running) (he : s.wpc.fill = none) : Mid base (fillLimitReached s) := by
  have h := h.onSeq fun q => { q with fillTimeouts := q.fillTimeouts + 1 }
  unfold Machine.fillLimitReached
  dsimp only
  split
  · have hm : Mid base (Machine.onSeq (fun q => { q with state := .waitWater, sub := .none, waterWait := some Config.waterWait })
        (Machine.onSeq (fun q => { q with fillTimeouts := q.fillTimeouts + 1 }) s)) := by
      refine ⟨⟨h.inlet.congr rfl rfl rfl rfl rfl rfl rfl rfl rfl rfl, by simp [he], h.one, fun _ => by simp, fun _ => .inr (.inl rfl), h.grown⟩, fun _ => ?_⟩
      exact h.ready (by simp [programHeats, hr])
    exact hm.flows ((Flows.refl hm.inlet).raiseNotice _)
  · have hm := h.flows ((Flows.refl h.inlet).raiseFault .waterSupply (.num s.sfu.fill.v) (.num 0))
    exact hm.programFault _

theorem Mid.heatEnded (h : Mid base s) : Mid base (heatEnded s) := by
  unfold Machine.heatEnded
  split
  · next w _ =>
    split
    · next hr =>
      obtain ⟨hr, hb⟩ := (runningIn_iff _ _).mp hr
      exact (h.topped hr (.inr (.inl hb))).enterCirculate w
    · exact h
  · exact h

theorem Mid.engineLeft (h : Mid base s) : Mid base (engineLeft s) := by
  unfold Machine.engineLeft
  split
  · next hc =>
    obtain ⟨hr, hb⟩ := (runningIn_iff _ _).mp (Bool.and_eq_true_iff.mp hc).1
    exact (h.clear (.inl ⟨hr, .inl hb⟩)).endDrain
  · exact h

theorem Mid.drainEnded (h : Mid base s) : Mid base (drainEnded s) := by
  unfold Machine.drainEnded
  split
  · next hc =>
    obtain ⟨hr, hb⟩ := (runningIn_iff _ _).mp hc
    have hc := h.clear (.inl ⟨hr, .inl hb⟩)
    unfold drainNaturalEnd
    split
    · exact (hc.onSeq _).mid
    · exact hc.endDrain
  · split
    · next hs =>
      have hu := h.unfilled (by simp [programHeats, hs])
      have hu := hu.flows (Flows.refl hu.inlet).dropDrain
      dsimp only
      split
      · exact hu.enterFaulted
      · have hu := (hu.onSeq fun q => { q with state := .ended, sub := .none }).onSeq fun q => { q with summary := { q.summary with outcome := .aborted } }
        refine (hu.flows ((Flows.refl hu.inlet).raiseNotice _)).over (.inl ?_)
        exact congrArg Seq.state (raiseNotice_seq _ _)
    · exact h.flows (Flows.refl h.inlet).dropDrain

/-- The request of a top-up (R16). -/
theorem Mid.pressureLow (h : Mid base s) : Mid base (pressureLowToSeq s) := by
  unfold pressureLowToSeq
  split
  · next hc =>
    simp only [Bool.and_eq_true, Bool.or_eq_true, runningIn_iff] at hc
    have hr : s.seq.state = .running := by rcases hc.1 with (h | h) | h <;> exact h.1
    have hb : s.seq.sub = .dose ∨ s.seq.sub = .heat ∨ s.seq.sub = .circulate := by
      rcases hc.1 with (h | h) | h
      · exact .inl h.2
      · exact .inr (.inl h.2)
      · exact .inr (.inr h.2)
    have ht := ((h.topped hr hb).onSeq fun q => { q with topUpMark := true }).withdrawFill
    obtain ⟨c1, c2, -⟩ := course_eq (Flows.refl ((h.topped hr hb).onSeq fun q => { q with topUpMark := true }).inlet).withdrawFill.course
    have c1 := c1.trans hr
    have c2 : _ ∨ _ ∨ _ := c2.symm ▸ hb
    rw [placeFill]
    refine mid_offerFill ht.inlet ht.empty ht.unspent ht.ready ⟨c1, .inr c2⟩ ?_ (fun ho => absurd ho (by simp [ht.closed])) ht.grown
    rcases c2 with c2 | c2 | c2 <;> simp [c2]
  · exact h

theorem Mid.linkLost (h : Mid base s) : Mid base (linkLostToSeq s) := by
  unfold linkLostToSeq
  dsimp only
  split
  · next hs => exact ((h.clear (.inr hs)).onSeq fun q => { q with holdPending := false }).enterNext
  · exact h.onSeq_state _

/-- The sequencer takes a report, and what it reports comes behind those that stood. -/
theorem Mid.takeReport (h : Mid base s) {r : Report} {l : List Report} (hr : s.reports = r :: l) :
    Mid l (takeReport r (onReports (fun _ => l) s)) := by
  have hd := h.drop hr
  have hf : ∀ k e m, r = .fillEnded k e m → Mid l (fillEnded k e (onReports (fun _ => l) s)) := by
    rintro k e m rfl
    unfold fillEnded
    split
    · next w _ =>
      split
      · next hb =>
        have hclose : spent (.fillEnded .main e m) = true → Topped l (closeFill (onReports (fun _ => l) s)) := fun hs => by
          obtain ⟨he, hz⟩ := h.drop_spent hr hs hb
          obtain ⟨k1, -, k3, k4, -⟩ := closeFill_keeps (onReports (fun _ => l) s)
          have k := (Flows.refl hd.inlet).closeFill
          refine ⟨k.inlet, fun q hq => ?_, by rw [k4]; exact closedRecord_isOpen _, by rw [k3]; exact hz, k.part.trans (hd.ready ?_), k.reports⟩
          · rw [k1] at hq
            rw [show (onReports (fun _ => l) s).wpc.fill = none from he] at hq
            cases hq
          · exact (programHeats_iff _).mpr (.inl ((runningIn_iff _ _).mp hb).1)
        split
        · exact (hclose rfl).enterDose w
        · exact (hclose rfl).enterDose w
        · exact hd.fillLimitReached ((runningIn_iff _ _).mp hb).1 (h.drop_spent hr rfl hb).1
        · exact hd
        · exact hd
      · exact hd
    · exact hd
  cases r with
  | fillEnded k e m => exact hf k e m rfl
  | fillRefused =>
    simp only [Machine.takeReport, fillRefusedToSeq]
    split
    · exact hd.programFault _
    · exact hd
  | drainEnded => exact hd.drainEnded
  | programFault c => exact hd.programFault c
  | targetReached => exact hd.heatEnded
  | heatLimitExpired => exact hd.heatEnded
  | heatDisabled => exact hd.heatEnded
  | sensorFailed =>
    have hx := hd.onSeq fun q => { q with heaterOff := true }
    simp only [Machine.takeReport, sensorFailedToSeq]
    split
    · next w _ =>
      split
      · next hb =>
        obtain ⟨hs, hb⟩ := (runningIn_iff _ _).mp hb
        have ht := hx.topped hs (.inr (.inl hb))
        exact (ht.flows (Flows.refl ht.inlet).withdrawHeat).enterCirculate w
      · exact hx
    · exact hx
  | doseEnded a =>
    have hx := hd.onSeq fun q => { q with placed := q.placed.erase a }
    simp only [Machine.takeReport, doseEnded]
    split
    · next w _ =>
      split
      · next hb =>
        obtain ⟨hs, hb⟩ := (runningIn_iff _ _).mp (Bool.and_eq_true_iff.mp hb).1
        exact (hx.topped hs (.inl hb)).enterHeat w
      · exact hx
    · exact hx
  | pressureLow => exact hd.pressureLow
  | doorOpened => exact hd.doorOpenedToSeq
  | doorClosed => exact hd.doorClosedToSeq
  | dryingDone o =>
    simp only [Machine.takeReport, dryingDone]
    split
    · next hb =>
      obtain ⟨hs, hb⟩ := (runningIn_iff _ _).mp hb
      exact (hd.clear (.inl ⟨hs, .inr hb⟩)).endPhase
    · exact hd
  | engineLeft => exact hd.engineLeft
  | linkLost => exact hd.linkLost

end Sys2Proof.Proofs
end

section
/-! PROOFS. With the inlet inhibited every step ends with no fill to ask: the program ends, or the phase that it stands in asks for no
water (R38, R51, R53). -/

/- One theorem at a time, as the tests have it: proofs that wait for the kernel cost a thread each. -/
set_option Elab.async false

namespace Sys2Proof.Proofs

open Sys2Proof.Machine
open Sys2Proof.Safety

/-- No water is wanted: only DRY runs, nothing waits for water, and what is suspended has its fill before it. -/
def Barred (q : Seq) : Prop := q.state ≠ .waitWater ∧ (q.state = .running → q.sub = .dry) ∧ (q.state = .suspended → q.remembered = .sub .fill)

/-- A report that ends a program. -/
def alarm : Report → Bool
  | .fillRefused | .programFault _ => true
  | _ => false

/-- With `n` reports still to take: no program can go on, or one of them ends it, or no water is wanted, and a phase that is still
to be entered is entered in time for its refused fill to be heard of. -/
inductive Checked (n : Nat) (s : State) : Prop
  | over (h : programHeats s = false)
  | alarmed (h : ∃ r ∈ s.reports.take n, alarm r = true)
  | barred (h : Barred s.seq) (hm : (∀ r ∈ s.reports, moving r = false) ∨ s.reports.length + 3 * (12 - s.seq.idx) < n)

/-- The sequencer stands where it stood, and so do the reports. -/
structure Pauses (s t : State) : Prop where
  state : t.seq.state = s.seq.state
  sub : t.seq.sub = s.seq.sub
  idx : t.seq.idx = s.seq.idx
  remembered : t.seq.remembered = s.seq.remembered
  reports : t.reports = s.reports

variable {base l : List Report} {s t : State} {n : Nat} {r : Report}

theorem runningIn_over (h : programHeats s = false) (b : SubStage) : runningIn s b = false := by
  cases hr : runningIn s b with
  | false => rfl
  | true => rw [(programHeats_iff s).mpr (.inl ((runningIn_iff s b).mp hr).1)] at h; cases h

theorem runningIn_barred (h : Barred s.seq) {b : SubStage} (hb : b ≠ .dry) : runningIn s b = false := by
  cases hr : runningIn s b with
  | false => rfl
  | true =>
    obtain ⟨h1, h2⟩ := (runningIn_iff s b).mp hr
    exact absurd (h2.symm.trans (h.2.1 h1)) hb

/-! ## The program ends -/

theorem over_of_state (h : s.seq.state = .ended ∨ s.seq.state = .faulted ∨ s.seq.state = .ending ∨ s.seq.state = .idle) :
    programHeats s = false := by
  rcases h with h | h | h | h <;> simp [programHeats, h]

theorem over_iff : programHeats s = false ↔ s.seq.state = .ended ∨ s.seq.state = .faulted ∨ s.seq.state = .ending ∨ s.seq.state = .idle := by
  cases h : s.seq.state <;> simp [programHeats, h]

theorem enterFaulted_over (s : State) : programHeats (enterFaulted s) = false :=
  over_of_state (.inr (.inl (congrArg Seq.state (raiseNotice_seq _ _))))

theorem programFault_over (c : FaultCode) (s : State) : programHeats (programFault c s) = false := by
  unfold programFault
  split
  · rfl
  · rfl
  all_goals try
    split
    · exact enterFaulted_over _
    · dsimp only
      split
      · rfl
      · exact enterFaulted_over _
  · next hs =>
    dsimp only
    split
    · exact over_of_state (.inr (.inr (.inl hs)))
    · exact enterFaulted_over _
  · next hs => exact over_of_state (.inr (.inl hs))

theorem alarm_over (h : alarm r = true) (s : State) : programHeats (takeReport r s) = false := by
  cases r with
  | fillRefused =>
    simp only [Machine.takeReport, fillRefusedToSeq]
    split
    · exact programFault_over _ _
    · next hp =>
      cases hs : s.seq.state <;> simp_all [programRuns, programHeats]
  | programFault c => exact programFault_over c s
  | _ => cases h

/-! ## Reports that find no water wanted -/

theorem Pauses.refl (s : State) : Pauses s s := ⟨rfl, rfl, rfl, rfl, rfl⟩

/-- Outside the sub-stages with water a report that neither ends nor moves the program leaves the sequencer where it stands, or ends an
abort drain. -/
theorem takeReport_pauses (hr : ∀ b, b ≠ .dry → runningIn s b = false) (hw : s.seq.state ≠ .waitWater) (ha : alarm r = false)
    (hm : moving r = false) : Pauses s (takeReport r s) ∨ programHeats (takeReport r s) = false := by
  have hheat : Pauses s (heatEnded s) := by
    unfold heatEnded
    split
    · rw [hr .heat (by simp)]; exact .refl s
    · exact .refl s
  cases r with
  | fillEnded k e m =>
    refine .inl ?_
    simp only [Machine.takeReport, fillEnded]
    split
    · rw [hr .fill (by simp)]; exact .refl s
    · exact .refl s
  | drainEnded =>
    simp only [Machine.takeReport, drainEnded, hr .drain (by simp)]
    rw [if_neg (by simp)]
    split
    · refine .inr ?_
      split
      · exact enterFaulted_over _
      · exact over_of_state (.inl (congrArg Seq.state (raiseNotice_seq _ _)))
    · exact .inl ⟨rfl, rfl, rfl, rfl, rfl⟩
  | targetReached => exact .inl hheat
  | heatLimitExpired => exact .inl hheat
  | heatDisabled => exact .inl hheat
  | sensorFailed =>
    have hx : runningIn (onSeq (fun q => { q with heaterOff := true }) s) .heat = false := hr .heat (by simp)
    refine .inl ?_
    simp only [Machine.takeReport, sensorFailedToSeq, hx]
    split <;> exact ⟨rfl, rfl, rfl, rfl, rfl⟩
  | doseEnded a =>
    have hx : runningIn (onSeq (fun q => { q with placed := q.placed.erase a }) s) .dose = false := hr .dose (by simp)
    refine .inl ?_
    simp only [Machine.takeReport, doseEnded, hx]
    split <;> exact ⟨rfl, rfl, rfl, rfl, rfl⟩
  | pressureLow =>
    refine .inl ?_
    simp only [Machine.takeReport, pressureLowToSeq, hr .dose (by simp), hr .heat (by simp), hr .circulate (by simp)]
    exact .refl s
  | doorOpened =>
    refine .inl ?_
    simp only [Machine.takeReport, doorOpenedToSeq]
    split
    · next hs =>
      split
      · exact .refl s
      · next hb => exact absurd ((runningIn_iff s s.seq.sub).mpr ⟨hs, rfl⟩) (by simp [hr _ hb])
    · exact absurd ‹_› hw
    all_goals exact ⟨rfl, rfl, rfl, rfl, rfl⟩
  | doorClosed =>
    refine .inl ?_
    simp only [Machine.takeReport, doorClosedToSeq]
    split <;> exact ⟨rfl, rfl, rfl, rfl, rfl⟩
  | engineLeft =>
    refine .inl ?_
    simp only [Machine.takeReport, engineLeft, hr .drain (by simp)]
    exact .refl s
  | dryingDone o => cases hm
  | linkLost => cases hm
  | fillRefused => cases ha
  | programFault c => cases ha

theorem takeReport_over (h : programHeats s = false) (r : Report) : programHeats (takeReport r s) = false := by
  have hw : s.seq.state ≠ .waitWater := by rcases over_iff.mp h with h | h | h | h <;> simp [h]
  cases ha : alarm r with
  | true => exact alarm_over ha s
  | false =>
    cases hm : moving r with
    | false =>
      rcases takeReport_pauses (fun b _ => runningIn_over h b) hw ha hm with k | k
      · rw [programHeats_congr k.state, h]
      · exact k
    | true =>
      cases r with
      | dryingDone o => simp only [Machine.takeReport, dryingDone, runningIn_over h]; exact h
      | linkLost =>
        have hx : ¬ (onSeq (fun q => { q with holdPending := false }) s).seq.state = .holding := fun hx => by
          rcases over_iff.mp h with h | h | h | h <;> exact SeqState.noConfusion (hx.symm.trans h)
        simp only [Machine.takeReport, linkLostToSeq, if_neg hx]
        exact h
      | _ => cases hm

/-! ## A phase is entered with the inlet inhibited -/

theorem raiseNotice_same (c : Content) (s : State) : Pauses s (raiseNotice c s) ∧ (raiseNotice c s).wpc = s.wpc := by
  rw [raiseNotice_rest]
  exact ⟨⟨rfl, rfl, rfl, rfl, rfl⟩, rfl⟩

theorem marked_reports (p : Phase) (s : State) : (marked p s).reports = s.reports := raiseNotice_reports _ _

theorem marked_wpc (p : Phase) (s : State) : (marked p s).wpc = s.wpc := (raiseNotice_same _ (onSeq (fun q => phaseMarks q) s)).2

theorem marked_seq (p : Phase) (s : State) : (marked p s).seq = phaseMarks s.seq := raiseNotice_seq _ _

theorem continueFill_refused (w : WashRecord) (he : s.wpc.fill = none) (hi : s.wpc.inhibit = true) :
    (continueFill w s).reports = s.reports ++ [.fillRefused] := by
  rw [continueFill, placeFill_refused _ _ he hi]
  rfl

theorem beginFill_refused (w : WashRecord) (he : s.wpc.fill = none) (hi : s.wpc.inhibit = true) :
    (beginFill w s).reports = s.reports ++ [.fillRefused] := by
  obtain ⟨k1, -, k3, -⟩ := closeFill_keeps (onSeq (fun q => { q with fillBegun := true }) s)
  have hw : ∀ u, (openFill u).wpc = (closeFill u).wpc := fun _ => rfl
  have hr : ∀ u, (openFill u).reports = (closeFill u).reports := fun _ => rfl
  rw [beginFill, placeFill_refused _ _ (by rw [hw, k1]; exact he) (by rw [hw, k1]; exact hi)]
  simp only [report, Laws.onReports_reports, Laws.onWpc_reports, hr, k3]
  rfl

/-- No water is wanted, or the refusal of the fill stands among the reports. -/
theorem enterPhase_checked (hb : Barred s.seq) (he : s.wpc.fill = none) (hi : s.wpc.inhibit = true) (hl : s.reports.length + 3 * (13 - s.seq.idx) < n)
    : Checked n (enterPhase s) := by
  cases hc : currentPhase s with
  | none =>
    rw [show enterPhase s = s by unfold enterPhase; rw [hc]]
    exact .barred hb (.inr (by omega))
  | some p =>
    have hx : s.seq.idx < 12 := by
      by_contra hx
      have : currentPhase s = none := by simp [currentPhase, phaseAt, hx]
      simp [this] at hc
    cases p with
    | dry d o =>
      have k := (Airs.refl (seqTo .running .dry (marked (.dry d o) s))).startDrying ⟨d, o⟩
      have hq : (enterPhase s).seq = { phaseMarks s.seq with state := .running, sub := .dry } := by
        rw [enterPhase_dry hc, k.seq, ← marked_seq (.dry d o)]
        rfl
      have hn : (enterPhase s).reports.length ≤ s.reports.length + 3 := by
        rw [enterPhase_dry hc]
        refine k.length.trans (le_of_eq ?_)
        rw [show (seqTo .running .dry (marked (.dry d o) s)).reports = s.reports from marked_reports _ s]
      refine .barred ?_ (.inr ?_)
      · rw [hq]; exact ⟨by simp, fun _ => rfl, by simp⟩
      · rw [hq]; simp only [phaseMarks]; omega
    | wash k w =>
      cases hd : s.ddu.doorOpen with
      | true =>
        have hr : (enterPhase s).reports = s.reports := by rw [enterPhase_suspended hc hd]; exact marked_reports _ s
        have hq : (enterPhase s).seq = { phaseMarks s.seq with state := .suspended, sub := .none, remembered := .sub .fill } := by
          rw [enterPhase_suspended hc hd, ← marked_seq (.wash k w)]
          rfl
        refine .barred ?_ (.inr ?_)
        · rw [hq]; exact ⟨by simp, by simp, fun _ => rfl⟩
        · rw [hq, hr]; simp only [phaseMarks]; omega
      | false =>
        have hr : (enterPhase s).reports = s.reports ++ [.fillRefused] := by
          rw [enterPhase_fill hc hd, beginFill_refused w (by rw [← he]; exact congrArg Wpc.fill (marked_wpc _ s))
            (by rw [← hi]; exact congrArg Wpc.inhibit (marked_wpc _ s))]
          exact congrArg (· ++ _) (marked_reports _ s)
        refine .alarmed ⟨.fillRefused, ?_, rfl⟩
        rw [hr, List.take_of_length_le (by simp; omega)]
        simp

theorem enterNext_checked (hb : Barred s.seq) (he : s.wpc.fill = none) (hi : s.wpc.inhibit = true) (hl : s.reports.length + 3 * (12 - s.seq.idx) < n) :
    Checked n (enterNext s) := by
  refine enterPhase_checked (s := onSeq (fun q => { q with idx := q.idx + 1 }) s) hb he hi ?_
  simp only [Laws.onSeq_reports, Laws.onSeq_seq]
  omega

theorem endPhase_checked (hb : Barred s.seq) (he : s.wpc.fill = none) (hi : s.wpc.inhibit = true) (hl : s.reports.length + 3 * (12 - s.seq.idx) < n) :
    Checked n (endPhase s) := by
  obtain ⟨h1, h2, h3⟩ : Pauses s (phaseEndRaised s) ∧ (phaseEndRaised s).wpc = s.wpc ∧ (phaseEndRaised s).seq = s.seq := by
    unfold phaseEndRaised
    split
    · exact ⟨(raiseNotice_same _ _).1, (raiseNotice_same _ _).2, raiseNotice_seq _ _⟩
    · exact ⟨.refl s, rfl, rfl⟩
  rw [endPhase_eq]
  split
  · exact .over (over_of_state (.inl (congrArg Seq.state (raiseNotice_seq _ _))))
  · split
    · have hs : (holdAtBoundary (phaseEndRaised s)).seq = { s.seq with state := .holding, sub := .none, holdPending := false } := by
        rw [← h3]; exact raiseNotice_seq _ _
      have hr : (holdAtBoundary (phaseEndRaised s)).reports = s.reports := (raiseNotice_reports _ _).trans h1.reports
      refine .barred ?_ (.inr ?_)
      · rw [hs]; exact ⟨by simp, by simp, by simp⟩
      · rw [hs, hr]; exact hl
    · exact enterNext_checked (by rw [h3]; exact hb) (by rw [h2]; exact he) (by rw [h2]; exact hi) (by rw [h3, h1.reports]; exact hl)

theorem linkLost_checked (hb : Barred s.seq) (he : s.wpc.fill = none) (hi : s.wpc.inhibit = true) (hl : s.reports.length + 3 * (12 - s.seq.idx) < n) :
    Checked n (linkLostToSeq s) := by
  unfold linkLostToSeq
  dsimp only
  split
  · exact enterNext_checked (s := onSeq (fun q => { q with holdPending := false }) s) hb he hi hl
  · exact .barred hb (.inr hl)

/-! ## The reports are taken -/

theorem Barred.not_filling {q : Seq} (h : Barred q) : ¬ Filling q := by
  rintro ⟨hr, hb⟩
  simp [h.2.1 hr] at hb

theorem Pauses.barred {s t : State} (k : Pauses s t) (h : Barred s.seq) : Barred t.seq := by
  unfold Barred
  rw [k.state, k.sub, k.remembered]
  exact h

/-- A report is taken, and one fewer is left to take. -/
theorem Checked.takeReport (h : Checked (n + 1) s) (hm : Mid base s) (hi : s.wpc.inhibit = true) (hr : s.reports = r :: l) :
    Checked n (takeReport r (onReports (fun _ => l) s)) := by
  rcases h with h | ⟨x, hx, ha⟩ | ⟨hb, hq⟩
  · exact .over (takeReport_over (s := onReports (fun _ => l) s) h r)
  · rw [hr, List.take_succ_cons] at hx
    rcases List.mem_cons.mp hx with rfl | hx
    · exact .over (alarm_over ha _)
    · exact .alarmed ⟨x, ((hm.takeReport hr).grown.take n).subset hx, ha⟩
  · have he : (onReports (fun _ => l) s).wpc.fill = none := hm.no_fill hb.not_filling
    cases ha : alarm r with
    | true => exact .over (alarm_over ha _)
    | false =>
      cases hv : moving r with
      | false =>
        rcases takeReport_pauses (s := onReports (fun _ => l) s) (fun b => runningIn_barred hb) hb.1 ha hv with k | k
        · refine .barred (k.barred hb) ?_
          rw [k.reports, k.idx]
          rw [hr] at hq
          refine hq.imp (fun hq x hx => hq x (List.mem_cons_of_mem _ hx)) fun hq => ?_
          rw [List.length_cons] at hq
          simp only [Laws.onReports_reports, Laws.onReports_seq]
          omega
        · exact .over k
      | true =>
        have hl : l.length + 3 * (12 - s.seq.idx) < n := by
          rcases hq with hq | hq
          · exact absurd hv (by simp [hq r (by simp [hr])])
          · rw [hr, List.length_cons] at hq
            omega
        cases r with
        | dryingDone o =>
          simp only [Machine.takeReport, dryingDone]
          split
          · exact endPhase_checked (s := onReports (fun _ => l) s) hb he hi hl
          · exact .barred hb (.inr hl)
        | linkLost => exact linkLost_checked (s := onReports (fun _ => l) s) hb he hi hl
        | _ => cases hv

theorem Checked.flows (h : Checked n s) (k : Flows s t) (hr : Barred s.seq → programHeats s = true → t.reports.length ≤ s.reports.length) :
    Checked n t := by
  obtain ⟨c1, c2, c3, c4⟩ := course_eq k.course
  cases hp : programHeats s with
  | false => exact .over ((programHeats_congr c1).trans hp)
  | true =>
    rcases h with h | ⟨x, hx, ha⟩ | ⟨hb, hq⟩
    · rw [h] at hp; cases hp
    · exact .alarmed ⟨x, (k.reports.take n).subset hx, ha⟩
    · refine .barred ?_ (hq.imp (fun hq x hx => ?_) fun hq => ?_)
      · unfold Barred
        rw [c1, c2, c4]
        exact hb
      · cases hv : moving x with
        | false => rfl
        | true => rw [← hv]; exact hq x (k.still x hx hv)
      · have := hr hb hp
        rw [c3]
        omega

/-- The water path settles, and with no fill to ask nothing is reported. -/
theorem Checked.waterSettle (h : Checked n s) (hm : Mid base s) : Checked n (waterSettle s) := by
  refine h.flows (Flows.refl hm.inlet).waterSettle fun hb _ => ?_
  have he := hm.no_fill hb.not_filling
  rcases waterSettle_reports (s := s) (by intro q hq; rw [he] at hq; cases hq) with k | ⟨k, -⟩
  · rw [k]
  · rw [runningIn_barred hb (by simp)] at k
    cases k

end Sys2Proof.Proofs
end

section
/-! PROOFS. What the settling water path comes to rest at: a fill that waits has its drain burst, no effluent is drained beside a
program's DRAIN, a waiting request of the engine lacks its conditions, an idle engine has no column to take (R38, R39, R49, R65, R90). -/

/- One theorem at a time, as the tests have it: proofs that wait for the kernel cost a thread each. -/
set_option Elab.async false

namespace Sys2Proof.Proofs

open Sys2Proof.Machine
open Sys2Proof.Safety

/-- The water path has settled. -/
structure Eased (s : State) : Prop where
  waits : ∀ q ∈ s.wpc.fill, q.held = true ∨ s.wpc.burst.isSome = true
  drains : s.rge.state = .effluentDrain → runningIn s .drain = false
  offered : ∀ g ∈ s.wpc.regen, g.held = true ∨ s.wpc.fill.isSome = true ∨ waterFlows s = false ∨ s.wpc.burst = some .waiting
    ∨ s.wpc.holder ≠ .none
  taken : handsOver s = true → s.rge.state = .idle → s.sfu.regenQ = [] ∨ s.sfu.valveFault = true

variable {base : List Report} {s t : State}

theorem grantDeferred_waits (s : State) :
    ∀ q ∈ (grantDeferred s).wpc.fill, q.held = true ∨ (grantDeferred s).wpc.burst.isSome = true := by
  unfold grantDeferred
  split
  · next n k hq =>
    split
    · next hb =>
      unfold offerFill
      split
      · exact fun _ hx => nomatch hx
      · split
        · next hs => simp [Option.isNone_iff_eq_none.mp hb] at hs
        · unfold grantFill
          dsimp only
          split
          · rw [endFill_empty]; exact fun _ hx => nomatch hx
          · exact fun q hx => .inl (by rw [← Option.some.inj hx])
    · next hb => exact fun _ _ => .inr (by simpa [Option.isSome_iff_ne_none] using hb)
  · next hn =>
    rintro ⟨n, k, b⟩ hq
    cases b
    · exact absurd hq (hn n k)
    · exact .inl rfl

/-- The engine that drains its effluent finishes with the sequencer's DRAIN, in which no fill stands (R90). -/
theorem effluentMeetsDrain_drains (hm : Mid base s) :
    ((effluentMeetsDrain s).rge.state = .effluentDrain → runningIn (effluentMeetsDrain s) .drain = false)
      ∧ ((∀ q ∈ s.wpc.fill, q.held = true ∨ s.wpc.burst.isSome = true) →
        ∀ q ∈ (effluentMeetsDrain s).wpc.fill, q.held = true ∨ (effluentMeetsDrain s).wpc.burst.isSome = true) := by
  unfold effluentMeetsDrain
  split
  · next hc =>
    simp only [Bool.and_eq_true, beq_iff_eq] at hc
    obtain ⟨hr, hb⟩ := (runningIn_iff s _).mp hc.2
    have he : s.wpc.fill = none := hm.no_fill (by rintro ⟨-, hx⟩; simp [hb] at hx)
    have hcol : (withdrawBurst s).rge.column.isSome = true := hm.inlet.column_isSome (by simp [hc.1])
    refine ⟨fun hx => ?_, fun _ q hq => ?_⟩
    · rw [finishRegen_rge hcol] at hx
      cases hx
    · rw [(finishRegen_keeps _).1] at hq
      rw [show (withdrawBurst s).wpc.fill = none from he] at hq
      cases hq
  · next hc =>
    refine ⟨fun hx => ?_, id⟩
    simpa [hx] using hc

/-- What a revocation, a refresh, a column taken and a grant leave: FILL request and drain burst, and an engine that does not come to
drain its effluent. -/
structure Yielded (s t : State) : Prop extends Wets s t where
  fill : t.wpc.fill = s.wpc.fill
  burst : t.wpc.burst = s.wpc.burst
  effluent : t.rge.state = .effluentDrain → s.rge.state = .effluentDrain

namespace Yielded

variable {u : State}

theorem trans (h : Yielded s t) (k : Yielded t u) : Yielded s u :=
  ⟨h.toWets.trans k.toWets, k.fill.trans h.fill, k.burst.trans h.burst, h.effluent ∘ k.effluent⟩

theorem refreshPump (s : State) : Yielded s (refreshPump s) := ⟨(Wets.refl s).refreshPump, rfl, rfl, id⟩

theorem revokeUnlessFlows (s : State) : Yielded s (revokeUnlessFlows s) := by
  suffices hx : (Machine.revokeUnlessFlows s).wpc.fill = s.wpc.fill ∧ (Machine.revokeUnlessFlows s).wpc.burst = s.wpc.burst
      ∧ ((Machine.revokeUnlessFlows s).rge.state = .effluentDrain → s.rge.state = .effluentDrain) by
    obtain ⟨h1, h2, h3⟩ := hx
    exact ⟨(Wets.refl s).revokeUnlessFlows, h1, h2, h3⟩
  unfold Machine.revokeUnlessFlows revokeRegen
  split
  · exact ⟨rfl, rfl, id⟩
  · split
    · exact ⟨rfl, rfl, fun hx => nomatch hx⟩
    · exact ⟨rfl, rfl, fun hx => nomatch hx⟩
    · exact ⟨rfl, rfl, id⟩
    · exact ⟨rfl, rfl, id⟩

theorem handOver (s : State) : Yielded s (handOver s) := by
  suffices hx : (Machine.handOver s).wpc.fill = s.wpc.fill ∧ (Machine.handOver s).wpc.burst = s.wpc.burst
      ∧ ((Machine.handOver s).rge.state = .effluentDrain → s.rge.state = .effluentDrain) by
    obtain ⟨h1, h2, h3⟩ := hx
    exact ⟨(Wets.refl s).handOver, h1, h2, h3⟩
  unfold Machine.handOver
  split
  · exact ⟨rfl, rfl, id⟩
  · split
    · simp only [takeColumn]
      split <;> exact ⟨rfl, rfl, fun hx => nomatch hx⟩
    · exact ⟨rfl, rfl, id⟩

theorem eased (h : Yielded s t) (hw : ∀ q ∈ s.wpc.fill, q.held = true ∨ s.wpc.burst.isSome = true)
    (hd : s.rge.state = .effluentDrain → runningIn s .drain = false) :
    (∀ q ∈ t.wpc.fill, q.held = true ∨ t.wpc.burst.isSome = true) ∧ (t.rge.state = .effluentDrain → runningIn t .drain = false) := by
  rw [h.fill, h.burst, h.runningIn]
  exact ⟨hw, fun he => hd (h.effluent he)⟩

end Yielded

/-- An idle engine has taken the head of the queue (R65, R80). -/
theorem handOver_taken (s : State) (hi : (handOver s).rge.state = .idle) (hh : handsOver s = true) :
    (handOver s).sfu.regenQ = [] ∨ (handOver s).sfu.valveFault = true := by
  unfold handOver at hi ⊢
  split at hi
  · next hq => exact .inl hq
  · next hq =>
    split at hi
    · simp only [takeColumn] at hi
      split at hi <;> cases hi
    · next hc =>
      rw [if_neg hc]
      refine .inr ?_
      simpa [hh, hi] using hc

theorem handOver_flows (s : State) : waterFlows (handOver s) = waterFlows s ∧ regenMayFlow (handOver s) = regenMayFlow s := by
  unfold handOver
  split
  · exact ⟨rfl, rfl⟩
  · split
    · simp only [takeColumn]
      split <;> exact ⟨rfl, rfl⟩
    · exact ⟨rfl, rfl⟩

/-- A grant leaves the softener, and the engine draws or rinses with its request held. -/
theorem grantRegen_grants (hg : regenGrantable s = true) (hr : ∃ g ∈ s.wpc.regen, g.held = false) :
    Yielded s (grantRegen s) ∧ (grantRegen s).rge.state ≠ .idle ∧ ∀ g ∈ (grantRegen s).wpc.regen, g.held = true := by
  have hw := (Wets.refl s).grantRegen
  obtain ⟨⟨k, b⟩, hk, rfl⟩ := hr
  cases k with
  | brine =>
    have he : ∃ u : State, (grantRegen s = u ∨ grantRegen s = markSaltLow u) ∧ u.wpc.regen = some ⟨.brine, true⟩ ∧ u.rge.state = .brineDraw
        ∧ u.wpc.fill = s.wpc.fill ∧ u.wpc.burst = s.wpc.burst := by
      unfold grantRegen
      rw [Option.mem_def.mp hk]
      simp only [hg, if_true]
      refine ⟨onRge (fun e => { e with state := .brineDraw })
        (beginGrant .brine (onWpc (fun w => { w with regen := some ⟨.brine, true⟩ }) s)), ?_, rfl, rfl, rfl, rfl⟩
      split
      · exact .inr rfl
      · exact .inl rfl
    obtain ⟨u, hu, h1, h2, h3, h4⟩ := he
    obtain ⟨k1, -, -, -, k5⟩ := Drifts.markSaltLow_keeps u
    have hs : (grantRegen s).wpc = u.wpc ∧ (grantRegen s).rge.state = u.rge.state := by
      rcases hu with hu | hu
      · rw [hu]; exact ⟨rfl, rfl⟩
      · rw [hu]; exact ⟨k1, k5⟩
    refine ⟨⟨hw, by rw [hs.1, h3], by rw [hs.1, h4], fun hx => ?_⟩, by rw [hs.2, h2]; simp, fun g hx => ?_⟩
    · rw [hs.2, h2] at hx; cases hx
    · rw [hs.1, h1] at hx; rw [← Option.some.inj hx]
  | rinse =>
    have he : grantRegen s = onRge (fun e => { e with state := .rinse })
        (beginGrant .rinse (onWpc (fun w => { w with regen := some ⟨.rinse, true⟩ }) s)) := by
      unfold grantRegen
      rw [Option.mem_def.mp hk]
      simp only [hg, if_true]
    refine ⟨⟨hw, by rw [he]; rfl, by rw [he]; rfl, fun hx => ?_⟩, by rw [he]; simp, fun g hx => ?_⟩
    · rw [he] at hx; cases hx
    · rw [he] at hx; rw [← Option.some.inj hx]

theorem grantRegen_alone (hr : ∀ g ∈ s.wpc.regen, g.held = true) : grantRegen s = s := by
  unfold grantRegen
  split
  · next h => exact absurd (hr _ h) (by simp)
  · next h => exact absurd (hr _ h) (by simp)
  · rfl

/-- The water path comes to rest. -/
theorem Mid.eased (hm : Mid base s) : Eased (waterSettle s) := by
  have hg := hm.flows (Flows.refl hm.inlet).grantDeferred
  have hg := hg.flows (Flows.refl hg.inlet).refreshPump
  obtain ⟨h1, h2⟩ := effluentMeetsDrain_drains hg
  have h2 := h2 (grantDeferred_waits s)
  obtain ⟨u, hu⟩ : ∃ u, u = refreshPump (revokeUnlessFlows (refreshPump (effluentMeetsDrain (refreshPump (grantDeferred s))))) := ⟨_, rfl⟩
  have ky := ((Yielded.refreshPump (effluentMeetsDrain (refreshPump (grantDeferred s)))).trans (Yielded.revokeUnlessFlows _)).trans
    (Yielded.refreshPump _) |>.trans (Yielded.handOver _)
  obtain ⟨f1, f2⟩ := handOver_flows u
  have hf : regenMayFlow (handOver u) = waterFlows (handOver u) := by rw [f1, f2, hu]; rfl
  rw [← hu] at ky
  have he : waterSettle s = grantRegen (handOver u) := by rw [hu]; rfl
  have ht : handsOver (handOver u) = true → (handOver u).rge.state = .idle →
      (handOver u).sfu.regenQ = [] ∨ (handOver u).sfu.valveFault = true := fun hh hi =>
    handOver_taken u hi (by rw [← hh, handsOver, handsOver, (Yielded.handOver u).part])
  rw [he]
  obtain ⟨hw, hd⟩ := ky.eased h2 h1
  by_cases hr : ∃ g ∈ (handOver u).wpc.regen, g.held = false
  · cases hb : regenGrantable (handOver u) with
    | true =>
      obtain ⟨kg, hi, hh⟩ := grantRegen_grants hb hr
      obtain ⟨hw, hd⟩ := kg.eased hw hd
      exact ⟨hw, hd, fun g hx => .inl (hh g hx), fun _ hx => absurd hx hi⟩
    | false =>
      rw [Drifts.grantRegen_of_not hb]
      refine ⟨hw, hd, fun g hx => .inr ?_, ht⟩
      simp only [regenGrantable, hf] at hb
      by_contra hn
      simp only [not_or, Option.not_isSome_iff_eq_none, ne_eq, Bool.not_eq_false, not_not] at hn
      obtain ⟨n1, n2, n3, n4⟩ := hn
      simp [n1, n2, n3, n4] at hb
  · have hr : ∀ g ∈ (handOver u).wpc.regen, g.held = true := fun g hx => by
      by_contra hn
      exact hr ⟨g, hx, by simpa using hn⟩
    rw [grantRegen_alone hr]
    exact ⟨hw, hd, fun g hx => .inl (hr g hx), ht⟩

end Sys2Proof.Proofs
end

section
/-! PROOFS. What a step ends with: no report stands, the water path rests, and the FILL request, the fill record and the engine agree
with the sequencer (R9, R16, R38, R39, R43, R53, R67, R90). -/

/- One theorem at a time, as the tests have it: proofs that wait for the kernel cost a thread each. -/
set_option Elab.async false

namespace Sys2Proof.Proofs

open Sys2Proof.Machine
open Sys2Proof.Safety

/-- A step has ended: nothing is reported, an inhibited inlet leaves no fill to ask, a fill waits only behind a burst, no effluent is
drained beside DRAIN, and in READY the engine has what it can have. -/
structure Done (s : State) : Prop where
  mid : Mid [] s
  silent : s.reports = []
  barred : s.wpc.inhibit = true → Barred s.seq
  waits : ∀ q ∈ s.wpc.fill, q.held = true ∨ s.wpc.burst.isSome = true
  drains : s.rge.state = .effluentDrain → runningIn s .drain = false
  eased : s.part.state = .ready → Eased s

variable {base : List Report} {s t : State} {n : Nat}

/-! ## The reports are gone -/

theorem Mid.drop_all (h : Mid base s) : Mid [] (onReports (fun _ => []) s) := by
  refine ⟨⟨h.inlet.congr rfl rfl rfl rfl rfl rfl rfl rfl rfl rfl, h.filled, ?_, fun hd => ?_, h.record, List.prefix_rfl⟩, h.ready⟩
  · have := h.one
    simp only [Laws.onReports_reports, List.countP_nil, Laws.onReports_wpc]
    omega
  · simp at hd

theorem Mid.from_none (h : Mid base s) : Mid [] s :=
  ⟨⟨h.inlet, h.filled, h.one, h.due, h.record, List.nil_prefix⟩, h.ready⟩

theorem barred_of_over (h : programHeats s = false) : Barred s.seq := by
  rcases over_iff.mp h with h | h | h | h <;> exact ⟨by simp [h], by simp [h], by simp [h]⟩

theorem Checked.barred_of_none (h : Checked n s) (hr : s.reports.take n = []) : Barred s.seq := by
  rcases h with h | ⟨x, hx, -⟩ | ⟨hb, -⟩
  · exact barred_of_over h
  · rw [hr] at hx; cases hx
  · exact hb

theorem inhibit_of_standing (h : standing t = standing s) : t.wpc.inhibit = s.wpc.inhibit := congrArg Standing.inhibit h

/-- The reports are taken to the last, the water path at rest after each. -/
theorem done_takeReports (h : Mid base s) (hc : s.wpc.inhibit = true → Checked n s) (he : Eased s) :
    Mid [] (takeReports n s) ∧ Eased (takeReports n s) ∧ ((takeReports n s).wpc.inhibit = true → Barred (takeReports n s).seq) := by
  induction n generalizing base s with
  | zero => exact ⟨h.drop_all, ⟨he.waits, he.drains, he.offered, he.taken⟩, fun hi => (hc hi).barred_of_none (by simp)⟩
  | succ n ih =>
    unfold takeReports
    split
    · next hr => exact ⟨h.from_none, he, fun hi => (hc hi).barred_of_none (by simp [hr])⟩
    · next r l hr =>
      have hm := h.takeReport hr
      refine ih (hm.flows (Flows.refl hm.inlet).waterSettle) (fun hi => ?_) hm.eased
      have hx : s.wpc.inhibit = true := by
        rw [← hi]
        exact (inhibit_of_standing (by simp)).symm
      exact ((hc hx).takeReport h hx hr).waterSettle hm

/-! ## The ends of STARTING and of a shutdown -/

/-- Part state, link, store, valve, leak drain and flood apart. -/
theorem Astir.congr (h : Astir base s) (hw : t.wpc = { s.wpc with
      leak := t.wpc.leak, flood := t.wpc.flood, floodReq := t.wpc.floodReq, inhibit := t.wpc.inhibit })
    (he : t.rge = s.rge) (hq : t.seq = s.seq) (hf : t.sfu.fill = s.sfu.fill) (hr : t.reports = s.reports) : Astir base t := by
  refine ⟨?_, ?_, ?_, ?_, ?_, hr ▸ h.grown⟩
  · exact h.inlet.congr (by rw [hw]) (by rw [hw]) (by rw [hw]) (by rw [hw]) (by rw [hw]) (by rw [hw]) (by rw [hw]) (by rw [he])
      (by rw [he]) (by rw [he])
  · rw [hw, hq]; exact h.filled
  · rw [hw, hr]; exact h.one
  · rw [hr, hq]; exact h.due
  · rw [hf, hq]; exact h.record

theorem Mid.congr (h : Mid base s) (hw : t.wpc = { s.wpc with
      leak := t.wpc.leak, flood := t.wpc.flood, floodReq := t.wpc.floodReq, inhibit := t.wpc.inhibit })
    (he : t.rge = s.rge) (hq : t.seq = s.seq) (hf : t.sfu.fill = s.sfu.fill) (hr : t.reports = s.reports)
    (hp : programHeats s = true → t.part.state = .ready) : Mid base t :=
  ⟨h.toAstir.congr hw he hq hf hr, by rw [programHeats_congr (congrArg Seq.state hq)]; exact hp⟩

/-- The same, at the end of a step; in READY the valve's place and the leak drain stand too. -/
theorem Done.congr (h : Done s) (hw : t.wpc = { s.wpc with leak := t.wpc.leak }) (he : t.rge = s.rge) (hq : t.seq = s.seq)
    (hf : t.sfu.fill = s.sfu.fill) (hr : t.reports = s.reports) (hp : programHeats s = true → t.part.state = .ready)
    (hx : t.part.state = .ready → Eased t) : Done t := by
  have hrun : ∀ b, runningIn t b = runningIn s b := fun b => by simp only [runningIn, hq]
  refine ⟨h.mid.congr (by rw [hw]) he hq hf hr hp, hr.trans h.silent, ?_, ?_, ?_, hx⟩
  · rw [hw, hq]; exact h.barred
  · rw [hw]; exact h.waits
  · rw [he, hrun]; exact h.drains

theorem reachReady_rest (s : State) : reachReady s = { s with part := (reachReady s).part, lnk := (reachReady s).lnk } := by
  unfold reachReady
  split
  · dsimp only
    rw [raiseNotice_rest]
    rfl
  · rfl

theorem Eased.congr (h : Eased s) (hw : t.wpc = s.wpc) (he : t.rge = s.rge) (hq : t.seq = s.seq) (hf : t.sfu = s.sfu)
    (hh : handsOver t = true → handsOver s = true) : Eased t := by
  have hrun : ∀ b, runningIn t b = runningIn s b := fun b => by simp only [runningIn, hq]
  have hfl : waterFlows t = waterFlows s := by simp only [waterFlows, permitCondition, hq, hw]
  refine ⟨?_, ?_, ?_, ?_⟩
  · rw [hw]; exact h.waits
  · rw [he, hrun]; exact h.drains
  · rw [hw, hfl]; exact h.offered
  · rw [he, hf]; exact fun hx => h.taken (hh hx)

theorem done_reachReady (h : Mid [] s) (hr : s.reports = []) (hb : s.wpc.inhibit = true → Barred s.seq) (he : Eased s) :
    Done (reachReady s) := by
  have hd : Done s := ⟨h, hr, hb, he.waits, he.drains, fun _ => he⟩
  have hx := reachReady_rest s
  have hs : s.part.state = .ready → (reachReady s).part.state = .ready := fun hs => by simp [reachReady, hs]
  refine hd.congr (by rw [hx]) (by rw [hx]) (by rw [hx]) (by rw [hx]) (by rw [hx]) (fun hp => hs (h.ready hp)) fun ht => ?_
  refine he.congr (by rw [hx]) (by rw [hx]) (by rw [hx]) (by rw [hx]) fun _ => ?_
  by_cases hst : s.part.state = .starting
  · simp [handsOver, hst]
  · have : reachReady s = s := by simp [reachReady, hst]
    rw [this] at ht
    simp [handsOver, ht]

theorem enterShut_keeps (s : State) : (enterShut s).wpc = { s.wpc with leak := none } ∧ (enterShut s).rge = s.rge
    ∧ (enterShut s).seq = s.seq ∧ (enterShut s).sfu.fill = s.sfu.fill ∧ (enterShut s).reports = s.reports
    ∧ (enterShut s).part.state = .shut := by
  unfold enterShut
  dsimp only
  rw [raiseNotice_rest, (stopCirculation_rest s).1]
  exact ⟨rfl, rfl, rfl, rfl, rfl, rfl⟩

theorem Done.advanceShutdown (h : Done s) : Done (advanceShutdown s) := by
  by_cases hs : s.part.state = .shuttingDown
  · have hp : programHeats s ≠ true := fun hp => by
      have := h.mid.ready hp
      rw [hs] at this
      cases this
    have hw : ∀ u, Done u → u.part.state = .shuttingDown → programHeats u ≠ true → Done (enterShut u) := fun u hu _ hp => by
      obtain ⟨h1, h2, h3, h4, h5, h6⟩ := enterShut_keeps u
      exact hu.congr (by rw [h1]) h2 h3 h4 h5 (fun hx => absurd hx hp) fun hx => by rw [h6] at hx; cases hx
    have ha : ∀ u, u = (if !s.part.writesAsked && shutdownWorkDone s then
        askAllWrites (onPart (fun p => { p with writesAsked := true }) s) else s) →
        Done u ∧ u.part.state = .shuttingDown ∧ programHeats u ≠ true := by
      rintro u rfl
      split
      · refine ⟨h.congr rfl rfl rfl rfl rfl (fun hx => absurd hx hp) fun hx => ?_, hs, hp⟩
        exact absurd (hs.symm.trans hx) (by simp)
      · exact ⟨h, hs, hp⟩
    unfold Machine.advanceShutdown
    rw [if_pos (by simp [hs])]
    obtain ⟨h1, h2, h3⟩ := ha _ rfl
    exact iteInduction (motive := Done) (fun _ => hw _ h1 h2 h3) fun _ => h1
  · have : Machine.advanceShutdown s = s := by simp [Machine.advanceShutdown, hs]
    rw [this]
    exact h

/-! ## The outputs -/

theorem Eased.refreshPump (h : Eased s) : Eased (refreshPump s) := ⟨h.waits, h.drains, h.offered, h.taken⟩

theorem eased_revoked (h : Eased s) (hf : regenMayFlow s = waterFlows s) : Eased (revokeUnlessFlows s) := by
  have ky := Yielded.revokeUnlessFlows s
  obtain ⟨hw, hd⟩ := ky.eased h.waits h.drains
  refine ⟨hw, hd, ?_, ?_⟩
  all_goals unfold revokeUnlessFlows revokeRegen
  all_goals
    split
  · exact h.offered
  · next hm =>
    have hm : waterFlows s = false := by rw [← hf]; simpa using hm
    split
    · exact fun _ _ => .inr (.inr (.inl hm))
    · exact fun _ _ => .inr (.inr (.inl hm))
    · exact h.offered
    · exact h.offered
  · exact h.taken
  · split
    · exact fun _ hx => nomatch hx
    · exact fun _ hx => nomatch hx
    · exact h.taken
    · exact h.taken

theorem Done.rested (h : Done s) : Done (rested s) := by
  have k := (Flows.refl h.mid.inlet).refreshPump.revokeUnlessFlows
  have ky := (Yielded.refreshPump s).trans (Yielded.revokeUnlessFlows _)
  obtain ⟨hw, hd⟩ := ky.eased h.waits h.drains
  obtain ⟨c1, c2, -, c4⟩ := course_eq k.course
  have hr : Done (revokeUnlessFlows (refreshPump s)) := by
    refine ⟨h.mid.flows k, ?_, fun hi => ?_, hw, hd, fun hs => ?_⟩
    · rw [revokeUnlessFlows_reports]; exact h.silent
    · rw [Barred, c1, c2, c4]
      exact h.barred (k.inhibit.symm.trans hi)
    · exact eased_revoked (h.eased (k.part.symm.trans hs)).refreshPump rfl
  have hp : programHeats (revokeUnlessFlows (refreshPump s)) = true → (Proofs.rested s).part.state = .ready := hr.mid.ready
  exact hr.congr rfl rfl rfl rfl rfl hp fun hs => (hr.eased hs).congr rfl rfl rfl rfl id

/-- What follows a command ends with the water path at rest. -/
theorem done_settle (h : Mid base s) (hc : s.wpc.inhibit = true → Checked 64 s) : Done (settle s) := by
  have hw := h.flows (Flows.refl h.inlet).waterSettle
  have hi : (waterSettle s).wpc.inhibit = s.wpc.inhibit := inhibit_of_standing (by simp)
  obtain ⟨h1, h2, h3⟩ := done_takeReports (n := 64) hw (fun hx => (hc (hi.symm.trans hx)).waterSettle h) h.eased
  exact (done_reachReady h1 (takeReports_reports _ _) h3 h2).advanceShutdown.rested

end Sys2Proof.Proofs
end

section
/-! PROOFS. What every step of a sound part keeps of the water path, and how a step comes to its end: it settles what is ripe for it,
or leaves alone what the water path depends on. -/

/- One theorem at a time, as the tests have it: proofs that wait for the kernel cost a thread each. -/
set_option Elab.async false

namespace Sys2Proof.Proofs

open Sys2Proof.Machine
open Sys2Proof.Safety

/-- What holds of the water path between steps. -/
structure Sure (s : State) : Prop where
  mid : Mid [] s
  silent : s.reports = []
  barred : s.wpc.inhibit = true → Barred s.seq
  waits : ∀ q ∈ s.wpc.fill, q.held = true ∨ s.wpc.burst.isSome = true
  drains : s.rge.state = .effluentDrain → runningIn s .drain = false
  flows : s.wpc.holder = .brine ∨ s.wpc.holder = .rinse → regenMayFlow s = true

/-- In READY the water path is at rest. -/
def Rest (s : State) : Prop := s.part.state = .ready → WaterRests s

variable {base : List Report} {o s t u : State} {n : Nat}

/-! ## What a sound part has -/

theorem filling_iff : Filling s.seq ↔ runningIn s .fill = true ∨ runningIn s .dose = true ∨ runningIn s .heat = true
    ∨ runningIn s .circulate = true := by
  simp only [Filling, runningIn_iff]
  tauto

theorem recording_iff : Recording s.seq ↔ runningIn s .fill = true ∨ s.seq.state = .waitWater
    ∨ (s.seq.state = .suspended ∧ (s.seq.remembered = .sub .fill ∨ s.seq.remembered = .waitWater)) := by
  simp only [Recording, runningIn_iff]

theorem sure_of_sound (h : Sound s) : Sure s := by
  obtain ⟨hg, ⟨w1, w2, w3, w4, w5, w6⟩, -, -, -, hd⟩ := h
  obtain ⟨-, -, -, -, -, -, -, -, -, -, -, hready, -, -, hsilent⟩ := hd
  have hz : s.reports.countP spent = 0 := by simp [hsilent]
  refine ⟨⟨⟨⟨hg, fun q hq => (w2 q hq).2.2⟩, fun q hq => ?_, ?_, ?_, fun ho => recording_iff.mpr (w6 ho), List.nil_prefix⟩, hready⟩,
    hsilent, w5, fun q hq => ?_, w4, w3⟩
  · exact ⟨filling_iff.mpr (w1 (by rw [Option.mem_def.mp hq]; rfl)), (w2 q hq).1⟩
  · rw [hz, Nat.zero_add]; exact mains_le_one _
  · rw [hz]; exact fun hx => absurd hx (by simp)
  · cases hh : q.held
    · exact .inr ((w2 q hq).2.1 hh)
    · exact .inl rfl

theorem Sure.grants (h : Sure s) : GrantsAgree s := h.mid.inlet.grants

theorem Sure.water (h : Sure s) : WaterKept s := by
  refine ⟨fun hf => ?_, fun q hq => ⟨(h.mid.filled q hq).2, fun hn => ?_, h.mid.inlet.apart q hq⟩, h.flows, h.drains, h.barred,
    fun ho => recording_iff.mp (h.mid.record ho)⟩
  · obtain ⟨q, hq⟩ := Option.isSome_iff_exists.mp hf
    exact filling_iff.mp (h.mid.filled q hq).1
  · exact (h.waits q hq).resolve_left (by simp [hn])

/-! ## The end of a step -/

theorem Inlet.regen_alone (h : Inlet s) (hw : ∀ q ∈ s.wpc.fill, q.held = true ∨ s.wpc.burst.isSome = true) :
    ∀ g ∈ s.wpc.regen, g.held = true → s.wpc.fill = none ∧ s.wpc.burst = none := by
  intro g hg hh
  have hb : s.wpc.burst = none := h.no_burst fun he => by
    have := h.no_regen (by simp [engineRequest, he])
    rw [this] at hg
    cases hg
  refine ⟨?_, hb⟩
  cases hf : s.wpc.fill with
  | none => rfl
  | some q =>
    rcases hw q hf with hx | hx
    · exact absurd (h.apart q hf hx g hg) (by simp [hh])
    · simp [hb] at hx

theorem Done.sure (h : Done s) (hs : Settled s) : Sure s := ⟨h.mid, h.silent, h.barred, h.waits, h.drains, hs.flows⟩

/-- A settled water path rests in READY. -/
theorem Done.rest (h : Done s) (hs : Settled s) : Rest s := fun hr => by
  have he := h.eased hr
  refine ⟨h.waits, fun hf => ?_, fun hh => ?_, he.offered, he.taken (by simp [handsOver, hr]), h.drains, fun hi => ?_,
    h.mid.inlet.holder, h.mid.inlet.regen_alone h.waits⟩
  · obtain ⟨q, hq⟩ := Option.isSome_iff_exists.mp hf
    obtain ⟨⟨h1, h2⟩, -⟩ := h.mid.filled q hq
    exact ⟨h1, by rcases h2 with h2 | h2 | h2 | h2 <;> simp [h2]⟩
  · rw [← regenMayFlow_of_settled hs]; exact hs.flows hh
  · exact h.mid.inlet.no_regen (by simp [engineRequest, hi])

/-- What a command has led to, ready to be settled: what is to be reported keeps the sequencer in agreement, and an inhibited inlet
leaves in the end no fill to ask. -/
structure Ripe (s : State) : Prop where
  mid : Mid [] s
  checked : s.wpc.inhibit = true → Checked 64 s

theorem Ripe.sure (h : Ripe s) : Sure (settle s) := (done_settle h.mid h.checked).sure (settled_settle s)

theorem Ripe.rest (h : Ripe s) : Rest (settle s) := (done_settle h.mid h.checked).rest (settled_settle s)

/-! ## What is ripe to be settled -/

theorem Sure.ripe_flows (h : Sure s) (k : Flows s t) : Ripe t := by
  refine ⟨h.mid.flows k, fun hi => .barred ?_ (.inl fun r hr => ?_)⟩
  · obtain ⟨c1, c2, -, c4⟩ := course_eq k.course
    rw [Barred, c1, c2, c4]
    exact h.barred (k.inhibit.symm.trans hi)
  · cases hm : moving r with
    | false => rfl
    | true =>
      have := k.still r hr hm
      rw [h.silent] at this
      cases this

theorem Sure.ripe (h : Sure s) : Ripe s := h.ripe_flows (.refl h.mid.inlet)

theorem Sure.ripe_airs (h : Sure s) (k : Airs n s t) (hn : n ≤ 20 := by omega) : Ripe t := by
  refine ⟨h.mid.airs k, fun hi => .barred ?_ (.inr ?_)⟩
  · rw [k.seq]; exact h.barred (by rw [← k.wpc]; exact hi)
  · have := k.length
    rw [h.silent, List.length_nil] at this
    omega

theorem ripe_over (h : Mid base s) (ho : programHeats s = false) : Ripe s := ⟨h.from_none, fun _ => .over ho⟩

/-- In a sub-stage with water the inlet is not inhibited. -/
theorem Sure.free (h : Sure s) {b : SubStage} (hr : runningIn s b = true) (hb : b ≠ .dry) : s.wpc.inhibit = false := by
  by_contra hi
  rw [runningIn_barred (h.barred (by simpa using hi)) hb] at hr
  cases hr

theorem ripe_free (h : Mid base s) (hi : s.wpc.inhibit = false) : Ripe s := ⟨h.from_none, fun hx => by rw [hi] at hx; cases hx⟩

/-! ## What the water path depends on -/

/-- From `s` to `t` nothing has changed that the water path depends on, but for the values of timers and a part that leaves READY with
no program to go on. -/
structure Idles (s t : State) : Prop where
  wpc : t.wpc = { s.wpc with
    fillTimer := t.wpc.fillTimer, seqDrain := t.wpc.seqDrain, burst := t.wpc.burst, leak := t.wpc.leak, floodReq := t.wpc.floodReq }
  timer : t.wpc.fillTimer.isSome = s.wpc.fillTimer.isSome
  burst : t.wpc.burst.isSome = s.wpc.burst.isSome
  waiting : t.wpc.burst = some .waiting ↔ s.wpc.burst = some .waiting
  pump : pumpAsked t.wpc = pumpAsked s.wpc
  engine : t.rge.state = s.rge.state
  column : t.rge.column.isSome = s.rge.column.isSome
  lid : t.rge.lidOpen = s.rge.lidOpen
  state : t.seq.state = s.seq.state
  sub : t.seq.sub = s.seq.sub
  remembered : t.seq.remembered = s.seq.remembered
  permit : t.seq.permit = s.seq.permit
  record : t.sfu.fill.isOpen = s.sfu.fill.isOpen
  queue : t.sfu.regenQ = s.sfu.regenQ
  fault : t.sfu.valveFault = s.sfu.valveFault
  reports : t.reports = s.reports
  ready : t.part.state = .ready → s.part.state = .ready
  heats : programHeats s = true → s.part.state = .ready → t.part.state = .ready

namespace Idles

theorem refl (s : State) : Idles s s :=
  ⟨rfl, rfl, rfl, .rfl, rfl, rfl, rfl, rfl, rfl, rfl, rfl, rfl, rfl, rfl, rfl, rfl, id, fun _ => id⟩

theorem runningIn (k : Idles s t) (b : SubStage) : runningIn t b = runningIn s b := by simp only [Machine.runningIn, k.state, k.sub]

theorem trans (h : Idles s t) (k : Idles t u) : Idles s u where
  wpc := by rw [k.wpc, h.wpc]
  timer := k.timer.trans h.timer
  burst := k.burst.trans h.burst
  waiting := k.waiting.trans h.waiting
  pump := k.pump.trans h.pump
  engine := k.engine.trans h.engine
  column := k.column.trans h.column
  lid := k.lid.trans h.lid
  state := k.state.trans h.state
  sub := k.sub.trans h.sub
  remembered := k.remembered.trans h.remembered
  permit := k.permit.trans h.permit
  record := k.record.trans h.record
  queue := k.queue.trans h.queue
  fault := k.fault.trans h.fault
  reports := k.reports.trans h.reports
  ready := h.ready ∘ k.ready
  heats hp hr := k.heats ((programHeats_congr h.state).trans hp) (h.heats hp hr)

theorem inlet (k : Idles s t) (h : Inlet s) : Inlet t :=
  h.congr (by rw [k.wpc]) (by rw [k.wpc]) (by rw [k.wpc]) (by rw [k.wpc]) (by rw [k.wpc]) k.timer k.burst k.engine k.column k.lid

theorem mid (k : Idles s t) (h : Mid base s) : Mid base t := by
  have hf : t.wpc.fill = s.wpc.fill := by rw [k.wpc]
  refine ⟨⟨k.inlet h.inlet, ?_, ?_, ?_, ?_, k.reports ▸ h.grown⟩, fun hp => ?_⟩
  · rw [hf, Filling, k.state, k.sub]; exact h.filled
  · rw [k.reports, mains, hf]; exact h.one
  · rw [k.reports, k.state, k.sub]; exact h.due
  · rw [k.record, Recording, k.state, k.sub, k.remembered]; exact h.record
  · have hp := (programHeats_congr k.state).symm.trans hp
    exact k.heats hp (h.ready hp)

theorem waterFlows (k : Idles s t) : waterFlows t = waterFlows s := by
  have hp := k.pump
  have hw := k.wpc
  simp only [Safety.waterFlows, permitCondition, k.state, k.sub, hp]
  rw [hw]

theorem sure (k : Idles s t) (h : Sure s) : Sure t := by
  refine ⟨k.mid h.mid, k.reports.trans h.silent, ?_, ?_, ?_, ?_⟩
  · rw [k.wpc, Barred, k.state, k.sub, k.remembered]; exact h.barred
  · rw [k.burst, k.wpc]; exact h.waits
  · rw [k.engine, k.runningIn]; exact h.drains
  · rw [regenMayFlow, k.permit, k.wpc]; exact h.flows

theorem rest (k : Idles s t) (h : Rest s) : Rest t := fun hr => by
  obtain ⟨r1, r2, r3, r4, r5, r6, r7, r8, r9⟩ := h (k.ready hr)
  have hf : t.wpc.fill = s.wpc.fill := by rw [k.wpc]
  have hg : t.wpc.regen = s.wpc.regen := by rw [k.wpc]
  have hh : t.wpc.holder = s.wpc.holder := by rw [k.wpc]
  have hb : t.wpc.burst = none ↔ s.wpc.burst = none := by
    rw [← Option.not_isSome_iff_eq_none, ← Option.not_isSome_iff_eq_none, k.burst]
  refine ⟨?_, ?_, ?_, ?_, ?_, ?_, ?_, ?_, ?_⟩
  · rw [hf, k.burst]; exact r1
  · rw [hf, k.state, k.sub]; exact r2
  · rw [hh, k.waterFlows]; exact r3
  · rw [hg, hf, k.waterFlows, k.waiting, hh]; exact r4
  · rw [k.engine, k.queue, k.fault]; exact r5
  · rw [k.engine, k.runningIn]; exact r6
  · rw [k.engine, hg]; exact r7
  · rw [hh, r8, holderOf, holderOf, hf, hg]
  · rw [hg, hf, hb]; exact r9

theorem of_airs (k : Airs n s t) (hr : t.reports = s.reports) : Idles s t := by
  obtain ⟨hx, hp⟩ : t = _ ∧ _ := ⟨k.rest, k.part⟩
  exact ⟨by rw [k.wpc], by rw [k.wpc], by rw [k.wpc], by rw [k.wpc], by rw [k.wpc], by rw [k.rge], by rw [k.rge], by rw [k.rge],
    by rw [k.seq], by rw [k.seq], by rw [k.seq], by rw [k.seq], by rw [k.sfu], by rw [k.sfu], by rw [k.sfu], hr,
    fun h => hp.symm.trans h, fun _ h => hp.trans h⟩

/-! ## Operations -/

theorem onLnk (h : Idles s t) (f : Lnk → Lnk) : Idles s (onLnk f t) := h.trans { refl t with }
theorem onRst (h : Idles s t) (f : Rst → Rst) : Idles s (onRst f t) := h.trans { refl t with }
theorem onPins (h : Idles s t) (f : Pins → Pins) : Idles s (onPins f t) := h.trans { refl t with }
theorem onCfg (h : Idles s t) (f : ConfigRec → ConfigRec) : Idles s (onCfg f t) := h.trans { refl t with }
theorem onDsu (h : Idles s t) (f : Dsu → Dsu) : Idles s (onDsu f t) := h.trans { refl t with }
theorem onHtc (h : Idles s t) (f : Htc → Htc) : Idles s (onHtc f t) := h.trans { refl t with }
theorem onCzs (h : Idles s t) (f : Czs → Czs) : Idles s (onCzs f t) := h.trans { refl t with }
theorem onTies (h : Idles s t) (f : Ties → Ties) : Idles s (onTies f t) := h.trans { refl t with }

end Idles

end Sys2Proof.Proofs
end

section
/-! PROOFS. The receiver, and the operations that leave alone what the water path depends on (R176 to R182). -/

/- One theorem at a time, as the tests have it: proofs that wait for the kernel cost a thread each. -/
set_option Elab.async false

namespace Sys2Proof.Proofs

open Sys2Proof.Machine
open Sys2Proof.Safety

namespace Idles

variable {s t a b : State}

theorem ite {c : Prop} [Decidable c] (ha : c → Idles s a) (hb : ¬ c → Idles s b) : Idles s (if c then a else b) := by
  split
  · exact ha ‹_›
  · exact hb ‹_›

theorem onSeq (h : Idles s t) (f : Seq → Seq) (h1 : (f t.seq).state = t.seq.state := by rfl)
    (h2 : (f t.seq).sub = t.seq.sub := by rfl) (h3 : (f t.seq).remembered = t.seq.remembered := by rfl)
    (h4 : (f t.seq).permit = t.seq.permit := by rfl) : Idles s (onSeq f t) :=
  h.trans { refl t with state := h1, sub := h2, remembered := h3, permit := h4, heats := fun _ hr => hr }

theorem onPart (h : Idles s t) (f : Part → Part) (hf : (f t.part).state = t.part.state := by rfl) : Idles s (onPart f t) :=
  h.trans { refl t with ready := fun hx => hf.symm.trans hx, heats := fun _ hx => hf.trans hx }

theorem onSfu (h : Idles s t) (f : Sfu → Sfu) (h1 : (f t.sfu).fill.isOpen = t.sfu.fill.isOpen := by rfl)
    (h2 : (f t.sfu).regenQ = t.sfu.regenQ := by rfl) (h3 : (f t.sfu).valveFault = t.sfu.valveFault := by rfl) : Idles s (onSfu f t) :=
  h.trans { refl t with record := h1, queue := h2, fault := h3 }

theorem onRge (h : Idles s t) (f : Rge → Rge) (h1 : (f t.rge).state = t.rge.state := by rfl)
    (h2 : (f t.rge).column = t.rge.column := by rfl) (h3 : (f t.rge).lidOpen = t.rge.lidOpen := by rfl) : Idles s (onRge f t) :=
  h.trans { refl t with engine := h1, column := congrArg Option.isSome h2, lid := h3 }

theorem raiseNotice (h : Idles s t) (c : Content) : Idles s (raiseNotice c t) := .ite (fun _ => h.onLnk _) fun _ => h

theorem askWrite (h : Idles s t) (i : RecordId) : Idles s (askWrite i t) := h.onRst _

theorem askAllWrites (h : Idles s t) : Idles s (askAllWrites t) := (((h.askWrite _).askWrite _).askWrite _).askWrite _

theorem finish (h : Idles s t) : Idles s (finish t) := by
  have hw : Idles s (beginWrite t) := by
    unfold beginWrite
    split
    · exact h.onRst _
    · exact h
  simp only [Machine.finish, beginTransmit]
  split
  · exact hw
  · split
    · exact hw.onLnk _
    · exact hw.onLnk _
    · split
      · exact hw
      · exact .ite (fun _ => hw.onLnk _) fun _ => hw

theorem restartSilence (h : Idles s t) : Idles s (restartSilence t) := h.onLnk _

theorem lowTest (h : Idles s t) (ch : Channel) : Idles s (lowTest ch t) := by
  simp only [Machine.lowTest]
  exact .ite (fun _ => .ite (fun _ => h) fun _ => (h.onDsu _).raiseNotice _) fun _ => h.onDsu _

theorem setLevel (h : Idles s t) (ch : Channel) (n : Nat) : Idles s (setLevel ch n t) := .ite (fun _ => h) fun _ => (h.onDsu _).lowTest _

theorem lowSwitchChanged (h : Idles s t) (ch : Channel) (b : Bool) : Idles s (lowSwitchChanged ch b t) := by
  have hd := h.onDsu fun d => { d with lowSw := perChannelSet d.lowSw ch b }
  exact .ite (fun _ => h) fun _ => .ite (fun _ => .ite (fun _ => hd.setLevel _ _) fun _ => hd) fun _ => hd

theorem capSwitchChanged (h : Idles s t) (ch : Channel) (b : Bool) : Idles s (capSwitchChanged ch b t) := by
  have hd := h.onDsu fun d => { d with capSw := perChannelSet d.capSw ch b }
  simp only [Machine.capSwitchChanged]
  exact .ite (fun _ => h) fun _ => .ite (fun _ => .ite (fun _ => hd.onDsu _) fun _ =>
    (Idles.ite (fun _ => (hd.onDsu _).askWrite _) fun _ => hd).onDsu _) fun _ => hd

theorem joinQueue (h : Idles s t) (ch : Channel) (o : Origin) (v n : Nat) : Idles s (joinQueue ch o v n t) := by
  simp only [Machine.joinQueue]
  exact .ite (fun _ => h.onDsu _) fun _ => h.onDsu _

theorem saltLowChanged (h : Idles s t) (b : Bool) : Idles s (saltLowChanged b t) := by
  have hr := h.onRge fun e => { e with saltLow := b }
  refine .ite (fun _ => ?_) fun _ => hr
  unfold Machine.markSaltLow
  split
  · exact .ite (fun _ => hr) fun _ => (hr.onRge _).raiseNotice _
  · exact hr

theorem enableLink (h : Idles s t) : Idles s (enableLink t) :=
  ((Idles.ite (fun _ => h.raiseNotice _) fun _ => h).onLnk _).restartSilence

theorem resetLink (h : Idles s t) : Idles s (resetLink t) := (h.onLnk _).restartSilence

theorem frameEnds (h : Idles s t) : Idles s (frameEnds t) := (h.onLnk _).onTies _

/-- STANDBY is entered with no program to go on (R196). -/
theorem enterStandby (h : Idles s t) (ho : programHeats t = false) : Idles s (enterStandby t) :=
  h.trans { refl t with ready := fun hx => (nomatch hx), heats := fun hp => absurd hp (by simp [ho]) }

theorem tickBurst_waiting (b : Option Burst) : b.map tickBurst = some .waiting ↔ b = some .waiting := by
  rcases b with _ | _ | _ <;> simp [tickBurst]

/-- A second passes (R188). -/
theorem tick (a : Ambient) (s : State) : Idles s (tick a s) := by
  have he : (tickRge s.rge).state = s.rge.state ∧ (tickRge s.rge).column = s.rge.column ∧ (tickRge s.rge).lidOpen = s.rge.lidOpen := by
    unfold tickRge
    split <;> exact ⟨rfl, rfl, rfl⟩
  obtain ⟨h1, h2, h3⟩ := he
  exact ⟨rfl, Option.isSome_map, Option.isSome_map, tickBurst_waiting _, pumpAsked_tick _ _, h1, congrArg Option.isSome h2, h3, rfl, rfl,
    rfl, rfl, rfl, rfl, rfl, rfl, id, fun _ => id⟩

end Idles

/-! ## A step goes on -/

/-- The step that began in `o` has come to `s`. -/
structure Fine (o s : State) : Prop where
  sure : Sure s
  rest : Rest o → Rest s

variable {o s t u : State} {n : Nat}

theorem Fine.refl (h : Sure s) : Fine s s := ⟨h, id⟩

theorem Fine.idles (h : Fine o s) (k : Idles s t) : Fine o t := ⟨k.sure h.sure, fun hr => k.rest (h.rest hr)⟩

theorem fine_settle (h : Ripe u) : Fine o (settle u) := ⟨h.sure, fun _ => h.rest⟩

theorem fine_conclude (h : Ripe u) : Fine o (conclude u) := (fine_settle h).idles (Idles.refl _).finish

theorem fine_ite {c : Prop} [Decidable c] {a b : State} (ha : c → Fine o a) (hb : ¬ c → Fine o b) : Fine o (if c then a else b) := by
  split
  · exact ha ‹_›
  · exact hb ‹_›

theorem Fine.settleReports (h : Fine o s) (k : Airs n s t) (hn : n ≤ 20 := by omega) : Fine o (settleReports t) := by
  unfold Machine.settleReports
  split
  · next hr => exact h.idles (.of_airs k ((List.isEmpty_iff.mp hr).trans h.sure.silent.symm))
  · exact fine_settle (h.sure.ripe_airs k)

/-! ## The receiver -/

theorem Fine.countGood (h : Fine o s) : Fine o (countGood s) := h.settleReports ((Airs.refl s).onLnk _).followErrors

theorem Fine.countBad (h : Fine o s) : Fine o (countBad s) := h.settleReports ((Airs.refl s).onLnk _).followErrors

theorem Fine.badFrame (h : Fine o s) : Fine o (badFrame s) := (h.idles ((Idles.refl s).onLnk _)).countBad

theorem Fine.breakFrame (h : Fine o s) : Fine o (breakFrame s) := fine_ite (fun _ => h.badFrame) fun _ => h

theorem Fine.restartSilence (h : Fine o s) : Fine o (restartSilence s) := h.idles (Idles.refl s).restartSilence

theorem Fine.refuseBusy (h : Fine o s) (k tag : Byte) : Fine o (refuseBusy k tag s) := by
  unfold Machine.refuseBusy
  split
  · exact (h.idles ((Idles.refl s).onLnk _)).countGood.restartSilence
  · exact h.countBad.restartSilence

theorem Fine.transmitEnds (h : Fine o s) : Fine o (transmitEnds s) := by
  unfold Machine.transmitEnds
  split
  · exact h
  all_goals exact h.idles ((Idles.refl s).onLnk _)

theorem Fine.silenceExpires (h : Fine o s) : Fine o (silenceExpires s) := by
  unfold Machine.silenceExpires
  split
  · exact fine_ite (fun _ => h.settleReports ((Airs.refl s).loseLink _)) fun _ => h
  · exact h

end Sys2Proof.Proofs
end

section
/-! PROOFS. The requests leave the water path in agreement (R6, R20 to R22, R28, R30, R32, R53, R70 to R75, R95, R195 to R199). -/

/- One theorem at a time, as the tests have it: proofs that wait for the kernel cost a thread each. -/
set_option Elab.async false

namespace Sys2Proof.Proofs

open Sys2Proof.Machine
open Sys2Proof.Safety

variable {base : List Report} {o s t u : State} {n : Nat}

/-! ## With no program to go on -/

theorem over_flows (k : Flows s t) (h : programHeats s = false) : programHeats t = false :=
  (programHeats_congr (course_eq k.course).1).trans h

theorem over_airs (k : Airs n s t) (h : programHeats s = false) : programHeats t = false :=
  (programHeats_congr (congrArg Seq.state k.seq)).trans h

/-- A step in which no program can go on. -/
structure Lone (s : State) : Prop where
  mid : Mid [] s
  ended : programHeats s = false

theorem Lone.ripe (h : Lone s) : Ripe s := ripe_over h.mid h.ended

theorem Lone.flows (h : Lone s) (k : Flows s t) : Lone t := ⟨h.mid.flows k, over_flows k h.ended⟩

theorem Lone.airs (h : Lone s) (k : Airs n s t) : Lone t := ⟨h.mid.airs k, over_airs k h.ended⟩

theorem Lone.onPart (h : Lone s) (f : Part → Part) : Lone (onPart f s) :=
  ⟨h.mid.congr rfl rfl rfl rfl rfl fun hp => absurd hp (by simp [h.ended]), h.ended⟩

theorem Sure.lone (h : Sure s) (hs : s.part.state ≠ .ready) : Lone s :=
  ⟨h.mid, by cases hp : programHeats s with
    | false => rfl
    | true => exact absurd (h.mid.ready hp) hs⟩

/-! ## STARTING and the wake (R195, R197) -/

theorem Lone.wake (h : Lone s) (c : WakeSource) : Lone (wake c s) := by
  have h := h.onPart fun p => { p with state := .ready }
  have k := ((Flows.refl h.mid.inlet).raiseNotice (.wake c)).restartSilence
  exact h.flows ((((k.readLowSwitches _).onCzs _).readWater _).saltLowChanged _ |>.firstReading _)

theorem Lone.enterStarting (h : Lone s) : Lone (enterStarting s) := by
  have h := h.onPart fun x => { x with
    state := .starting, shutdown := .none, startedFrom := x.state, homings := ⟨true, true, true, s.pins.actuator⟩, homingFaults := [] }
  have k := (Flows.refl h.mid.inlet).restartSilence
  have h := h.flows ((((k.onDsu fun d => { d with r3 := { d.r3 with fitted := s.pins.booster } }).readLowSwitches s.pins).readCapSwitches s.pins).onDdu fun d => { d with
    fitted := s.pins.actuator, count := if s.pins.actuator then d.count else 0, homed := d.homed && s.pins.actuator })
  have h := h.airs ((Airs.refl _).doorChanged s.pins.doorOpen)
  have h := h.flows (((((Flows.refl h.mid.inlet).onCzs fun z => { z with
    reading := s.pins.pressure, confirmed := z.pump && s.pins.pressure }).readWater s.pins).readSalt s.pins).firstReading s.pins.sensor)
  have h := h.flows ((Flows.refl h.mid.inlet).homeValve)
  have h := h.flows ((Flows.refl h.mid.inlet).onCzs fun z => { z with move := some ⟨true, .z1, 0⟩, failed := none })
  have h := h.flows ((Flows.refl h.mid.inlet).homeSelector)
  unfold Machine.enterStarting
  dsimp only
  split
  · exact h.airs (Airs.refl _).driveInward
  · exact h

/-! ## Programs that end -/

theorem abortProgram_over (s : State) : programHeats (abortProgram s) = false := by
  unfold abortProgram
  split
  · exact over_of_state (.inl (congrArg Seq.state (raiseNotice_seq _ _)))
  · rfl

theorem resetSequencer_over (s : State) : programHeats (resetSequencer s) = false := by
  unfold resetSequencer
  split
  case h_6 => rfl
  case h_7 hs => exact over_of_state (.inr (.inl hs))
  case h_8 hs => exact over_of_state (.inr (.inr (.inr hs)))
  all_goals rfl

theorem Astir.lone_abort (h : Astir [] s) : Lone (Machine.abortProgram s) := ⟨h.abortProgram, abortProgram_over s⟩

theorem Astir.lone_reset (h : Astir [] s) : Lone (Machine.resetSequencer s) := ⟨h.resetSequencer, resetSequencer_over s⟩

/-- SHUTDOWN NORMAL ends the program, and the engine abandons its regeneration (R198, R95). -/
theorem Sure.lone_shutdownNormal (h : Sure s) : Lone (shutdownNormal s) := by
  have ha : Astir [] (onPart (fun p => { p with state := .shuttingDown, shutdown := .inProgress, abrupt := false, writesAsked := false }) s) :=
    h.mid.toAstir.congr rfl rfl rfl rfl rfl
  have ha := ha.flows ((Flows.refl ha.inlet).cancelWhere fun _ => true)
  have hs : Lone (shutdownSequencer (cancelAllDoses (onPart (fun p => { p with
      state := .shuttingDown, shutdown := .inProgress, abrupt := false, writesAsked := false }) s))) := by
    unfold shutdownSequencer
    have hx : ∀ u, Astir [] u → programHeats u = false → Lone u := fun u hu ho => ⟨⟨hu, fun hp => by simp [ho] at hp⟩, ho⟩
    split
    case h_5 hq => exact hx _ ha (over_of_state (.inr (.inr (.inr hq))))
    case h_6 hq => exact hx _ ha (over_of_state (.inr (.inr (.inl hq))))
    case h_7 hq => exact hx _ ha (over_of_state (.inl hq))
    case h_8 hq => exact hx _ ha (over_of_state (.inr (.inl hq)))
    all_goals exact ha.lone_abort
  have he : ∀ u, Lone u → Lone (shutdownEngine u) := fun u hu => by
    unfold shutdownEngine
    split
    case h_5 | h_6 | h_7 => exact hu
    all_goals exact hu.flows (Flows.refl hu.mid.inlet).abandonRegen
  exact (he _ hs).airs (Airs.refl _).shutdownDoor

/-- SHUTDOWN ABRUPT leaves no request, no regeneration and no program (R53, R199). -/
theorem Sure.lone_shutdownAbrupt (h : Sure s) : Lone (shutdownAbrupt s) := by
  have ha : Astir [] (onPart (fun p => { p with state := .shuttingDown, shutdown := .inProgress, abrupt := true, writesAsked := false }) s) :=
    h.mid.toAstir.congr rfl rfl rfl rfl rfl
  obtain ⟨p, hp⟩ : ∃ p, p = onPart (fun p => { p with state := .shuttingDown, shutdown := .inProgress, abrupt := true, writesAsked := false }) s :=
    ⟨_, rfl⟩
  rw [← hp] at ha
  have kf := (Flows.refl ha.inlet).withdrawFill
  have kw : Ungranted (withdrawFill p) (abruptWater p) := (ungranted_withdrawRegen kf.inlet).withdrawBurst.keep rfl rfl rfl rfl rfl rfl rfl rfl rfl
  have ha := ha.flows (((kf.abandoned kw (withdrawRegen_rge _) (withdrawRegen_wpc _).1 (.inl rfl)).resetDosing.onHtc fun h => {
    h with request := none, demand := false, limitLeft := 0 }).abruptCirculation)
  have ha := ha.airs (Airs.refl _).abruptDoor
  have hl := ha.lone_reset
  rw [hp] at hl
  exact hl

/-! ## The requests -/

theorem Sure.clear (h : Sure s) (hr : s.part.state = .ready) (ho : programHeats s = false) : Clear [] s := by
  have hu := h.mid.unfilled ho
  exact ⟨⟨h.mid.inlet, by simp [hu.empty], hu.closed, by simp [h.silent], hr, List.nil_prefix⟩, hu.empty⟩

/-- A program starts (R6). -/
theorem Sure.ripe_start (h : Sure s) (hr : s.part.state = .ready) (hs : s.seq.state = .idle ∨ s.seq.state = .ended) :
    Ripe (startProgram s) := by
  have ho : programHeats s = false := over_of_state (hs.elim (fun hs => .inr (.inr (.inr hs))) .inl)
  have hc := (h.clear hr ho).onSeq fun q => { q with
    summary := {}, holdPending := false, soil := s.cfg.defaultSoil, idx := 0, fault := none }
  have hc := hc.flows (((Flows.refl hc.inlet).onHtc fun h => { h with programDisable := !h.valid, phaseDisable := false, lossCount := 0 }))
  have hc := hc.onSeq fun q => { q with heaterOff := !(onSeq (fun q => { q with
    summary := {}, holdPending := false, soil := s.cfg.defaultSoil, idx := 0, fault := none }) s).htc.valid }
  refine ⟨hc.enterPhase, fun hi => ?_⟩
  have hx : (startProgram s).wpc.inhibit = s.wpc.inhibit := by
    unfold startProgram
    exact inhibit_of_standing (Laws.standing_enterPhase _)
  have hx := hx.symm.trans hi
  refine enterPhase_checked ?_ hc.empty hx ?_
  · exact barred_of_over ho
  · show s.reports.length + 3 * (13 - 0) < 64
    simp [h.silent]

theorem Sure.ripe_enterNext (h : Sure s) (hs : s.seq.state = .holding) : Ripe (enterNext s) := by
  have hc := h.mid.clear (.inr hs)
  refine ⟨hc.enterNext, fun hi => ?_⟩
  have hx : s.wpc.inhibit = true := by
    rw [← hi]
    exact (inhibit_of_standing (Laws.standing_enterNext s)).symm
  refine enterNext_checked ⟨by simp [hs], by simp [hs], by simp [hs]⟩ hc.empty hx ?_
  rw [h.silent]
  simp only [List.length_nil]
  omega

theorem Sure.ripe_endDrain (h : Sure s) (hr : runningIn s .drain = true) : Ripe (endDrain s) := by
  obtain ⟨hs, hb⟩ := (runningIn_iff _ _).mp hr
  refine ripe_free (h.mid.clear (.inl ⟨hs, .inl hb⟩)).endDrain ?_
  rw [← h.free hr (by simp)]
  exact inhibit_of_standing (Laws.standing_endDrain s)

end Sys2Proof.Proofs
end

section
/-! PROOFS. Every request leaves the water path in agreement, and at rest where it was (R178 step 5). -/

/- One theorem at a time, as the tests have it: proofs that wait for the kernel cost a thread each. -/
set_option Elab.async false

namespace Sys2Proof.Proofs

open Sys2Proof.Machine
open Sys2Proof.Safety

variable {o s t u : State} {n : Nat}

theorem fine_served {c : Prop} [Decidable c] {a b : Served} (ha : c → Fine o a.state) (hb : ¬ c → Fine o b.state) :
    Fine o (if c then a else b).state := by
  split
  · exact ha ‹_›
  · exact hb ‹_›

theorem Fine.settle_flows (h : Fine o s) (k : Flows s s → Flows s t) : Fine o (settle t) :=
  fine_settle (h.sure.ripe_flows (k (.refl h.sure.mid.inlet)))

/-- LINK ENABLE in DOWN and SHUT enters STARTING (R195). -/
theorem Fine.serveLinkEnable (h : Fine o s) : Fine o (serveLinkEnable s).state := by
  simp only [Machine.serveLinkEnable]
  have h := h.idles (Idles.refl s).enableLink
  refine fine_served (fun hs => fine_settle (h.sure.lone ?_).enterStarting.ripe) fun _ => h
  rcases hs with hs | hs <;> simp [hs]

/-- The owner of a parameter acts on its change (R73 to R75, R182). -/
theorem Fine.storeParam (h : Fine o s) (i v : Nat) : Fine o (settle (storeParam i v s)) := by
  have k := (Flows.refl h.sure.mid.inlet).onCfg fun c => paramSet c i v
  have hc := h.idles ((Idles.refl s).onCfg fun c => paramSet c i v)
  unfold Machine.storeParam paramChanged
  dsimp only
  split
  · exact fine_settle (h.sure.ripe_flows (k.nominalChanged.askWrite _))
  · exact fine_settle (h.sure.ripe_flows (Flows.askWrite (.ite (fun _ => k.reserveRaised) fun _ => k) _))
  · exact fine_settle (h.sure.ripe_flows (Flows.askWrite (.ite (fun _ => k.removeColumnC) fun _ => k.createColumnC) _))
  · split
    · split
      · exact fine_settle (hc.sure.ripe_airs (((Airs.refl _).loseLink _).onRst _))
      · exact fine_settle (h.sure.ripe_flows (k.askWrite _))
    · exact fine_settle (h.sure.ripe_flows (k.askWrite _))
  · exact fine_settle (h.sure.ripe_flows (k.askWrite _))

theorem Fine.storeParam_quiet (h : Fine o s) {id : Nat} (ha : paramActs id = false) (v : Nat) : Fine o (Machine.storeParam id v s) := by
  have hq : ∀ old u, paramChanged id old u = u := fun old u => by
    unfold paramChanged
    split
    case h_5 => rfl
    all_goals simp [paramActs] at ha
  unfold Machine.storeParam
  simp only [hq]
  exact h.idles (((Idles.refl s).onCfg _).askWrite _)

theorem Fine.serveSetConfig (h : Fine o s) (i : Byte) (v : Word) : Fine o (serveSetConfig i v s).state := by
  simp only [Machine.serveSetConfig]
  split
  · exact h
  · exact fine_served (fun _ => h) fun _ => fine_served (fun _ => h) fun _ => fine_served (fun _ => h) fun _ =>
      fine_served (fun _ => h.storeParam _ _) fun ha => h.storeParam_quiet (by simpa using ha) _

theorem Fine.serveStandby (h : Fine o s) : Fine o (serveStandby s).state := by
  refine fine_served (fun hs => h.idles ((Idles.refl s).enterStandby ?_)) fun _ => h
  simp only [standbyAllowed, Bool.and_eq_true, Bool.or_eq_true, beq_iff_eq] at hs
  obtain ⟨⟨⟨⟨⟨⟨⟨⟨⟨⟨⟨hq, -⟩, -⟩, -⟩, -⟩, -⟩, -⟩, -⟩, -⟩, -⟩, -⟩, -⟩ := hs
  exact over_of_state (hq.elim (fun hq => .inr (.inr (.inr hq))) .inl)

theorem Fine.serveShutdown (h : Fine o s) (m : Byte) : Fine o (serveShutdown m s).state := by
  unfold Machine.serveShutdown
  split
  · exact fine_served (fun _ => h) fun _ => fine_settle h.sure.lone_shutdownNormal.ripe
  · exact fine_settle h.sure.lone_shutdownAbrupt.ripe
  · exact h

theorem Fine.serveResetUnit (h : Fine o s) (u : Byte) : Fine o (serveResetUnit u s).state := by
  unfold Machine.serveResetUnit
  split
  · exact h
  · exact fine_settle h.sure.mid.toAstir.lone_reset.ripe
  · exact h.settle_flows fun k => k.abandonRegen.homeValve
  · exact h.settle_flows Flows.resetDosing
  · exact fine_settle (h.sure.ripe_airs (Airs.refl s).resetDoor)
  · exact h.idles (Idles.refl s).resetLink

/-- ACKNOWLEDGE FAULT leaves FAULTED, or drains the sump first (R28). -/
theorem Fine.serveAcknowledge (h : Fine o s) : Fine o (serveAcknowledge s).state := by
  refine fine_served (fun hs => fine_served (fun _ => h) fun _ => fine_served (fun _ => fine_settle ?_) fun _ =>
    fine_served (fun _ => h) fun _ => h.settle_flows Flows.placeDrain) fun _ => h
  have hu := (h.sure.mid.unfilled (over_of_state (.inr (.inl hs)))).onSeq fun q => { q with
    state := .idle, sub := .none, idx := 0, fault := none }
  exact ripe_over (hu.over (.inr (.inr (.inr rfl)))) rfl

theorem Fine.afterEdit (h : Fine o s) : Fine o (afterEdit s) := by
  refine fine_ite (fun hc => fine_settle ?_) fun _ => h
  simp only [Bool.and_eq_true] at hc
  obtain ⟨⟨hr, -⟩, -⟩ := hc
  exact h.sure.ripe_endDrain hr

theorem Fine.onSeq (h : Fine o s) (f : Seq → Seq) (h1 : (f s.seq).state = s.seq.state := by rfl)
    (h2 : (f s.seq).sub = s.seq.sub := by rfl) (h3 : (f s.seq).remembered = s.seq.remembered := by rfl)
    (h4 : (f s.seq).permit = s.seq.permit := by rfl) : Fine o (Machine.onSeq f s) := h.idles ((Idles.refl s).onSeq f h1 h2 h3 h4)

theorem Fine.serveLoadPhase (h : Fine o s) (i : Byte) (p : PhasePayload) : Fine o (serveLoadPhase i p s).state := by
  simp only [Machine.serveLoadPhase]
  refine fine_served (fun _ => h) fun _ => fine_served (fun _ => h) fun _ => ?_
  split
  · exact h
  · exact h
  · exact fine_served (fun _ => h) fun _ => (h.onSeq _).afterEdit

theorem Fine.serveSetCount (h : Fine o s) (c : Byte) : Fine o (serveSetCount c s).state := by
  have hw : Fine o (writeCount c.toNat s) := h.onSeq _
  simp only [Machine.serveSetCount]
  refine fine_served (fun _ => h) fun _ => fine_served (fun _ => h) fun _ => fine_served (fun _ =>
    fine_served (fun _ => h) fun _ => ?_) fun _ => hw
  split
  · exact h
  · exact hw.afterEdit

theorem Fine.serveStart (h : Fine o s) (hr : s.part.state = .ready) : Fine o (serveStart s).state := by
  refine fine_served (fun hs => ?_) fun _ => h
  split
  · exact h
  · exact fine_settle (h.sure.ripe_start hr hs)

theorem Fine.serveHold (h : Fine o s) : Fine o (serveHold s).state := by
  unfold Machine.serveHold
  split
  case h_1 | h_2 | h_3 => exact h.onSeq fun q => { q with holdPending := true }
  all_goals exact h

theorem Fine.serveContinue (h : Fine o s) : Fine o (serveContinue s).state := by
  unfold Machine.serveContinue
  split
  case h_1 hs => exact fine_settle (h.sure.ripe_enterNext hs)
  case h_2 | h_3 | h_4 => exact fine_served (fun _ => h.onSeq fun q => { q with holdPending := false }) fun _ => h
  all_goals exact h

theorem Fine.serveRegenerate (h : Fine o s) (c : Byte) : Fine o (serveRegenerate c s).state := by
  unfold Machine.serveRegenerate
  split
  · exact h
  · split
    · exact h.settle_flows fun k => k.toRegenQueue _
    · exact fine_served (fun _ => h) fun _ => h.settle_flows fun k => k.switchService _
    all_goals exact h

theorem Fine.serveRetire (h : Fine o s) (c : Byte) : Fine o (serveRetire c s).state := by
  unfold Machine.serveRetire
  split
  · exact h
  · split
    · exact h.settle_flows fun k => k.switchService _
    case h_5 => exact h.settle_flows fun k => k.dropRegen _
    case h_6 => exact h
    all_goals exact h.settle_flows fun k => k.toRetiredSet _

theorem Fine.serveRestore (h : Fine o s) (c : Byte) : Fine o (serveRestore c s).state := by
  unfold Machine.serveRestore
  split
  · exact h
  · split
    case h_1 | h_2 => exact h.settle_flows fun k => k.toRegenQueue _
    all_goals exact h

theorem Fine.serveSetLevel (h : Fine o s) (c : Byte) (l : Half) : Fine o (serveSetLevel c l s).state := by
  unfold Machine.serveSetLevel
  split
  · exact h
  · exact fine_served (fun _ => h.idles (((Idles.refl s).setLevel _ _).askWrite _)) fun _ => h

theorem Fine.servePrime (h : Fine o s) (c n : Byte) : Fine o (servePrime c n s).state := by
  unfold Machine.servePrime
  split
  · exact h
  · exact fine_served (fun _ => h) fun _ => fine_served (fun _ => h) fun _ => fine_served (fun _ => h) fun _ =>
      fine_served (fun _ => h) fun _ => h.idles ((Idles.refl s).joinQueue _ _ _ _)

theorem Fine.serveOwner (h : Fine o s) {r : Request} (ha : admits s.part.state r = true) : Fine o (serveOwner r s).state := by
  unfold Machine.serveOwner
  cases r with
  | identify => exact h
  | linkEnable => exact h.serveLinkEnable
  | getStatus => exact h
  | setConfig i v => exact h.serveSetConfig i v
  | getConfig i => simp only [serveGetConfig]; split <;> exact h
  | setNoticeMask m => exact h.idles ((Idles.refl s).onLnk fun l => { l with
      mask := storedMask m, notices := s.lnk.notices.filter fun n => noticeEnabled (storedMask m) (noticeCode n.content) })
  | standby => exact h.serveStandby
  | shutdown m => exact h.serveShutdown m
  | resetUnit u => exact h.serveResetUnit u
  | readFaultHistory => exact h
  | acknowledgeFault => exact h.serveAcknowledge
  | loadPhase i p => exact h.serveLoadPhase i p
  | readPhase i => exact fine_served (fun _ => h) fun _ => h
  | setPhaseCount n => exact h.serveSetCount n
  | clearProgram => exact fine_served (fun _ => h.onSeq fun q => { q with table := Vector.replicate 12 none, count := 0 }) fun _ => h
  | startProgram =>
    refine h.serveStart ?_
    cases hs : s.part.state <;> simp_all [admits]
  | hold => exact h.serveHold
  | continueProgram => exact h.serveContinue
  | abortProgram => exact fine_served (fun _ => fine_settle h.sure.mid.toAstir.lone_abort.ripe) fun _ => h
  | readColumn c => simp only [serveReadColumn]; split <;> exact h
  | regenerate c => exact h.serveRegenerate c
  | retireColumn c => exact h.serveRetire c
  | restoreColumn c => exact h.serveRestore c
  | readReservoir c => simp only [serveReadReservoir]; split <;> exact h
  | setReservoirLevel c l => exact h.serveSetLevel c l
  | primeChannel c n => exact h.servePrime c n

theorem Fine.examine (h : Fine o s) (p : Parsed) : Fine o (examine p s).state := by
  cases p with
  | unknownKind => exact h
  | badLength => exact h
  | request r => exact fine_served (fun _ => h) fun _ => fine_served (fun _ => h) fun ha => h.serveOwner (by simpa using ha)

/-! ## Frames and bytes -/

theorem Fine.goodFrame (h : Fine o s) (k tag : Byte) (p : Parsed) : Fine o (goodFrame k tag p s) := by
  have hf := h.idles (Idles.refl s).frameEnds
  simp only [Machine.goodFrame]
  refine fine_ite (fun _ => hf.countGood.restartSilence) fun _ => fine_ite (fun _ => hf.refuseBusy _ _) fun _ => Fine.restartSilence ?_
  exact (hf.countGood.examine p).idles ((Idles.refl _).onLnk fun l => { l with
    awaiting := some ⟨k, tag, (Machine.examine p (Machine.countGood (frameEnds s))).answer⟩ })

/-- A byte wakes a part in STANDBY (R197). -/
theorem Fine.woken (h : Fine o s) : Fine o (if s.part.state = .standby then settle (wake .link s) else s) :=
  fine_ite (fun hs => fine_settle ((h.sure.lone (by simp [hs])).wake _).ripe) fun _ => h

theorem Fine.markerByte (h : Fine o s) : Fine o (markerByte s) := by
  unfold Machine.markerByte
  exact h.woken.idles ((Idles.refl _).onLnk _)

theorem Fine.receiveByte (h : Fine o s) (b : Byte) : Fine o (receiveByte b s) := by
  simp only [Machine.receiveByte]
  refine fine_ite (fun _ => ?_) fun _ => fine_ite (fun _ => h.markerByte) fun _ => h
  split
  · exact h.idles ((Idles.refl s).onLnk _)
  · exact h.badFrame
  · exact h.goodFrame _ _ _

theorem Fine.receiveBytes (h : Fine o s) (l : List Byte) : Fine o (receiveBytes l s) := by
  induction l generalizing s with
  | nil => exact h
  | cons b l ih => exact ih (h.receiveByte b)

theorem Fine.finish (h : Fine o s) : Fine o (finish s) := h.idles (Idles.refl s).finish

theorem Sure.fine_whenPowered {f : State → State} (h : Sure s) (hx : whenPowered f s = .next t) (hf : Fine s (f s)) : Fine s t := by
  simp only [Machine.whenPowered, Host.Outcome.next.injEq] at hx
  rw [← hx]
  exact fine_ite (fun _ => hf) fun _ => .refl h

theorem Sure.fine_hostRequest (h : Sure s) {r : Request} {tag : Byte} (hx : hostRequest tag r s = .next t) : Fine s t :=
  h.fine_whenPowered hx ((Fine.refl h).woken.goodFrame _ _ _).finish

end Sys2Proof.Proofs
end

section
/-! PROOFS. The events leave the water path in agreement (R10, R13, R25, R30, R51 to R53, R193). -/

/- One theorem at a time, as the tests have it: proofs that wait for the kernel cost a thread each. -/
set_option Elab.async false

namespace Sys2Proof.Proofs

open Sys2Proof.Machine
open Sys2Proof.Safety

variable {base : List Report} {o s t u : State} {n : Nat}

theorem Fine.conclude_flows (h : Fine o s) (k : Flows s s → Flows s t) : Fine o (conclude t) :=
  fine_conclude (h.sure.ripe_flows (k (.refl h.sure.mid.inlet)))

theorem Fine.conclude_airs (h : Fine o s) (k : Airs n s t) (hn : n ≤ 20 := by omega) : Fine o (conclude t) :=
  fine_conclude (h.sure.ripe_airs k)

theorem Fine.noted (h : Fine o s) (f : Ties → Ties) : Fine o (onTies f s) := h.idles ((Idles.refl s).onTies f)

theorem Fine.onPins (h : Fine o s) (f : Pins → Pins) : Fine o (onPins f s) := h.idles ((Idles.refl s).onPins f)

theorem Fine.concludeFill (h : Fine o s) (k : Flows s s → Flows s t) (r : State) : Fine o (concludeFill r t) :=
  fine_ite (fun _ => (h.conclude_flows k).noted _) fun _ => h.conclude_flows k

theorem Fine.concludeSelector (h : Fine o s) (p : Channel) : Fine o (concludeSelector p s) :=
  have hc := h.conclude_flows fun k => k.selectorReported p
  fine_ite (fun _ => hc.noted _) fun _ => hc

theorem Fine.concludeDiverter (h : Fine o s) (z : Zone) : Fine o (concludeDiverter z s) :=
  have hc := h.conclude_flows fun k => k.diverterReported z
  fine_ite (fun _ => hc.noted _) fun _ => hc

theorem fine_sensed {c : Prop} [Decidable c] {f : Pins → Pins} {a : State} (h : Fine o s)
    (hx : Fine o (onPins f s) → Fine o a) : Fine o (if c then a else onPins f s) :=
  fine_ite (fun _ => hx (h.onPins f)) fun _ => h.onPins f

/-- A wake source wakes the part in STANDBY, in which no program can go on; awake it goes on as it is (R197). -/
theorem Fine.wakes (h : Fine o s) (c : WakeSource) {f : State → State} (hl : ∀ u, Lone u → Lone (f u)) (hs : Ripe (f s)) :
    Fine o (conclude (f (wakeIf c s))) := by
  unfold wakeIf
  split
  · next hx => exact fine_conclude (hl _ ((h.sure.lone (by simp [beq_iff_eq.mp hx])).wake c)).ripe
  · exact fine_conclude hs

/-! ## The flood (R51 to R53) -/

theorem closeInlet_unheld (h : Inlet s) (hh : s.wpc.holder = .none) : closeInlet s = s := by
  obtain ⟨⟨-, -, g3, g4, g5, -, -, -⟩, -⟩ := h
  have hw : { s.wpc with holder := .none, inletValve := false, brineValve := false, fillTimer := none } = s.wpc := by
    rw [hh] at g3 g4 g5
    have ht : s.wpc.fillTimer = none := Option.not_isSome_iff_eq_none.mp (by rw [g5]; decide)
    cases hx : s.wpc
    simp_all
  exact congrArg (fun w => { s with wpc := w }) hw

theorem endFill_unheld {q : FillReq} (hq : s.wpc.fill = some q) (r : FillEnd) : (endFill r s).wpc.holder = .none := by
  obtain ⟨b, -, he⟩ := afterFill_eq r q s
  rw [endFill_eq hq, he]
  split
  · rfl
  · exact congrArg Wpc.holder (Serves.refl _).endTopUp.wpc

theorem revokeRegen_holder (h : s.wpc.holder ≠ .fill) : (revokeRegen s).wpc.holder = .none := by
  unfold revokeRegen
  split
  · rfl
  · rfl
  · assumption
  · next hh => exact absurd hh h

/-- The inlet closed, the flood's request placed, and the program's fault reported (R51). -/
theorem Mid.floodEntered (h : Mid base s) (hh : s.wpc.holder = .none) : Mid base (floodEntered s) := by
  have hf := h.flows ((Flows.refl h.inlet).onWpc fun w => { w with floodReq := some .active })
  have hc := closeInlet_unheld hf.inlet hh
  have hr := hf.flows (((Flows.refl hf.inlet).raiseFault .flood (.num 0) (.num 0)).report (.programFault .flood))
  rw [← hc] at hr
  exact hr

theorem Mid.floodBegins (h : Mid base s) : Mid base (floodBegins s) := by
  have hi : Mid base (onWpc (fun w => { w with inhibit := true }) s) := h.congr rfl rfl rfl rfl rfl h.ready
  have k := Flows.refl hi.inlet
  unfold Machine.floodBegins
  dsimp only
  split
  · next hq => exact (hi.flows (k.endFill (fun p hp => by rw [Option.mem_unique hp hq]) .revoked)).floodEntered (endFill_unheld hq _)
  · next hn =>
    refine (hi.flows k.revokeRegen).floodEntered (revokeRegen_holder fun hh => ?_)
    obtain ⟨⟨n, b, c⟩, hq, hb⟩ := holderOf_fill.mp (hi.inlet.holder.symm.trans hh)
    cases hb
    exact hn n b hq

theorem Lone.floodBegins (h : Lone s) : Lone (floodBegins s) :=
  ⟨h.mid.floodBegins, by rw [← h.ended]; exact programHeats_congr (by rw [(flooded_floodBegins s).seq])⟩

theorem Lone.floodChanged (h : Lone s) (b : Bool) : Lone (floodChanged b s) := by
  have hw := h.flows ((Flows.refl h.mid.inlet).onWpc fun w => { w with flood := b })
  unfold Machine.floodChanged
  dsimp only
  split
  · exact h
  · split
    · exact hw.floodBegins
    · split
      · exact hw.flows ((Flows.refl hw.mid.inlet).onWpc _)
      · exact hw

/-- A flood stops the program; its end takes no step of its own (R51, R52). -/
theorem Sure.ripe_floodChanged (h : Sure s) (b : Bool) : Ripe (floodChanged b s) := by
  have hi := h.mid.inlet
  unfold Machine.floodChanged
  dsimp only
  split
  · exact h.ripe
  · split
    · refine ⟨(h.mid.flows ((Flows.refl hi).onWpc _)).floodBegins, fun _ => .alarmed ⟨.programFault .flood, ?_, rfl⟩⟩
      rcases (flooded_floodBegins (onWpc (fun w => { w with flood := b }) s)).told with ht | ⟨k, n, ht⟩ <;>
        rw [ht] <;> simp [h.silent]
    · split
      · exact h.ripe_flows (((Flows.refl hi).onWpc _).onWpc _)
      · exact h.ripe_flows ((Flows.refl hi).onWpc _)

/-! ## Power and reset (R193, R203) -/

theorem lone_freshPart (pins : Pins) (r : Rst) (l : List Instr) : Lone (freshPart pins r l) := by
  have hf : (freshPart pins r l).sfu.fill.isOpen = false := by
    unfold freshPart restoredColumns
    dsimp only
    split <;> rfl
  refine ⟨⟨⟨⟨⟨rfl, rfl, rfl, rfl, rfl, rfl, rfl, fun hx => (nomatch hx)⟩, fun _ hx => (nomatch hx)⟩, fun _ hx => (nomatch hx), Nat.zero_le _,
    fun hx => (nomatch hx), fun ho => ?_, List.nil_prefix⟩, fun hx => (nomatch hx)⟩, rfl⟩
  rw [hf] at ho
  cases ho

theorem Lone.reportRestoration (h : Lone s) (r : Rst) : Lone (reportRestoration r s) := by
  have hi : ∀ {u}, Flows s u → ∀ n v, Flows s (raiseInvalid n v u) := fun k n v => .ite (fun _ => k) fun _ => k.raiseFault _ _ _
  have ha : ∀ {u}, Flows s u → ∀ i v, Flows s (askDefault i v u) := fun k i v => .ite (fun _ => k) fun _ => k.askWrite _
  exact h.flows (ha (ha (ha (ha (hi (hi (hi (hi (Flows.refl h.mid.inlet) _ _) _ _) _ _) _ _) _ _) _ _) _ _) _ _)

theorem lone_resetPart (pins : Pins) (s : State) : ∃ u, Lone u ∧ resetPart pins s = conclude u := by
  have hl := lone_freshPart pins (keptCopies s.rst) s.pending
  have ht : Lone (testRestored (freshPart pins (keptCopies s.rst) s.pending)) := by
    refine hl.flows (Flows.sweepReady ?_ _)
    unfold clampColumns
    exact (Flows.refl hl.mid.inlet).onSfu _
  have hr := ht.reportRestoration (keptCopies s.rst)
  have hf : Lone (if pins.flood = true then Machine.floodBegins (Machine.reportRestoration (keptCopies s.rst)
      (testRestored (freshPart pins (keptCopies s.rst) s.pending))) else Machine.reportRestoration (keptCopies s.rst)
      (testRestored (freshPart pins (keptCopies s.rst) s.pending))) :=
    iteInduction (motive := Lone) (fun _ => hr.floodBegins) fun _ => hr
  exact ⟨_, iteInduction (motive := Lone) (fun _ => hf.flows (Flows.refl hf.mid.inlet).warnPower) fun _ => hf, rfl⟩

theorem fine_resetPart (pins : Pins) (s : State) : Fine o (resetPart pins s) := by
  obtain ⟨u, hu, he⟩ := lone_resetPart pins s
  rw [he]
  exact fine_conclude hu.ripe

theorem fine_losePower (s : State) : Fine o (losePower s) := by
  obtain ⟨hm, hp⟩ := lone_freshPart s.pins {} s.pending
  refine ⟨⟨hm.congr rfl rfl rfl rfl rfl fun hx => absurd hx (by simp [hp]), rfl, fun hx => (nomatch hx), fun _ hx => (nomatch hx),
    fun hx => (nomatch hx), fun hx => ?_⟩, fun _ hx => (nomatch hx)⟩
  rcases hx with hx | hx <;> cases hx

/-! ## The sequencer's timers (R10, R13, R25) -/

theorem Sure.ripe_endCirculate (h : Sure s) (w : WashRecord) (hr : runningIn s .circulate = true) :
    Ripe (endCirculate w (onSeq (fun q => { q with holdTimer := w.holdTime }) s)) := by
  obtain ⟨hs, hb⟩ := (runningIn_iff _ _).mp hr
  have ht := (h.mid.topped hs (.inr (.inr hb))).onSeq fun q => { q with holdTimer := w.holdTime }
  refine ripe_free (ht.endCirculate w) ?_
  rw [← h.free hr (by simp)]
  exact inhibit_of_standing (Laws.standing_endCirculate w _)

theorem Sure.ripe_continueFill (h : Sure s) (w : WashRecord) (hs : s.seq.state = .waitWater) :
    Ripe (continueFill w (seqTo .running .fill (onSeq (fun q => { q with waterWait := none }) s))) := by
  have he := h.mid.no_fill fun hx => by simp [hx.1] at hs
  have hp := h.mid.ready (by simp [programHeats, hs])
  have hi : Inlet (seqTo .running .fill (onSeq (fun q => { q with waterWait := none }) s)) :=
    h.mid.inlet.congr rfl rfl rfl rfl rfl rfl rfl rfl rfl rfl
  refine ripe_free (mid_continueFill (base := []) w hi he ?_ hp rfl rfl List.nil_prefix) ?_
  · show s.reports.countP spent = 0
    simp [h.silent]
  · have hn : s.wpc.inhibit = false := by
      by_contra hx
      exact (h.barred (by simpa using hx)).1 hs
    rw [← hn]
    exact inhibit_of_standing (Laws.standing_continueFill w _)

theorem standing_resumeSub (b : SubStage) (w : WashRecord) (s : State) : standing (resumeSub b w s) = standing s := by
  unfold resumeSub
  split
  · dsimp only
    split <;> simp
  · simp only [resumeDose]
    split <;> simp
  · simp only [resumeHeat]
    split
    · simp
    · split <;> simp
  · simp only [resumeCirculate]
    split <;> simp
  · simp
  · rfl
  · rfl

theorem standing_resumeProgram (s : State) : standing (resumeProgram s) = standing s := by
  unfold resumeProgram
  dsimp only
  split
  · simp
  · rw [standing_resumeSub]; simp
  · simp
/-- The phase suspended is resumed; with the inlet inhibited it has its fill before it, which is refused (R25, R38). -/
theorem Sure.ripe_resume (h : Sure s) (hs : s.seq.state = .suspended) (hw : (currentWash s).isSome = true) : Ripe (resumeProgram s) := by
  refine ⟨h.mid.resumeProgram hs hw h.silent, fun hi => ?_⟩
  have hx : s.wpc.inhibit = true := by
    rw [← hi]
    exact (inhibit_of_standing (standing_resumeProgram s)).symm
  have hm := (h.barred hx).2.2 hs
  have he := h.mid.no_fill fun hx => by simp [hx.1] at hs
  obtain ⟨w, hw⟩ := Option.isSome_iff_exists.mp hw
  have hr : (resumeProgram s).reports = [.fillRefused] := by
    have hl : ∀ u : State, u.reports = s.reports → u.reports ++ [.fillRefused] = [.fillRefused] := fun u hu => by rw [hu, h.silent]; rfl
    rw [resumeProgram_sub hm hw]
    simp only [resumeSub]
    split
    · exact (continueFill_refused (s := seqTo .running .fill (recalled s)) w he hx).trans (hl _ rfl)
    · exact (beginFill_refused (s := seqTo .running .fill (recalled s)) w he hx).trans (hl _ rfl)
  exact .alarmed ⟨.fillRefused, by simp [hr], rfl⟩

end Sys2Proof.Proofs
end

section
/-! PROOFS. Every command keeps the agreement of the water path, and the water path at rest (O54). -/

/- One theorem at a time, as the tests have it: proofs that wait for the kernel cost a thread each. -/
set_option Elab.async false

namespace Sys2Proof.Proofs

open Sys2Proof.Machine
open Sys2Proof.Safety

variable {s t : State}

theorem fine_ite_self {c : Prop} [Decidable c] {o s a : State} (h : Fine o s) (hx : c → Fine o a) : Fine o (if c then a else s) :=
  fine_ite hx fun _ => h

/-- A burst that runs is the engine's, which has finished with it (R49, R90). -/
theorem Fine.burstEnds {o : State} (h : Fine o s) (hb : s.wpc.burst.isSome = true) :
    Fine o (conclude (if (withdrawBurst s).rge.state = .effluentDrain then finishRegen (withdrawBurst s) else withdrawBurst s)) := by
  have hd := h.sure.mid.inlet.draining hb
  rw [if_pos (show (withdrawBurst s).rge.state = .effluentDrain from hd)]
  exact h.conclude_flows fun k => k.burstOver hd

/-- The flood's run-on is over, and the inlet opens (R52). -/
theorem Sure.ripe_runOnOver (h : Sure s) : Ripe (onWpc (fun w => { w with floodReq := none, inhibit := false }) s) :=
  ripe_free (h.mid.congr rfl rfl rfl rfl rfl h.mid.ready) rfl

/-- A command on a part with power, but for power and reset. -/
theorem fine_exec {c : Instr} (h : exec c s = .next t) (hs : Sure s)
    (hw : s.seq.state = .suspended ∨ s.seq.state = .waitWater → (currentWash s).isSome = true) : Fine s t := by
  have hf := Fine.refl hs
  have hi := hs.mid.inlet
  unfold exec at h
  cases c with
  | identify _ | linkEnable _ | getStatus _ | setConfig _ _ _ | setConfigNominalCapacity _ _
  | setConfigSwitchReserve _ _ | setConfigFittedColumns _ _ | setConfigSilenceLimit _ _ | getConfig _ _
  | setNoticeMask _ _ | standby _ | shutdownNormal _ | shutdownAbrupt _ | resetUnitSequencer _ | resetUnitSoftener _
  | resetUnitDosing _ | resetUnitDoor _ | resetUnitLink _ | readFaultHistory _ | acknowledgeFault _ | loadPhase _ _ _
  | readPhase _ _ | setPhaseCount _ _ | clearProgram _ | startProgram _ | hold _ | continueProgram _ | abortProgram _
  | readColumn _ _ | regenerate _ _ | retireColumn _ _ | restoreColumn _ _ | readReservoir _ _ | setReservoirLevel _ _ _
  | primeChannel _ _ _ => exact hs.fine_hostRequest h
  | frameGood l => exact hs.fine_whenPowered h (hf.receiveBytes l).finish
  | frameBad l b =>
    exact hs.fine_whenPowered h (Fine.finish (fine_ite (fun _ => (hf.receiveBytes l).breakFrame) fun _ => hf.receiveBytes l))
  | byteGapTimeout l => exact hs.fine_whenPowered h (hf.receiveBytes l).breakFrame.finish
  | frameTransmitEnd => exact hs.fine_whenPowered h hf.transmitEnds.finish
  | silenceTimeout => exact hs.fine_whenPowered h hf.silenceExpires.finish
  | timeStampTick a => exact hs.fine_whenPowered h (hf.idles (Idles.tick a s))
  | standbyLinkWake => exact hs.fine_whenPowered h (hf.receiveByte _).finish
  | powerOn p =>
    cases h
    exact fine_resetPart p s
  | resetLineAssertion p => exact hs.fine_whenPowered h (fine_resetPart p s)
  | powerLoss => exact hs.fine_whenPowered h (fine_losePower s)
  | pfwAssertion =>
    exact hs.fine_whenPowered h (fine_ite (fun _ => hf) fun _ => hf.idles
      (((Idles.refl s).onPart fun p => { p with pfw := true }).onPins fun p => { p with pfw := true }).askAllWrites.finish)
  | pfwRelease => exact hs.fine_whenPowered h (hf.idles (((Idles.refl s).onPart _).onPins _))
  | retainedWriteEnd =>
    exact hs.fine_whenPowered h (fine_ite (fun _ => hf.conclude_flows fun k => k.onRst _) fun _ =>
      hf.idles ((Idles.refl s).onRst _).finish)
  | flowMeterPulse => exact hs.fine_whenPowered h (fine_ite_self hf fun _ => hf.concludeFill Flows.meterPulse s)
  | sumpEmptySwitchChange b =>
    exact hs.fine_whenPowered h (fine_sensed hf fun hp => hp.conclude_flows fun k => k.sumpEmptyChanged b)
  | heaterCoverLevelChange b =>
    exact hs.fine_whenPowered h (fine_sensed hf fun hp => hp.conclude_flows fun k => k.heaterCoverChanged b)
  | highLevelSwitchChange b =>
    exact hs.fine_whenPowered h (fine_sensed hf fun hp => hp.concludeFill (fun k => k.highLevelChanged b) _)
  | floodSwitchChange b =>
    exact hs.fine_whenPowered h (fine_ite (fun _ => hf.onPins _) fun _ =>
      have hp := hf.onPins fun p => { p with flood := b }
      hp.wakes .flood (fun _ hl => hl.floodChanged b) (hp.sure.ripe_floodChanged b))
  | floodRunOnExpiry =>
    refine hs.fine_whenPowered h ?_
    split
    · exact fine_conclude hs.ripe_runOnOver
    · exact hf
  | leakDrainExpiry =>
    refine hs.fine_whenPowered h ?_
    split
    · exact hf.conclude_flows fun k => k.onWpc _
    · exact hf
  | drainBurstExpiry =>
    refine hs.fine_whenPowered h ?_
    split
    · next hb => exact hf.burstEnds (by simp [hb])
    · exact hf
  | fillLimitExpiry =>
    refine hs.fine_whenPowered h ?_
    split
    · next hq =>
      exact fine_ite (fun _ => hf) fun _ => hf.conclude_flows fun k => k.endFill (fun p hp => by rw [Option.mem_unique hp hq]) _
    · exact hf
  | drainRunOnExpiry =>
    refine hs.fine_whenPowered h ?_
    split
    · exact hf.conclude_flows fun k => (k.onWpc _).report _
    · exact hf
  | drainAttemptLimit =>
    refine hs.fine_whenPowered h ?_
    split
    · exact hf.conclude_flows fun k => k.onWpc _
    · exact hf.conclude_flows Flows.drainBlocked
    · exact hf
  | drainPauseExpiry =>
    refine hs.fine_whenPowered h ?_
    split
    · exact hf.conclude_flows fun k => k.onWpc _
    · exact hf
  | holdTimerExpiry =>
    refine hs.fine_whenPowered h ?_
    split
    · exact fine_ite_self hf fun hr => fine_conclude (hs.ripe_endCirculate _ hr)
    · exact hf
  | settlingTimerExpiry =>
    exact hs.fine_whenPowered h (fine_ite_self hf fun ⟨hx, _⟩ => fine_conclude (hs.ripe_resume hx (hw (.inl hx))))
  | waterWaitExpiry =>
    refine hs.fine_whenPowered h ?_
    split
    · exact fine_ite_self hf fun hx => fine_conclude (hs.ripe_continueFill _ hx)
    · exact hf
  | drainExtensionExpiry =>
    exact hs.fine_whenPowered h (fine_ite_self hf fun hc => fine_conclude (hs.ripe_endDrain (Bool.and_eq_true_iff.mp hc).1))
  | saltLidSwitchChange b =>
    exact hs.fine_whenPowered h (fine_sensed hf fun hp => hp.wakes .saltLid
      (fun _ hl => hl.flows ((Flows.refl hl.mid.inlet).lidChanged b)) (hp.sure.ripe_flows ((Flows.refl hp.sure.mid.inlet).lidChanged b)))
  | saltLowSwitchChange b =>
    exact hs.fine_whenPowered h (fine_sensed hf fun hp => hp.idles ((Idles.refl _).saltLowChanged b).finish)
  | brineStageTimeLimit =>
    refine hs.fine_whenPowered h ?_
    split
    · next hd _ => exact hf.conclude_flows fun k => k.brineTimedOut _ hd
    · exact hf
  | rinseStageTimeLimit =>
    refine hs.fine_whenPowered h ?_
    split
    · next hd _ => exact hf.conclude_flows fun k => k.rinseTimedOut _ hd
    · exact hf
  | regenDwellExpiry => exact hs.fine_whenPowered h (fine_ite_self hf fun hd => hf.conclude_flows fun k => k.dwellOver hd)
  | columnValveConfirmation p =>
    refine hs.fine_whenPowered h (fine_ite_self hf fun _ => ?_)
    split
    · exact fine_ite_self hf fun _ => (hf.conclude_flows fun k => k.valveConfirmed _).noted _
    · exact fine_ite_self hf fun _ => hf.idles ((Idles.refl s).onSfu _)
  | columnValveMoveTimeout =>
    refine hs.fine_whenPowered h ?_
    split
    · exact fine_ite (fun _ => hf) fun _ => hf.conclude_flows fun k => k.valveFailed _
    · exact hf
  | gatherWindowExpiry => exact hs.fine_whenPowered h (fine_ite_self hf fun _ => hf.conclude_flows Flows.windowCloses)
  | selectorPositionReport p => exact hs.fine_whenPowered h (fine_ite_self hf fun _ => hf.concludeSelector p)
  | selectorMoveTimeout =>
    refine hs.fine_whenPowered h ?_
    split
    · exact fine_ite (fun _ => hf) fun _ => hf.conclude_flows fun k => k.selectorFailed _
    · exact hf
  | strokeConfirmationPulse =>
    refine hs.fine_whenPowered h ?_
    split
    · exact hf.conclude_flows fun k => .ite (fun _ => k.countConfirmed _) fun _ => k.strokeConfirmed _
    · exact hf
  | strokeTimeout =>
    refine hs.fine_whenPowered h ?_
    split
    · exact hf.conclude_flows fun k => .ite (fun _ => k.countMissed _) fun _ => k.strokeMissed _
    · exact hf
  | lowSwitchChange ch b =>
    exact hs.fine_whenPowered h (fine_sensed hf fun hp => hp.idles ((Idles.refl _).lowSwitchChanged ch b).finish)
  | capSwitchChange ch b =>
    refine hs.fine_whenPowered h (fine_ite (fun ⟨hx, _⟩ => ?_) fun _ => fine_sensed hf fun hp =>
      hp.idles ((Idles.refl _).capSwitchChanged ch b).finish)
    have hp := hf.onPins fun p => { p with capOpen := perChannelSet p.capOpen ch b }
    have hl := (hp.sure.lone (by rw [hx]; simp)).wake (.cap ch)
    exact fine_conclude (hl.flows ((Flows.refl hl.mid.inlet).capSwitchChanged ch b)).ripe
  | sumpTemperatureChange q =>
    exact hs.fine_whenPowered h (fine_sensed hf fun hp => hp.conclude_flows fun k => k.temperatureChanged _)
  | sensorIndication d => exact hs.fine_whenPowered h (fine_sensed hf fun hp => hp.conclude_flows fun k => k.sensorFails d)
  | sensorRecovery q =>
    exact hs.fine_whenPowered h (fine_sensed hf fun hp => hp.conclude_flows fun k => k.sensorRecovers _)
  | heatLimitExpiry =>
    refine hs.fine_whenPowered h ?_
    split
    · exact fine_ite_self hf fun _ => hf.conclude_flows fun k => k.heatExpires _
    · exact hf
  | pressureSwitchChange b =>
    exact hs.fine_whenPowered h (fine_sensed hf fun hp => hp.conclude_flows fun k => k.pressureChanged b)
  | lowTimerExpiry =>
    exact hs.fine_whenPowered h (fine_ite_self hf fun _ => hf.conclude_flows fun k => ((k.onCzs _).report _).countLoss)
  | slotTimeExpiry =>
    exact hs.fine_whenPowered h (fine_ite (fun _ => hf.conclude_flows fun k => (k.onCzs _).nextSlot) fun _ =>
      fine_ite_self hf fun _ => hf.idles ((Idles.refl s).onCzs _))
  | diverterPositionReport z => exact hs.fine_whenPowered h (fine_ite_self hf fun _ => hf.concludeDiverter z)
  | diverterMoveTimeout =>
    refine hs.fine_whenPowered h ?_
    split
    · exact fine_ite (fun _ => hf) fun _ => hf.conclude_flows fun k => k.diverterFailed _
    · exact hf
  | armRotationPulse a => exact hs.fine_whenPowered h (fine_ite_self hf fun _ => hf.idles ((Idles.refl s).onCzs _))
  | armTimerExpiry a => exact hs.fine_whenPowered h (fine_ite_self hf fun _ => hf.conclude_flows fun k => k.armStalled a)
  | doorSwitchChange b =>
    exact hs.fine_whenPowered h (fine_sensed hf fun hp => hp.wakes .door (fun _ hl => hl.airs ((Airs.refl _).doorChanged b))
      (hp.sure.ripe_airs ((Airs.refl _).doorChanged b)))
  | actuatorEncoderEdge b =>
    exact hs.fine_whenPowered h (fine_ite_self hf fun _ => (hf.conclude_airs ((Airs.refl s).encoderEdge b)).noted _)
  | homeSwitchChange b =>
    exact hs.fine_whenPowered h (fine_sensed hf fun hp => hp.conclude_airs (Airs.refl _).homeReached)
  | stallTimerExpiry =>
    exact hs.fine_whenPowered h (fine_ite (fun _ => hf.noted _) fun _ => fine_ite_self hf fun _ =>
      hf.conclude_airs (Airs.refl s).driveStalls)
  | dryingDwellExpiry =>
    exact hs.fine_whenPowered h (fine_ite_self hf fun _ => hf.conclude_airs ((Airs.refl s).onDdu _).dwellEnds)
  | coolWaitExpiry =>
    exact hs.fine_whenPowered h (fine_ite_self hf fun _ => hf.conclude_airs ((Airs.refl s).onDdu _).enterOpening)
  | retryPauseExpiry =>
    exact hs.fine_whenPowered h (fine_ite_self hf fun _ => hf.conclude_airs (((Airs.refl s).onDdu _).onDdu _))
  | openTimeExpiry => exact hs.fine_whenPowered h (fine_ite_self hf fun _ => hf.conclude_airs (Airs.refl s).openTimeEnds)

theorem waterKept_exec {c : Instr} (hs : Sound s) (h : exec c s = .next t) : GrantsAgree t ∧ WaterKept t
    ∧ ((s.part.powered = true → s.part.state = .ready → WaterRests s) → t.part.powered = true → t.part.state = .ready → WaterRests t) := by
  obtain ⟨-, -, -, -, ⟨-, -, -, -, -, hw, -⟩, -⟩ := id hs
  have hf := fine_exec h (sure_of_sound hs) hw
  refine ⟨hf.sure.grants, hf.sure.water, fun hr hp hx => ?_⟩
  by_cases hq : s.part.powered = true
  · exact hf.rest (hr hq) hx
  · by_cases hc : ∀ p, c ≠ .powerOn p
    · rw [exec_unpowered (by simpa using hq) h hc] at hp
      exact absurd hp hq
    · obtain ⟨pins, hc⟩ := not_forall.mp hc
      obtain rfl := not_not.mp hc
      cases h
      obtain ⟨u, hu, he⟩ := lone_resetPart pins s
      rw [he] at hx ⊢
      exact (Idles.refl (settle u)).finish.rest hu.ripe.rest hx

/-- Settles O54: what a command leads to is ripe to be settled, or leaves alone what the water path depends on; and settling keeps the
agreement of inlet, engine and sequencer between the reports it takes, to end with the water path at rest. -/
theorem grantsAgreeIsKept : Obligations.GrantsAgreeIsKept := by
  unfold Obligations.GrantsAgreeIsKept
  intro s t hs h
  unfold step at h
  split at h
  · cases h
    obtain ⟨h1, h2, -⟩ := id hs
    exact ⟨h1, h2, fun hr => hr⟩
  · next c l hc => exact waterKept_exec (s := { s with pending := l }) hs h

end Sys2Proof.Proofs
end


section
/-! PROOFS. With the inlet inhibited and closed every report that the sequencer takes leaves it closed; the reports behind it wait
their turn, a FAULTED sequencer holds a code, and the notice of the wake stays (R26, R38, R51, R197). -/

/- One theorem at a time, as the tests have it: proofs that wait for the kernel cost a thread each. -/
set_option Elab.async false

namespace Sys2Proof.Proofs

open Sys2Proof.Machine
open Sys2Proof.Safety

/-- The inlet is inhibited, closed and without holder (R51). -/
structure Sealed (s : State) : Prop where
  inhibit : s.wpc.inhibit = true
  holder : s.wpc.holder = .none
  inlet : s.wpc.inletValve = false
  brine : s.wpc.brineValve = false

/-- From `s` to `t` the part state stands, a sealed inlet stays sealed, a sequencer that comes to be FAULTED holds a code, and a WAKE
notice stands. -/
structure Guards (s t : State) : Prop where
  sealed : Sealed s → Sealed t
  part : t.part.state = s.part.state
  held : t.seq.state = .faulted → s.seq.state = .faulted ∨ t.seq.fault.isSome = true
  kept : s.seq.fault.isSome = true → t.seq.fault.isSome = true
  noted : ∀ c, noticeCode c = 2 → notified c s = true → notified c t = true

/-- So it is, and the reports have grown. -/
structure Seals (s t : State) : Prop extends Guards s t where
  grown : s.reports <+: t.reports

theorem Guards.refl (s : State) : Guards s s := ⟨id, rfl, .inl, id, fun _ _ => id⟩

theorem Guards.trans {s t u : State} (h : Guards s t) (k : Guards t u) : Guards s u where
  sealed := k.sealed ∘ h.sealed
  part := k.part.trans h.part
  held := fun hx => (k.held hx).elim (fun hx => (h.held hx).imp_right k.kept) .inr
  kept := k.kept ∘ h.kept
  noted := fun c hc => k.noted c hc ∘ h.noted c hc

/-! ## The inlet's operations -/

namespace Sealed

variable {s t : State}

theorem congr (h : Sealed s) (k : t.wpc = s.wpc) : Sealed t := by
  obtain ⟨h1, h2, h3, h4⟩ := h
  exact ⟨by rw [k, h1], by rw [k, h2], by rw [k, h3], by rw [k, h4]⟩

theorem not_mayFlow (h : Sealed s) : regenMayFlow s = false := by simp [regenMayFlow, h.inhibit]

theorem endFill (h : Sealed s) (r : FillEnd) : Sealed (endFill r s) := by
  have hb : ∀ {u : State}, Sealed u → Sealed (startBurst u) := fun {u} hu => by
    unfold startBurst
    split
    · exact ⟨hu.inhibit, hu.holder, hu.inlet, hu.brine⟩
    · exact hu
  unfold Machine.endFill
  split
  · exact h
  · next q _ =>
    have hc : Sealed (startBurst (closeInlet (onWpc (fun w => { w with fill := none })
      (report (.fillEnded q.kind r s.wpc.grantCount) s)))) := hb ⟨h.inhibit, rfl, rfl, rfl⟩
    cases hk : q.kind with
    | main => rw [hk] at hc; exact hc
    | topUp => rw [hk] at hc; exact hc.congr (Serves.refl _).endTopUp.wpc

theorem withdrawFill (h : Sealed s) : Sealed (withdrawFill s) := by
  unfold Machine.withdrawFill
  split
  · exact h
  · split
    · exact h.endFill _
    · exact ⟨h.inhibit, h.holder, h.inlet, h.brine⟩

/-- A FILL request that meets the inhibit is refused (R38). -/
theorem offerFill (h : Sealed s) (q : FillReq) : Sealed (offerFill q s) := by
  rw [Machine.offerFill, if_pos h.inhibit]
  exact ⟨h.inhibit, h.holder, h.inlet, h.brine⟩

theorem placeFill (h : Sealed s) (n : Nat) (k : FillKind) : Sealed (placeFill n k s) := h.withdrawFill.offerFill _

theorem revokeRegen (h : Sealed s) : revokeRegen s = s := by rw [Machine.revokeRegen, h.holder]

theorem waterSettle (h : Sealed s) : Sealed (waterSettle s) := by
  have hp : ∀ {u : State}, Sealed u → Sealed (refreshPump u) := fun hu => ⟨hu.inhibit, hu.holder, hu.inlet, hu.brine⟩
  have hg : Sealed (grantDeferred s) := by
    unfold grantDeferred
    split
    · split
      · exact h.offerFill _
      · exact h
    · exact h
  have he : ∀ {u : State}, Sealed u → Sealed (effluentMeetsDrain u) := fun {u} hu => by
    unfold effluentMeetsDrain
    split
    · exact Sealed.congr (s := withdrawBurst u) ⟨hu.inhibit, hu.holder, hu.inlet, hu.brine⟩ (finishRegen_keeps _).1
    · exact hu
  have hr : ∀ {u : State}, Sealed u → Sealed (revokeUnlessFlows u) := fun {u} hu => by
    unfold revokeUnlessFlows
    rw [hu.revokeRegen, ite_self]
    exact hu
  have ho : ∀ {u : State}, Sealed u → Sealed (handOver u) := fun {u} hu => by
    unfold handOver
    split
    · exact hu
    · split
      · simp only [takeColumn]
        split <;> exact ⟨hu.inhibit, hu.holder, hu.inlet, hu.brine⟩
      · exact hu
  have hn : ∀ {u : State}, Sealed u → Sealed (grantRegen u) := fun {u} hu => by
    have hx : regenGrantable u = false := by simp [regenGrantable, hu.not_mayFlow]
    unfold grantRegen
    split
    · rw [hx]; exact hu
    · rw [hx]; exact hu
    · exact hu
  exact hn (ho (hp (hr (hp (he (hp hg))))))

end Sealed

namespace Seals

variable {s t u a b : State}

theorem refl (s : State) : Seals s s := ⟨.refl s, List.prefix_refl _⟩

theorem trans (h : Seals s t) (k : Seals t u) : Seals s u := ⟨h.toGuards.trans k.toGuards, h.grown.trans k.grown⟩

theorem ite {c : Prop} [Decidable c] (ha : c → Seals s a) (hb : ¬ c → Seals s b) : Seals s (if c then a else b) := by
  split
  · exact ha ‹_›
  · exact hb ‹_›

/-! ## Updates of one block -/

/-- The sequencer stands in state and fault. -/
theorem of_same (h : Seals s t) (hs : Sealed t → Sealed u) (hp : u.part.state = t.part.state) (hg : t.reports <+: u.reports)
    (h1 : u.seq.state = t.seq.state) (h2 : u.seq.fault = t.seq.fault)
    (hn : ∀ c, noticeCode c = 2 → notified c t = true → notified c u = true) : Seals s u :=
  h.trans ⟨⟨hs, hp, fun hx => .inl (h1.symm.trans hx), by rw [h2]; exact id, hn⟩, hg⟩

theorem wets (h : Seals s t) (k : Wets t u) (hs : Sealed t → Sealed u) (hg : t.reports <+: u.reports) : Seals s u :=
  h.of_same hs (by rw [k.part]) hg k.state (by rw [k.seq]) fun c hc => k.noted c (by simp [hc, engineNotices])

theorem bides (h : Seals s t) (k : Bides t u) (hg : t.reports <+: u.reports) : Seals s u :=
  h.of_same (·.congr k.wpc) (by rw [k.part]) hg k.state (by rw [k.seq]) fun c hc => k.noted c (by simp [hc, serviceNotices])

theorem dries (h : Seals s t) (k : Dries t u) (hg : t.reports <+: u.reports) : Seals s u :=
  h.of_same (·.congr (by rw [k.rest])) (by rw [k.part]) hg (by rw [k.rest]) (by rw [k.rest]) fun c hc => k.noted c (by simp [hc])

theorem onHtc (h : Seals s t) (f : Htc → Htc) : Seals s (onHtc f t) :=
  h.of_same (·.congr rfl) rfl (List.prefix_refl _) rfl rfl fun _ _ => id

theorem onCzs (h : Seals s t) (f : Czs → Czs) : Seals s (onCzs f t) :=
  h.of_same (·.congr rfl) rfl (List.prefix_refl _) rfl rfl fun _ _ => id

theorem onRst (h : Seals s t) (f : Rst → Rst) : Seals s (onRst f t) :=
  h.of_same (·.congr rfl) rfl (List.prefix_refl _) rfl rfl fun _ _ => id

theorem raiseNotice (h : Seals s t) (c : Content) (hc : noticeCode c ≠ 2 := by simp [noticeCode]) : Seals s (raiseNotice c t) :=
  h.of_same (·.congr (by rw [raiseNotice_rest])) (by rw [raiseNotice_rest]) (by rw [raiseNotice_rest]) (by rw [raiseNotice_rest])
    (by rw [raiseNotice_rest]) fun d hd => notified_raiseNotice_ne (by rw [hd]; exact hc.symm)

theorem raiseFault (h : Seals s t) (c : FaultCode) (d1 d2 : Detail) : Seals s (raiseFault c d1 d2 t) := by
  unfold Machine.raiseFault enterFault
  exact (((h.onRst _).onRst _).raiseNotice _).of_same (·.congr rfl) rfl (List.prefix_refl _) rfl rfl fun _ _ => id

/-- A change of the sequencer that leaves it outside FAULTED, or FAULTED with a code. -/
theorem onSeq (h : Seals s t) (f : Seq → Seq)
    (hf : (f t.seq).state = .faulted → t.seq.state = .faulted ∨ (f t.seq).fault.isSome = true := by first | exact .inl | exact nofun)
    (hk : t.seq.fault.isSome = true → (f t.seq).fault.isSome = true := by exact id) : Seals s (onSeq f t) :=
  h.trans ⟨⟨(·.congr rfl), rfl, hf, hk, fun _ _ => id⟩, List.prefix_refl _⟩

theorem seqTo (h : Seals s t) (st : SeqState) (b : SubStage) (hf : st = .faulted → t.seq.fault.isSome = true := by exact nofun) :
    Seals s (seqTo st b t) := h.onSeq _ (.inr ∘ hf)

/-- The drain requests are beside the inlet. -/
theorem placeDrain (h : Seals s t) : Seals s (placeDrain t) :=
  h.of_same (fun hs => ⟨hs.inhibit, hs.holder, hs.inlet, hs.brine⟩) rfl (List.prefix_refl _) rfl rfl fun _ _ => id

theorem dropDrain (h : Seals s t) : Seals s (dropDrain t) :=
  h.of_same (fun hs => ⟨hs.inhibit, hs.holder, hs.inlet, hs.brine⟩) rfl (List.prefix_refl _) rfl rfl fun _ _ => id

/-! ## The inlet and the fill record -/

theorem appended (h : Appends s t) : s.reports <+: t.reports := by
  obtain ⟨l, hl, -⟩ := h
  exact ⟨l, hl.symm⟩

theorem withdrawFill (h : Seals s t) : Seals s (withdrawFill t) := by
  refine h.wets (Wets.refl t).withdrawFill (·.withdrawFill) (appended ?_)
  unfold Machine.withdrawFill
  split
  · exact .of_eq rfl
  · exact .ite (fun _ => .endFill _ _) fun _ => .of_eq rfl

theorem placeFill (h : Seals s t) (n : Nat) (k : FillKind) : Seals s (placeFill n k t) :=
  h.withdrawFill.wets ((Wets.refl _).offerFill _) (·.offerFill _) (appended (.offerFill _ _))

theorem waterSettle (h : Seals s t) : Seals s (waterSettle t) :=
  h.wets (Wets.refl t).waterSettle (·.waterSettle) (appended (.waterSettle t))

theorem closeFill (h : Seals s t) : Seals s (closeFill t) := by
  obtain ⟨k1, -, k3, -⟩ := closeFill_keeps t
  exact h.wets (Wets.refl t).closeFill (·.congr k1) (by rw [k3])

theorem openFill (h : Seals s t) : Seals s (openFill t) :=
  h.closeFill.of_same (·.congr rfl) rfl (List.prefix_refl _) rfl rfl fun _ _ => id

/-! ## Heater, circulation and dosing -/

theorem withdrawHeat (h : Seals s t) : Seals s (withdrawHeat t) :=
  h.bides (Bides.refl t).withdrawHeat (by rw [withdrawHeat_reports])

theorem runCirculation (h : Seals s t) (w : WashRecord) : Seals s (runCirculation w t) :=
  h.bides ((Bides.refl t).runCirculation w) (by rw [runCirculation_reports])

theorem stopCirculation (h : Seals s t) : Seals s (stopCirculation t) :=
  h.bides (Bides.refl t).stopCirculation (by rw [(stopCirculation_rest t).1])

theorem placeDoses (h : Seals s t) (w : WashRecord) (l : List DoseRef) : Seals s (placeDoses w l t) :=
  h.bides ((Bides.refl t).placeDoses w l) (by rw [placeDoses_reports])

theorem placeHeating_grown (n l : Nat) (s : State) : s.reports <+: (placeHeating n l s).reports := by
  have hr : ∀ (u : State) (r : Report), u.reports <+: (report r u).reports := fun u r => List.prefix_append _ _
  unfold placeHeating
  dsimp only
  split
  · exact hr _ _
  · split
    · exact hr _ _
    · split
      · unfold heatExpires
        have hx := hr (toRegulating (Machine.raiseNotice (.heatTimeout
          (Machine.onHtc (fun h => { h with limitLeft := 0 }) (Machine.onHtc (fun h => { h with
            request := some ⟨n, true⟩, limitLeft := l, demand := belowTarget s n }) s)).seq.idx n
          (Machine.onHtc (fun h => { h with limitLeft := 0 }) (Machine.onHtc (fun h => { h with
            request := some ⟨n, true⟩, limitLeft := l, demand := belowTarget s n }) s)).htc.temp)
          (Machine.onHtc (fun h => { h with limitLeft := 0 }) (Machine.onHtc (fun h => { h with
            request := some ⟨n, true⟩, limitLeft := l, demand := belowTarget s n }) s)))) .heatLimitExpired
        rw [toRegulating, Laws.onHtc_reports, raiseNotice_reports] at hx
        exact hx
      · exact List.prefix_refl _

theorem placeHeating (h : Seals s t) (n l : Nat) : Seals s (placeHeating n l t) :=
  h.bides ((Bides.refl t).placeHeating n l) (placeHeating_grown n l t)

theorem reportDose_grown (r : DoseReq) (o : DoseOutcome) (w : Option DoseReason) (s : State) :
    s.reports <+: (reportDose r o w s).reports := by
  unfold reportDose
  cases r.origin <;> cases o <;> simp [askWrite, raiseNotice_reports, report]

theorem foldl_reportDose_grown (o : DoseOutcome) (w : Option DoseReason) (l : List DoseReq) (s : State) :
    s.reports <+: (l.foldl (fun s r => reportDose r o w s) s).reports := by
  induction l generalizing s with
  | nil => exact List.prefix_refl _
  | cons r l ih => exact (reportDose_grown r o w s).trans (ih _)

theorem serve_grown (n : Nat) (s : State) : s.reports <+: (serve n s).reports := by
  have he : ∀ (u : State) (ch : Channel), (setEmpty ch true u).reports = u.reports := fun u ch => by
    unfold setEmpty
    split <;> rfl
  induction n generalizing s with
  | zero => exact List.prefix_refl _
  | succ n ih =>
    unfold serve
    split
    · exact List.prefix_refl _
    · split
      · split
        · exact List.prefix_refl _
        · exact ih (formBatch s)
      · split
        · exact List.prefix_refl _
        · dsimp only
          split
          · exact (reportDose_grown _ _ _ (Machine.onDsu (fun d => { d with batch := d.batch.tail })
              (Machine.onDsu (fun d => { d with state := .serving }) s))).trans (ih _)
          · split
            · exact List.prefix_refl _
            · split
              · exact List.prefix_refl _
              · split
                · refine List.IsPrefix.trans ?_ (ih _)
                  refine List.IsPrefix.trans ?_ (reportDose_grown _ _ _ _)
                  rw [Laws.onDsu_reports, he]
                  exact List.prefix_refl _
                · exact List.prefix_refl _

theorem pauseDosing (h : Seals s t) : Seals s (pauseDosing t) := by
  refine h.bides (Bides.refl t).pauseDosing ?_
  unfold Machine.pauseDosing
  dsimp only
  split
  · exact serve_grown 16 (Machine.onDsu (fun d => { d with pause := true }) t)
  · exact List.prefix_refl _

theorem cancelSequencerDoses (h : Seals s t) : Seals s (cancelSequencerDoses t) := by
  refine h.bides (Bides.refl t).cancelSequencerDoses ?_
  have hc : ∀ (f : Dsu → Dsu) (l : List DoseReq), t.reports <+: (l.foldl (fun s r => reportDose r .cancelled none s)
      (Machine.onDsu f t)).reports := fun f l => foldl_reportDose_grown _ _ _ (Machine.onDsu f t)
  unfold Machine.cancelSequencerDoses cancelWhere
  split
  · unfold cancelFound
    dsimp only
    split
    · split
      · exact hc _ _
      · exact hc _ _
    · split
      · exact hc _ _
      · exact (hc _ _).trans (serve_grown 16 _)
  · exact List.prefix_refl _

/-! ## Drying -/

theorem endDrying (h : Seals s t) : Seals s (endDrying t) :=
  h.dries (Dries.refl t).endDrying (Airs.refl t).endDrying.prefixed

theorem startDrying (h : Seals s t) (p : DryStart) : Seals s (startDrying p t) := by
  have he : Dries t (if t.ddu.awaited then Machine.endDrying t else t) := .ite (fun _ => (Dries.refl t).endDrying) fun _ => .refl t
  exact h.dries (.ite (fun _ => he.onDdu _) fun _ => he.takeStart _) ((Airs.refl t).startDrying p).prefixed

/-! ## The sequencer -/

theorem marked (h : Seals s t) (p : Phase) : Seals s (marked p t) := by
  unfold Proofs.marked
  exact (((h.onSeq fun q => phaseMarks q).raiseNotice _).onHtc _).onCzs _

theorem beginFill (h : Seals s t) (w : WashRecord) : Seals s (beginFill w t) :=
  ((h.onSeq fun q => { q with fillBegun := true }).openFill).placeFill _ _

theorem enterPhase (h : Seals s t) : Seals s (enterPhase t) := by
  cases hc : currentPhase t with
  | none => simpa [Machine.enterPhase, hc] using h
  | some p =>
    cases p with
    | dry d o =>
      rw [enterPhase_dry hc]
      exact ((h.marked _).seqTo _ _).startDrying _
    | wash k w =>
      cases hd : t.ddu.doorOpen with
      | true =>
        rw [enterPhase_suspended hc hd]
        exact ((h.marked _).seqTo _ _).onSeq _
      | false =>
        rw [enterPhase_fill hc hd]
        exact ((h.marked _).seqTo _ _).beginFill w

theorem enterNext (h : Seals s t) : Seals s (enterNext t) := (h.onSeq _).enterPhase

theorem endPhase (h : Seals s t) : Seals s (endPhase t) := by
  have h : Seals s (phaseEndRaised t) := by
    unfold phaseEndRaised
    split
    · exact h.raiseNotice _
    · exact h
  rw [endPhase_eq]
  exact .ite (fun _ => ((h.onSeq _).onSeq _).raiseNotice _) fun _ =>
    .ite (fun _ => (h.onSeq _).raiseNotice _) fun _ => h.enterNext

theorem endDrain (h : Seals s t) : Seals s (endDrain t) := (h.onSeq _).dropDrain.endPhase

theorem endCirculate (h : Seals s t) (w : WashRecord) : Seals s (endCirculate w t) := by
  have hs := h.withdrawHeat.withdrawFill.stopCirculation
  have hs : Seals s (if w.sample then Machine.onSeq (fun q => { q with
      soil := soilOf (transmission (Machine.stopCirculation (Machine.withdrawFill (Machine.withdrawHeat t))).pins.turbidity) })
      (Machine.stopCirculation (Machine.withdrawFill (Machine.withdrawHeat t)))
      else Machine.stopCirculation (Machine.withdrawFill (Machine.withdrawHeat t))) := .ite (fun _ => hs.onSeq _) fun _ => hs
  exact .ite (fun _ => (hs.seqTo _ _).placeDrain) fun _ => hs.endPhase

theorem enterCirculate (h : Seals s t) (w : WashRecord) : Seals s (enterCirculate w t) :=
  .ite (fun _ => ((h.seqTo _ _).onSeq _).endCirculate w) fun _ => ((h.seqTo _ _).onSeq _).runCirculation w

theorem enterHeat (h : Seals s t) (w : WashRecord) : Seals s (enterHeat w t) :=
  .ite (fun _ => ((h.seqTo _ _).runCirculation w).placeHeating _ _) fun _ => h.enterCirculate w

theorem enterDose (h : Seals s t) (w : WashRecord) : Seals s (enterDose w t) := by
  have hd := ((h.seqTo .running .dose).runCirculation w).placeDoses w w.refs
  exact .ite (fun _ => h.enterHeat w) fun _ => .ite (fun _ => hd.enterHeat w) fun _ => hd

theorem programEnd (h : Seals s t) : Seals s (programEnd t) := h.raiseNotice _

theorem holdCode (h : Seals s t) (c : FaultCode) : Seals s (holdCode c t) :=
  h.onSeq _ .inl fun hx => by cases hf : t.seq.fault <;> simp

theorem setOutcome (h : Seals s t) (o : Outcome) : Seals s (setOutcome o t) := h.onSeq _

theorem enterEnding (h : Seals s t) : Seals s (enterEnding t) := (h.seqTo _ _).placeDrain

theorem enterFaulted (h : Seals s t) (hf : t.seq.fault.isSome = true) : Seals s (enterFaulted t) :=
  (h.seqTo _ _ fun _ => hf).programEnd

theorem holdCode_isSome (c : FaultCode) (s : State) : (Machine.holdCode c s).seq.fault.isSome = true := by
  unfold Machine.holdCode
  cases hf : s.seq.fault <;> simp [hf]

theorem stopProgram (h : Seals s t) : Seals s (stopProgram t) := by
  have hs := h.withdrawHeat.withdrawFill.closeFill.cancelSequencerDoses.stopCirculation
  unfold Machine.stopProgram
  exact .onSeq (.ite (fun _ => hs.dropDrain) fun _ => hs) _

theorem programFault (h : Seals s t) (c : FaultCode) : Seals s (programFault c t) := by
  have hr : Seals s (if runningIn t .dry then
      Machine.enterFaulted (Machine.setOutcome .faulted (Machine.holdCode c
        (Machine.onSeq (fun q => { q with holdPending := false }) (Machine.endDrying t))))
    else if drainsAfter c then Machine.enterEnding (Machine.setOutcome .faulted (Machine.holdCode c (Machine.stopProgram t)))
      else Machine.enterFaulted (Machine.setOutcome .faulted (Machine.holdCode c (Machine.stopProgram t)))) :=
    .ite (fun _ => (((h.endDrying.onSeq _).holdCode c).setOutcome _).enterFaulted (holdCode_isSome _ _)) fun _ =>
      .ite (fun _ => ((h.stopProgram.holdCode c).setOutcome _).enterEnding) fun _ =>
        ((h.stopProgram.holdCode c).setOutcome _).enterFaulted (holdCode_isSome _ _)
  have hi : Seals s (Machine.holdCode c (Machine.seqTo .faulted .none t)) := h.onSeq
    (fun q => { q with state := .faulted, sub := .none, fault := q.fault.orElse fun _ => some c })
    (fun _ => .inr (by cases hf : t.seq.fault <;> simp)) fun hx => by cases hf : t.seq.fault <;> simp
  unfold Machine.programFault
  split
  · exact hi
  · exact hi
  · exact hr
  · exact hr
  · exact hr
  · exact hr
  · exact .ite (fun _ => (h.holdCode c).setOutcome _) fun _ =>
      ((h.holdCode c).setOutcome _).dropDrain.enterFaulted (holdCode_isSome _ _)
  · exact h

theorem fillEnded (h : Seals s t) (k : FillKind) (r : FillEnd) : Seals s (fillEnded k r t) := by
  unfold Machine.fillEnded
  split
  · next w _ =>
    refine .ite (fun _ => ?_) fun _ => h
    split
    · exact h.closeFill.enterDose w
    · exact h.closeFill.enterDose w
    · have hl := h.onSeq fun q => { q with fillTimeouts := q.fillTimeouts + 1 }
      exact .ite (fun _ => (hl.onSeq _).raiseNotice _) fun _ => (hl.raiseFault _ _ _).programFault _
    · exact h
    · exact h
  · exact h

theorem drainEnded (h : Seals s t) : Seals s (drainEnded t) := by
  refine .ite (fun _ => .ite (fun _ => h.onSeq _) fun _ => h.endDrain) fun _ => .ite (fun _ => ?_) fun _ => h.dropDrain
  by_cases hf : (Machine.dropDrain t).seq.fault.isSome = true
  · simp only [hf, if_true]
    exact h.dropDrain.enterFaulted hf
  · simp only [hf]
    exact ((h.dropDrain.seqTo _ _).setOutcome _).programEnd

theorem doseEnded (h : Seals s t) (n : Nat) : Seals s (doseEnded n t) := by
  have h := h.onSeq fun q => { q with placed := q.placed.erase n }
  simp only [Machine.doseEnded]
  split
  · exact .ite (fun _ => h.enterHeat _) fun _ => h
  · exact h

theorem heatEnded (h : Seals s t) : Seals s (heatEnded t) := by
  unfold Machine.heatEnded
  split
  · exact .ite (fun _ => h.enterCirculate _) fun _ => h
  · exact h

theorem sensorFailedToSeq (h : Seals s t) : Seals s (sensorFailedToSeq t) := by
  have h := h.onSeq fun q => { q with heaterOff := true }
  simp only [Machine.sensorFailedToSeq]
  split
  · exact .ite (fun _ => h.withdrawHeat.enterCirculate _) fun _ => h
  · exact h

theorem suspend (h : Seals s t) : Seals s (suspend t) := by
  have h : Seals s (suspendedOnly t) := (h.onSeq _).withdrawFill.withdrawHeat.stopCirculation
  rw [suspend_eq]
  split
  · exact h.pauseDosing
  · exact (h.onSeq _).dropDrain
  all_goals exact h

theorem doorOpenedToSeq (h : Seals s t) : Seals s (doorOpenedToSeq t) := by
  unfold Machine.doorOpenedToSeq
  split
  · exact .ite (fun _ => h) fun _ => h.suspend
  · exact h.onSeq _
  · exact h.onSeq _
  all_goals exact h

/-- Whatever the sequencer hears. -/
theorem takeReport (h : Seals s t) (r : Report) : Seals s (takeReport r t) := by
  cases r with
  | fillEnded k e n => exact h.fillEnded k e
  | fillRefused => exact .ite (fun _ => h.programFault _) fun _ => h
  | drainEnded => exact h.drainEnded
  | programFault c => exact h.programFault c
  | targetReached => exact h.heatEnded
  | heatLimitExpired => exact h.heatEnded
  | heatDisabled => exact h.heatEnded
  | sensorFailed => exact h.sensorFailedToSeq
  | doseEnded n => exact h.doseEnded n
  | pressureLow => exact .ite (fun _ => (h.onSeq _).placeFill _ _) fun _ => h
  | doorOpened => exact h.doorOpenedToSeq
  | doorClosed => exact .ite (fun _ => h.onSeq _) fun _ => h
  | dryingDone o => exact .ite (fun _ => h.endPhase) fun _ => h
  | engineLeft => exact .ite (fun _ => h.endDrain) fun _ => h
  | linkLost => exact .ite (fun _ => (h.onSeq _).enterNext) fun _ => h.onSeq _

end Seals

/-- The reports are taken, whatever they are. -/
theorem Guards.takeReports {s t : State} (h : Guards s t) (n : Nat) : Guards s (takeReports n t) := by
  have hd : ∀ (u : State) (l : List Report), Guards u (Machine.onReports (fun _ => l) u) := fun u l =>
    ⟨(·.congr rfl), rfl, .inl, id, fun _ _ => id⟩
  induction n generalizing t with
  | zero => exact h.trans (hd _ _)
  | succ n ih =>
    unfold Machine.takeReports
    split
    · exact h
    · exact ih ((h.trans (hd _ _)).trans ((Seals.refl _).takeReport _).waterSettle.toGuards)

end Sys2Proof.Proofs
end


section
/-! PROOFS. The flood in every part state (R51 to R53, R197): the wake it may bring, the fault that the sequencer takes behind what has
been reported before, and what stands when the step has ended. -/

/- One theorem at a time, as the tests have it: proofs that wait for the kernel cost a thread each. -/
set_option Elab.async false

namespace Sys2Proof.Proofs

open Sys2Proof.Machine
open Sys2Proof.Safety

/-! ## The fault is taken -/

theorem programFault_faulted {c : FaultCode} (hc : drainsAfter c = false) (s : State) : (programFault c s).seq.state = .faulted := by
  have hf : ∀ u, (enterFaulted u).seq.state = .faulted := fun u => congrArg Seq.state (raiseNotice_seq _ (seqTo .faulted .none u))
  unfold programFault
  split
  all_goals first | rfl | skip
  all_goals try
    split
    · exact hf _
    · rw [if_neg (by simp [hc])]
      exact hf _
  · rw [if_neg (by simp [hc])]
    exact hf _
  · assumption

theorem enterFaulted_fault (s : State) : (enterFaulted s).seq.fault = s.seq.fault := by
  unfold enterFaulted programEnd
  rw [raiseNotice_rest]
  rfl

theorem holdCode_fault (c : FaultCode) {s : State} (h : s.seq.fault = none) : (holdCode c s).seq.fault = some c := by
  unfold holdCode
  simp [h]

/-- The first code is held (R26). -/
theorem programFault_fault {c : FaultCode} {s : State} (h : s.seq.fault = none) (hs : s.seq.state ≠ .faulted) :
    (programFault c s).seq.fault = some c := by
  have hd : (endDrying s).seq.fault = none := by rw [(Dries.refl s).endDrying.rest]; exact h
  have hp : (stopProgram s).seq.fault = none := by rw [(halted_stopProgram s).seq]; exact h
  have ho : ∀ u : State, u.seq.fault = none → (setOutcome .faulted (holdCode c u)).seq.fault = some c := fun u hu =>
    holdCode_fault c hu
  have hf : ∀ u : State, u.seq.fault = none → (enterFaulted (setOutcome .faulted (holdCode c u))).seq.fault = some c := fun u hu =>
    (enterFaulted_fault _).trans (ho u hu)
  unfold programFault
  split
  · exact holdCode_fault c (s := seqTo .faulted .none s) h
  · exact holdCode_fault c (s := seqTo .faulted .none s) h
  all_goals try
    split
    · exact hf _ hd
    · dsimp only
      split
      · exact ho _ hp
      · exact hf _ hp
  · dsimp only
    split
    · exact ho _ h
    · exact (enterFaulted_fault _).trans (ho _ h)
  · contradiction

theorem programFault_history (c : FaultCode) (s : State) : (programFault c s).rst.history = s.rst.history := by
  have hd : (endDrying s).rst = s.rst := by rw [(Dries.refl s).endDrying.rest]
  have hp := (halted_stopProgram s).history
  have hf : ∀ u : State, (enterFaulted u).rst = u.rst := fun u => by
    unfold enterFaulted programEnd
    rw [raiseNotice_rest]
    rfl
  unfold programFault
  split
  · rfl
  · rfl
  all_goals try
    split
    · exact (congrArg Rst.history (hf _)).trans (congrArg Rst.history hd)
    · dsimp only
      split
      · exact hp
      · exact (congrArg Rst.history (hf _)).trans hp
  · dsimp only
    split
    · rfl
    · exact congrArg Rst.history (hf _)
  · rfl

/-- FAULTED, the sequencer raises no fault, whatever it hears (R190). -/
theorem takeReport_faulted {s : State} (h : s.seq.state = .faulted) (r : Report) : (takeReport r s).rst.history = s.rst.history := by
  have hr : ∀ b, runningIn s b = false := fun b => by simp [runningIn, h]
  have hp : programRuns s = false := by simp [programRuns, h]
  have hh : heatEnded s = s := by
    unfold heatEnded
    split <;> simp [hr]
  cases r with
  | fillEnded k e n => exact congrArg (fun u : State => u.rst.history) (fillEnded_harmless (.inr (.inr (.inr (hr _)))))
  | fillRefused => simp [takeReport, fillRefusedToSeq, hp]
  | drainEnded => simp [takeReport, drainEnded, hr, h, dropDrain]
  | programFault c => exact programFault_history c s
  | targetReached => exact congrArg (fun u : State => u.rst.history) hh
  | heatLimitExpired => exact congrArg (fun u : State => u.rst.history) hh
  | heatDisabled => exact congrArg (fun u : State => u.rst.history) hh
  | sensorFailed =>
    have hx : runningIn (onSeq (fun q => { q with heaterOff := true }) s) .heat = false := hr .heat
    simp only [takeReport, sensorFailedToSeq, hx]
    split <;> rfl
  | doseEnded a => simp [takeReport, doseEnded_harmless (hr .dose)]
  | pressureLow => simp [takeReport, pressureLowToSeq, hr]
  | doorOpened => simp [takeReport, doorOpenedToSeq, h]
  | doorClosed => simp [takeReport, doorClosedToSeq, h]
  | dryingDone o => simp [takeReport, dryingDone, hr]
  | engineLeft => simp [takeReport, engineLeft, hr]
  | linkLost => simp [takeReport, linkLostToSeq, h]

theorem takeReports_faulted {s : State} (h : s.seq.state = .faulted) (n : Nat) :
    (takeReports n s).rst.history = s.rst.history := by
  induction n generalizing s with
  | zero => rfl
  | succ n ih =>
    unfold takeReports
    split
    · rfl
    · next r l _ =>
      have hw := (Wets.refl (takeReport r (onReports (fun _ => l) s))).waterSettle
      have hf := ((follows_takeReport r (onReports (fun _ => l) s)).faulted h).1
      rw [ih (hw.state.trans hf), hw.history]
      exact takeReport_faulted (s := onReports (fun _ => l) s) h r

/-- A fault reported among the next reports is taken, and the sequencer stays FAULTED (R26). -/
theorem takeReports_fault {s : State} {c : FaultCode} {n : Nat} (hc : drainsAfter c = false)
    (h : .programFault c ∈ s.reports.take n) : (takeReports n s).seq.state = .faulted := by
  induction n generalizing s with
  | zero => simp at h
  | succ n ih =>
    unfold takeReports
    split
    · next hr => simp [hr] at h
    · next r l hr =>
      have hw : ∀ u, Seals u (waterSettle u) := fun u => (Seals.refl u).waterSettle
      rw [hr, List.take_succ_cons] at h
      rcases List.mem_cons.mp h with rfl | h
      · have hf := (Wets.refl (takeReport (.programFault c) (onReports (fun _ => l) s))).waterSettle.state
        exact ((follows_takeReports n _).faulted (hf.trans (programFault_faulted hc _))).1
      · have hg := (((Seals.refl (onReports (fun _ => l) s)).takeReport r).trans (hw _)).grown
        exact ih ((hg.take n).subset h)

/-! ## The end of the step -/

/-- What the ends of STARTING and of a shutdown leave as it was. -/
structure Ends (v w : State) : Prop where
  seq : w.seq = v.seq
  wpc : w.wpc = { v.wpc with leak := w.wpc.leak }
  history : w.rst.history = v.rst.history
  part : v.part.state = .ready ∨ v.part.state = .down ∨ v.part.state = .shut → w.part.state = v.part.state
  noted : ∀ c, noticeCode c = 2 → notified c v = true → notified c w = true

theorem ends_refl (v : State) : Ends v v := ⟨rfl, rfl, rfl, fun _ => rfl, fun _ _ => id⟩

theorem Ends.trans {u v w : State} (h : Ends u v) (k : Ends v w) : Ends u w where
  seq := k.seq.trans h.seq
  wpc := by rw [k.wpc, h.wpc]
  history := k.history.trans h.history
  part := fun hx => by
    have hp := h.part hx
    rw [k.part (by rw [hp]; exact hx), hp]
  noted := fun c hc => k.noted c hc ∘ h.noted c hc

theorem ends_reachReady (v : State) : Ends v (reachReady v) := by
  have hr := reachReady_rest v
  refine ⟨by rw [hr], by rw [hr], by rw [hr], fun hx => ?_, fun c hc hn => ?_⟩
  · rcases hx with hx | hx | hx <;> simp [reachReady, hx]
  · unfold reachReady
    split
    · exact notified_raiseNotice_ne (d := c) (by rw [hc]; simp [noticeCode])
        (s := onPart (fun p => { p with state := .ready, homingFaults := [] }) v) hn
    · exact hn

theorem ends_enterShut {v : State} (hs : v.part.state = .shuttingDown) : Ends v (enterShut v) := by
  obtain ⟨h1, -, h3, -, -, -⟩ := enterShut_keeps v
  refine ⟨h3, by rw [h1], ?_, fun hx => by simp [hs] at hx, fun c hc hn => ?_⟩
  · unfold enterShut
    dsimp only
    rw [raiseNotice_rest, (stopCirculation_rest v).1]
    rfl
  · refine notified_raiseNotice_ne (d := c) (by rw [hc]; simp [noticeCode]) ?_
    rw [(stopCirculation_rest v).1]
    exact hn

@[simp] theorem askRecord_history (i : RecordId) (r : Rst) : (askRecord i r).history = r.history := by
  unfold askRecord
  split <;> rfl

theorem ends_advanceShutdown (v : State) : Ends v (advanceShutdown v) := by
  unfold advanceShutdown
  split
  · next hs =>
    have hs : v.part.state = .shuttingDown := by simpa using hs
    have ha : ∀ u, u = (if !v.part.writesAsked && shutdownWorkDone v then
        askAllWrites (onPart (fun p => { p with writesAsked := true }) v) else v) →
        Ends v u ∧ u.part.state = .shuttingDown := by
      rintro u rfl
      split
      · exact ⟨⟨rfl, rfl, by simp [askAllWrites, askWrite, askRecord_history], fun hx => by simp [hs] at hx, fun _ _ => id⟩, hs⟩
      · exact ⟨ends_refl v, hs⟩
    obtain ⟨h1, h2⟩ := ha _ rfl
    exact iteInduction (motive := Ends v) (fun _ => h1.trans (ends_enterShut h2)) fun _ => h1
  · exact ends_refl v

/-- What a flood that has begun, its fault among the reports, leaves at the end of the step (R51, R52). -/
structure FloodStands (y t : State) : Prop where
  standing : standing t = standing y
  sealed : Sealed t
  pump : t.wpc.floodReq.isSome = true → t.wpc.drainPump = true
  faulted : t.seq.state = .faulted
  held : y.seq.state ≠ .faulted → t.seq.fault.isSome = true
  part : y.part.state = .ready ∨ y.part.state = .down ∨ y.part.state = .shut → t.part.state = y.part.state
  noted : ∀ c, noticeCode c = 2 → notified c y = true → notified c t = true

theorem wets_tail {v w : State} (he : Ends v w) : Wets w (rested w) ∧ (rested w).seq.state = v.seq.state
    ∧ (rested w).seq.fault = v.seq.fault ∧ (rested w).rst.history = v.rst.history := by
  have k := wets_rested w
  exact ⟨k, by rw [k.state, he.seq], by rw [k.seq, he.seq], k.history.trans he.history⟩

theorem floodStands_conclude {y : State} (hs : Sealed y) (hr : .programFault .flood ∈ y.reports.take 64) :
    FloodStands y (conclude y) := by
  have hg := ((Seals.refl y).waterSettle.toGuards).takeReports 64
  have hf : (takeReports 64 (waterSettle y)).seq.state = .faulted :=
    takeReports_fault rfl (((Seals.refl y).waterSettle.grown.take 64).subset hr)
  obtain ⟨v, hv⟩ : ∃ v, takeReports 64 (waterSettle y) = v := ⟨_, rfl⟩
  have he := (ends_reachReady v).trans (ends_advanceShutdown _)
  have hc : conclude y = finish (rested (advanceShutdown (reachReady v))) := by rw [← hv]; rfl
  rw [hv] at hg hf
  obtain ⟨w, hw⟩ : ∃ w, advanceShutdown (reachReady v) = w := ⟨_, rfl⟩
  rw [hw] at he hc
  obtain ⟨k, k1, k2, -⟩ := wets_tail he
  have hsw : Sealed w := by
    obtain ⟨h1, h2, h3, h4⟩ := hg.sealed hs
    exact ⟨by rw [he.wpc]; exact h1, by rw [he.wpc]; exact h2, by rw [he.wpc]; exact h3, by rw [he.wpc]; exact h4⟩
  have hsr : Sealed (rested w) := by
    have hp : Sealed (refreshPump w) := ⟨hsw.inhibit, hsw.holder, hsw.inlet, hsw.brine⟩
    have hu : revokeUnlessFlows (refreshPump w) = refreshPump w := by rw [revokeUnlessFlows, hp.revokeRegen, ite_self]
    rw [rested, hu]
    exact hp.congr rfl
  have ht := (concludes_conclude y).settled
  refine ⟨Laws.standing_conclude y, ?_, fun hq => ?_, ?_, fun hn => ?_, fun hx => ?_, fun c hc' hn => ?_⟩
  · rw [hc]
    exact hsr.congr (Laws.finish_wpc _)
  · rw [ht.pump]
    simp [pumpAsked, hq]
  · rw [hc, Laws.finish_seq, k1]
    exact hf
  · rw [hc, Laws.finish_seq, k2]
    exact (hg.held hf).resolve_left hn
  · rw [hc, Laws.finish_part, k.part, he.part (by rw [hg.part]; exact hx), hg.part]
  · rw [hc]
    exact notified_finish (k.noted c (by simp [hc', engineNotices]) (he.noted c hc' (hg.noted c hc' hn)))

/-! ## The flood begins -/

theorem sealed_floodBegins (s : State) : Sealed (floodBegins s) := by
  have hf : ∀ u : State, u.wpc.inhibit = true → Sealed (floodEntered u) := fun u hu => by
    have hw : (floodEntered u).wpc = (closeInlet (onWpc (fun w => { w with floodReq := some .active }) u)).wpc := by
      unfold floodEntered
      rw [raiseFault_rest]
      rfl
    exact Sealed.congr (s := closeInlet (onWpc (fun w => { w with floodReq := some .active }) u)) ⟨hu, rfl, rfl, rfl⟩ hw
  unfold floodBegins
  dsimp only
  split
  · exact hf _ ((Wets.refl (onWpc (fun w => { w with inhibit := true }) s)).endFill _).inhibit
  · exact hf _ (Wets.refl (onWpc (fun w => { w with inhibit := true }) s)).revokeRegen.inhibit

theorem raiseFault_history (c : FaultCode) (d1 d2 : Detail) (s : State) :
    (raiseFault c d1 d2 s).rst.history = appendHistory (faultEntry c d1 d2 s) s.rst.history := by
  unfold raiseFault enterFault
  dsimp only
  rw [Laws.onLnk_rst, raiseNotice_rest]
  simp [askWrite, askRecord_history]

/-- The entry of the flood, and the flag of the switch (R51, R190). -/
theorem floodBegins_enters (s : State) : (floodBegins s).wpc.flood = s.wpc.flood ∧ (floodBegins s).wpc.floodReq = some .active
    ∧ (floodBegins s).rst.history = appendHistory ⟨.flood, s.lnk.stamp, faultPhase s, .num 0, .num 0⟩ s.rst.history
    ∧ ∀ c, noticeCode c = 2 → notified c s = true → notified c (floodBegins s) = true := by
  have hf : ∀ u : State, Wets (onWpc (fun w => { w with inhibit := true }) s) u → (floodEntered u).wpc.flood = s.wpc.flood
      ∧ (floodEntered u).wpc.floodReq = some .active
      ∧ (floodEntered u).rst.history = appendHistory ⟨.flood, s.lnk.stamp, faultPhase s, .num 0, .num 0⟩ s.rst.history
      ∧ ∀ c, noticeCode c = 2 → notified c s = true → notified c (floodEntered u) = true := fun u hu => by
    have hp : faultPhase u = faultPhase s := by
      have h1 := hu.programRuns
      have h2 := hu.idx
      simp only [faultPhase, h1, h2]
      rfl
    have hx : (floodEntered u).rst.history = appendHistory ⟨.flood, u.lnk.stamp, faultPhase u, .num 0, .num 0⟩ u.rst.history :=
      raiseFault_history .flood (.num 0) (.num 0) (closeInlet (onWpc (fun w => { w with floodReq := some .active }) u))
    have hn : ∀ c, noticeCode c = 2 → notified c u = true → notified c (floodEntered u) = true := fun c hc hn =>
      ((Seals.refl (closeInlet (onWpc (fun w => { w with floodReq := some .active }) u))).raiseFault .flood (.num 0) (.num 0)).noted
        c hc hn
    have hw : (floodEntered u).wpc = (closeInlet (onWpc (fun w => { w with floodReq := some .active }) u)).wpc := by
      unfold floodEntered
      rw [raiseFault_rest]
      rfl
    refine ⟨(congrArg Wpc.flood hw).trans hu.flood, congrArg Wpc.floodReq hw, ?_, fun c hc h => hn c hc (hu.noted c (by simp [hc, engineNotices]) h)⟩
    rw [hx, hp, hu.stamp, hu.history]
    rfl
  unfold floodBegins
  dsimp only
  split
  · exact hf _ ((Wets.refl _).endFill _)
  · exact hf _ (Wets.refl _).revokeRegen

/-- The flood's fault is the first report that moves the sequencer (R26, R51). -/
theorem flood_first {y : State} (hr : y.reports = [.programFault .flood]
      ∨ ∃ k n, y.reports = [.fillEnded k .revoked n, .programFault .flood]) :
    ∃ u n, Wets y u ∧ takeReports 64 (waterSettle y) = takeReports n (waterSettle (programFault .flood u)) := by
  have hw := (Wets.refl y).waterSettle
  obtain ⟨l, hl, hi⟩ := Appends.waterSettle y
  rcases hr with hr | ⟨k, n, hr⟩
  · rw [hr] at hl
    refine ⟨_, 63, hw.onReports (fun _ => l) fun _ => not_drainEnded hi, ?_⟩
    conv_lhs => unfold takeReports
    rw [hl]
    rfl
  · rw [hr] at hl
    obtain ⟨u, hu⟩ : ∃ u, waterSettle y = u := ⟨_, rfl⟩
    rw [hu] at hw hl ⊢
    have hx : Wets u (onReports (fun _ => .programFault .flood :: l) u) :=
      (Wets.refl u).onReports _ fun _ hm => not_drainEnded hi (by simpa using hm)
    obtain ⟨a, ha⟩ : ∃ a, onReports (fun _ => .programFault .flood :: l) u = a := ⟨_, rfl⟩
    have har : a.reports = .programFault .flood :: l := ha ▸ rfl
    have he : takeReports 64 u = takeReports 63 (waterSettle a) := by
      conv_lhs => unfold takeReports
      rw [hl, ← ha]
      exact congrArg (fun z => takeReports 63 (waterSettle z)) (fillEnded_harmless (.inr (.inr (.inl rfl))))
    rw [ha] at hx
    obtain ⟨m, hm, hmi⟩ := Appends.waterSettle a
    rw [har] at hm
    have hi2 : ∀ r ∈ l ++ m, Idling r := fun r hr => (List.mem_append.mp hr).elim (hi r) (hmi r)
    refine ⟨_, 62, ((hw.trans hx).trans (Wets.refl a).waterSettle).onReports (fun _ => l ++ m) fun _ => not_drainEnded hi2, ?_⟩
    rw [he]
    conv_lhs => unfold takeReports
    rw [hm]
    rfl

/-- The history keeps the flood as its last entry, and the flood is the code held where none was (R26, R204). -/
theorem flood_recorded {y : State} (hr : y.reports = [.programFault .flood]
      ∨ ∃ k n, y.reports = [.fillEnded k .revoked n, .programFault .flood]) :
    (conclude y).rst.history = y.rst.history
      ∧ (y.seq.state ≠ .faulted → y.seq.fault = none → (conclude y).seq.fault = some .flood) := by
  obtain ⟨u, n, hu, ht⟩ := flood_first hr
  have hw := (Wets.refl (programFault .flood u)).waterSettle
  have hf : (waterSettle (programFault .flood u)).seq.state = .faulted := hw.state.trans (programFault_faulted rfl u)
  obtain ⟨v, hv⟩ : ∃ v, takeReports n (waterSettle (programFault .flood u)) = v := ⟨_, rfl⟩
  have h1 : v.rst.history = y.rst.history := by
    rw [← hv, takeReports_faulted hf, hw.history, programFault_history, hu.history]
  have h2 := ((follows_takeReports n _).faulted hf).2.1
  have he := (ends_reachReady v).trans (ends_advanceShutdown _)
  have hc : conclude y = finish (rested (advanceShutdown (reachReady v))) := by rw [← hv, ← ht]; rfl
  obtain ⟨k, -, k2, k3⟩ := wets_tail he
  rw [hc, Laws.finish_history, Laws.finish_seq, k2, k3]
  refine ⟨h1, fun hs hx => ?_⟩
  rw [← hv, h2, hw.seq]
  exact programFault_fault (by rw [hu.seq]; exact hx) (by rw [hu.state]; exact hs)

end Sys2Proof.Proofs
end


section
/-! PROOFS. The wake before a flood, and the statement of the flood: its beginning, its end and its run-on (R51 to R53, R197). -/

/- One theorem at a time, as the tests have it: proofs that wait for the kernel cost a thread each. -/
set_option Elab.async false

namespace Sys2Proof.Proofs

open Sys2Proof.Machine
open Sys2Proof.Safety

theorem endFill_seq (r : FillEnd) (s : State) : (endFill r s).seq = s.seq := by
  have hb : ∀ u : State, (startBurst u).seq = u.seq := fun u => by unfold startBurst; split <;> rfl
  unfold endFill
  split
  · rfl
  · next q _ =>
    cases q.kind with
    | main => exact hb _
    | topUp => exact ((Serves.refl _).endTopUp.seq).trans (hb _)

/-! ## The wake -/

/-- From `s` to `t` the fresh reads have been taken, with at most `n` reports: part, sequencer and flood stand, and so does a WAKE
notice. -/
structure Stirs (n : Nat) (s t : State) : Prop where
  part : t.part = s.part
  seq : t.seq = s.seq
  flood : t.wpc.flood = s.wpc.flood
  length : t.reports.length ≤ s.reports.length + n
  noted : ∀ c, noticeCode c = 2 → notified c s = true → notified c t = true

namespace Stirs

variable {s t a b : State} {n m : Nat}

theorem refl (s : State) : Stirs 0 s s := ⟨rfl, rfl, rfl, le_rfl, fun _ _ => id⟩

theorem trans {u : State} (h : Stirs n s t) (k : Stirs m t u) : Stirs (n + m) s u where
  part := k.part.trans h.part
  seq := k.seq.trans h.seq
  flood := k.flood.trans h.flood
  length := by
    have := h.length
    have := k.length
    omega
  noted := fun c hc => k.noted c hc ∘ h.noted c hc

theorem mono (h : Stirs n s t) (hn : n ≤ m := by omega) : Stirs m s t :=
  ⟨h.part, h.seq, h.flood, h.length.trans (by omega), h.noted⟩

theorem ite {c : Prop} [Decidable c] (ha : c → Stirs n s a) (hb : ¬ c → Stirs n s b) : Stirs n s (if c then a else b) := by
  split
  · exact ha ‹_›
  · exact hb ‹_›

/-- A change that reports nothing. -/
theorem same {u : State} (h : Stirs n s t) (hp : u.part = t.part) (hq : u.seq = t.seq) (hf : u.wpc.flood = t.wpc.flood)
    (hr : u.reports = t.reports) (hn : ∀ c, noticeCode c = 2 → notified c t = true → notified c u = true) : Stirs n s u :=
  h.trans (m := 0) ⟨hp, hq, hf, hr ▸ le_rfl, hn⟩

theorem onDsu (h : Stirs n s t) (f : Dsu → Dsu) : Stirs n s (onDsu f t) := h.same rfl rfl rfl rfl fun _ _ => id

theorem onHtc (h : Stirs n s t) (f : Htc → Htc) : Stirs n s (onHtc f t) := h.same rfl rfl rfl rfl fun _ _ => id

theorem onCzs (h : Stirs n s t) (f : Czs → Czs) : Stirs n s (onCzs f t) := h.same rfl rfl rfl rfl fun _ _ => id

theorem onDdu (h : Stirs n s t) (f : Ddu → Ddu) : Stirs n s (onDdu f t) := h.same rfl rfl rfl rfl fun _ _ => id

theorem onRge (h : Stirs n s t) (f : Rge → Rge) : Stirs n s (onRge f t) := h.same rfl rfl rfl rfl fun _ _ => id

theorem onRst (h : Stirs n s t) (f : Rst → Rst) : Stirs n s (onRst f t) := h.same rfl rfl rfl rfl fun _ _ => id

theorem onWpc (h : Stirs n s t) (f : Wpc → Wpc) (hf : (f t.wpc).flood = t.wpc.flood := by rfl) : Stirs n s (onWpc f t) :=
  h.same rfl rfl hf rfl fun _ _ => id

theorem report (h : Stirs n s t) (r : Report) : Stirs (n + 1) s (report r t) :=
  h.trans ⟨rfl, rfl, rfl, by simp [Machine.report], fun _ _ => id⟩

theorem raiseNotice (h : Stirs n s t) (c : Content) (hc : noticeCode c ≠ 2 := by simp [noticeCode]) : Stirs n s (raiseNotice c t) :=
  h.same (by rw [raiseNotice_rest]) (by rw [raiseNotice_rest]) (by rw [raiseNotice_rest]) (raiseNotice_reports _ _)
    fun d hd => notified_raiseNotice_ne (by rw [hd]; exact hc.symm)

theorem raiseFault (h : Stirs n s t) (c : FaultCode) (d1 d2 : Detail) : Stirs n s (raiseFault c d1 d2 t) := by
  unfold Machine.raiseFault enterFault
  exact (((h.onRst _).onRst _).raiseNotice _).same rfl rfl rfl rfl fun _ _ => id

/-! ## The fresh reads -/

theorem lowCorrection (h : Stirs n s t) (ch : Channel) : Stirs n s (lowCorrection ch t) := by
  have hl : ∀ {u : State}, Stirs n s u → Stirs n s (lowTest ch u) := fun {u} hu => by
    simp only [lowTest]
    exact .ite (fun _ => .ite (fun _ => hu) fun _ => (hu.onDsu _).raiseNotice _) fun _ => hu.onDsu _
  exact .ite (fun _ => .ite (fun _ => h) fun _ => hl (h.onDsu _)) fun _ => h

theorem readLowSwitch (h : Stirs n s t) (ch : Channel) (low : Bool) : Stirs n s (readLowSwitch ch low t) :=
  .ite (fun _ => (h.onDsu _).lowCorrection _) fun _ => h.onDsu _

theorem readLowSwitches (h : Stirs n s t) (p : Pins) : Stirs n s (readLowSwitches p t) :=
  ((h.readLowSwitch _ _).readLowSwitch _ _).readLowSwitch _ _

theorem sumpEmptyChanged (h : Stirs n s t) (b : Bool) : Stirs n s (sumpEmptyChanged b t) := by
  have h1 := h.onWpc fun w => { w with sumpEmpty := b }
  refine .ite (fun _ => h) fun _ => ?_
  dsimp only
  split
  · exact .ite (fun _ => h1.onWpc _ rfl) fun _ => h1
  · exact h1

theorem wets (h : Stirs n s t) {u : State} (k : Wets t u) (hq : u.seq = t.seq) (hl : u.reports.length ≤ t.reports.length + 1) :
    Stirs (n + 1) s u :=
  h.trans ⟨k.part, hq, k.flood, hl, fun c hc => k.noted c (by simp [hc, engineNotices])⟩

theorem highLevelChanged (h : Stirs n s t) (b : Bool) : Stirs (n + 1) s (highLevelChanged b t) := by
  refine .ite (fun _ => h.mono) fun _ => ?_
  have h := h.onWpc fun w => { w with highLevel := b }
  refine .ite (fun _ => ?_) fun _ => h.mono
  split
  · next hq =>
    refine h.wets ((Wets.refl _).endFill _) (endFill_seq _ _) ?_
    rw [endFill_reports hq]
    simp
  · refine h.wets (Wets.refl _).revokeRegen (revokeRegen_seq _) ?_
    rw [revokeRegen_reports]
    omega

theorem saltLowChanged (h : Stirs n s t) (b : Bool) : Stirs n s (saltLowChanged b t) := by
  refine .ite (fun _ => ?_) fun _ => h.onRge _
  unfold markSaltLow
  split
  · exact .ite (fun _ => h.onRge _) fun _ => ((h.onRge _).onRge _).raiseNotice _
  · exact h.onRge _

theorem coolCheck (h : Stirs n s t) : Stirs n s (coolCheck t) := by
  refine .ite (fun _ => ?_) fun _ => h
  unfold enterOpening
  exact ((h.onDdu _).raiseNotice _).onDdu _

theorem reachTarget (h : Stirs n s t) : Stirs (n + 1) s (reachTarget t) := Stirs.report (h.onHtc _) _

theorem temperatureChanged (h : Stirs n s t) (d : Nat) : Stirs (n + 2) s (temperatureChanged d t) := by
  have hd : ∀ {u}, Stirs n s u → Stirs n s (followDemand d u) := fun {u} hu => by
    unfold followDemand
    split
    · exact hu.onHtc _
    · exact hu
  have hw : ∀ {u}, Stirs n s u → Stirs n s (warningBand d u) := fun {u} hu =>
    .ite (fun _ => (hu.onHtc _).raiseNotice _) fun _ => .ite (fun _ => hu.onHtc _) fun _ => hu
  have hl : ∀ {u}, Stirs n s u → Stirs (n + 1) s (lockoutCheck d u) := fun {u} hu =>
    .ite (fun _ => ((hu.onHtc _).raiseFault _ _ _).report _) fun _ => .ite (fun _ => (hu.onHtc _).mono) fun _ => hu.mono
  have ht : ∀ {u}, Stirs (n + 1) s u → Stirs (n + 2) s (targetTest d u) := fun {u} hu => by
    unfold targetTest
    split
    · exact .ite (fun _ => hu.reachTarget) fun _ => hu.mono
    · exact hu.mono
  unfold Machine.temperatureChanged
  exact (ht (hl (hw (hd (h.onHtc _))))).coolCheck

theorem firstReading (h : Stirs n s t) (x : SensorSignal) : Stirs (n + 2) s (firstReading x t) := by
  have hs : ∀ k, Stirs (n + 2) s (sensorFails k t) := fun k => by
    simp only [sensorFails]
    exact .coolCheck (.ite (fun _ => (Stirs.report (((h.onHtc _).raiseFault _ _ _).onHtc _) _).mono)
      fun _ => ((h.onHtc _).raiseFault _ _ _).mono)
  unfold Machine.firstReading
  split
  · exact .ite (fun _ => hs _) fun _ => h.mono
  · exact .ite (fun _ => h.temperatureChanged _) fun _ => (h.onHtc _).temperatureChanged _

end Stirs

/-- The part as READY, its link's silence timer at 0: the wake before its fresh reads (R197). -/
def awoken (c : WakeSource) (s : State) : State :=
  restartSilence (raiseNotice (.wake c) (onPart (fun p => { p with state := .ready }) s))

theorem wake_stirs (c : WakeSource) (s : State) : Stirs 3 (awoken c s) (wake c s) := by
  have h := ((Stirs.refl (awoken c s)).readLowSwitches (awoken c s).pins).onCzs fun z => { z with
    reading := (awoken c s).pins.pressure, confirmed := z.pump && (awoken c s).pins.pressure }
  exact ((((h.sumpEmptyChanged _).onWpc _).highLevelChanged _).saltLowChanged _).firstReading _

/-- What a part that is in STANDBY, or not, gives the flood that wakes it (R197). -/
theorem wakeIf_flood (s : State) :
    (wakeIf .flood s).wpc.flood = s.wpc.flood ∧ (wakeIf .flood s).seq = s.seq
      ∧ (wakeIf .flood s).reports.length ≤ s.reports.length + 3
      ∧ (s.part.state ≠ .standby → wakeIf .flood s = s)
      ∧ (s.part.state = .standby → (wakeIf .flood s).part.state = .ready
        ∧ (noticeEnabled s.lnk.mask 2 = true → notified (.wake .flood) (wakeIf .flood s) = true)) := by
  by_cases hs : s.part.state = .standby
  · have hw : wakeIf .flood s = wake .flood s := if_pos (by simp [hs])
    have k := wake_stirs .flood s
    have hr := raiseNotice_rest (.wake .flood) (onPart (fun p => { p with state := .ready }) s)
    have hx : (awoken .flood s).wpc = s.wpc ∧ (awoken .flood s).seq = s.seq ∧ (awoken .flood s).reports = s.reports
        ∧ (awoken .flood s).part.state = .ready := by
      unfold awoken restartSilence
      rw [hr]
      exact ⟨rfl, rfl, rfl, rfl⟩
    obtain ⟨h1, h2, h3, h4⟩ := hx
    rw [hw]
    refine ⟨k.flood.trans (by rw [h1]), k.seq.trans h2, k.length.trans (by rw [h3]), fun hn => absurd hs hn, fun _ => ⟨?_, fun hm => ?_⟩⟩
    · rw [k.part, h4]
    · refine k.noted _ rfl ?_
      exact notified_raiseNotice (c := .wake .flood) (s := onPart (fun p => { p with state := .ready }) s) hm
  · have hw : wakeIf .flood s = s := if_neg (by simp [hs])
    rw [hw]
    exact ⟨rfl, rfl, by omega, fun _ => rfl, fun hx => absurd hx hs⟩

/-! ## The switch turns ACTIVE -/

/-- The state on which the flood begins. -/
def floodFound (s : State) : State :=
  onWpc (fun w => { w with flood := true }) (wakeIf .flood (onPins (fun p => { p with flood := true }) s))

/-- An awake part's flood finds it as it was but for the reading (R51). -/
theorem floodFound_awake {s : State} (hs : s.part.state ≠ .standby) :
    floodFound s = onWpc (fun w => { w with flood := true }) (onPins (fun p => { p with flood := true }) s) :=
  congrArg (onWpc fun w => { w with flood := true })
    ((wakeIf_flood (onPins (fun p => { p with flood := true }) s)).2.2.2.1 hs)

theorem exec_flood {s : State} (hp : s.part.powered = true) (hf : s.wpc.flood = false) :
    exec (.floodSwitchChange true) s = .next (conclude (floodBegins (floodFound s))) := by
  obtain ⟨h1, -⟩ := wakeIf_flood (onPins (fun p => { p with flood := true }) s)
  show execFloodSwitchChange true s = _
  unfold execFloodSwitchChange
  simp only [whenPowered, hp, if_true]
  rw [if_neg (by simp [onPins, hf]), floodChanged, if_neg (by rw [h1]; simp [onPins, hf])]
  rfl

/-- The flood as it has begun: part and sequencer as the wake left them, its fault reported (R51). -/
theorem floodBegins_found (s : State) :
    (floodBegins (floodFound s)).seq.state = s.seq.state ∧ (floodBegins (floodFound s)).seq.fault = s.seq.fault
      ∧ (s.reports = [] → .programFault .flood ∈ (floodBegins (floodFound s)).reports.take 64)
      ∧ (s.part.state ≠ .standby → (floodBegins (floodFound s)).part.state = s.part.state)
      ∧ (s.part.state = .standby → (floodBegins (floodFound s)).part.state = .ready
        ∧ (noticeEnabled s.lnk.mask 2 = true → notified (.wake .flood) (floodBegins (floodFound s)) = true)) := by
  obtain ⟨-, h2, h3, h4, h5⟩ := wakeIf_flood (onPins (fun p => { p with flood := true }) s)
  have k := flooded_floodBegins (floodFound s)
  have hq : (floodFound s).seq = s.seq := h2
  have hl : (floodFound s).reports.length ≤ s.reports.length + 3 := h3
  refine ⟨?_, ?_, fun hr => ?_, fun hs => ?_, fun hs => ?_⟩
  · rw [k.seq, hq]
  · rw [k.seq, hq]
  · have hn : (floodFound s).reports.length ≤ 3 := by simpa [hr] using hl
    rcases k.told with ht | ⟨kd, n, ht⟩
    all_goals
      rw [ht, List.take_of_length_le (by simp; omega)]
      simp
  · rw [k.part, floodFound_awake hs]
    rfl
  · obtain ⟨k1, k2⟩ := h5 hs
    refine ⟨by rw [k.part]; exact k1, fun hm => ?_⟩
    exact (floodBegins_enters (floodFound s)).2.2.2 _ rfl (k2 hm)

/-! ## The switch turns INACTIVE, and the run-on ends -/

theorem exec_flood_over {s : State} (hr : Rests s) (hf : s.wpc.flood = true) (hq : s.wpc.floodReq = some .active)
    (hi : s.wpc.inhibit = true ∨ s.wpc.regen = none) :
    exec (.floodSwitchChange false) s = .next (finish (outputs { s with
      pins := { s.pins with flood := false }
      wpc := { s.wpc with flood := false, floodReq := some (.runOn 60) } })) := by
  obtain ⟨ha, w1, w2, w3, w4, w5, w6, w7, w8, w9⟩ := hr
  have he : exec (.floodSwitchChange false) s = .next (conclude { s with
      pins := { s.pins with flood := false }
      wpc := { s.wpc with flood := false, floodReq := some (.runOn 60) } }) := by
    show execFloodSwitchChange false s = _
    have hw : wakeIf .flood (onPins (fun p => { p with flood := false }) s) = onPins (fun p => { p with flood := false }) s :=
      if_neg (by simp [onPins, ha.2.1])
    unfold execFloodSwitchChange
    simp only [whenPowered, ha.1, if_true]
    rw [if_neg (by simp [onPins, hf]), hw, floodChanged, if_neg (by simp [onPins, hf])]
    simp [onWpc, onPins, hq, Config.floodRunOn]
  rw [he, Laws.conclude_rests]
  refine ⟨ha, w1, w2, fun hx => ?_, fun g hg => ?_, w5, w6, w7, w8, w9⟩
  · have := w3 hx
    simp [waterFlows, hf] at this
  · rcases hi with hi | hi
    · exact .inr (.inr (.inl (by simp [waterFlows, hi])))
    · rw [show s.wpc.regen = none from hi] at hg
      cases hg

theorem exec_flood_runOn {s : State} (hr : Rests s) {n : Nat} (hq : s.wpc.floodReq = some (.runOn n)) (hg : s.wpc.regen = none) :
    exec .floodRunOnExpiry s = .next (finish (outputs (onWpc (fun w => { w with floodReq := none, inhibit := false }) s))) := by
  obtain ⟨ha, w1, w2, w3, w4, w5, w6, w7, w8, w9⟩ := hr
  have he : exec .floodRunOnExpiry s = .next (conclude (onWpc (fun w => { w with floodReq := none, inhibit := false }) s)) := by
    show execFloodRunOnExpiry s = _
    unfold execFloodRunOnExpiry
    simp [whenPowered, ha.1, hq]
  have hh : s.wpc.holder ≠ .brine ∧ s.wpc.holder ≠ .rinse := by
    rw [w8]
    unfold holderOf
    rw [hg]
    split <;> simp_all
  rw [he, Laws.conclude_rests]
  refine ⟨ha, w1, w2, fun hx => (hx.elim hh.1 hh.2).elim, fun g hx => ?_, w5, w6, w7, w8, w9⟩
  exact absurd (hg ▸ hx : g ∈ (none : Option RegenReq)) (by simp)

/-- Settles O33. -/
theorem theFloodClosesTheInlet : Obligations.TheFloodClosesTheInlet := by
  unfold Obligations.TheFloodClosesTheInlet
  intro s hp hr
  refine ⟨fun hf _ => ?_, ?_, fun hs => ⟨exec_flood_over hs, fun n => exec_flood_runOn hs⟩⟩
  · obtain ⟨f1, f2, f3, f4, f5⟩ := floodBegins_found s
    obtain ⟨e1, e2, -, -⟩ := floodBegins_enters (floodFound s)
    have k := floodStands_conclude (sealed_floodBegins (floodFound s)) (f3 hr)
    have ht : ∀ hn : s.part.state ≠ .standby, (floodBegins (floodFound s)).reports = [.programFault .flood]
        ∨ ∃ k n, (floodBegins (floodFound s)).reports = [.fillEnded k .revoked n, .programFault .flood] := fun hn => by
      have hx : (floodFound s).reports = [] := by rw [floodFound_awake hn]; exact hr
      have := (flooded_floodBegins (floodFound s)).told
      rw [hx] at this
      simpa using this
    have hq : (conclude (floodBegins (floodFound s))).wpc.floodReq = some .active :=
      (congrArg Standing.floodReq k.standing).trans e2
    refine ⟨_, exec_flood hp hf, (congrArg Standing.flood k.standing).trans e1, k.sealed.inhibit, hq, k.sealed.holder,
      k.sealed.inlet, k.sealed.brine, k.pump (by rw [hq]; rfl), k.faulted, fun hn => k.held (by rw [f1]; exact hn),
      fun hn hx hs => (flood_recorded (ht hs)).2 (by rw [f1]; exact hn) (by rw [f2]; exact hx), fun hs => ?_, fun hs => ?_,
      fun hs => ?_⟩
    · rw [(flood_recorded (ht hs)).1, (floodBegins_enters _).2.2.1, floodFound_awake hs]
      rfl
    · have hn : s.part.state ≠ .standby := by rcases hs with h | h | h <;> simp [h]
      have hpt := f4 hn
      rw [k.part (by rw [hpt]; exact hs), hpt]
    · obtain ⟨h1, h2⟩ := f5 hs
      exact ⟨(k.part (.inl h1)).trans h1, fun hm => k.noted _ rfl (h2 hm)⟩
  · show execFloodSwitchChange s.wpc.flood s = _
    simp [execFloodSwitchChange, whenPowered, hp, onPins]

end Sys2Proof.Proofs
end


section
/-! PROOFS. The sequencer's drain request (R46 to R48): the first blocked attempt pauses, the pause ends in a second attempt, and the
second blocked attempt is a fault. -/

/- One theorem at a time, as the tests have it: proofs that wait for the kernel cost a thread each. -/
set_option Elab.async false

namespace Sys2Proof.Proofs

open Sys2Proof.Machine
open Sys2Proof.Safety

/-! ## A change of the request on a water path at rest -/

/-- The part with another drain request of the sequencer. -/
def draining (d : Option SeqDrain) (s : State) : State := onWpc (fun w => { w with seqDrain := d }) s

/-- Outside DRAIN the permit does not hang on the pump (R29). -/
theorem waterFlows_draining {s : State} (h : runningIn s .drain = false) (d : Option SeqDrain) :
    waterFlows (draining d s) = waterFlows s := by
  have hs : s.seq.state = .running → (s.seq.sub == .drain) = false := fun hs => by simpa [runningIn, hs] using h
  simp only [waterFlows, permitCondition, draining, Laws.onWpc_wpc, Laws.onWpc_seq]
  cases hq : s.seq.state with
  | running => simp [hs hq]
  | _ => rfl

/-- In DRAIN the permit is the pump's (R29). -/
theorem waterFlows_in_drain {s : State} (h : runningIn s .drain = true) :
    waterFlows s = (pumpAsked s.wpc && !s.wpc.flood && !s.wpc.inhibit && !s.wpc.highLevel) := by
  obtain ⟨h1, h2⟩ := (runningIn_iff _ _).mp h
  simp [waterFlows, permitCondition, h1, h2, show (SubStage.drain == SubStage.dry) = false from rfl]

/-- A request that does not ask for the pump brings no permit (R29, R46). -/
theorem waterFlows_paused {s : State} (n : Nat) (b : Bool) (h : waterFlows s = false) :
    waterFlows (draining (some ⟨.paused n, b⟩) s) = false := by
  by_cases hr : runningIn s .drain = true
  · have hp : pumpAsked (draining (some ⟨.paused n, b⟩) s).wpc = true → pumpAsked s.wpc = true := by
      simp only [pumpAsked, draining, drainAsks, Laws.onWpc_wpc, Bool.false_or, Bool.or_eq_true]
      tauto
    rw [waterFlows_in_drain hr] at h
    rw [waterFlows_in_drain (s := draining (some ⟨.paused n, b⟩) s) hr]
    cases hx : pumpAsked (draining (some ⟨.paused n, b⟩) s).wpc with
    | false => rfl
    | true =>
      rw [hp hx] at h
      exact h
  · rw [waterFlows_draining (Bool.not_eq_true _ ▸ hr)]
    exact h

/-- With another request the water path still rests where a holder keeps its conditions and a waiting party has not gained any. -/
theorem rests_draining {s : State} {d : Option SeqDrain} (h : Rests s)
    (hk : s.wpc.holder = .brine ∨ s.wpc.holder = .rinse → waterFlows s = true → waterFlows (draining d s) = true)
    (hn : s.wpc.regen ≠ none → waterFlows s = false → waterFlows (draining d s) = false) : Rests (draining d s) := by
  obtain ⟨ha, h1, h2, h3, h4, h5, h6, h7, h8, h9⟩ := h
  refine ⟨ha, h1, h2, fun hh => hk hh (h3 hh), fun g hg => ?_, h5, h6, h7, h8, h9⟩
  rcases h4 g hg with h | h | h | h | h
  · exact .inl h
  · exact .inr (.inl h)
  · exact .inr (.inr (.inl (hn (fun hx => absurd (show g ∈ s.wpc.regen from hg) (by simp [hx])) h)))
  · exact .inr (.inr (.inr (.inl h)))
  · exact .inr (.inr (.inr (.inr h)))

/-- Outside DRAIN the water path rests with any request. -/
theorem rests_draining_aside {s : State} (h : Rests s) (hr : runningIn s .drain = false) (d : Option SeqDrain) :
    Rests (draining d s) :=
  rests_draining h (fun _ hw => by rw [waterFlows_draining hr]; exact hw) fun _ hw => by rw [waterFlows_draining hr]; exact hw

/-- Without a request of the engine no grant of it is held (R37). -/
theorem holder_of_no_regen {s : State} (h : WaterRests s) (hr : s.wpc.regen = none) :
    ¬ (s.wpc.holder = .brine ∨ s.wpc.holder = .rinse) := by
  obtain ⟨-, -, -, -, -, -, -, h8, -⟩ := h
  rw [h8, holderOf, hr]
  split <;> simp_all

/-! ## The first attempt and the pause -/

section
variable {s : State} {d : SeqDrain} (h : Rests s) (hd : s.wpc.seqDrain = some d)
include h hd

theorem attempt_pauses {n : Nat} (hst : d.stage = .pumping n) (h2 : d.second = false)
    (hx : runningIn s .drain = false ∨ (s.wpc.holder ≠ .brine ∧ s.wpc.holder ≠ .rinse)) :
    exec .drainAttemptLimit s = .next (finish (outputs (draining (some ⟨.paused 0, false⟩) s))) := by
  obtain ⟨st, sec⟩ := d
  obtain rfl : st = .pumping n := hst
  obtain rfl : sec = false := h2
  have hr : Rests (draining (some ⟨.paused 0, false⟩) s) := by
    rcases hx with hx | ⟨hx, hy⟩
    · exact rests_draining_aside h hx _
    · exact rests_draining h (fun hh => absurd hh (by simp [hx, hy])) fun _ => waterFlows_paused 0 false
  rw [← Laws.conclude_rests hr]
  show execDrainAttemptLimit s = _
  simp [execDrainAttemptLimit, whenPowered, h.1.1, hd, draining]

theorem pause_ends {n : Nat} (hst : d.stage = .paused n) (hx : runningIn s .drain = false ∨ s.wpc.regen = none) :
    exec .drainPauseExpiry s
      = .next (finish (outputs (draining (some ⟨if s.wpc.sumpEmpty then .runOn 0 else .pumping 0, true⟩) s))) := by
  obtain ⟨st, sec⟩ := d
  obtain rfl : st = .paused n := hst
  have hr : Rests (draining (some ⟨if s.wpc.sumpEmpty then .runOn 0 else .pumping 0, true⟩) s) := by
    rcases hx with hx | hx
    · exact rests_draining_aside h hx _
    · exact rests_draining h (fun hh => absurd hh (holder_of_no_regen h.2 hx)) fun hg => absurd hx hg
  rw [← Laws.conclude_rests hr]
  show execDrainPauseExpiry s = _
  simp [execDrainPauseExpiry, whenPowered, h.1.1, hd, draining]

end

end Sys2Proof.Proofs
end


section
/-! PROOFS. The second blocked attempt of the sequencer's drain (R48): the fault is entered and held, and no drain request comes back. -/

/- One theorem at a time, as the tests have it: proofs that wait for the kernel cost a thread each. -/
set_option Elab.async false

namespace Sys2Proof.Proofs

open Sys2Proof.Machine
open Sys2Proof.Safety

/-! ## A program-ending fault that is reported first -/

/-- A fault that alone is reported is what the sequencer takes first (R26). -/
theorem fault_first {y : State} {c : FaultCode} (hr : y.reports = [.programFault c]) :
    ∃ u, Wets y u ∧ takeReports 64 (waterSettle y) = takeReports 63 (waterSettle (programFault c u)) := by
  obtain ⟨l, hl, hi⟩ := Appends.waterSettle y
  rw [hr] at hl
  refine ⟨_, (Wets.refl y).waterSettle.onReports (fun _ => l) fun _ => not_drainEnded hi, ?_⟩
  conv_lhs => unfold takeReports
  rw [hl]
  rfl

/-! ## No drain request comes back in FAULTED -/

theorem stopProgram_undrained {s : State} (h : s.wpc.seqDrain = none) : (stopProgram s).wpc.seqDrain = none := by
  have k := (Bides.refl (closeFill (withdrawFill (withdrawHeat s)))).cancelSequencerDoses.stopCirculation
  have hx : (stopCirculation (cancelSequencerDoses (closeFill (withdrawFill (withdrawHeat s))))).wpc.seqDrain = none := by
    rw [k.wpc, (Wets.refl (withdrawHeat s)).withdrawFill.closeFill.seqDrain, (Bides.refl s).withdrawHeat.wpc]
    exact h
  unfold stopProgram
  dsimp only
  split
  · rfl
  · exact hx

theorem enterFaulted_wpc (s : State) : (enterFaulted s).wpc = s.wpc := by
  unfold enterFaulted programEnd
  rw [raiseNotice_rest]
  rfl

/-- A fault after which no abort drain runs brings no drain request (R26). -/
theorem programFault_undrained {c : FaultCode} (hc : drainsAfter c = false) {s : State} (h : s.wpc.seqDrain = none) :
    (programFault c s).wpc.seqDrain = none := by
  have hd : (endDrying s).wpc = s.wpc := by rw [(Dries.refl s).endDrying.rest]
  have hf : ∀ u : State, u.wpc.seqDrain = none → (enterFaulted (setOutcome .faulted (holdCode c u))).wpc.seqDrain = none :=
    fun u hu => (congrArg Wpc.seqDrain (enterFaulted_wpc (setOutcome .faulted (holdCode c u)))).trans hu
  unfold programFault
  split
  · exact h
  · exact h
  all_goals try
    split
    · exact hf (onSeq (fun q => { q with holdPending := false }) (endDrying s)) ((congrArg Wpc.seqDrain hd).trans h)
    · rw [if_neg (by simp [hc])]
      exact hf _ (stopProgram_undrained h)
  · rw [if_neg (by simp [hc])]
    rw [enterFaulted_wpc]
    rfl
  · exact h

/-- FAULTED, the sequencer asks for no drain, whatever it hears. -/
theorem takeReport_undrained {s : State} (h : s.seq.state = .faulted) (hd : s.wpc.seqDrain = none) (r : Report) :
    (takeReport r s).wpc.seqDrain = none := by
  have hr : ∀ b, runningIn s b = false := fun b => by simp [runningIn, h]
  have hh : heatEnded s = s := by
    unfold heatEnded
    split <;> simp [hr]
  cases r with
  | fillEnded k e n =>
    exact (congrArg (fun u : State => u.wpc.seqDrain) (fillEnded_harmless (.inr (.inr (.inr (hr _)))))).trans hd
  | fillRefused => simpa [takeReport, fillRefusedToSeq, programRuns, h] using hd
  | drainEnded => simp [takeReport, drainEnded, hr, h, dropDrain]
  | programFault c => simpa [takeReport, programFault, h] using hd
  | targetReached => exact (congrArg (fun u : State => u.wpc.seqDrain) hh).trans hd
  | heatLimitExpired => exact (congrArg (fun u : State => u.wpc.seqDrain) hh).trans hd
  | heatDisabled => exact (congrArg (fun u : State => u.wpc.seqDrain) hh).trans hd
  | sensorFailed =>
    have hx : runningIn (onSeq (fun q => { q with heaterOff := true }) s) .heat = false := hr .heat
    simp only [takeReport, sensorFailedToSeq, hx]
    split <;> exact hd
  | doseEnded a => simpa [takeReport, doseEnded_harmless (hr .dose)] using hd
  | pressureLow => simpa [takeReport, pressureLowToSeq, hr] using hd
  | doorOpened => simpa [takeReport, doorOpenedToSeq, h] using hd
  | doorClosed => simpa [takeReport, doorClosedToSeq, h] using hd
  | dryingDone o => simpa [takeReport, dryingDone, hr] using hd
  | engineLeft => simpa [takeReport, engineLeft, hr] using hd
  | linkLost => simpa [takeReport, linkLostToSeq, h] using hd

theorem takeReports_undrained {s : State} (h : s.seq.state = .faulted) (hd : s.wpc.seqDrain = none) (n : Nat) :
    (takeReports n s).wpc.seqDrain = none := by
  induction n generalizing s with
  | zero => exact hd
  | succ n ih =>
    unfold takeReports
    split
    · exact hd
    · next r l _ =>
      have hw := (Wets.refl (takeReport r (onReports (fun _ => l) s))).waterSettle
      have hf := ((follows_takeReport r (onReports (fun _ => l) s)).faulted h).1
      exact ih (hw.state.trans hf) (hw.seqDrain.trans (takeReport_undrained (s := onReports (fun _ => l) s) h hd r))

/-! ## The second attempt is blocked -/

/-- The step of a fault that alone is reported, no drain request standing and no abort drain following (R26, R204). -/
theorem fault_settled {y : State} {c : FaultCode} (hc : drainsAfter c = false) (hr : y.reports = [.programFault c])
    (hd : y.wpc.seqDrain = none) :
    (conclude y).wpc.seqDrain = none ∧ (conclude y).seq.state = .faulted ∧ (conclude y).rst.history = y.rst.history
      ∧ (y.seq.fault = none → y.seq.state ≠ .faulted → (conclude y).seq.fault = some c) := by
  obtain ⟨u, hu, ht⟩ := fault_first hr
  have hw := (Wets.refl (programFault c u)).waterSettle
  have hf : (waterSettle (programFault c u)).seq.state = .faulted := hw.state.trans (programFault_faulted hc u)
  have hn := takeReports_undrained hf (hw.seqDrain.trans (programFault_undrained hc (hu.seqDrain.trans hd))) 63
  have hh := takeReports_faulted hf 63
  obtain ⟨h1, h2, -⟩ := (follows_takeReports 63 _).faulted hf
  rw [hw.history, programFault_history, hu.history] at hh
  obtain ⟨v, hv⟩ : ∃ v, takeReports 63 (waterSettle (programFault c u)) = v := ⟨_, rfl⟩
  rw [hv] at hn hh h1 h2 ht
  have he := (ends_reachReady v).trans (ends_advanceShutdown _)
  have hcl : conclude y = finish (rested (advanceShutdown (reachReady v))) := by rw [← ht]; rfl
  obtain ⟨k, k1, k2, k3⟩ := wets_tail he
  rw [hcl, Laws.finish_wpc, Laws.finish_seq, Laws.finish_history, k1, k2, k3, k.seqDrain, he.wpc]
  refine ⟨hn, h1, hh, fun hx hs => ?_⟩
  rw [h2, hw.seq]
  exact programFault_fault (by rw [hu.seq]; exact hx) (by rw [hu.state]; exact hs)

theorem attempt_blocked {s : State} (h : Awake s) {n : Nat} (hd : s.wpc.seqDrain = some ⟨.pumping n, true⟩) :
    exec .drainAttemptLimit s = .next (conclude (drainBlocked s)) ∧ (conclude (drainBlocked s)).wpc.seqDrain = none
      ∧ (conclude (drainBlocked s)).seq.state = .faulted
      ∧ (s.seq.fault = none → s.seq.state ≠ .faulted → (conclude (drainBlocked s)).seq.fault = some .drainBlocked)
      ∧ (conclude (drainBlocked s)).rst.history
        = appendHistory ⟨.drainBlocked, s.lnk.stamp, faultPhase s, .num 0, .num 0⟩ s.rst.history := by
  have hr := raiseFault_rest .drainBlocked (.num 0) (.num 0) (dropDrain s)
  have hx : (drainBlocked s).reports = [.programFault .drainBlocked] := by
    unfold drainBlocked report
    rw [hr]
    exact congrArg (· ++ [Report.programFault .drainBlocked]) h.2.2
  have hy : (drainBlocked s).seq = s.seq ∧ (drainBlocked s).wpc = (dropDrain s).wpc := by
    unfold drainBlocked report
    rw [hr]
    exact ⟨rfl, rfl⟩
  obtain ⟨h1, h2, h3, h4⟩ := fault_settled (c := .drainBlocked) rfl hx (congrArg Wpc.seqDrain hy.2)
  rw [hy.1] at h4
  refine ⟨?_, h1, h2, h4, h3.trans (raiseFault_history .drainBlocked (.num 0) (.num 0) (dropDrain s))⟩
  show execDrainAttemptLimit s = _
  simp [execDrainAttemptLimit, whenPowered, h.1, hd]

end Sys2Proof.Proofs
end


section
/-! PROOFS. The end of a drain's run-on outside a program's DRAIN (R22, R26, R28, R47): the program ends, or only the request goes. -/

/- One theorem at a time, as the tests have it: proofs that wait for the kernel cost a thread each. -/
set_option Elab.async false

namespace Sys2Proof.Proofs

open Sys2Proof.Machine
open Sys2Proof.Safety

/-- The run-on has ended, and the sequencer is told (R47). -/
def ranOn (b : Bool) (s : State) : State := report .drainEnded (draining (some ⟨.kept, b⟩) s)

theorem runOn_expires {s : State} (h : Awake s) {n : Nat} {b : Bool} (hd : s.wpc.seqDrain = some ⟨.runOn n, b⟩) :
    exec .drainRunOnExpiry s = .next (conclude (ranOn b s)) := by
  show execDrainRunOnExpiry s = _
  simp [execDrainRunOnExpiry, whenPowered, h.1, hd, ranOn, draining]

theorem ranOn_reports {s : State} (h : Awake s) (b : Bool) : (ranOn b s).reports = [.drainEnded] :=
  congrArg (· ++ [Report.drainEnded]) h.2.2

/-- What the water path leaves of a program's end (R31). -/
theorem programEnd_drifts {y t : State} (hr : y.reports = []) (k : Drifts (programEnd y) t) :
    t.seq = { y.seq with permit := t.seq.permit } ∧ t.wpc.seqDrain = y.wpc.seqDrain
      ∧ (noticeEnabled y.lnk.mask 7 = true → notified (.programEnd t.seq.summary) t = true) := by
  have hx : (programEnd y).reports = y.reports ∧ (programEnd y).seq = y.seq ∧ (programEnd y).wpc = y.wpc := by
    unfold programEnd
    rw [raiseNotice_rest]
    exact ⟨rfl, rfl, rfl⟩
  obtain ⟨h1, h2, h3⟩ := hx
  have hq := k.seq_of_quiet (h1.trans hr)
  rw [h2] at hq
  have hsum : t.seq.summary = y.seq.summary := by rw [hq]
  refine ⟨hq, by rw [k.seqDrain, h3], fun he => k.noted _ (by simp [noticeCode, engineNotices]) ?_⟩
  rw [hsum]
  exact notified_raiseNotice he

section
variable {s : State} (h : Awake s) (hs : Sound s) (b : Bool)
include h hs

/-- Outside RUNNING the sequencer hears of the end, the water path having drifted, and its answer settles. -/
theorem ranOn_told (hr : s.seq.state ≠ .running) : ∃ v, Drifts (ranOn b s) v ∧ v.reports = []
    ∧ v.seq = { s.seq with permit := v.seq.permit }
    ∧ ((drainEnded v).reports = [] → (drainEnded v).part = v.part → (drainEnded v).wpc.fill = v.wpc.fill →
        (drainEnded v).seq.state ≠ .running → Drifts (drainEnded v) (conclude (ranOn b s))) := by
  have hf : s.wpc.fill = none := Laws.sound_fill_none hs hr
  have hd : runningIn (ranOn b s) .drain = false := by
    have hx : runningIn s .drain = false := by simp [runningIn, hr]
    exact hx
  obtain ⟨v, hv, hvr, hx⟩ := concludes_report (ranOn_reports h b) (fun q hq => absurd (show q ∈ s.wpc.fill from hq) (by simp [hf]))
    hd (concludes_conclude _)
  refine ⟨v, hv, hvr, ?_, fun h1 h2 h3 h4 => ?_⟩
  · have hq : Doseless (ranOn b s) := fun a => by simp [ranOn_reports h]
    rw [hv.seq, (hv.placed hq).1]
    rfl
  · have hp : (drainEnded v).part.state = .ready := by rw [h2, hv.part]; exact h.2.1
    have hf : (drainEnded v).wpc.fill = none := by rw [h3, hv.fill]; exact hf
    have hd : runningIn (drainEnded v) .drain = false := by simp [runningIn, h4]
    exact drifts_of_silent hp hf h1 (.inl hd) (hx h1 hp hf hd)

theorem runOn_ends_program (he : s.seq.state = .ending) : ∃ t, conclude (ranOn b s) = t ∧ t.wpc.seqDrain = none
    ∧ t.seq.fault = s.seq.fault
    ∧ (s.seq.fault = none → t.seq.state = .ended ∧ t.seq.summary = { s.seq.summary with outcome := .aborted })
    ∧ (s.seq.fault.isSome = true → t.seq.state = .faulted ∧ t.seq.summary = s.seq.summary)
    ∧ (noticeEnabled s.lnk.mask 7 = true → notified (.programEnd t.seq.summary) t = true) := by
  obtain ⟨v, hv, hvr, hvs, hx⟩ := ranOn_told h hs b (by simp [he])
  have hve : v.seq.state = .ending := by rw [hvs]; exact he
  have hm : v.lnk.mask = s.lnk.mask := hv.mask
  obtain ⟨y, hz, hy, hyd, hym, hyr, hyp, hyf⟩ : ∃ y, drainEnded v = programEnd y
      ∧ y.seq = (if s.seq.fault.isSome then { v.seq with state := .faulted, sub := .none }
        else { v.seq with state := .ended, sub := .none, summary := { v.seq.summary with outcome := .aborted } })
      ∧ y.wpc.seqDrain = none ∧ y.lnk = v.lnk ∧ y.reports = [] ∧ y.part = v.part ∧ y.wpc.fill = v.wpc.fill := by
    have hvf : (dropDrain v).seq.fault = s.seq.fault := by show v.seq.fault = _; rw [hvs]
    cases hf : s.seq.fault with
    | none =>
      exact ⟨setOutcome .aborted (seqTo .ended .none (dropDrain v)), by simp [drainEnded, runningIn, hve, hvf, hf], rfl, rfl, rfl,
        hvr, rfl, rfl⟩
    | some c =>
      exact ⟨seqTo .faulted .none (dropDrain v), by simp [drainEnded, runningIn, hve, hvf, hf, enterFaulted], rfl, rfl, rfl,
        hvr, rfl, rfl⟩
  have hr := raiseNotice_rest (.programEnd y.seq.summary) y
  have hk := hx (by rw [hz, programEnd, hr]; exact hyr) (by rw [hz, programEnd, hr]; exact hyp)
    (by rw [hz, programEnd, hr]; exact hyf) (by
      rw [hz, programEnd, hr]
      show y.seq.state ≠ _
      rw [hy]
      split <;> nofun)
  rw [hz] at hk
  obtain ⟨k1, k2, k3⟩ := programEnd_drifts hyr hk
  rw [hym, hm] at k3
  rw [hy] at k1
  refine ⟨_, rfl, k2.trans hyd, ?_, fun hf => ?_, fun hf => ?_, k3⟩
  · rw [k1, hvs]
    split <;> rfl
  · rw [if_neg (by simp [hf]), hvs] at k1
    exact ⟨by rw [k1], by rw [k1]⟩
  · rw [if_pos hf, hvs] at k1
    exact ⟨by rw [k1], by rw [k1]⟩

theorem runOn_releases (he : s.seq.state = .faulted ∨ s.seq.state = .idle) : ∃ t, conclude (ranOn b s) = t
    ∧ t.wpc.seqDrain = none ∧ t.seq = { s.seq with permit := t.seq.permit } := by
  obtain ⟨v, hv, hvr, hvs, hx⟩ := ranOn_told h hs b (by rcases he with he | he <;> simp [he])
  have hve : v.seq.state = s.seq.state := by rw [hvs]
  have hz : drainEnded v = dropDrain v := by
    rcases he with he | he <;> simp [drainEnded, runningIn, hve, he]
  have hk := hx (by rw [hz]; exact hvr) (by rw [hz]; rfl) (by rw [hz]; rfl)
    (by rw [hz]; rcases he with he | he <;> simp [dropDrain, hve, he])
  have hq := hk.seq_of_quiet (by rw [hz]; exact hvr)
  rw [hz, show (dropDrain v).seq = v.seq from rfl, hvs] at hq
  exact ⟨_, rfl, by rw [hk.seqDrain, hz]; rfl, hq⟩

end

end Sys2Proof.Proofs
end


section
/-! PROOFS. How a step goes on behind its first report: the fuel that the reports leave (log entry 8), and the water path beside a
program's DRAIN. -/

/- One theorem at a time, as the tests have it: proofs that wait for the kernel cost a thread each. -/
set_option Elab.async false

namespace Sys2Proof.Proofs

open Sys2Proof.Machine
open Sys2Proof.Safety

/-! ## The first report -/

/-- The reports are used up after `n` have been taken: more would not change anything. -/
def Spends (n : Nat) (s : State) : Prop := takeReports n s = takeReports (n + 1) s

theorem spends_nil {s : State} (n : Nat) (h : s.reports = []) : Spends n s := by
  unfold Spends
  rw [Laws.takeReports_nil n h, Laws.takeReports_nil (n + 1) h]

theorem takeReports_cons {s : State} {r : Report} {l : List Report} (h : s.reports = r :: l) (n : Nat) :
    takeReports (n + 1) s = takeReports n (waterSettle (takeReport r (onReports (fun _ => l) s))) := by
  conv_lhs => unfold takeReports
  rw [h]

theorem spends_cons {s : State} {r : Report} {l : List Report} {n : Nat} (h : s.reports = r :: l)
    (k : Spends n (waterSettle (takeReport r (onReports (fun _ => l) s)))) : Spends (n + 1) s := by
  unfold Spends
  rw [takeReports_cons h, takeReports_cons h]
  exact k

/-- What follows a command depends on its reports once they are taken. -/
theorem settle_congr {u z : State} (h : takeReports 64 (waterSettle u) = takeReports 64 (waterSettle z)) : settle u = settle z := by
  unfold settle
  rw [h]

/-- The state that hears the only report of a step, once the water path has settled. -/
def hearing (u : State) : State := onReports (fun _ => []) (waterSettle u)

/-- A step with one report is the step of what the sequencer makes of it. -/
theorem concludes_first {u t : State} {r : Report} (hr : (waterSettle u).reports = [r])
    (hs : Spends 63 (waterSettle (takeReport r (hearing u)))) (h : Concludes u t) : Concludes (takeReport r (hearing u)) t := by
  obtain ⟨f, hf, rfl⟩ := h
  exact ⟨f, hf, by rw [settle_congr ((takeReports_cons hr 63).trans hs)]⟩

/-- A state from which nothing is reported settles by the water path alone. -/
theorem settle_unreported {z : State} (hp : z.part.state = .ready) (hr : (waterSettle z).reports = []) :
    settle z = rested (waterSettle z) := by
  have ht := Laws.takeReports_nil 64 hr
  rw [settle_ready (by rw [ht, (Wets.refl z).waterSettle.part]; exact hp), ht]

theorem drifts_unreported {z t : State} (hp : z.part.state = .ready) (hf : Fillable z) (hr : (waterSettle z).reports = [])
    (hc : Concludes z t) : Drifts z t := by
  have k := hc.drifts
  rw [settle_unreported hp hr] at k
  exact (((Drifts.refl z).waterSettle hf).trans (drifts_rested _)).trans k

theorem waterSettle_silent {z : State} (hf : Fillable z) (hd : runningIn z .drain = false) (hr : z.reports = []) :
    (waterSettle z).reports = [] := by
  rcases waterSettle_reports hf with he | ⟨hx, -⟩
  · rw [he, hr]
  · rw [hd] at hx
    cases hx

/-! ## The engine gives way or is granted: does it still want the drain (R30)? -/

theorem revokeRegen_wants {s : State} (h : s.wpc.holder = .brine ∨ s.wpc.holder = .rinse → engineWantsDrain s = true) :
    engineWantsDrain (revokeRegen s) = engineWantsDrain s := by
  unfold revokeRegen
  split
  · next hh => rw [h (.inl hh)]; rfl
  · next hh => rw [h (.inr hh)]; rfl
  · rfl
  · rfl

theorem markSaltLow_state (s : State) : (markSaltLow s).rge.state = s.rge.state := by
  unfold markSaltLow
  split
  · split
    · rfl
    · rw [raiseNotice_rest]
      rfl
  · rfl

theorem grantRegen_wants {s : State} (h : s.wpc.regen ≠ none → engineWantsDrain s = true) :
    engineWantsDrain (grantRegen s) = engineWantsDrain s := by
  unfold grantRegen
  split
  · next hr =>
    split
    · have hx : ∀ u : State, u.rge.state = .brineDraw → engineWantsDrain u = true := fun u hu => by simp [engineWantsDrain, hu]
      rw [h (by simp [hr])]
      dsimp only
      split
      · exact hx _ (markSaltLow_state _)
      · rfl
    · rfl
  · next hr =>
    split
    · rw [h (by simp [hr])]
      rfl
    · rfl
  · rfl

/-! ## The water path without a fill and without an effluent -/

/-- No fill stands, the engine drains no effluent and has no column to take. -/
structure Quietly (u : State) : Prop where
  fill : u.wpc.fill = none
  effluent : u.rge.state ≠ .effluentDrain
  unqueued : Unqueued u

theorem handOver_unqueued {s : State} (h : Unqueued s) : handOver s = s := Laws.handOver_rests h

theorem revokeUnlessFlows_unqueued {s : State} (h : Unqueued s) : Unqueued (revokeUnlessFlows s) := by
  have k := revokeRegen_yields s
  unfold revokeUnlessFlows
  split
  · exact h
  · obtain ⟨-, -, -, -, k5, k6⟩ := k
    intro hi
    rw [k5]
    exact h (k6 hi)

/-- The inlet's conditions are tried, and a request that waits is offered its grant. -/
theorem Quietly.waterSettle_eq {u : State} (h : Quietly u) :
    waterSettle u = grantRegen (refreshPump (revokeUnlessFlows (refreshPump u))) := by
  have hg : grantDeferred u = u := Laws.grantDeferred_rests fun q hq => absurd hq (by simp [h.fill])
  have he : effluentMeetsDrain (refreshPump u) = refreshPump u := Laws.effluentMeetsDrain_rests fun hx => absurd hx h.effluent
  have hh : Unqueued (refreshPump (revokeUnlessFlows (refreshPump u))) :=
    revokeUnlessFlows_unqueued (s := refreshPump u) h.unqueued
  unfold waterSettle
  rw [hg, he, Laws.refreshPump_refreshPump, handOver_unqueued hh]

/-- What the inlet's conditions leave. -/
structure Tried (u v : State) : Prop extends Wets u v where
  reports : v.reports = u.reports
  fill : v.wpc.fill = u.wpc.fill
  burst : v.wpc.burst = u.wpc.burst
  seqDrain : v.wpc.seqDrain = u.wpc.seqDrain
  sfu : v.sfu = u.sfu

theorem grantRegen_burst (s : State) : (grantRegen s).wpc.burst = s.wpc.burst ∧ (grantRegen s).sfu = s.sfu := by
  have hm : ∀ u : State, (markSaltLow u).wpc = u.wpc ∧ (markSaltLow u).sfu = u.sfu := fun u => by
    unfold markSaltLow
    split
    · split
      · exact ⟨rfl, rfl⟩
      · rw [raiseNotice_rest]
        exact ⟨rfl, rfl⟩
    · exact ⟨rfl, rfl⟩
  unfold grantRegen
  split
  · split
    · dsimp only
      split
      · exact ⟨(congrArg Wpc.burst (hm _).1).trans rfl, (hm _).2.trans rfl⟩
      · exact ⟨rfl, rfl⟩
    · exact ⟨rfl, rfl⟩
  · split <;> exact ⟨rfl, rfl⟩
  · exact ⟨rfl, rfl⟩

theorem Quietly.tried {u : State} (h : Quietly u) : Tried u (waterSettle u) := by
  have hw := (Wets.refl u).waterSettle
  have hr : (revokeUnlessFlows (refreshPump u)).wpc.burst = u.wpc.burst ∧ (revokeUnlessFlows (refreshPump u)).sfu = u.sfu := by
    unfold revokeUnlessFlows
    split
    · exact ⟨rfl, rfl⟩
    · exact ⟨revokeRegen_burst (refreshPump u), (revokeRegen_yields (refreshPump u)).2.2.2.2.1⟩
  have hf := ((Drifts.refl u).waterSettle fun q hq => absurd hq (by simp [h.fill])).fill
  have he := h.waterSettle_eq
  obtain ⟨k1, k2⟩ := grantRegen_burst (refreshPump (revokeUnlessFlows (refreshPump u)))
  refine ⟨hw, ?_, hf, by rw [he, k1]; exact hr.1, hw.seqDrain, by rw [he, k2]; exact hr.2⟩
  rw [he, grantRegen_reports, Laws.refreshPump_reports, revokeUnlessFlows_reports, Laws.refreshPump_reports]

/-- The engine wants a drain after the inlet's conditions just where it wanted it before (R30, R39). -/
theorem Quietly.wants {u : State} (h : Quietly u) (hg : GrantsAgree u) : engineWantsDrain (waterSettle u) = engineWantsDrain u := by
  have hh := holder_of_engine hg h.fill
  have hr := hg.1
  unfold engineRequest at hr
  have hq : u.wpc.regen ≠ none → engineWantsDrain u = true := fun hx => by
    cases hs : u.rge.state with
    | brineWait | brineDraw | rinseWait | rinse => simp [engineWantsDrain, hs]
    | idle | dwell | effluentDrain =>
      rw [hs] at hr
      exact absurd hr hx
  have hw : u.wpc.holder = .brine ∨ u.wpc.holder = .rinse → engineWantsDrain u = true := fun hx => by
    cases hs : u.rge.state with
    | brineWait | brineDraw | rinseWait | rinse => simp [engineWantsDrain, hs]
    | idle | dwell | effluentDrain =>
      rw [hs] at hh
      have hn : u.wpc.holder = .none := hh
      rcases hx with hx | hx <;> cases hn.symm.trans hx
  have h1 : engineWantsDrain (revokeUnlessFlows (refreshPump u)) = engineWantsDrain u := by
    unfold revokeUnlessFlows
    split
    · rfl
    · exact revokeRegen_wants (s := refreshPump u) hw
  have h2 : (revokeUnlessFlows (refreshPump u)).wpc.regen ≠ none → engineWantsDrain u = true := by
    unfold revokeUnlessFlows revokeRegen
    split
    · exact hq
    · split
      · next hx => exact fun _ => hw (.inl hx)
      · next hx => exact fun _ => hw (.inr hx)
      · exact hq
      · exact hq
  rw [h.waterSettle_eq, grantRegen_wants (s := refreshPump (revokeUnlessFlows (refreshPump u))) fun hx => h1.trans (h2 hx)]
  exact h1

end Sys2Proof.Proofs
end


section
/-! PROOFS. The boundary of a phase behind a report (R18): what ends there uses up its reports, and what it leaves. -/

/- One theorem at a time, as the tests have it: proofs that wait for the kernel cost a thread each. -/
set_option Elab.async false

namespace Sys2Proof.Proofs

open Sys2Proof.Machine
open Sys2Proof.Safety

/-! ## A fill over at once uses up its reports -/

theorem placeHeating_one (n l : Nat) (s : State) : (placeHeating n l s).reports.length ≤ s.reports.length + 1 := by
  unfold placeHeating
  dsimp only
  split
  · simp [report]
  · split
    · simp [reachTarget, report, toRegulating]
    · split
      · unfold heatExpires
        simp [report, toRegulating, raiseNotice_reports]
      · exact Nat.le_succ _

section
variable {w : WashRecord} (hh : 0 < w.holdTime)
include hh

theorem enterCirculate_reports (s : State) : (enterCirculate w s).reports = s.reports := by
  unfold enterCirculate
  dsimp only
  rw [if_neg (by omega)]
  exact runCirculation_reports w _

theorem enterHeat_one (s : State) : (enterHeat w s).reports.length ≤ s.reports.length + 1 := by
  unfold enterHeat
  split
  · refine (placeHeating_one _ _ _).trans ?_
    rw [runCirculation_reports]
    exact le_rfl
  · rw [enterCirculate_reports hh]
    exact Nat.le_succ _

theorem enterDose_one (s : State) : (enterDose w s).reports.length ≤ s.reports.length + 1 := by
  have hp : (placeDoses w w.refs (runCirculation w (seqTo .running .dose s))).reports = s.reports := by
    rw [placeDoses_reports, runCirculation_reports]
    rfl
  unfold enterDose
  split
  · exact enterHeat_one hh s
  · dsimp only
    split
    · rw [← hp]
      exact enterHeat_one hh _
    · rw [hp]
      exact Nat.le_succ _

theorem takeReport_warm_reports {m : Summary} {t : State} (h : Warm w m t) {r : Report} (hr : Warming r) :
    (takeReport r t).reports = t.reports := by
  have hx : ∀ u : State, currentWash u = some w → (heatEnded u).reports = u.reports := fun u hu => by
    unfold heatEnded
    rw [hu]
    dsimp only
    split
    · exact enterCirculate_reports hh u
    · rfl
  rcases hr with rfl | rfl | rfl
  · exact hx t h.wash
  · exact hx t h.wash
  · have hu : currentWash (onSeq (fun q => { q with heaterOff := true }) t) = some w := h.wash
    unfold takeReport
    dsimp only
    unfold sensorFailedToSeq
    dsimp only
    rw [hu]
    dsimp only
    split
    · rw [enterCirculate_reports hh, withdrawHeat_reports]
      rfl
    · rfl

/-- A phase past its fill uses up the reports by which HEAT ends. -/
theorem warm_spends {m : Summary} {t : State} (h : Warm w m t) {n : Nat} (hn : t.reports.length ≤ n) : Spends n t := by
  induction n generalizing t with
  | zero => exact spends_nil 0 (List.length_eq_zero_iff.mp (Nat.le_zero.mp hn))
  | succ n ih =>
    cases hr : t.reports with
    | nil => exact spends_nil _ hr
    | cons r l =>
      have hd := (h.drifts ((Drifts.refl t).onReports (fun _ => l) fun x hx => by
        rw [hr]; exact List.mem_cons_of_mem _ hx) fun x hx => by rw [hr]; exact List.mem_cons_of_mem _ hx).2
      have hw := (takeReport_warm hh hd (h.reports r (by simp [hr]))).2
      refine spends_cons hr (ih hw.waterSettle.2 ?_)
      have hl : (waterSettle (takeReport r (onReports (fun _ => l) t))).reports = l := by
        rcases waterSettle_reports hw.fillable with he | ⟨hx, -⟩
        · rw [he, takeReport_warm_reports hh hd (h.reports r (by simp [hr]))]
          rfl
        · rw [hw.not_drain] at hx
          cases hx
      rw [hl]
      simpa [hr] using hn

/-- A main fill that the switch has ended uses up its reports (R41). -/
theorem fillOver_spends {y : State} {n : Nat} (hp : y.part.state = .ready) (hr : y.reports = [.fillEnded .main .highLevel n])
    (hb : runningIn y .fill = true) (hw : currentWash y = some w) (hf : y.wpc.fill = none) : Spends 63 (waterSettle y) := by
  obtain ⟨hst, hsub⟩ := (runningIn_iff _ _).mp hb
  have hd : runningIn y .drain = false := by simp [runningIn, hsub]
  obtain ⟨v, hv, hvr, ht⟩ := takeReports_one hr (fun q hq => absurd hq (by simp [hf])) hd
  have he : takeReport (.fillEnded .main .highLevel n) v = enterDose w (closeFill v) := by
    have h1 : currentWash v = some w := by rw [hv.currentWash, hw]
    have h2 : runningIn v .fill = true := by rw [hv.runningIn, hb]
    simp [takeReport, fillEnded, h1, h2]
  have hc := (Wets.refl v).closeFill
  obtain ⟨c1, -, c3, -⟩ := closeFill_keeps v
  have hs : Washes w y.seq.summary (closeFill v) := ⟨by rw [hc.part, hv.part, hp], by rw [hc.state, hv.state, hst],
    by rw [hc.currentWash, hv.currentWash, hw], by rw [c1, hv.fill, hf], by rw [hc.seq, hv.seq], by rw [c3, hvr]; simp⟩
  have hx := (enterDose_warm hh hs).2
  have hl : (waterSettle (enterDose w (closeFill v))).reports.length ≤ 62 := by
    rcases waterSettle_reports hx.fillable with hq | ⟨hq, -⟩
    · rw [hq]
      refine (enterDose_one hh _).trans ?_
      rw [c3, hvr]
      decide
    · rw [hx.not_drain] at hq
      cases hq
  unfold Spends
  rw [ht 62, ht 63, he]
  exact warm_spends hh hx.waterSettle.2 hl

end

/-! ## A boundary at rest reports nothing -/

/-- From `s` the sequencer leaves the boundary without a report, a fill waiting or a drain beside the effluent. -/
structure Silent (z : State) : Prop where
  reports : z.reports = []
  fillable : Fillable z
  aside : runningIn z .drain = false

theorem Silent.spends {z : State} (h : Silent z) (n : Nat) : Spends n (waterSettle z) :=
  spends_nil n (waterSettle_silent h.fillable h.aside h.reports)

theorem silent_of_unfilled {z : State} (hr : z.reports = []) (hf : z.wpc.fill = none) (hd : runningIn z .drain = false) : Silent z :=
  ⟨hr, fun q hq => absurd hq (by simp [hf]), hd⟩

section
variable {z : State} (hr : z.reports = []) (hf : z.wpc.fill = none)
include hr hf

theorem silent_completes (hn : z.seq.count ≤ z.seq.idx + 1) : Silent (endPhase z) := by
  have hs : (phaseEndRaised z).seq = z.seq := by rw [phaseEndRaised_rest]
  rw [endPhase_eq, hs, if_pos hn, completeProgram_eq, raiseNotice_rest, phaseEndRaised_rest]
  exact silent_of_unfilled hr hf rfl

theorem silent_holds (hn : z.seq.idx + 1 < z.seq.count) (hh : z.seq.holdPending = true) : Silent (endPhase z) := by
  have hs : (phaseEndRaised z).seq = z.seq := by rw [phaseEndRaised_rest]
  rw [endPhase_eq, hs, if_neg (by omega), if_pos hh, holdAtBoundary_eq, raiseNotice_rest, phaseEndRaised_rest]
  exact silent_of_unfilled hr hf rfl

theorem silent_suspends {k : WashKind} {w : WashRecord} (hp : currentPhase z = some (.wash k w)) (hd : z.ddu.doorOpen = true) :
    Silent (enterPhase z) := by
  rw [enterPhase_suspended hp hd, marked_rest]
  exact silent_of_unfilled hr hf rfl

theorem silent_dwells {d o : Nat} (hp : currentPhase z = some (.dry d o)) (ha : z.ddu.awaited = false)
    (hs : z.ddu.stage ≠ .retracting) (hd : z.ddu.doorOpen = false) (h0 : 0 < d) : Silent (enterPhase z) := by
  rw [enterPhase_dryStarted ha hp, if_neg hs]
  obtain ⟨-, h1⟩ := takeStart_dwells (d := d) (o := o) hr hd (by split <;> omega)
  have hy := (Dries.refl (dryStarted d o z)).takeStart ⟨d, o⟩
  have hw : (takeStart ⟨d, o⟩ (dryStarted d o z)).wpc = z.wpc := by rw [hy.rest, dryStarted_rest]
  have hq : (takeStart ⟨d, o⟩ (dryStarted d o z)).seq = drySeq z.seq := by rw [hy.rest, dryStarted_rest]
  exact silent_of_unfilled h1 (by rw [hw]; exact hf) (by rw [runningIn, hq]; rfl)

end

section
variable {w : WashRecord} {o : State} {n : Nat} (h : Asks w o) (hi : o.wpc.inhibit = false) (hb : o.wpc.burst = none)
include h hi hb

theorem silent_grants (hl : o.wpc.highLevel = false) : Silent (placeFill n .main o) := by
  rw [placeFill_meets n .main h.fill hi hb, hl, if_neg (by simp)]
  have hw := granted_wets ⟨n, .main, false⟩ o
  refine ⟨(revokeRegen_reports o).trans h.reports, fun q hq => .inl ?_, by rw [hw.runningIn, h.not_drain]⟩
  have hq : some { (⟨n, .main, false⟩ : FillReq) with held := true } = some q := hq
  rw [← Option.some.inj hq]

theorem over_spends (hl : o.wpc.highLevel = true) (hh : 0 < w.holdTime) : Spends 63 (waterSettle (placeFill n .main o)) := by
  rw [placeFill_meets n .main h.fill hi hb, hl, if_pos rfl, endFill_granted hb]
  have hw : Wets o (closeInlet (onWpc (fun w => { w with fill := none })
      (report (.fillEnded .main .highLevel 0) (granted ⟨n, .main, false⟩ o)))) :=
    (((granted_wets ⟨n, .main, false⟩ o).report _).setFill none).closeInlet
  exact fillOver_spends (n := 0) hh (by rw [hw.part]; exact h.ready)
    (congrArg (· ++ [Report.fillEnded .main .highLevel 0]) ((revokeRegen_reports o).trans h.reports))
    (by rw [hw.runningIn]; exact h.running) (by rw [hw.currentWash]; exact h.wash) rfl

end

/-! ## A boundary places no drain -/

theorem Dries.startDrying {s t : State} (h : Dries s t) (p : DryStart) : Dries s (startDrying p t) := by
  have h : Dries s (if t.ddu.awaited then Machine.endDrying t else t) := .ite (fun _ => h.endDrying) fun _ => h
  exact .ite (fun _ => h.onDdu _) fun _ => h.takeStart _

theorem enterPhase_seqDrain (z : State) : (enterPhase z).wpc.seqDrain = z.wpc.seqDrain := by
  cases hc : currentPhase z with
  | none => simp [enterPhase, hc]
  | some p =>
    cases p with
    | dry d o =>
      have ht : ∀ u : State, (startDrying ⟨d, o⟩ u).wpc = u.wpc := fun u => by rw [((Dries.refl u).startDrying ⟨d, o⟩).rest]
      rw [enterPhase_dry hc, ht]
      show (marked (.dry d o) z).wpc.seqDrain = _
      rw [marked_rest]
    | wash k w =>
      cases hd : z.ddu.doorOpen with
      | true =>
        rw [enterPhase_suspended hc hd, marked_rest]
        rfl
      | false =>
        have hx : fillStarted k w z = seqTo .running .fill (marked (.wash k w) z) := rfl
        rw [enterPhase_fill hc hd, ← hx, beginFill_eq]
        have ho := (opened_opened (fillStarted k w z)).wpc
        rw [((Wets.refl (opened (fillStarted k w z))).placeFill w.fillVolume .main).seqDrain, ho, fillStarted_rest]

theorem endPhase_seqDrain (z : State) : (endPhase z).wpc.seqDrain = z.wpc.seqDrain := by
  have h := phaseEndRaised_rest z
  rw [endPhase_eq]
  split
  · rw [completeProgram_eq, raiseNotice_rest, h]
    rfl
  · split
    · rw [holdAtBoundary_eq, raiseNotice_rest, h]
      rfl
    · unfold enterNext
      rw [enterPhase_seqDrain, h]
      rfl

end Sys2Proof.Proofs
end


section
/-! PROOFS. The boundary of a phase behind a report (R18): PHASE_END, and what it leads to, told from the state before the step. -/

/- One theorem at a time, as the tests have it: proofs that wait for the kernel cost a thread each. -/
set_option Elab.async false

namespace Sys2Proof.Proofs

open Sys2Proof.Machine
open Sys2Proof.Safety

/-- The next phase of the program that can still go on: DRY and the last, or another one (R4, R5). -/
def NextKnown (q : Seq) : Prop := (∃ d o, DryNext q d o) ∨ ∃ k w, phaseAt q (q.idx + 1) = some (.wash k w)

section
variable {s z t : State} (h : AtBoundary s z) (hn : s.seq.idx + 1 < s.seq.count) (hh : s.seq.holdPending = false)
include h hn hh

/-- A next phase other than DRY, before an open door (R6, R18). -/
theorem boundary_suspends (hc : Concludes (endPhase z) t) (hd : s.ddu.doorOpen = true) {k : WashKind} {w : WashRecord}
    (hp : phaseAt s.seq (s.seq.idx + 1) = some (.wash k w)) : PhaseEnded s t := by
  obtain ⟨n1, n2, n3, n4, n5⟩ := nextOf_shares h
  have hz := nextOf_rest z
  have hdz : (nextOf z).ddu.doorOpen = true := by rw [hz]; exact (congrArg Ddu.doorOpen h.ddu).trans hd
  rw [endPhase_next h hn hh] at hc
  obtain ⟨-, -, -, -, h5, -⟩ := h.program
  obtain ⟨k1, -, k3⟩ := enterPhase_waits n1 (n2.trans hp) hdz hc
  have hw := washEntered_of_suspended k1 k3
  obtain ⟨q1, -⟩ := hw.seq
  have hs := k1.seq
  refine phaseEnded_of_next hn hh (fun _ he p hcp => ?_) ⟨fun k' w' hp' => ⟨fun _ => ?_, fun hx => ?_⟩, fun d o hx => ?_⟩
  · exact k3 _ (by simp [noticeCode, engineNotices]) (marked_noted (.wash k w) (by simp [noticeCode]) (n5 he p hcp))
  · obtain ⟨rfl, rfl⟩ : k = k' ∧ w = w' := by simpa using hp.symm.trans hp'
    refine ⟨⟨q1.trans n3, ?_, fun h4 => ?_⟩, by rw [hs], by rw [hs], by rw [hs]; rfl, k1.fill⟩
    · rw [hs, hz, ← h5]
      rfl
    · rw [← n3]
      exact hw.begins (by rw [n4]; exact h4)
  · rw [hd] at hx
    cases hx
  · simp [hp] at hx

omit h in
/-- A next phase that the statement says nothing of: one that ends in the step that enters it. -/
theorem boundary_unsaid (hw : ∀ k w, phaseAt s.seq (s.seq.idx + 1) = some (.wash k w) →
      s.ddu.doorOpen = false ∧ s.wpc.highLevel = true ∧ w.holdTime = 0)
    (hd : ∀ d o, phaseAt s.seq (s.seq.idx + 1) = some (.dry d o) → s.ddu.doorOpen = true ∨ d = 0 ∨ s.ddu.stage = .retracting) :
    PhaseEnded s t ∧ ¬ BoundaryRests s := by
  have hno : ¬ BoundaryRests s := fun hr => by
    have hs := nextPhaseStays_of_rests hn hh hr
    unfold nextPhaseStays at hs
    split at hs
    · next k w hp =>
      obtain ⟨h1, h2, -⟩ := hw k w hp
      simp [h1, h2] at hs
    · next d o hp =>
      simp only [Bool.and_eq_true, Bool.not_eq_true', decide_eq_true_eq, bne_iff_ne] at hs
      obtain ⟨⟨⟨s1, s2⟩, -⟩, s4⟩ := hs
      rcases hd d o hp with hx | hx | hx
      · simp [s1] at hx
      · omega
      · exact s4 hx
    · cases hs
  refine ⟨phaseEnded_of_next hn hh (fun hr => absurd hr hno) ⟨fun k w hp => ?_, fun d o hp h1 h2 _ h4 => ?_⟩, hno⟩
  · obtain ⟨h1, h2, h3⟩ := hw k w hp
    refine ⟨fun hx => ?_, fun _ _ hx => ?_⟩
    · simp [h1] at hx
    · rcases hx with hx | hx
      · simp [h2] at hx
      · omega
  · rcases hd d o hp with hx | hx | hx
    · simp [h1] at hx
    · omega
    · exact absurd hx h4

end

section
variable {s z t : State} (h : AtBoundary s z) (hg : GrantsAgree z) (hb : s.wpc.burst = none) (hi : s.wpc.inhibit = false)
  (hk : s.seq.idx + 1 < s.seq.count → NextKnown s.seq)
include h hg hb hi hk

/-- A boundary that is reached behind a report, as soon as its own reports are seen to be used up. -/
theorem boundary_ends (hc : Spends 63 (waterSettle (endPhase z)) → Concludes (endPhase z) t) :
    PhaseEnded s t ∧ (BoundaryRests s → t.wpc.seqDrain = z.wpc.seqDrain) := by
  obtain ⟨p1, p2, p3, p4, -⟩ := h.program
  obtain ⟨i1, i2, i3⟩ := h.inlet
  have hr : ∀ {y}, y = endPhase z → Silent y → t.wpc.seqDrain = z.wpc.seqDrain ∧ Concludes (endPhase z) t := by
    rintro y rfl hy
    have hc := hc (hy.spends 63)
    have hp : (endPhase z).part.state = .ready := by
      rw [((Lasts.refl z).endPhase).part h.homings]
      exact h.ready
    exact ⟨(drifts_unreported hp hy.fillable (waterSettle_silent hy.fillable hy.aside hy.reports) hc).seqDrain.trans
      (endPhase_seqDrain z), hc⟩
  by_cases hn : s.seq.idx + 1 < s.seq.count
  · cases hh : s.seq.holdPending with
    | true =>
      obtain ⟨k1, k2⟩ := hr rfl (silent_holds h.reports h.fill (by rw [p2, p3]; exact hn) (by rw [p4]; exact hh))
      exact ⟨(boundary_holds h k2 hn hh).1.phaseEnded, fun _ => k1⟩
    | false =>
      obtain ⟨n1, n2, -⟩ := nextOf_shares h
      have hz := nextOf_rest z
      have he := endPhase_next h hn hh
      rcases hk hn with ⟨d, o, hd⟩ | ⟨k, w, hp⟩
      · by_cases hs : s.ddu.doorOpen = true ∨ d = 0 ∨ s.ddu.stage = .retracting
        · obtain ⟨k1, k2⟩ := boundary_unsaid (t := t) hn hh (fun k w hx => by simp [hd.1] at hx) fun d' o' hx => by
            obtain ⟨rfl, rfl⟩ : d = d' ∧ o = o' := by simpa using hd.1.symm.trans hx
            exact hs
          exact ⟨k1, fun hx => absurd hx k2⟩
        · simp only [not_or, Bool.not_eq_true] at hs
          obtain ⟨s1, s2, s3⟩ := hs
          have hzd : (nextOf z).ddu = s.ddu := by rw [hz]; exact h.ddu
          obtain ⟨k1, k2⟩ := hr he.symm (silent_dwells n1.reports n1.fill (n2.trans hd.1) (by rw [hzd, ← h.ddu]; exact h.awaited)
            (by rw [hzd]; exact s3) (by rw [hzd]; exact s1) (by omega))
          exact ⟨(boundary_dries h k2 hn hh hd).1.phaseEnded, fun _ => k1⟩
      · cases hd : s.ddu.doorOpen with
        | true =>
          obtain ⟨k1, k2⟩ := hr he.symm (silent_suspends n1.reports n1.fill (n2.trans hp)
            (by rw [hz]; exact (congrArg Ddu.doorOpen h.ddu).trans hd))
          exact ⟨boundary_suspends h hn hh k2 hd hp, fun _ => k1⟩
        | false =>
          have hdz : (nextOf z).ddu.doorOpen = false := by rw [hz]; exact (congrArg Ddu.doorOpen h.ddu).trans hd
          have ha : Asks w (opened (fillStarted k w (nextOf z))) := (asks_fillStarted n1 (n2.trans hp)).opened
          have hx : endPhase z = placeFill w.fillVolume .main (opened (fillStarted k w (nextOf z))) := by
            rw [he, enterPhase_fill (n2.trans hp) hdz]
            rfl
          have hw : (opened (fillStarted k w (nextOf z))).wpc = z.wpc := by
            rw [(opened_opened _).wpc, fillStarted_rest, hz]
          cases hl : s.wpc.highLevel with
          | false =>
            obtain ⟨k1, k2⟩ := hr hx.symm (silent_grants ha (by rw [hw, i1]; exact hi) (by rw [hw, i2]; exact hb)
              (by rw [hw, i3]; exact hl))
            exact ⟨(boundary_washes h k2 hn hh hg hd hp hi).phaseEnded, fun _ => k1⟩
          | true =>
            have hno : ¬ BoundaryRests s := fun hr => by
              have hs := nextPhaseStays_of_rests hn hh hr
              simp [nextPhaseStays, hp, hd, hl] at hs
            by_cases h0 : w.holdTime = 0
            · obtain ⟨k1, k2⟩ := boundary_unsaid (t := t) hn hh (fun k' w' hx => by
                obtain ⟨rfl, rfl⟩ : k = k' ∧ w = w' := by simpa using hp.symm.trans hx
                exact ⟨hd, hl, h0⟩) fun d o hx => by simp [hp] at hx
              exact ⟨k1, fun hx => absurd hx k2⟩
            · have hsp := over_spends (n := w.fillVolume) ha (by rw [hw, i1]; exact hi) (by rw [hw, i2]; exact hb)
                (by rw [hw, i3]; exact hl) (by omega)
              rw [← hx] at hsp
              exact ⟨(boundary_washes h (hc hsp) hn hh hg hd hp hi).phaseEnded, fun hr => absurd hr hno⟩
  · obtain ⟨k1, k2⟩ := hr rfl (silent_completes h.reports h.fill (by rw [p2, p3]; exact Nat.not_lt.mp hn))
    exact ⟨(boundary_completes h k2 (Nat.not_lt.mp hn)).1.phaseEnded, fun _ => k1⟩

end

end Sys2Proof.Proofs
end


section
/-! PROOFS. The end of the run-on in a program's DRAIN (R15, R30, R47): the drain is extended, or the phase reaches its boundary; and
the statement of the sequencer's drain. -/

/- One theorem at a time, as the tests have it: proofs that wait for the kernel cost a thread each. -/
set_option Elab.async false

namespace Sys2Proof.Proofs

open Sys2Proof.Machine
open Sys2Proof.Safety

/-! ## A sound part in DRAIN -/

/-- In DRAIN no fill stands, no effluent is drained, and the inlet is free of a flood (R30, R90). -/
structure Draining (s : State) : Prop where
  awake : Awake s
  sound : Sound s
  drains : runningIn s .drain = true

namespace Draining

variable {s : State} (h : Draining s)
include h

theorem fill : s.wpc.fill = none := by
  obtain ⟨h1, h2⟩ := (runningIn_iff _ _).mp h.drains
  have hf := (Laws.sound_waterKept h.sound).1
  simpa [runningIn, h1, h2] using hf

theorem effluent : s.rge.state ≠ .effluentDrain := by
  obtain ⟨-, -, -, he, -⟩ := Laws.sound_waterKept h.sound
  have hd := h.drains
  exact fun hx => by simp [he hx] at hd

theorem burst : s.wpc.burst = none := by
  obtain ⟨-, -, -, -, -, hx, -⟩ := Laws.sound_grantsAgree h.sound
  have he : (s.rge.state == .effluentDrain) = false := by simpa using h.effluent
  rw [he] at hx
  exact Option.not_isSome_iff_eq_none.mp (by simp [hx])

theorem inhibit : s.wpc.inhibit = false := by
  obtain ⟨h1, h2⟩ := (runningIn_iff _ _).mp h.drains
  obtain ⟨-, -, -, -, hi, -⟩ := Laws.sound_waterKept h.sound
  cases hx : s.wpc.inhibit with
  | false => rfl
  | true => simp [(hi hx).2.1 h1] at h2

theorem awaited : s.ddu.awaited = false := by
  obtain ⟨-, h2⟩ := (runningIn_iff _ _).mp h.drains
  exact (Laws.sound_not_awaited h.sound (by simp [runningIn, h2])).1

theorem homings : s.part.homings = {} := Laws.sound_homings h.sound (by rw [h.awake.2.1]; nofun)

theorem next (hn : s.seq.idx + 1 < s.seq.count) : NextKnown s.seq := by
  obtain ⟨h1, -⟩ := (runningIn_iff _ _).mp h.drains
  exact next_of_sound h.sound (by simp [programRuns, h1]) hn

end Draining

/-! ## The run-on's end is heard -/

section
variable {s : State} (h : Draining s) (hq : Unqueued s) (b : Bool)
include h

theorem quietly_ranOn (hq : Unqueued s) : Quietly (ranOn b s) := ⟨h.fill, h.effluent, hq⟩

theorem inlet_ranOn : Inlet (ranOn b s) :=
  have hg : GrantsAgree s := Laws.sound_grantsAgree h.sound
  ⟨hg, fun q hx => absurd (show q ∈ s.wpc.fill from hx) (by simp [h.fill])⟩

/-- What the sequencer hears of: the drain is kept, and the water path has been tried (R39, R47). -/
structure Heard (b : Bool) (s v : State) : Prop where
  wets : Wets (ranOn b s) v
  grants : GrantsAgree v
  reports : v.reports = []
  fill : v.wpc.fill = none
  burst : v.wpc.burst = none
  seqDrain : v.wpc.seqDrain = some ⟨.kept, b⟩
  seq : v.seq = { s.seq with permit := v.seq.permit }
  effluent : v.rge.state ≠ .effluentDrain
  wanted : extensionHolds v = extensionHolds s

include hq

theorem heard_ranOn : Heard b s (hearing (ranOn b s)) := by
  have hr := ranOn_reports h.awake b
  have k := (quietly_ranOn h b hq).tried
  have hd := (Drifts.refl (ranOn b s)).waterSettle fun q hx => absurd (show q ∈ s.wpc.fill from hx) (by simp [h.fill])
  have hg := (Flows.refl (inlet_ranOn h b)).waterSettle.inlet.grants
  have hw := (quietly_ranOn h b hq).wants (inlet_ranOn h b).grants
  have hseq : (waterSettle (ranOn b s)).seq = { s.seq with permit := (waterSettle (ranOn b s)).seq.permit } := by
    have hl : Doseless (ranOn b s) := fun a => by simp [hr]
    conv_lhs => rw [hd.seq, (hd.placed hl).1]
    rfl
  have hb : (waterSettle (ranOn b s)).wpc.burst = none := k.burst.trans h.burst
  refine ⟨k.toWets.onReports (fun _ => []) fun _ => by simp, hg, rfl, k.fill.trans h.fill, hb, k.seqDrain, hseq, fun hx => ?_, ?_⟩
  · obtain ⟨-, -, -, -, -, hx', -⟩ := hg
    have he : ((waterSettle (ranOn b s)).rge.state == .effluentDrain) = true := beq_iff_eq.mpr hx
    rw [he, hb] at hx'
    cases hx'
  · have hl : laterWash (waterSettle (ranOn b s)).seq = laterWash s.seq := by rw [hseq]; rfl
    show (engineWantsDrain (waterSettle (ranOn b s)) && (waterSettle (ranOn b s)).sfu.ready.isEmpty
      && laterWash (waterSettle (ranOn b s)).seq) = _
    rw [hw, k.sfu, hl]
    rfl

/-- The step goes on with what the sequencer makes of the drain's end. -/
theorem ranOn_concludes {t : State} (hs : Spends 63 (waterSettle (drainNaturalEnd (hearing (ranOn b s)))))
    (hc : Concludes (ranOn b s) t) : Concludes (drainNaturalEnd (hearing (ranOn b s))) t := by
  have k := (quietly_ranOn h b hq).tried
  have hd : runningIn (hearing (ranOn b s)) .drain = true := by
    rw [(heard_ranOn h hq b).wets.runningIn]
    exact h.drains
  have he : takeReport .drainEnded (hearing (ranOn b s)) = drainNaturalEnd (hearing (ranOn b s)) := by
    simp [takeReport, drainEnded, hd]
  rw [← he] at hs ⊢
  exact concludes_first (k.reports.trans (ranOn_reports h.awake b)) hs hc

end

/-! ## The drain is extended (R30) -/

theorem runOn_extends {s : State} (h : Draining s) (b : Bool) (hx : extensionHolds s = true) :
    ∃ t, conclude (ranOn b s) = t ∧ t.seq = { s.seq with extension := some 0, permit := true }
      ∧ t.wpc.seqDrain = some ⟨.kept, b⟩ ∧ t.wpc.drainPump = true := by
  have hq : Unqueued s := fun hi => by simp [extensionHolds, engineWantsDrain, hi] at hx
  have k := heard_ranOn h hq b
  obtain ⟨v, hv⟩ : ∃ v, hearing (ranOn b s) = v := ⟨_, rfl⟩
  have hc := ranOn_concludes h hq b (t := conclude (ranOn b s))
  rw [hv] at k hc
  have he : drainNaturalEnd v = onSeq (fun q => { q with extension := some 0 }) v := by
    simp [drainNaturalEnd, k.wanted, hx]
  rw [he] at hc
  obtain ⟨z, hz⟩ : ∃ z, onSeq (fun q => { q with extension := some 0 }) v = z := ⟨_, rfl⟩
  rw [hz] at hc
  have hzq : Quietly z := hz ▸ ⟨k.fill, k.effluent, fun hi => ?_⟩
  · have hr : (waterSettle z).reports = [] := hzq.tried.reports.trans (by rw [← hz]; exact k.reports)
    have hc := hc (spends_nil 63 hr) (concludes_conclude _)
    have hd := drifts_unreported (by rw [← hz]; exact k.wets.part ▸ h.awake.2.1) (fun q hx => absurd hx (by simp [hzq.fill])) hr hc
    obtain ⟨h1, h2⟩ := (runningIn_iff _ _).mp h.drains
    have hs := hd.seq_of_quiet (by rw [← hz]; exact k.reports)
    have hsd : (conclude (ranOn b s)).wpc.seqDrain = some ⟨.kept, b⟩ := by rw [hd.seqDrain, ← hz]; exact k.seqDrain
    have hpump : (conclude (ranOn b s)).wpc.drainPump = true := by
      rw [hc.settled.pump]
      simp [pumpAsked, hsd, drainAsks]
    rw [← hz, show (onSeq (fun q => { q with extension := some 0 }) v).seq = { v.seq with extension := some 0 } from rfl, k.seq] at hs
    have hp : (conclude (ranOn b s)).seq.permit = true := by
      rw [hc.settled.permit, permitCondition, hs, hpump]
      simp [h1, h2]
    rw [hp] at hs
    exact ⟨_, rfl, hs, hsd, hpump⟩
  · have hi : v.rge.state = .idle := hi
    have hw := k.wanted.trans hx
    simp [extensionHolds, engineWantsDrain, hi] at hw

/-! ## The drain ends with the phase (R15, R18) -/

section
variable {s : State} (h : Draining s) (hq : Unqueued s) (b : Bool) (hx : extensionHolds s = false)
include h hq hx

/-- The state at whose boundary the drain ends: the request has gone. -/
def undrained (v : State) : State := dropDrain (onSeq (fun q => { q with extension := none }) v)

omit hx in
theorem atBoundary_undrained : AtBoundary s (undrained (hearing (ranOn b s))) := by
  have k := heard_ranOn h hq b
  obtain ⟨v, hv⟩ : ∃ v, hearing (ranOn b s) = v := ⟨_, rfl⟩
  rw [hv] at k ⊢
  have hp : v.part = s.part := k.wets.part
  have hd : v.ddu = s.ddu := k.wets.ddu
  have hs : (undrained v).seq = { s.seq with permit := v.seq.permit, extension := none } := by
    show { v.seq with extension := none } = _
    conv_lhs => rw [k.seq]
  exact {
    ready := show v.part.state = .ready by rw [hp]; exact h.awake.2.1
    reports := k.reports
    fill := k.fill
    homings := show v.part.homings = {} by rw [hp]; exact h.homings
    awaited := show v.ddu.awaited = false by rw [hd]; exact h.awaited
    part := hp
    cfg := k.wets.cfg
    ddu := hd
    mask := k.wets.mask
    inlet := ⟨k.wets.inhibit, k.burst.trans h.burst.symm, k.wets.highLevel⟩
    program := by rw [hs]; exact ⟨rfl, rfl, rfl, rfl, rfl, rfl⟩ }

theorem runOn_ends_phase : ∃ t, conclude (ranOn b s) = t ∧ (BoundaryRests s → t.wpc.seqDrain = none) ∧ t.seq.extension = none
    ∧ PhaseEnded s t := by
  have k := heard_ranOn h hq b
  have hb := atBoundary_undrained h hq b
  have hc := fun hs => ranOn_concludes h hq b (t := conclude (ranOn b s)) hs (concludes_conclude _)
  have hr := (quietly_ranOn h b hq).tried.reports.trans (ranOn_reports h.awake b)
  have he : drainNaturalEnd (hearing (ranOn b s)) = endPhase (undrained (hearing (ranOn b s))) := by
    simp [drainNaturalEnd, k.wanted, hx, endDrain, undrained]
  rw [he] at hc
  have hg : GrantsAgree (undrained (hearing (ranOn b s))) := k.grants
  have hrun : runningIn (hearing (ranOn b s)) .drain = true := by rw [k.wets.runningIn]; exact h.drains
  obtain ⟨v, hv⟩ : ∃ v, undrained (hearing (ranOn b s)) = v := ⟨_, rfl⟩
  rw [hv] at hb hc hg he
  obtain ⟨k1, k2⟩ := boundary_ends hb hg h.burst h.inhibit h.next hc
  refine ⟨_, rfl, fun hx => (k2 hx).trans (by rw [← hv]; rfl), ?_, k1⟩
  have hu : Undrained v := ⟨by rw [hb.reports]; simp, by rw [← hv]; rfl⟩
  have hl : Lasts v (takeReports 64 (waterSettle (ranOn b s))) := by
    have ht : takeReport .drainEnded (hearing (ranOn b s)) = endPhase v := by
      simp only [takeReport, drainEnded, hrun, if_true, he]
    rw [takeReports_cons hr 63]
    show Lasts v (takeReports 63 (waterSettle (takeReport .drainEnded (hearing (ranOn b s)))))
    rw [ht]
    exact (Lasts.refl v).endPhase.waterSettle.takeReports hu 63
  have hp : (takeReports 64 (waterSettle (ranOn b s))).part.state = .ready := by rw [hl.part hb.homings]; exact hb.ready
  have hw : Lasts v (conclude (ranOn b s)) := by
    rw [conclude, settle_ready hp]
    exact (hl.wets (drifts_rested _).toWets).wets (Wets.refl _).finish
  exact (hw.undrained hu).2

end

end Sys2Proof.Proofs
end


section
/-! PROOFS. The drain of the sequencer, settled (O34). -/

/- One theorem at a time, as the tests have it: proofs that wait for the kernel cost a thread each. -/
set_option Elab.async false

namespace Sys2Proof.Proofs

open Sys2Proof.Machine
open Sys2Proof.Safety

/-- Settles O34: the run-on's end is heard by the sequencer with the water path tried, and a boundary told from its own reports. -/
theorem drainsRunOnRetryAndBlock : Obligations.DrainsRunOnRetryAndBlock := by
  unfold Obligations.DrainsRunOnRetryAndBlock
  intro s ha d hd
  refine ⟨fun hr ⟨n, hst⟩ h2 hx => attempt_pauses hr hd hst h2 hx, fun hr ⟨n, hst⟩ hx => pause_ends hr hd hst hx,
    fun _ ⟨n, hst⟩ h2 => ?_, fun hs ⟨n, hst⟩ => ?_⟩
  · obtain ⟨st, b⟩ := d
    obtain rfl : st = .pumping n := hst
    obtain rfl : b = true := h2
    exact ⟨_, attempt_blocked ha hd⟩
  · obtain ⟨st, b⟩ := d
    obtain rfl : st = .runOn n := hst
    rw [runOn_expires ha hd]
    have hphase : runningIn s .drain = true → extensionHolds s = false → Unqueued s → ∃ t, conclude (ranOn b s) = t
        ∧ (BoundaryRests s → t.wpc.seqDrain = none) ∧ t.seq.extension = none ∧ PhaseEnded s t := fun hr hx hq =>
      runOn_ends_phase ⟨ha, hs, hr⟩ hq b hx
    refine ⟨fun hr hx => ?_, fun hr hx hq hn => ?_, fun hr hx hq => ?_, fun he => ?_, fun he => ?_⟩
    · obtain ⟨t, rfl, ht⟩ := runOn_extends ⟨ha, hs, hr⟩ b hx
      exact ⟨_, rfl, ht⟩
    · obtain ⟨t, rfl, h1, -, -, h2, -⟩ := hphase hr hx hq
      obtain ⟨e1, -, -, e2, -⟩ := h2 hn
      exact ⟨_, rfl, e1, e2, h1 (.inl hn)⟩
    · obtain ⟨t, rfl, ht⟩ := hphase hr hx hq
      exact ⟨_, rfl, ht⟩
    · obtain ⟨t, rfl, ht⟩ := runOn_ends_program ha hs b he
      exact ⟨_, rfl, ht⟩
    · obtain ⟨t, rfl, ht⟩ := runOn_releases ha hs b he
      exact ⟨_, rfl, ht⟩

end Sys2Proof.Proofs
end


section
/-! PROOFS. The millilitres of a pulse (R34, R35): how many it emits, and how they are handed over one by one while the grant goes
on. -/

/- One theorem at a time, as the tests have it: proofs that wait for the kernel cost a thread each. -/
set_option Elab.async false

namespace Sys2Proof.Proofs

open Sys2Proof.Machine
open Sys2Proof.Safety

/-! ## The millilitres of a pulse -/

/-- Each millilitre that a pulse emits has its litre's share of pulses in the residue (R34). -/
theorem pulse_share {k r n i : Nat} (hn : (r + 1000) / k = n) (hi : i < n) : k ≤ r + 1000 - i * k := by
  have h1 : n * k ≤ r + 1000 := by rw [← hn]; exact Nat.div_mul_le_self _ _
  have h2 : (i + 1) * k ≤ n * k := Nat.mul_le_mul_right k hi
  rw [Nat.add_mul, Nat.one_mul] at h2
  omega

theorem pulse_rest {k r n : Nat} (hn : (r + 1000) / k = n) : r + 1000 - n * k = (r + 1000) % k := by
  have h := Nat.div_add_mod (r + 1000) k
  rw [hn, Nat.mul_comm] at h
  omega

/-- A pulse emits five millilitres at most (R34). -/
theorem pulse_most {k r n : Nat} (hk : 200 ≤ k) (hr : r < k) (hn : (r + 1000) / k = n) : n ≤ 5 := by
  rw [← hn]
  refine Nat.lt_succ_iff.mp ((Nat.div_lt_iff_lt_mul (by omega)).mpr ?_)
  omega

/-- The pulse of a litre's share leaves the residue. -/
def shared (s : State) : State := onWpc (fun w => { w with residue := w.residue - w.latchedK }) s

theorem emitGrant_stops {h : Holder} {s : State} (n : Nat) (hs : s.wpc.holder = h → s.wpc.residue < s.wpc.latchedK) :
    emitGrant n h s = s := by
  cases n with
  | zero => rfl
  | succ n =>
    unfold emitGrant
    rw [if_neg]
    rintro ⟨h1, h2⟩
    exact absurd (hs h1) (Nat.not_lt.mpr h2)

theorem emitGrant_step {h : Holder} {s : State} (n : Nat) (h1 : s.wpc.holder = h) (h2 : s.wpc.latchedK ≤ s.wpc.residue) :
    emitGrant (n + 1) h s = emitGrant n h (grantMl (shared s)) := by
  conv_lhs => unfold emitGrant
  rw [if_pos ⟨h1, h2⟩]
  rfl

/-- A millilitre is emitted in each state of a run, which it takes to the next. -/
def Emits (h : Holder) (s t : State) : Prop :=
  s.wpc.holder = h ∧ s.wpc.latchedK ≤ s.wpc.residue ∧ grantMl (shared s) = t

theorem emitGrant_runs {h : Holder} {f : Nat → State} {k : Nat} (m : Nat) (hs : ∀ i < k, Emits h (f i) (f (i + 1))) :
    emitGrant (m + k) h (f 0) = emitGrant m h (f k) := by
  induction k generalizing f with
  | zero => rfl
  | succ k ih =>
    obtain ⟨h1, h2, h3⟩ := hs 0 (Nat.succ_pos k)
    rw [← Nat.add_assoc, emitGrant_step _ h1 h2, h3]
    exact ih (f := fun i => f (i + 1)) fun i hi => hs (i + 1) (Nat.succ_lt_succ hi)

/-- A grant that goes on takes every millilitre of its pulse (R35). -/
theorem meterPulse_goes_on {s : State} {f : Nat → State} {n : Nat} (hh : s.wpc.holder ≠ .none) (hn : n ≤ 10)
    (h0 : f 0 = onWpc (fun w => { w with residue := w.residue + 1000 }) s)
    (hs : ∀ i < n, Emits s.wpc.holder (f i) (f (i + 1))) (hr : (f n).wpc.residue < (f n).wpc.latchedK) :
    meterPulse s = f n := by
  unfold meterPulse
  rw [if_neg hh, ← h0]
  obtain ⟨m, hm⟩ : ∃ m, n + m = 10 := ⟨10 - n, by omega⟩
  have hx : emitGrant 10 s.wpc.holder (f 0) = emitGrant m s.wpc.holder (f n) := by
    have h := emitGrant_runs m hs
    rwa [show m + n = 10 by omega] at h
  rw [hx, emitGrant_stops m fun _ => hr]

/-- A grant that ends with a millilitre takes no further one of its pulse (R35, log entry 28). -/
theorem meterPulse_ends {s y : State} {f : Nat → State} {k : Nat} (hh : s.wpc.holder ≠ .none) (hk : k < 10)
    (h0 : f 0 = onWpc (fun w => { w with residue := w.residue + 1000 }) s)
    (hs : ∀ i < k, Emits s.wpc.holder (f i) (f (i + 1))) (hy : Emits s.wpc.holder (f k) y) (hn : y.wpc.holder ≠ s.wpc.holder) :
    meterPulse s = y := by
  unfold meterPulse
  rw [if_neg hh, ← h0]
  obtain ⟨m, hm⟩ : ∃ m, m + 1 + k = 10 := ⟨9 - k, by omega⟩
  obtain ⟨h1, h2, h3⟩ := hy
  have h := emitGrant_runs (m + 1) hs
  rw [hm] at h
  rw [h, emitGrant_step m h1 h2, h3, emitGrant_stops m fun hx => absurd hx hn]

/-! ## Brine and rinse water (R82, R87) -/

/-- The part with `i` millilitres of a pulse emitted, the engine's fields as `f` makes them of the number. -/
def flowed (f : Nat → Rge → Rge) (i : Nat) (s : State) : State := { s with
  wpc := { s.wpc with residue := s.wpc.residue + 1000 - i * s.wpc.latchedK, grantCount := s.wpc.grantCount + i }
  rge := f i s.rge }

def brineCounted (i : Nat) (e : Rge) : Rge := { e with brineDrawn := e.brineDrawn + i }

def rinseCounted (i : Nat) (e : Rge) : Rge := { e with rinseDelivered := e.rinseDelivered + i }

theorem flowed_zero {f : Nat → Rge → Rge} {s : State} (h : f 0 s.rge = s.rge) :
    flowed f 0 s = onWpc (fun w => { w with residue := w.residue + 1000 }) s := by
  unfold flowed
  rw [h, Nat.zero_mul]
  rfl

/-- Brine has reached its target (R82). -/
def brineOver (s : State) : State :=
  report .engineLeft (onRge (fun e => { e with state := .dwell, dwellLeft := e.dwellTime }) (withdrawRegen s))

/-- The rinse has reached its target (R87, R89). -/
def rinseOver (s : State) : State :=
  enterEffluent (onRge (fun e => { e with result := e.column.map (completionResult (withdrawRegen s)) }) (withdrawRegen s))

theorem withdrawRegen_holder {s : State} {k : RegenKind} (h : s.wpc.regen = some ⟨k, true⟩) :
    withdrawRegen s = closeInlet (onWpc (fun w => { w with regen := none }) s) := by
  unfold withdrawRegen
  rw [h]
  rfl

/-- A millilitre of a grant is counted (R35). -/
def tallied (s : State) : State := onWpc (fun w => { w with grantCount := min 65535 (w.grantCount + 1) }) s

theorem grantMl_brine {s : State} (h : s.wpc.holder = .brine) : grantMl s = brineMl (tallied s) := by
  simp only [grantMl, tallied, Laws.onWpc_wpc, h]

theorem grantMl_rinse {s : State} (h : s.wpc.holder = .rinse) : grantMl s = rinseMl (tallied s) := by
  simp only [grantMl, tallied, Laws.onWpc_wpc, h]

theorem grantMl_fill {s : State} (h : s.wpc.holder = .fill) {q : FillReq} (hq : s.wpc.fill = some q) :
    grantMl s = fillMl q (tallied s) := by
  simp only [grantMl, tallied, Laws.onWpc_wpc, h, hq]

section
variable {s : State} {n i : Nat} (hr : s.wpc.latchedK ≤ s.wpc.residue + 1000 - i * s.wpc.latchedK)
  (hg : s.wpc.grantCount + i < 65535)
include hr hg

omit hr in
/-- What a millilitre takes from the residue and adds to the grant's count. -/
theorem shared_flowed (f : Nat → Rge → Rge) :
    tallied (shared (flowed f i s))
      = { flowed f (i + 1) s with rge := f i s.rge } := by
  have h1 : s.wpc.residue + 1000 - i * s.wpc.latchedK - s.wpc.latchedK = s.wpc.residue + 1000 - (i + 1) * s.wpc.latchedK := by
    rw [Nat.add_mul, Nat.one_mul]
    omega
  have h2 : min 65535 (s.wpc.grantCount + i + 1) = s.wpc.grantCount + (i + 1) := by omega
  simp only [tallied, shared, flowed, onWpc, h1, h2]

theorem brine_emits (hh : s.wpc.holder = .brine) : Emits .brine (flowed brineCounted i s)
    (if s.rge.brineTarget ≤ s.rge.brineDrawn + (i + 1) then brineOver (flowed brineCounted (i + 1) s)
      else flowed brineCounted (i + 1) s) := by
  refine ⟨hh, hr, ?_⟩
  rw [grantMl_brine (s := shared (flowed brineCounted i s)) hh, shared_flowed hg]
  rfl

theorem rinse_emits (hh : s.wpc.holder = .rinse) : Emits .rinse (flowed rinseCounted i s)
    (if s.rge.rinseTarget ≤ s.rge.rinseDelivered + (i + 1) then rinseOver (flowed rinseCounted (i + 1) s)
      else flowed rinseCounted (i + 1) s) := by
  refine ⟨hh, hr, ?_⟩
  rw [grantMl_rinse (s := shared (flowed rinseCounted i s)) hh, shared_flowed hg]
  rfl

end

/-- A pulse of a grant, with the meter within its ranges. -/
structure Pulsed (n : Nat) (s : State) : Prop where
  least : 200 ≤ s.wpc.latchedK
  residue : s.wpc.residue < s.wpc.latchedK
  count : s.wpc.grantCount < 60000
  quotient : (s.wpc.residue + 1000) / s.wpc.latchedK = n

namespace Pulsed

variable {n : Nat} {s : State} (h : Pulsed n s)
include h

theorem most : n ≤ 5 := pulse_most h.least h.residue h.quotient

theorem share {i : Nat} (hi : i < n) : s.wpc.latchedK ≤ s.wpc.residue + 1000 - i * s.wpc.latchedK := pulse_share h.quotient hi

theorem counts {i : Nat} (hi : i < n) : s.wpc.grantCount + i < 65535 := by
  have := h.most
  have := h.count
  omega

theorem rest : s.wpc.residue + 1000 - n * s.wpc.latchedK < s.wpc.latchedK := by
  rw [pulse_rest h.quotient]
  exact Nat.mod_lt _ (by have := h.least; omega)

theorem brine_counts (hh : s.wpc.holder = .brine) (ht : s.rge.brineDrawn + n < s.rge.brineTarget) :
    meterPulse s = flowed brineCounted n s := by
  refine meterPulse_goes_on (f := fun i => flowed brineCounted i s) (by simp [hh]) (h.most.trans (by omega))
    (flowed_zero rfl) (fun i hi => ?_) h.rest
  have k := brine_emits (h.share hi) (h.counts hi) hh
  rw [if_neg (by omega)] at k
  rw [hh]
  exact k

theorem brine_ends (hh : s.wpc.holder = .brine) (hr : s.wpc.regen = some ⟨.brine, true⟩) (h0 : s.rge.brineDrawn < s.rge.brineTarget)
    (ht : s.rge.brineTarget ≤ s.rge.brineDrawn + n) :
    meterPulse s = brineOver (flowed brineCounted (s.rge.brineTarget - s.rge.brineDrawn) s) := by
  obtain ⟨k, hk⟩ : ∃ k, s.rge.brineTarget = s.rge.brineDrawn + (k + 1) :=
    ⟨s.rge.brineTarget - s.rge.brineDrawn - 1, by omega⟩
  have hm := h.most
  rw [show s.rge.brineTarget - s.rge.brineDrawn = k + 1 by omega]
  refine meterPulse_ends (f := fun i => flowed brineCounted i s) (k := k) (by simp [hh]) (by omega) (flowed_zero rfl) (fun i hi => ?_)
    ?_ ?_
  · have e := brine_emits (h.share (i := i) (by omega)) (h.counts (by omega)) hh
    rw [if_neg (by omega)] at e
    rw [hh]
    exact e
  · have e := brine_emits (h.share (i := k) (by omega)) (h.counts (by omega)) hh
    rw [if_pos (by omega)] at e
    rw [hh]
    exact e
  · have hx : (flowed brineCounted (k + 1) s).wpc.regen = some ⟨.brine, true⟩ := hr
    unfold brineOver
    rw [withdrawRegen_holder hx, hh]
    nofun

theorem rinse_counts (hh : s.wpc.holder = .rinse) (ht : s.rge.rinseDelivered + n < s.rge.rinseTarget) :
    meterPulse s = flowed rinseCounted n s := by
  refine meterPulse_goes_on (f := fun i => flowed rinseCounted i s) (by simp [hh]) (h.most.trans (by omega))
    (flowed_zero rfl) (fun i hi => ?_) h.rest
  have k := rinse_emits (h.share hi) (h.counts hi) hh
  rw [if_neg (by omega)] at k
  rw [hh]
  exact k

theorem rinse_ends (hh : s.wpc.holder = .rinse) (h0 : s.rge.rinseDelivered < s.rge.rinseTarget)
    (ht : s.rge.rinseTarget ≤ s.rge.rinseDelivered + n)
    (hy : (rinseOver (flowed rinseCounted (s.rge.rinseTarget - s.rge.rinseDelivered) s)).wpc.holder = .none) :
    meterPulse s = rinseOver (flowed rinseCounted (s.rge.rinseTarget - s.rge.rinseDelivered) s) := by
  obtain ⟨k, hk⟩ : ∃ k, s.rge.rinseTarget = s.rge.rinseDelivered + (k + 1) :=
    ⟨s.rge.rinseTarget - s.rge.rinseDelivered - 1, by omega⟩
  have hm := h.most
  rw [show s.rge.rinseTarget - s.rge.rinseDelivered = k + 1 by omega] at hy ⊢
  refine meterPulse_ends (f := fun i => flowed rinseCounted i s) (k := k) (by simp [hh]) (by omega) (flowed_zero rfl) (fun i hi => ?_)
    ?_ (by rw [hy, hh]; nofun)
  · have e := rinse_emits (h.share (i := i) (by omega)) (h.counts (by omega)) hh
    rw [if_neg (by omega)] at e
    rw [hh]
    exact e
  · have e := rinse_emits (h.share (i := k) (by omega)) (h.counts (by omega)) hh
    rw [if_pos (by omega)] at e
    rw [hh]
    exact e

end Pulsed

end Sys2Proof.Proofs
end


section
/-! PROOFS. The brine and the rinse outside a program's DRAIN (R35, R82, R87, R89): the grant goes on, or ends at its target with the
water path at rest. -/

/- One theorem at a time, as the tests have it: proofs that wait for the kernel cost a thread each. -/
set_option Elab.async false

namespace Sys2Proof.Proofs

open Sys2Proof.Machine
open Sys2Proof.Safety

/-! ## A water path with nothing to do -/

/-- The engine asks for nothing and holds nothing, a fill that stands is held, and no effluent is drained beside a program's DRAIN. -/
structure Idled (s : State) : Prop where
  fill : ∀ q ∈ s.wpc.fill, q.held = true
  regen : s.wpc.regen = none
  holder : s.wpc.holder ≠ .brine ∧ s.wpc.holder ≠ .rinse
  effluent : s.rge.state = .effluentDrain → runningIn s .drain = false
  unqueued : Unqueued s

namespace Idled

variable {s : State} (h : Idled s)
include h

theorem refreshPump : Idled (refreshPump s) := ⟨h.fill, h.regen, h.holder, h.effluent, h.unqueued⟩

theorem onReports (f : List Report → List Report) : Idled (onReports f s) := ⟨h.fill, h.regen, h.holder, h.effluent, h.unqueued⟩

theorem revokes : revokeUnlessFlows s = s := by
  obtain ⟨h1, h2⟩ := h.holder
  have hr : revokeRegen s = s := by unfold revokeRegen; split <;> simp_all
  rw [revokeUnlessFlows, hr, ite_self]

/-- Such a water path settles to its pump and its permit. -/
theorem waterSettle : waterSettle s = Machine.refreshPump s := by
  have hg : grantDeferred s = s := Laws.grantDeferred_rests fun q hq => .inl (h.fill q hq)
  have he : effluentMeetsDrain (Machine.refreshPump s) = Machine.refreshPump s :=
    Laws.effluentMeetsDrain_rests (s := Machine.refreshPump s) h.effluent
  have hh : handOver (Machine.refreshPump s) = Machine.refreshPump s := handOver_unqueued (s := Machine.refreshPump s) h.unqueued
  have hr : grantRegen (Machine.refreshPump s) = Machine.refreshPump s := by
    have hx : (Machine.refreshPump s).wpc.regen = none := h.regen
    unfold grantRegen
    rw [hx]
  unfold Machine.waterSettle
  rw [hg, he, Laws.refreshPump_refreshPump, h.refreshPump.revokes, Laws.refreshPump_refreshPump, hh, hr]

end Idled

/-- The engine's leaving is no news outside an extended drain (R30). -/
theorem takeReports_left {s : State} (h : Idled s) (hr : ∀ r ∈ s.reports, r = .engineLeft)
    (hx : runningIn s .drain = false ∨ s.seq.extension = none) (n : Nat) :
    takeReports n (refreshPump s) = onReports (fun _ => []) (refreshPump s) := by
  induction n generalizing s with
  | zero => rfl
  | succ n ih =>
    cases hl : s.reports with
    | nil =>
      have h0 : (refreshPump s).reports = [] := hl
      rw [Laws.takeReports_nil _ h0]
      unfold onReports
      rw [← h0]
    | cons r l =>
      obtain rfl := hr r (by simp [hl])
      have he : takeReport .engineLeft (onReports (fun _ => l) (refreshPump s)) = onReports (fun _ => l) (refreshPump s) := by
        have hx' : runningIn (onReports (fun _ => l) (refreshPump s)) .drain = false
            ∨ (onReports (fun _ => l) (refreshPump s)).seq.extension = none := hx
        show engineLeft (onReports (fun _ => l) (refreshPump s)) = _
        unfold engineLeft
        rcases hx' with hx' | hx' <;> rw [hx'] <;> exact if_neg (by simp)
      rw [takeReports_cons (show (refreshPump s).reports = .engineLeft :: l from hl), he, ((h.refreshPump).onReports _).waterSettle]
      show takeReports n (refreshPump (refreshPump (onReports (fun _ => l) s))) = _
      rw [Laws.refreshPump_refreshPump]
      exact ih (s := onReports (fun _ => l) s) (h.onReports _)
        (fun x hx => hr x (by rw [hl]; exact List.mem_cons_of_mem _ hx)) hx

/-- A step that ends with the water path at rest, the engine's leaving being no news, ends in its outputs. -/
theorem conclude_left {s : State} (h : Idled s) (hp : s.part.state = .ready) (hr : ∀ r ∈ s.reports, r = .engineLeft)
    (hx : runningIn s .drain = false ∨ s.seq.extension = none) :
    conclude s = finish (outputs (onReports (fun _ => []) s)) := by
  have ht := takeReports_left h hr hx 64
  rw [← h.waterSettle] at ht
  have hs := settle_ready (s := s) (by rw [ht]; exact (Wets.refl s).waterSettle.part ▸ hp)
  have hi : Idled (refreshPump (onReports (fun _ => []) (refreshPump s))) := ((h.refreshPump).onReports _).refreshPump
  rw [ht, h.waterSettle, rested, hi.revokes] at hs
  rw [conclude, hs]
  show finish (refreshArms (refreshHeater (refreshPump (refreshPump (onReports (fun _ => []) s))))) = _
  rw [Laws.refreshPump_refreshPump]
  rfl

/-! ## A grant of the engine -/

/-- A regeneration grant is held under its conditions (R37, R39), with the meter within its ranges. -/
structure EngineGrant (k : RegenKind) (n : Nat) (s : State) : Prop extends Pulsed n s where
  awake : Awake s
  grants : GrantsAgree s
  flows : regenMayFlow s = true
  permit : permitCondition s = true
  pump : s.wpc.drainPump = pumpAsked s.wpc
  fill : s.wpc.fill = none
  state : s.rge.state = match k with
    | .brine => .brineDraw
    | .rinse => .rinse

namespace EngineGrant

variable {k : RegenKind} {n : Nat} {s : State} (h : EngineGrant k n s)
include h

theorem regen : s.wpc.regen = some ⟨k, true⟩ := by
  have hr := h.grants.1
  have hs := h.state
  unfold engineRequest at hr
  cases k <;> rw [hs] at hr <;> exact hr

theorem holder : s.wpc.holder = match k with
    | .brine => .brine
    | .rinse => .rinse := by
  have hh := holder_of_engine h.grants h.fill
  rw [h.state] at hh
  cases k <;> exact hh

theorem burst : s.wpc.burst = none := by
  obtain ⟨-, -, -, -, -, hx, -⟩ := h.grants
  have he : (s.rge.state == .effluentDrain) = false := by
    rw [h.state]
    cases k <;> rfl
  rw [he] at hx
  exact Option.not_isSome_iff_eq_none.mp (by simp [hx])

theorem fillTimer : s.wpc.fillTimer = none := by
  obtain ⟨-, -, -, -, hx, -⟩ := h.grants
  rw [h.holder] at hx
  have hf : s.wpc.fillTimer.isSome = false := by rw [hx]; cases k <;> rfl
  exact Option.not_isSome_iff_eq_none.mp (by simp [hf])

theorem waterFlows : waterFlows s = true := by
  have hp : ({ s with wpc := { s.wpc with drainPump := pumpAsked s.wpc } } : State) = s := by rw [← h.pump]
  have hf := h.flows
  simp only [regenMayFlow, Bool.and_eq_true] at hf
  obtain ⟨⟨⟨-, h2⟩, h3⟩, h4⟩ := hf
  rw [Safety.waterFlows, hp, h.permit, h2, h3, h4]
  rfl

theorem not_idle : s.rge.state ≠ .idle ∧ s.rge.state ≠ .effluentDrain := by
  rw [h.state]
  cases k <;> exact ⟨nofun, nofun⟩

/-- While the grant goes on the water path rests. -/
theorem rests_flowed {f : Nat → Rge → Rge} {i : Nat} (hf : (f i s.rge).state = s.rge.state) : Rests (flowed f i s) := by
  have hr := h.regen
  have hfl := h.fill
  have hw : Safety.waterFlows (flowed f i s) = true := h.waterFlows
  have hi : (flowed f i s).rge.state ≠ .idle ∧ (flowed f i s).rge.state ≠ .effluentDrain :=
    ⟨fun hx => h.not_idle.1 (hf.symm.trans hx), fun hx => h.not_idle.2 (hf.symm.trans hx)⟩
  have hb := h.burst
  refine ⟨h.awake, fun q hq => ?_, fun hx => ?_, fun _ => hw, fun g hg => ?_, fun hx => absurd hx hi.1, fun hx => absurd hx hi.2,
    fun hx => absurd hx hi.1, h.grants.2.1, fun g hg _ => ⟨hfl, hb⟩⟩
  · exact absurd (show q ∈ s.wpc.fill from hq) (by simp [hfl])
  · simp [flowed, hfl] at hx
  · have hg : g ∈ s.wpc.regen := hg
    rw [hr, Option.mem_some_iff] at hg
    exact .inl (by rw [← hg])

theorem expires : exec .flowMeterPulse s = .next (conclude (meterPulse s)) := by
  have hf : fillHeld s = false := by simp [fillHeld, h.fill]
  show execFlowMeterPulse s = _
  simp [execFlowMeterPulse, whenPowered, h.awake.1, senses, h.awake.2.1, concludeFill, hf]

end EngineGrant

/-! ## The grant goes on -/

theorem flowed_outputs {n : Nat} {s : State} (h : Pulsed n s) (f : Nat → Rge → Rge) : flowed f n s = { s with
    wpc := { s.wpc with residue := (s.wpc.residue + 1000) % s.wpc.latchedK, grantCount := s.wpc.grantCount + n }
    rge := f n s.rge } := by
  unfold flowed
  rw [pulse_rest h.quotient]

/-! ## The brine reaches its target (R82) -/

theorem brineOver_eq {k : RegenKind} {s : State} (h : s.wpc.regen = some ⟨k, true⟩) : brineOver s
    = report .engineLeft (onRge (fun e => { e with state := .dwell, dwellLeft := e.dwellTime })
      (closeInlet (onWpc (fun w => { w with regen := none }) s))) := by
  rw [brineOver, withdrawRegen_holder h]

theorem idled_brineOver {k : RegenKind} {s : State} (h : s.wpc.regen = some ⟨k, true⟩) (hf : s.wpc.fill = none) : Idled (brineOver s) := by
  rw [brineOver_eq h]
  exact ⟨fun q hq => absurd (show q ∈ s.wpc.fill from hq) (by simp [hf]), rfl, ⟨nofun, nofun⟩, nofun, nofun⟩

end Sys2Proof.Proofs
end


section
/-! PROOFS. Pulses of a BRINE and of a RINSE grant outside a program's DRAIN, case by case (R82, R87, R89). -/

/- One theorem at a time, as the tests have it: proofs that wait for the kernel cost a thread each. -/
set_option Elab.async false

namespace Sys2Proof.Proofs

open Sys2Proof.Machine
open Sys2Proof.Safety

/-- What a step that ends in its outputs leaves. -/
structure OutputsOf (y t : State) : Prop where
  rge : t.rge = y.rge
  wpc : t.wpc = { y.wpc with drainPump := pumpAsked y.wpc }
  sfu : t.sfu = y.sfu
  dsu : t.dsu = y.dsu
  ddu : t.ddu = y.ddu
  seq : t.seq = { y.seq with permit := t.seq.permit }

theorem outputsOf_finish (y : State) : OutputsOf y (finish (outputs y)) := by
  have hs : (finish (outputs y)).seq = (outputs y).seq := Laws.finish_seq _
  refine ⟨Laws.finish_rge _, Laws.finish_wpc _, Laws.finish_sfu _, Laws.finish_dsu _, Laws.finish_ddu _, ?_⟩
  rw [hs]
  rfl

theorem outputsOf_left {s : State} (h : Idled s) (hp : s.part.state = .ready) (hr : ∀ r ∈ s.reports, r = .engineLeft)
    (hx : runningIn s .drain = false ∨ s.seq.extension = none) : OutputsOf s (conclude s) := by
  rw [conclude_left h hp hr hx]
  obtain ⟨h1, h2, h3, h4, h5, h6⟩ := outputsOf_finish (onReports (fun _ => []) s)
  exact ⟨h1, h2, h3, h4, h5, h6⟩

/-! ## The rinse reaches its target (R87, R89) -/

/-- The engine's fields once the rinse is complete, its grant gone (R89). -/
def rinsed (s : State) : State := onRge (fun e => { e with
    state := .effluentDrain, result := e.column.map (completionResult s) })
  (closeInlet (onWpc (fun w => { w with regen := none }) s))

/-- The burst that drains the effluent has begun (R49). -/
def bursting (s : State) : State := onWpc (fun w => { w with burst := some (.running 0) }) (report .engineLeft (rinsed s))

theorem bursting_seq (s : State) : (bursting s).seq = s.seq := by
  simp only [bursting, report, Laws.onWpc_seq, Laws.onReports_seq]
  rfl

theorem bursting_keeps (s : State) : (bursting s).part = s.part ∧ (bursting s).sfu = s.sfu ∧ (bursting s).dsu = s.dsu
    ∧ (bursting s).ddu = s.ddu ∧ (bursting s).rge = (rinsed s).rge ∧ (bursting s).reports = s.reports ++ [.engineLeft] := by
  have h1 : (rinsed s).part = s.part := rfl
  have h2 : (rinsed s).sfu = s.sfu := rfl
  have h3 : (rinsed s).dsu = s.dsu := rfl
  have h4 : (rinsed s).ddu = s.ddu := rfl
  have h5 : (rinsed s).reports = s.reports := rfl
  simp [bursting, report, h1, h2, h3, h4, h5]

theorem completionResult_congr {s t : State} {col : Column} (h1 : t.cfg = s.cfg) (h2 : t.sfu = s.sfu)
    (h3 : t.rge.saltMark = s.rge.saltMark) (h4 : t.rge.deficit = s.rge.deficit) :
    completionResult t col = completionResult s col := by
  simp only [completionResult, nominalCapacity, h1, h2, h3, h4]

/-- Outside DRAIN the effluent is drained by a burst (R49, R90). -/
theorem rinseOver_bursts {k : RegenKind} {s : State} (h : s.wpc.regen = some ⟨k, true⟩) (hd : runningIn s .drain = false) :
    rinseOver s = bursting s := by
  have hr : runningIn (report .engineLeft (rinsed s)) .drain = false := hd
  have he : rinseOver s = if runningIn (report .engineLeft (rinsed s)) .drain = true then finishRegen (report .engineLeft (rinsed s))
      else bursting s := by
    unfold rinseOver
    rw [withdrawRegen_holder h]
    rfl
  rw [he, if_neg (by simp [hr])]

/-- In DRAIN the engine finishes at once (R30, R90). -/
theorem rinseOver_finishes {k : RegenKind} {s : State} (h : s.wpc.regen = some ⟨k, true⟩) (hd : runningIn s .drain = true) :
    rinseOver s = finishRegen (report .engineLeft (rinsed s)) := by
  have hr : runningIn (report .engineLeft (rinsed s)) .drain = true := hd
  have he : rinseOver s = if runningIn (report .engineLeft (rinsed s)) .drain = true then finishRegen (report .engineLeft (rinsed s))
      else bursting s := by
    unfold rinseOver
    rw [withdrawRegen_holder h]
    rfl
  rw [he, if_pos hr]

/-! ## The cases -/

section
variable {n : Nat} {s : State}

theorem brine_goes_on (h : EngineGrant .brine n s) (ht : s.rge.brineDrawn + n < s.rge.brineTarget) :
    exec .flowMeterPulse s = .next (finish (outputs { s with
      wpc := { s.wpc with residue := (s.wpc.residue + 1000) % s.wpc.latchedK, grantCount := s.wpc.grantCount + n }
      rge := { s.rge with brineDrawn := s.rge.brineDrawn + n } })) := by
  rw [h.expires, h.brine_counts h.holder ht, Laws.conclude_rests (h.rests_flowed rfl), flowed_outputs h.toPulsed]
  rfl

theorem rinse_goes_on (h : EngineGrant .rinse n s) (ht : s.rge.rinseDelivered + n < s.rge.rinseTarget) :
    exec .flowMeterPulse s = .next (finish (outputs { s with
      wpc := { s.wpc with residue := (s.wpc.residue + 1000) % s.wpc.latchedK, grantCount := s.wpc.grantCount + n }
      rge := { s.rge with rinseDelivered := s.rge.rinseDelivered + n } })) := by
  rw [h.expires, h.rinse_counts h.holder ht, Laws.conclude_rests (h.rests_flowed rfl), flowed_outputs h.toPulsed]
  rfl

/-- The brine's target is reached, the engine's leaving no news: the step ends in its outputs. -/
theorem brine_reaches (h : EngineGrant .brine n s) (h0 : s.rge.brineDrawn < s.rge.brineTarget)
    (ht : s.rge.brineTarget ≤ s.rge.brineDrawn + n) (hx : runningIn s .drain = false ∨ s.seq.extension = none) :
    ∃ t, exec .flowMeterPulse s = .next t
      ∧ t.rge = { s.rge with state := .dwell, brineDrawn := s.rge.brineTarget, dwellLeft := s.rge.dwellTime }
      ∧ t.wpc.regen = none ∧ t.wpc.holder = .none ∧ t.wpc.inletValve = false ∧ t.wpc.brineValve = false
      ∧ t.wpc.seqDrain = s.wpc.seqDrain ∧ t.sfu = s.sfu ∧ t.dsu = s.dsu ∧ t.ddu = s.ddu
      ∧ t.seq = { s.seq with permit := t.seq.permit } := by
  rw [h.expires, h.brine_ends h.holder h.regen h0 ht]
  obtain ⟨j, hj⟩ : ∃ j, s.rge.brineTarget - s.rge.brineDrawn = j := ⟨_, rfl⟩
  have hg : (flowed brineCounted j s).wpc.regen = some ⟨.brine, true⟩ := h.regen
  have hi := idled_brineOver hg h.fill
  rw [hj]
  rw [brineOver_eq hg] at hi ⊢
  have k := outputsOf_left hi h.awake.2.1 (by simp [report, flowed, closeInlet, h.awake.2.2]) hx
  refine ⟨_, rfl, ?_⟩
  obtain ⟨t, ht⟩ : ∃ t, conclude (report .engineLeft (onRge (fun e => { e with state := .dwell, dwellLeft := e.dwellTime })
    (closeInlet (onWpc (fun w => { w with regen := none }) (flowed brineCounted j s))))) = t := ⟨_, rfl⟩
  rw [ht] at k ⊢
  obtain ⟨k1, k2, k3, k4, k5, k6⟩ := k
  have hb : s.rge.brineDrawn + j = s.rge.brineTarget := by omega
  refine ⟨k1.trans ?_, by rw [k2]; rfl, by rw [k2]; rfl, by rw [k2]; rfl, by rw [k2]; rfl, by rw [k2]; rfl, k3, k4, k5, k6⟩
  rw [← hb]
  rfl

/-- The engine's fields at the rinse's target. -/
def rinseDone (s : State) (col : Column) : Rge := { s.rge with
  state := .effluentDrain, rinseDelivered := s.rge.rinseTarget
  result := some (if s.rge.saltMark
    then ⟨min (s.cfg.nominal * 1000000) ((columnRec s.sfu col).remaining + s.rge.deficit / 2), true⟩
    else ⟨s.cfg.nominal * 1000000, false⟩) }

theorem rinsed_rge {j : Nat} {col : Column} (hc : s.rge.column = some col) (hj : s.rge.rinseDelivered + j = s.rge.rinseTarget) :
    (rinsed (flowed rinseCounted j s)).rge = rinseDone s col := by
  have hr : completionResult (flowed rinseCounted j s) col = completionResult s col := completionResult_congr rfl rfl rfl rfl
  have he : (rinsed (flowed rinseCounted j s)).rge = { s.rge with
      state := .effluentDrain, rinseDelivered := s.rge.rinseDelivered + j
      result := s.rge.column.map (completionResult (flowed rinseCounted j s)) } := rfl
  rw [he, hc, Option.map_some, hr, hj]
  rfl

theorem rinse_reaches (h : EngineGrant .rinse n s) (h0 : s.rge.rinseDelivered < s.rge.rinseTarget)
    (ht : s.rge.rinseTarget ≤ s.rge.rinseDelivered + n) (hd : runningIn s .drain = false) {col : Column}
    (hc : s.rge.column = some col) :
    ∃ t, exec .flowMeterPulse s = .next t ∧ t.rge = rinseDone s col
      ∧ t.wpc.regen = none ∧ t.wpc.holder = .none ∧ t.wpc.burst = some (.running 0) ∧ t.wpc.drainPump = true
      ∧ t.sfu = s.sfu ∧ t.dsu = s.dsu ∧ t.ddu = s.ddu ∧ t.seq.state = s.seq.state ∧ t.seq.idx = s.seq.idx := by
  obtain ⟨j, hj⟩ : ∃ j, s.rge.rinseTarget - s.rge.rinseDelivered = j := ⟨_, rfl⟩
  have hg : (flowed rinseCounted j s).wpc.regen = some ⟨.rinse, true⟩ := h.regen
  have hov := rinseOver_bursts hg (show runningIn (flowed rinseCounted j s) .drain = false from hd)
  have hm := h.rinse_ends h.holder h0 ht (by rw [hj, hov]; rfl)
  rw [hj, hov] at hm
  rw [h.expires, hm]
  obtain ⟨b1, b2, b3, b4, b5, b6⟩ := bursting_keeps (flowed rinseCounted j s)
  have bs := bursting_seq (flowed rinseCounted j s)
  have hd' : runningIn (bursting (flowed rinseCounted j s)) .drain = false := by rw [runningIn, bs]; exact hd
  have hi : Idled (bursting (flowed rinseCounted j s)) :=
    ⟨fun q hq => absurd (show q ∈ s.wpc.fill from hq) (by simp [h.fill]), rfl, ⟨nofun, nofun⟩, fun _ => hd', nofun⟩
  have k := outputsOf_left hi (by rw [b1]; exact h.awake.2.1) (by rw [b6]; simp [flowed, h.awake.2.2]) (.inl hd')
  refine ⟨_, rfl, ?_⟩
  obtain ⟨t, ht⟩ : ∃ t, conclude (bursting (flowed rinseCounted j s)) = t := ⟨_, rfl⟩
  rw [ht] at k ⊢
  obtain ⟨k1, k2, k3, k4, k5, k6⟩ := k
  rw [b5, rinsed_rge hc (by omega)] at k1
  refine ⟨k1, by rw [k2]; rfl, by rw [k2]; rfl, by rw [k2]; rfl, ?_, k3.trans b2, k4.trans b3, k5.trans b4,
    by rw [k6, bs]; rfl, by rw [k6, bs]; rfl⟩
  rw [k2]
  show (drainAsks s.wpc.seqDrain || true || s.wpc.leak.isSome || s.wpc.floodReq.isSome) = true
  simp

end

end Sys2Proof.Proofs
end


section
/-! PROOFS. The boundary of a phase with the inlet free (R18), whatever else the part holds: what the step's end leaves where the
boundary reports nothing. -/

/- One theorem at a time, as the tests have it: proofs that wait for the kernel cost a thread each. -/
set_option Elab.async false

namespace Sys2Proof.Proofs

open Sys2Proof.Machine
open Sys2Proof.Safety

/-- The phase of `s` is about to end in `z`: the program is the one of `s`, no fill stands, and the inlet is free for the next. -/
structure Reached (s z : State) : Prop where
  fill : z.wpc.fill = none
  cfg : z.cfg = s.cfg
  ddu : z.ddu = s.ddu
  mask : z.lnk.mask = s.lnk.mask
  inhibit : s.wpc.inhibit = false ∧ z.wpc.inhibit = false
  burst : s.wpc.burst = none ∧ z.wpc.burst = none
  low : s.wpc.highLevel = false ∧ z.wpc.highLevel = false
  program : z.seq.table = s.seq.table ∧ z.seq.count = s.seq.count ∧ z.seq.idx = s.seq.idx
    ∧ z.seq.holdPending = s.seq.holdPending ∧ z.seq.summary = s.seq.summary

section
variable {s z t : State} (h : Reached s z)
include h

theorem Reached.currentPhase : currentPhase z = currentPhase s := by
  obtain ⟨h1, -, h3, -⟩ := h.program
  exact currentPhase_congr h1 h3

/-- PHASE_END, raised at the boundary, is still on its way where nothing has merged with it (R187). -/
theorem Reached.ends {p : Phase} (hp : Machine.currentPhase s = some p) (h5 : noticeEnabled s.lnk.mask 5 = true) :
    notified (.phaseEnd s.seq.idx (phaseKind p)) (phaseEndRaised z) = true := by
  obtain ⟨-, -, h3, -⟩ := h.program
  have hx := phaseEndRaised_ends (s := z) (h.currentPhase.trans hp) (by rw [h.mask]; exact h5)
  rwa [h3] at hx

/-! ## The program is over, or holds -/

theorem reached_completes (hn : s.seq.count ≤ s.seq.idx + 1) : (endPhase z).reports = z.reports
    ∧ (Drifts (endPhase z) t → PhaseEnded s t) := by
  obtain ⟨p1, p2, p3, p4, p5⟩ := h.program
  have hs : (phaseEndRaised z).seq = z.seq := by rw [phaseEndRaised_rest]
  have hm : (phaseEndRaised z).lnk.mask = s.lnk.mask := (phaseEndRaised_mask z).trans h.mask
  have he : endPhase z = raiseNotice (.programEnd (completedSeq z.seq).summary) (onSeq completedSeq (phaseEndRaised z)) := by
    rw [endPhase_eq, hs, if_pos (by rw [p2, p3]; exact hn), completeProgram_eq, hs]
  have hr := raiseNotice_rest (.programEnd (completedSeq z.seq).summary) (onSeq completedSeq (phaseEndRaised z))
  rw [he]
  refine ⟨by rw [hr, phaseEndRaised_rest]; rfl, fun hd => ?_⟩
  have hq : t.seq = { completedSeq z.seq with permit := t.seq.permit, placed := t.seq.placed } := by
    have hk := hd.seq
    rwa [raiseNotice_seq, show (onSeq completedSeq (phaseEndRaised z)).seq = completedSeq (phaseEndRaised z).seq from rfl, hs] at hk
  have h7 : (7 : Nat) ∉ engineNotices := by simp [engineNotices]
  refine ⟨fun _ h5 p hp => hd.noted _ (by simp [noticeCode, engineNotices]) ?_,
    fun _ => ⟨by rw [hq]; rfl, by rw [hq]; rfl, by rw [hq]; rfl, by rw [hq, ← p5]; rfl, fun h7e => hd.noted _ h7 ?_⟩,
    fun hx => absurd hx (Nat.not_lt.mpr hn), fun hx => absurd hx (Nat.not_lt.mpr hn)⟩
  · exact notified_raiseNotice_ne (s := onSeq completedSeq (phaseEndRaised z)) (by simp [noticeCode]) (h.ends hp h5)
  · have hsum : t.seq.summary = (completedSeq z.seq).summary := by rw [hq]
    rw [hsum]
    exact notified_raiseNotice (s := onSeq completedSeq (phaseEndRaised z)) (by rw [← hm] at h7e; exact h7e)

theorem reached_holds (hn : s.seq.idx + 1 < s.seq.count) (hh : s.seq.holdPending = true) : (endPhase z).reports = z.reports
    ∧ (Drifts (endPhase z) t → PhaseEnded s t) := by
  obtain ⟨p1, p2, p3, p4, p5⟩ := h.program
  have hs : (phaseEndRaised z).seq = z.seq := by rw [phaseEndRaised_rest]
  have hm : (phaseEndRaised z).lnk.mask = s.lnk.mask := (phaseEndRaised_mask z).trans h.mask
  have he : endPhase z = raiseNotice (.holdReached s.seq.idx) (onSeq heldSeq (phaseEndRaised z)) := by
    rw [endPhase_eq, hs, if_neg (by rw [p2, p3]; omega), if_pos (by rw [p4]; exact hh), holdAtBoundary_eq, hs, p3]
  have hr := raiseNotice_rest (.holdReached s.seq.idx) (onSeq heldSeq (phaseEndRaised z))
  rw [he]
  refine ⟨by rw [hr, phaseEndRaised_rest]; rfl, fun hd => ?_⟩
  have hq : t.seq = { heldSeq z.seq with permit := t.seq.permit, placed := t.seq.placed } := by
    have hk := hd.seq
    rwa [raiseNotice_seq, show (onSeq heldSeq (phaseEndRaised z)).seq = heldSeq (phaseEndRaised z).seq from rfl, hs] at hk
  refine ⟨fun _ h5 p hp => hd.noted _ (by simp [noticeCode, engineNotices]) ?_, fun hx => absurd hn (Nat.not_lt.mpr hx),
    fun _ _ => ⟨by rw [hq]; rfl, by rw [hq]; rfl, by rw [hq, ← p3]; rfl, by rw [hq]; rfl, by rw [hq, ← p5]; rfl,
      fun h6 => hd.noted _ (by simp [noticeCode, engineNotices]) ?_⟩, fun _ hx => Bool.noConfusion (hh.symm.trans hx)⟩
  · exact notified_raiseNotice_ne (s := onSeq heldSeq (phaseEndRaised z)) (by simp [noticeCode]) (h.ends hp h5)
  · exact notified_raiseNotice (s := onSeq heldSeq (phaseEndRaised z)) (by rw [← hm] at h6; exact h6)

/-! ## The next phase -/

variable (hn : s.seq.idx + 1 < s.seq.count) (hh : s.seq.holdPending = false)
include hn hh

theorem reached_next : endPhase z = enterPhase (nextOf z) := by
  obtain ⟨-, h2, h3, h4, -⟩ := h.program
  have hs : (phaseEndRaised z).seq = z.seq := by rw [phaseEndRaised_rest]
  rw [endPhase_eq, hs, if_neg (by rw [h2, h3]; omega), if_neg (by rw [h4, hh]; simp)]
  rfl

omit hn hh in
/-- What the state before the next phase shares with the one before the step. -/
theorem reached_shares : currentPhase (nextOf z) = phaseAt s.seq (s.seq.idx + 1) ∧ (nextOf z).seq.idx = s.seq.idx + 1
    ∧ (nextOf z).lnk.mask = s.lnk.mask ∧ (nextOf z).seq.summary = s.seq.summary ∧ (nextOf z).ddu = s.ddu
    ∧ (nextOf z).wpc = z.wpc ∧ (nextOf z).cfg = s.cfg ∧ (nextOf z).reports = z.reports := by
  obtain ⟨h1, -, h3, -, h5⟩ := h.program
  have hm : (nextOf z).lnk.mask = z.lnk.mask := phaseEndRaised_mask z
  have hz := nextOf_rest z
  refine ⟨by rw [phaseAt_nextOf, h3, phaseAt_congr h1], by rw [hz, h3], hm.trans h.mask, by rw [hz]; exact h5, ?_, ?_, ?_, ?_⟩
  · rw [hz]; exact h.ddu
  · rw [hz]
  · rw [hz]; exact h.cfg
  · rw [hz]

theorem reached_suspends {k : WashKind} {w : WashRecord} (hp : phaseAt s.seq (s.seq.idx + 1) = some (.wash k w))
    (hd : s.ddu.doorOpen = true) : (endPhase z).reports = z.reports ∧ (Drifts (endPhase z) t → PhaseEnded s t) := by
  obtain ⟨n1, n2, n3, n4, n5, n6, -, n8⟩ := reached_shares h
  rw [reached_next h hn hh, enterPhase_suspended (n1.trans hp) (by rw [n5]; exact hd)]
  have hm := marked_rest (.wash k w) (nextOf z)
  refine ⟨by rw [hm]; exact n8, fun hdr => ?_⟩
  have hq : t.seq = { phaseMarks (nextOf z).seq with
      state := .suspended, sub := .none, remembered := .sub .fill, permit := t.seq.permit, placed := t.seq.placed } := by
    conv_lhs => rw [hdr.seq, hm]
    rfl
  refine phaseEnded_of_next hn hh (fun _ h5 p hcp => hdr.noted _ (by simp [noticeCode, engineNotices]) ?_)
    ⟨fun k' w' hp' => ⟨fun _ => ?_, fun hx => absurd (hd.symm.trans hx) (by simp)⟩, fun d o hx => by simp [hp] at hx⟩
  · exact marked_noted (.wash k w) (by simp [noticeCode]) (h.ends hcp h5)
  · obtain ⟨rfl, rfl⟩ : k = k' ∧ w = w' := by simpa using hp.symm.trans hp'
    refine ⟨⟨by rw [hq]; exact n2, by rw [hq, ← n4]; rfl, fun h4 => hdr.noted _ (by simp [noticeCode, engineNotices]) ?_⟩,
      by rw [hq], by rw [hq], by rw [hq]; rfl, ?_⟩
    · rw [← n2]
      exact marked_begins (.wash k w) (by rw [n3]; exact h4)
    · have hf : t.wpc.fill = (marked (.wash k w) (nextOf z)).wpc.fill := hdr.fill
      rw [hf, hm, n6]
      exact h.fill

theorem reached_dwells {d o : Nat} (hp : phaseAt s.seq (s.seq.idx + 1) = some (.dry d o)) (hd : s.ddu.doorOpen = false) (h0 : 0 < d)
    (ha : s.ddu.awaited = false) (hs : s.ddu.stage ≠ .retracting) :
    (endPhase z).reports = z.reports ∧ (Drifts (endPhase z) t → PhaseEnded s t) := by
  obtain ⟨n1, n2, n3, n4, n5, n6, -, n8⟩ := reached_shares h
  rw [reached_next h hn hh, enterPhase_dryStarted (by rw [n5]; exact ha) (n1.trans hp), if_neg (by rw [n5]; exact hs)]
  have hx : (dryStarted d o (nextOf z)).ddu = s.ddu := by rw [dryStarted_rest]; exact n5
  have hw := takeStart_closedDoor (z := nextOf z) (d := d) (o := o) (by rw [n5]; exact hd)
  obtain ⟨e1, e2⟩ := enterDwell_stays (s := onDdu (fun _ => taken ⟨d, o⟩ (nextOf z).cfg (nextOf z).ddu) (dryStarted d o (nextOf z)))
    (show 0 < (if opensDoor (nextOf z).cfg (nextOf z).ddu then d else d + o) by split <;> omega)
  rw [← hw] at e1 e2
  have hy := (Dries.refl (dryStarted d o (nextOf z))).takeStart ⟨d, o⟩
  have hm := dryStarted_rest d o (nextOf z)
  have hys : (takeStart ⟨d, o⟩ (dryStarted d o (nextOf z))).seq = drySeq (nextOf z).seq := by rw [hy.rest, hm]
  refine ⟨e2.trans (by rw [Laws.onDdu_reports, hm]; exact n8), fun hdr => ?_⟩
  have hq : t.seq = { drySeq (nextOf z).seq with permit := t.seq.permit, placed := t.seq.placed } := by
    conv_lhs => rw [hdr.seq, hys]
  have hdd : t.ddu = _ := hdr.ddu.trans e1
  have hnoted : ∀ c, noticeCode c ∉ 19 :: engineNotices → notified c (dryStarted d o (nextOf z)) = true → notified c t = true :=
    fun c hc hcn => hdr.noted c (fun hx => hc (List.mem_cons_of_mem _ hx)) (hy.noted c (fun hx => hc (by simp [hx])) hcn)
  refine phaseEnded_of_next hn hh (fun _ h5 p hcp => hnoted _ (by simp [noticeCode, engineNotices]) ?_)
    ⟨fun k w hx => by simp [hp] at hx, fun d' o' hp' _ _ _ _ => ?_⟩
  · exact marked_noted (.dry d o) (by simp [noticeCode]) (h.ends hcp h5)
  · obtain ⟨rfl, rfl⟩ : d = d' ∧ o = o' := by simpa using hp.symm.trans hp'
    refine ⟨⟨by rw [hq]; exact n2, by rw [hq, ← n4]; rfl, fun h4 => hnoted _ (by simp [noticeCode, engineNotices]) ?_⟩,
      by rw [hq]; rfl, by rw [hq]; rfl, by rw [hdd], by rw [hdd]; rfl, by rw [hdd]; rfl, by rw [hdd]; rfl⟩
    rw [← n2]
    exact marked_begins (.dry d o) (by rw [n3]; exact h4)

theorem reached_fills {k : WashKind} {w : WashRecord} (hp : phaseAt s.seq (s.seq.idx + 1) = some (.wash k w))
    (hd : s.ddu.doorOpen = false) : (endPhase z).reports = z.reports ∧ (Drifts (endPhase z) t → PhaseEnded s t) := by
  obtain ⟨n1, n2, n3, n4, n5, n6, n7, n8⟩ := reached_shares h
  have hx := fillStarted_rest k w (nextOf z)
  have hop := opened_opened (fillStarted k w (nextOf z))
  have hwo := opened_goes (fillStarted k w (nextOf z))
  have her : (opened (fillStarted k w (nextOf z))).reports = z.reports := by
    rw [show (opened (fillStarted k w (nextOf z))).reports = (fillStarted k w (nextOf z)).reports from (openFill_keeps _).2.2.1, hx]
    exact n8
  have he : endPhase z = placeFill w.fillVolume .main (opened (fillStarted k w (nextOf z))) := by
    rw [reached_next h hn hh, enterPhase_fill (n1.trans hp) (by rw [n5]; exact hd)]
    rfl
  obtain ⟨o, ho⟩ : ∃ o, opened (fillStarted k w (nextOf z)) = o := ⟨_, rfl⟩
  rw [ho] at he hop hwo her
  have how : o.wpc = z.wpc := by rw [hop.wpc, hx]; exact n6
  have hcfg : o.cfg = s.cfg := by rw [hwo.cfg, hx]; exact n7
  rw [he, placeFill_meets _ _ (by rw [how]; exact h.fill) (by rw [how]; exact h.inhibit.2) (by rw [how]; exact h.burst.2), how, h.low.2,
    if_neg (by simp)]
  have hg := granted_wets ⟨w.fillVolume, .main, false⟩ o
  refine ⟨(revokeRegen_reports o).trans her, fun hdr => ?_⟩
  have hwpc : t.wpc = { (granted ⟨w.fillVolume, .main, false⟩ o).wpc with
      drainPump := t.wpc.drainPump, regen := t.wpc.regen, burst := t.wpc.burst } := hdr.held rfl nofun nofun
  have hgs : (granted ⟨w.fillVolume, .main, false⟩ o).seq = o.seq := revokeRegen_seq o
  have hq : t.seq = { phaseMarks (nextOf z).seq with
      state := .running, sub := .fill, fillBegun := true, permit := t.seq.permit, placed := t.seq.placed } := by
    conv_lhs => rw [hdr.seq, hgs, hop.seq, hx]
  have hgf : (granted ⟨w.fillVolume, .main, false⟩ o).sfu = o.sfu := (revokeRegen_yields o).2.2.2.2.1
  obtain ⟨r1, r2, r3, r4⟩ := hdr.record
  rw [hgf] at r1 r2 r3 r4
  obtain ⟨l1, l2, l3⟩ := hop.latched
  have hxc : (fillStarted k w (nextOf z)).cfg = s.cfg := by rw [hx]; exact n7
  rw [hxc] at l1 l2 l3
  have hk : (granted ⟨w.fillVolume, .main, false⟩ o).wpc.latchedK = s.cfg.k := by
    rw [← hcfg]
    exact congrArg ConfigRec.k (Wets.refl o).revokeRegen.cfg
  have hnoted : ∀ c, noticeCode c ∉ phaseNotices → notified c (fillStarted k w (nextOf z)) = true → notified c t = true :=
    fun c hc hcn => (hg.trans hdr.toWets).noted c (fun hx => hc (by simp [phaseNotices, hx])) (hwo.noted c hc hcn)
  refine phaseEnded_of_next hn hh (fun _ h5 p hcp => hnoted _ (by simp [noticeCode, phaseNotices, engineNotices, serviceNotices]) ?_)
    ⟨fun k' w' hp' => ⟨fun hx => absurd (hd.symm.trans hx) (by simp), fun _ _ _ => ?_⟩, fun d o hx => by simp [hp] at hx⟩
  · exact marked_noted (.wash k w) (by simp [noticeCode]) (h.ends hcp h5)
  · obtain ⟨rfl, rfl⟩ : k = k' ∧ w = w' := by simpa using hp.symm.trans hp'
    refine ⟨⟨by rw [hq]; exact n2, by rw [hq, ← n4]; rfl,
      fun h4 => hnoted _ (by simp [noticeCode, phaseNotices, engineNotices, serviceNotices]) ?_⟩, fun _ _ _ => ?_, fun _ hb => ?_,
      fun _ _ hl => ?_, fun hi => ?_⟩
    · rw [← n2]
      exact marked_begins (.wash k w) (by rw [n3]; exact h4)
    · exact ⟨by rw [hq], by rw [hq], by rw [hwpc]; rfl, by rw [hwpc]; rfl, by rw [hwpc]; rfl, by rw [hwpc]; rfl, by rw [hwpc]; rfl,
        by rw [hwpc]; rfl, by rw [hwpc]; exact hk, by rw [hwpc]; rfl, by rw [r1]; exact hop.record, r2.trans l1, r3.trans l2,
        r4.trans l3⟩
    · simp [h.burst.1] at hb
    · simp [h.low.1] at hl
    · simp [h.inhibit.1] at hi

end

/-- The boundary of a phase with the inlet free: where it reports nothing, the water path's drift alone follows; where the next phase
ends in the step that enters it, nothing is said. -/
theorem reached_ends {s z t : State} (h : Reached s z) (hd : (endPhase z).reports = z.reports → Drifts (endPhase z) t) :
    PhaseEnded s t := by
  by_cases hn : s.seq.idx + 1 < s.seq.count
  · cases hh : s.seq.holdPending with
    | true =>
      obtain ⟨h1, h2⟩ := reached_holds (t := t) h hn hh
      exact h2 (hd h1)
    | false =>
      cases hp : phaseAt s.seq (s.seq.idx + 1) with
      | none => exact (boundary_unsaid hn hh (fun k w hx => by simp [hp] at hx) fun d o hx => by simp [hp] at hx).1
      | some p =>
        cases p with
        | wash k w =>
          cases hdo : s.ddu.doorOpen with
          | true =>
            obtain ⟨h1, h2⟩ := reached_suspends (t := t) h hn hh hp hdo
            exact h2 (hd h1)
          | false =>
            obtain ⟨h1, h2⟩ := reached_fills (t := t) h hn hh hp hdo
            exact h2 (hd h1)
        | dry d o =>
          by_cases hs : s.ddu.doorOpen = true ∨ d = 0 ∨ s.ddu.awaited = true ∨ s.ddu.stage = .retracting
          · have hno : ¬ BoundaryRests s := fun hr => by
              have hx := nextPhaseStays_of_rests hn hh hr
              simp only [nextPhaseStays, hp, Bool.and_eq_true, Bool.not_eq_true', decide_eq_true_eq, bne_iff_ne] at hx
              obtain ⟨⟨⟨s1, s2⟩, s3⟩, s4⟩ := hx
              rcases hs with hx | hx | hx | hx
              · simp [s1] at hx
              · omega
              · simp [s3] at hx
              · exact s4 hx
            refine phaseEnded_of_next hn hh (fun hr => absurd hr hno) ⟨fun k w hx => by simp [hp] at hx, fun d' o' hp' h1 h2 h3 h4 => ?_⟩
            obtain ⟨rfl, rfl⟩ : d = d' ∧ o = o' := by simpa using hp.symm.trans hp'
            rcases hs with hx | hx | hx | hx
            · simp [h1] at hx
            · omega
            · simp [h3] at hx
            · exact absurd hx h4
          · simp only [not_or, Bool.not_eq_true] at hs
            obtain ⟨s1, s2, s3, s4⟩ := hs
            obtain ⟨h1, h2⟩ := reached_dwells (t := t) h hn hh hp s1 (by omega) s3 s4
            exact h2 (hd h1)
  · obtain ⟨h1, h2⟩ := reached_completes (t := t) h (Nat.not_lt.mp hn)
    exact h2 (hd h1)

end Sys2Proof.Proofs
end


section
/-! PROOFS. How a step goes on behind the boundary of a phase that the engine's leaving has brought (R30): the engine, the columns and
the drain stand while dryings that are done at once lead on. -/

/- One theorem at a time, as the tests have it: proofs that wait for the kernel cost a thread each. -/
set_option Elab.async false

namespace Sys2Proof.Proofs

open Sys2Proof.Machine
open Sys2Proof.Safety

/-- Only ends of dryings have been reported from `s` to `t`. -/
def DryReported (s t : State) : Prop := ∀ r ∈ t.reports, r ∈ s.reports ∨ ∃ o, r = .dryingDone o

namespace DryReported

variable {s t a b : State}

theorem refl (s : State) : DryReported s s := fun _ => .inl

theorem same {u : State} (h : DryReported s t) (k : u.reports = t.reports) : DryReported s u := fun r hr => h r (k ▸ hr)

theorem ite {c : Prop} [Decidable c] (ha : c → DryReported s a) (hb : ¬ c → DryReported s b) :
    DryReported s (if c then a else b) := by
  split
  · exact ha ‹_›
  · exact hb ‹_›

theorem done (h : DryReported s t) (o : DryOutcome) : DryReported s (report (.dryingDone o) t) := fun r hr =>
  (List.mem_append.mp hr).elim (h r) fun hx => .inr ⟨o, List.mem_singleton.mp hx⟩

theorem onDdu (h : DryReported s t) (f : Ddu → Ddu) : DryReported s (onDdu f t) := h.same rfl

theorem enterStage (h : DryReported s t) (st : DryStage) (n : Nat) : DryReported s (enterStage st n t) :=
  h.same (enterStage_reports st n t)

theorem reachDone (h : DryReported s t) : DryReported s (reachDone t) :=
  .ite (fun _ => ((h.onDdu _).enterStage _ _).done _) fun _ => (h.onDdu _).enterStage _ _

theorem doneWith (h : DryReported s t) (o : DryOutcome) : DryReported s (doneWith o t) := (h.onDdu _).reachDone

theorem enterOpening (h : DryReported s t) : DryReported s (enterOpening t) := by
  unfold Machine.enterOpening
  exact (h.enterStage _ _).onDdu _

theorem enterWaitCool (h : DryReported s t) : DryReported s (enterWaitCool t) :=
  have h := h.enterStage .waitCool 0
  .ite (fun _ => h.enterOpening) fun _ => h

theorem enterDwell (h : DryReported s t) : DryReported s (enterDwell t) :=
  have h := h.enterStage .dwell (if t.ddu.formOpen then t.ddu.dwell else t.ddu.dwell + t.ddu.openTime)
  .ite (fun _ => .ite (fun _ => h.enterWaitCool) fun _ => h.doneWith _) fun _ => h

theorem takeStart (h : DryReported s t) (p : DryStart) : DryReported s (takeStart p t) :=
  .ite (fun _ => (h.onDdu _).doneWith _) fun _ => (h.onDdu _).enterDwell

theorem enterDone (h : DryReported s t) : DryReported s (enterDone t) := by
  simp only [Machine.enterDone]
  split
  · exact h.reachDone
  · exact .ite (fun _ => ((h.reachDone.onDdu _).onDdu _).done _) fun _ => (h.reachDone.onDdu _).takeStart _

theorem retract (h : DryReported s t) : DryReported s (retract t) := by
  have h := (h.onDdu fun d => { d with drive := .stopped, stall := none }).enterStage .retracting 0
  refine .ite (fun _ => ?_) fun _ => h.onDdu _
  have h : DryReported s (Machine.actuatorHomed (Machine.onDdu (fun d => { d with drive := .stopped, stall := none })
      (Machine.onDdu (fun d => { d with count := 0, homed := true }) (Machine.enterStage .retracting 0
        (Machine.onDdu (fun d => { d with drive := .stopped, stall := none }) t))))) := h.same rfl
  exact .ite (fun _ => h.enterDone) fun _ => h

theorem endDrying (h : DryReported s t) : DryReported s (endDrying t) := by
  simp only [Machine.endDrying]
  split
  · split
    · exact (h.onDdu _).reachDone
    · exact (h.onDdu _).reachDone
    · exact (h.onDdu _).retract
    · exact (h.onDdu _).retract
    all_goals exact h.onDdu _
  · exact h.onDdu _

theorem startDrying (h : DryReported s t) (p : DryStart) : DryReported s (startDrying p t) := by
  have h : DryReported s (if t.ddu.awaited then Machine.endDrying t else t) := .ite (fun _ => h.endDrying) fun _ => h
  exact .ite (fun _ => h.onDdu _) fun _ => h.takeStart _

end DryReported

/-- Where all but the fill's fields stand, they stand in the fill that is opened then. -/
theorem stands_opened {f g : Sfu}
    (h : f = { g with fill := f.fill, hRaw := f.hRaw, hTgt := f.hTgt, blend := f.blend, duty := f.duty })
    (r : FillRec) (a b c d : Nat) :
    { f with fill := r, hRaw := a, hTgt := b, blend := c, duty := d }
      = { g with fill := r, hRaw := a, hTgt := b, blend := c, duty := d } := by
  rw [h]

/-- The step goes on from the boundary in `z`: the engine asks for nothing, the columns stand, no drain and no extension comes back,
the inlet is free, and nothing is reported but that the engine has left or a drying is done. -/
structure Onward (z t : State) : Prop where
  ready : t.part.state = .ready
  idled : Idled t
  rge : t.rge = z.rge
  engine : t.rge.state ≠ .effluentDrain
  seqDrain : t.wpc.seqDrain = none
  brineValve : t.wpc.brineValve = false
  burst : t.wpc.burst = none
  free : t.wpc.inhibit = false ∧ t.wpc.highLevel = false
  extension : t.seq.extension = none
  sfu : t.sfu = { z.sfu with
    fill := t.sfu.fill, hRaw := t.sfu.hRaw, hTgt := t.sfu.hTgt, blend := t.sfu.blend, duty := t.sfu.duty }
  closed : runningIn t .dry = true → t.sfu.fill.isOpen = false ∧ t.wpc.fill = none
  asked : ∀ i, writeAsked i z = true → writeAsked i t = true
  noted : ∀ c, noticeCode c = 14 → notified c z = true → notified c t = true
  reports : ∀ r ∈ t.reports, r = .engineLeft ∨ ∃ o, r = .dryingDone o

namespace Onward

variable {z t u : State} (h : Onward z t)
include h

/-- The sequencer's fields and the notices of another kind move. -/
theorem onSeq (f : Seq → Seq) (he : (f t.seq).extension = none)
    (hd : runningIn (onSeq f t) .dry = true → t.sfu.fill.isOpen = false ∧ t.wpc.fill = none) : Onward z (onSeq f t) :=
  { h with
    idled := ⟨h.idled.fill, h.idled.regen, h.idled.holder, fun hx => absurd hx h.engine, h.idled.unqueued⟩
    extension := he
    closed := hd }

theorem raiseNotice (c : Content) (hc : noticeCode c ≠ 14) : Onward z (raiseNotice c t) := by
  have hr := raiseNotice_rest c t
  refine ⟨?_, ?_, ?_, ?_, ?_, ?_, ?_, ?_, ?_, ?_, ?_, ?_,
    fun d hd hx => notified_raiseNotice_ne (by rw [hd]; exact hc.symm) (h.noted d hd hx), ?_⟩
  all_goals rw [hr]
  · exact h.ready
  · exact ⟨h.idled.fill, h.idled.regen, h.idled.holder, h.idled.effluent, h.idled.unqueued⟩
  · exact h.rge
  · exact h.engine
  · exact h.seqDrain
  · exact h.brineValve
  · exact h.burst
  · exact h.free
  · exact h.extension
  · exact h.sfu
  · exact h.closed
  · exact h.asked
  · exact h.reports

theorem onReports {l : List Report} (hl : ∀ r ∈ l, r ∈ t.reports) : Onward z (onReports (fun _ => l) t) :=
  { h with
    idled := h.idled.onReports _
    reports := fun r hr => h.reports r (hl r hr) }

theorem refreshPump : Onward z (refreshPump t) :=
  { h with idled := h.idled.refreshPump }

theorem waterSettle : Onward z (waterSettle t) := by
  rw [h.idled.waterSettle]
  exact h.refreshPump

theorem onHtc (f : Htc → Htc) : Onward z (onHtc f t) :=
  { h with idled := ⟨h.idled.fill, h.idled.regen, h.idled.holder, h.idled.effluent, h.idled.unqueued⟩ }

theorem onCzs (f : Czs → Czs) : Onward z (onCzs f t) :=
  { h with idled := ⟨h.idled.fill, h.idled.regen, h.idled.holder, h.idled.effluent, h.idled.unqueued⟩ }

/-- The drying moves. -/
theorem dries (k : Dries t u) (hr : DryReported t u) : Onward z u := by
  have hx := k.rest
  refine ⟨by rw [k.part]; exact h.ready, ?_, ?_, ?_, ?_, ?_, ?_, ?_, ?_, ?_, ?_, ?_,
    fun c hc hn => k.noted c (by rw [hc]; simp) (h.noted c hc hn), fun r hu => (hr r hu).elim (h.reports r) .inr⟩
  all_goals rw [hx]
  · exact ⟨h.idled.fill, h.idled.regen, h.idled.holder, h.idled.effluent, h.idled.unqueued⟩
  · exact h.rge
  · exact h.engine
  · exact h.seqDrain
  · exact h.brineValve
  · exact h.burst
  · exact h.free
  · exact h.extension
  · exact h.sfu
  · exact h.closed
  · exact h.asked

/-! ## The phase that is entered -/

theorem marked (p : Phase) (hf : t.wpc.fill = none) (ho : t.sfu.fill.isOpen = false) : Onward z (marked p t) :=
  have hm := (h.onSeq (fun q => phaseMarks q) rfl fun _ => ⟨ho, hf⟩).raiseNotice (.phaseBegin t.seq.idx (phaseKind p))
    (by simp [noticeCode])
  (hm.onHtc (fun h => { h with lossCount := 0, phaseDisable := false })).onCzs (fun z => { z with
    started := false, fixed := false, stall1 := 0, stall2 := 0, zone := none, slotsGiven := 0, slotTime := 0 })

/-- A main fill is granted at once, the inlet being free (R38). -/
theorem beginFill (w : WashRecord) (hf : t.wpc.fill = none) (ho : t.sfu.fill.isOpen = false) (hd : runningIn t .dry = false) :
    Onward z (beginFill w t) := by
  have he : opened t = setDuty (Machine.onSfu (fun f => { f with
      fill := { isOpen := true, v := 0, g := 0, hFill := f.fill.hFill, breakthrough := 0 }
      hRaw := t.cfg.hRaw
      hTgt := t.cfg.hTgt
      blend := blendOf t.cfg.hRaw t.cfg.hTgt }) (Machine.onSeq (fun q => { q with fillBegun := true }) t)) := by
    unfold opened openFill
    rw [closeFill_closed (s := Machine.onSeq (fun q => { q with fillBegun := true }) t) ho]
    rfl
  have hw : (opened t).wpc = t.wpc := (opened_opened t).wpc
  obtain ⟨h1, h2⟩ := h.idled.holder
  have hr : revokeRegen (opened t) = opened t := by
    unfold revokeRegen
    rw [hw]
    split <;> simp_all
  rw [beginFill_eq, placeFill_meets _ _ (by rw [hw]; exact hf) (by rw [hw]; exact h.free.1) (by rw [hw]; exact h.burst), hw, h.free.2,
    if_neg (by simp), granted, hr, he]
  have hd' : runningIn (Machine.onSeq (fun q => { q with fillBegun := true }) t) .dry = false := hd
  exact {
    ready := h.ready
    idled := ⟨fun q hq => by rw [← Option.some.inj (show some _ = some q from hq)], h.idled.regen, ⟨nofun, nofun⟩,
      fun hx => absurd hx h.engine, h.idled.unqueued⟩
    rge := h.rge
    engine := h.engine
    seqDrain := h.seqDrain
    brineValve := rfl
    burst := h.burst
    free := h.free
    extension := h.extension
    sfu := stands_opened h.sfu _ _ _ _ _
    closed := fun hx => absurd (hd'.symm.trans hx) (by simp)
    asked := h.asked
    noted := h.noted
    reports := h.reports }

theorem enterPhase (hf : t.wpc.fill = none) (ho : t.sfu.fill.isOpen = false) : Onward z (enterPhase t) := by
  cases hc : currentPhase t with
  | none => simpa [Machine.enterPhase, hc] using h
  | some p =>
    have hm := h.marked p hf ho
    have hx := marked_rest p t
    have hmf : (Proofs.marked p t).wpc.fill = none := by rw [hx]; exact hf
    have hmo : (Proofs.marked p t).sfu.fill.isOpen = false := by rw [hx]; exact ho
    cases p with
    | dry d o =>
      rw [enterPhase_dry hc]
      exact (hm.onSeq (fun q => { q with state := .running, sub := .dry }) hm.extension fun _ => ⟨hmo, hmf⟩).dries
        ((Dries.refl _).startDrying _) ((DryReported.refl _).startDrying _)
    | wash k w =>
      cases hd : t.ddu.doorOpen with
      | true =>
        rw [enterPhase_suspended hc hd]
        exact (hm.onSeq (fun q => { q with state := .suspended, sub := .none }) hm.extension fun _ => ⟨hmo, hmf⟩).onSeq
          (fun q => { q with remembered := .sub .fill }) hm.extension fun _ => ⟨hmo, hmf⟩
      | false =>
        rw [enterPhase_fill hc hd]
        exact (hm.onSeq (fun q => { q with state := .running, sub := .fill }) hm.extension fun _ => ⟨hmo, hmf⟩).beginFill w hmf hmo rfl

theorem endPhase (hf : t.wpc.fill = none) (ho : t.sfu.fill.isOpen = false) : Onward z (endPhase t) := by
  have hp : Onward z (phaseEndRaised t) := by
    unfold phaseEndRaised
    split
    · exact h.raiseNotice _ (by simp [noticeCode])
    · exact h
  have hx := phaseEndRaised_rest t
  have hpf : (phaseEndRaised t).wpc.fill = none := by rw [hx]; exact hf
  have hpo : (phaseEndRaised t).sfu.fill.isOpen = false := by rw [hx]; exact ho
  rw [endPhase_eq]
  split
  · rw [completeProgram_eq]
    exact (hp.onSeq completedSeq hp.extension fun _ => ⟨hpo, hpf⟩).raiseNotice _ (by simp [noticeCode])
  · split
    · rw [holdAtBoundary_eq]
      exact (hp.onSeq heldSeq hp.extension fun _ => ⟨hpo, hpf⟩).raiseNotice _ (by simp [noticeCode])
    · exact (hp.onSeq (fun q => { q with idx := q.idx + 1 }) hp.extension fun _ => ⟨hpo, hpf⟩).enterPhase hpf hpo

theorem takeReport {r : Report} (hr : r = .engineLeft ∨ ∃ o, r = .dryingDone o) : Onward z (takeReport r t) := by
  rcases hr with rfl | ⟨o, rfl⟩
  · have he : engineLeft t = t := by
      unfold engineLeft
      rw [h.extension]
      exact if_neg (by simp)
    show Onward z (engineLeft t)
    rwa [he]
  · show Onward z (if runningIn t .dry then _ else _)
    split
    · next hd =>
      obtain ⟨h1, h2⟩ := h.closed hd
      exact h.endPhase h2 h1
    · exact h

theorem takeReports (n : Nat) : Onward z (takeReports n t) := by
  induction n generalizing t with
  | zero => exact h.onReports (l := []) (by simp)
  | succ n ih =>
    unfold Machine.takeReports
    split
    · exact h
    · next r l hr =>
      exact ih ((h.onReports (l := l) fun x hx => by rw [hr]; exact List.mem_cons_of_mem _ hx).takeReport
        (h.reports r (by simp [hr]))).waterSettle

end Onward

end Sys2Proof.Proofs
end


section
/-! PROOFS. The engine leaves in a program's extended DRAIN: the drain ends, and with it the phase (R30). -/

/- One theorem at a time, as the tests have it: proofs that wait for the kernel cost a thread each. -/
set_option Elab.async false

namespace Sys2Proof.Proofs

open Sys2Proof.Machine
open Sys2Proof.Safety

/-- The engine has left in a program's extended DRAIN, the inlet being free, and nothing else is reported. -/
structure LeftIn (s y : State) : Prop where
  drains : runningIn s .drain = true
  extended : s.seq.extension.isSome = true
  ready : y.part.state = .ready
  idled : Idled y
  engine : y.rge.state ≠ .effluentDrain
  seq : y.seq = s.seq
  cfg : y.cfg = s.cfg
  ddu : y.ddu = s.ddu
  mask : y.lnk.mask = s.lnk.mask
  fill : y.wpc.fill = none
  inhibit : s.wpc.inhibit = false ∧ y.wpc.inhibit = false
  burst : s.wpc.burst = none ∧ y.wpc.burst = none
  low : s.wpc.highLevel = false ∧ y.wpc.highLevel = false
  brineValve : y.wpc.brineValve = false
  closed : y.sfu.fill.isOpen = false
  reports : ∃ l, y.reports = .engineLeft :: l ∧ ∀ r ∈ l, r = .engineLeft

namespace LeftIn

variable {s y : State} (h : LeftIn s y)
include h

theorem running : s.seq.state = .running ∧ s.seq.sub = .drain := (runningIn_iff _ _).mp h.drains

/-- The state at whose boundary the drain ends. -/
def boundaryOf (l : List Report) (y : State) : State := undrained (onReports (fun _ => l) (refreshPump y))

theorem onward {l : List Report} (hl : ∀ r ∈ l, r = .engineLeft) : Onward (boundaryOf l y) (boundaryOf l y) where
  ready := h.ready
  idled := ⟨h.idled.fill, h.idled.regen, h.idled.holder, fun hx => absurd hx h.engine, h.idled.unqueued⟩
  rge := rfl
  engine := h.engine
  seqDrain := rfl
  brineValve := h.brineValve
  burst := h.burst.2
  free := ⟨h.inhibit.2, h.low.2⟩
  extension := rfl
  sfu := rfl
  closed := fun _ => ⟨h.closed, h.fill⟩
  asked := fun _ => id
  noted := fun _ _ => id
  reports := fun r hr => .inl (hl r hr)

theorem reached (l : List Report) : Reached s (boundaryOf l y) where
  fill := h.fill
  cfg := h.cfg
  ddu := h.ddu
  mask := h.mask
  inhibit := h.inhibit
  burst := h.burst
  low := h.low
  program := by
    have hq : (boundaryOf l y).seq = { y.seq with permit := (refreshPump y).seq.permit, extension := none } := rfl
    rw [hq, h.seq]
    exact ⟨rfl, rfl, rfl, rfl, rfl⟩

/-- The step goes on with the boundary. -/
theorem settles {l : List Report} (hl : y.reports = .engineLeft :: l) :
    takeReports 64 (waterSettle y) = takeReports 63 (waterSettle (endPhase (boundaryOf l y))) := by
  have hr : (waterSettle y).reports = .engineLeft :: l := by rw [h.idled.waterSettle]; exact hl
  have hd : runningIn (onReports (fun _ => l) (refreshPump y)) .drain = true := by
    show runningIn (refreshPump y) .drain = true
    have hq : (refreshPump y).seq = { y.seq with permit := (refreshPump y).seq.permit } := rfl
    rw [runningIn, hq, h.seq]
    exact h.drains
  have he : (onReports (fun _ => l) (refreshPump y)).seq.extension.isSome = true := by
    show y.seq.extension.isSome = true
    rw [h.seq]
    exact h.extended
  rw [takeReports_cons hr, h.idled.waterSettle]
  show takeReports 63 (waterSettle (engineLeft (onReports (fun _ => l) (refreshPump y)))) = _
  rw [engineLeft, hd, he]
  rfl

/-- What the step leaves of the columns and of the engine, and what the phase's end makes of the program. -/
structure Ends (s y t : State) : Prop where
  rge : t.rge = y.rge
  regen : t.wpc.regen = none
  brineValve : t.wpc.brineValve = false
  burst : t.wpc.burst = none
  seqDrain : t.wpc.seqDrain = none
  extension : t.seq.extension = none
  sfu : t.sfu = { y.sfu with
    fill := t.sfu.fill, hRaw := t.sfu.hRaw, hTgt := t.sfu.hTgt, blend := t.sfu.blend, duty := t.sfu.duty }
  asked : ∀ i, writeAsked i y = true → writeAsked i t = true
  noted : ∀ c, noticeCode c = 14 → notified c y = true → notified c t = true
  ended : PhaseEnded s t

theorem ends : Ends s y (conclude y) := by
  obtain ⟨l, hl, hlr⟩ := h.reports
  have hs := h.settles hl
  have ho := (h.onward hlr).endPhase h.fill h.closed
  have hr := h.reached l
  obtain ⟨z, hz⟩ : ∃ z, boundaryOf l y = z := ⟨_, rfl⟩
  have hzy : z.rge = y.rge ∧ z.sfu = y.sfu ∧ (∀ i, writeAsked i y = true → writeAsked i z = true)
      ∧ (∀ c, notified c y = true → notified c z = true) := hz ▸ ⟨rfl, rfl, fun _ => id, fun _ => id⟩
  have hzr : z.reports = l := hz ▸ rfl
  rw [hz] at hs ho hr
  obtain ⟨e, he⟩ : ∃ e, takeReports 63 (waterSettle (endPhase z)) = e := ⟨_, rfl⟩
  have k : Onward z e := he ▸ ho.waterSettle.takeReports 63
  rw [he] at hs
  have hc : conclude y = finish (rested e) := by
    rw [conclude, settle_ready (by rw [hs]; exact k.ready), hs]
  have hrest : rested e = refreshArms (refreshHeater (refreshPump e)) := by
    rw [rested, k.idled.refreshPump.revokes]
  have hd : (endPhase z).reports = z.reports → Drifts (endPhase z) (conclude y) := fun hx => by
    have hq : Quieted (endPhase z) := ⟨ho.ready, fun q hq => .inl (ho.idled.fill q hq), fun r hr => by
      rw [hx, hzr] at hr
      rw [hlr r hr]
      exact .inr ho.extension⟩
    have hw := (Drifts.refl (endPhase z)).waterSettle hq.fillable
    have ht := hw.trans ((hq.waterSettle (.inr ho.extension)).takeReports (n := 63) (.inr (hw.extension.trans ho.extension)))
    rw [he] at ht
    rw [hc]
    exact (ht.trans (drifts_rested e)).finish
  have hend := reached_ends hr hd
  rw [hc] at hend ⊢
  rw [hrest] at hend ⊢
  exact {
    rge := (Laws.finish_rge _).trans (k.rge.trans hzy.1)
    regen := by rw [Laws.finish_wpc]; exact k.idled.regen
    brineValve := by rw [Laws.finish_wpc]; exact k.brineValve
    burst := by rw [Laws.finish_wpc]; exact k.burst
    seqDrain := by rw [Laws.finish_wpc]; exact k.seqDrain
    extension := by rw [Laws.finish_seq]; exact k.extension
    sfu := by rw [Laws.finish_sfu, ← hzy.2.1]; exact k.sfu
    asked := fun i hi => writeAsked_finish (k.asked i (hzy.2.2.1 i hi))
    noted := fun c hc hn => notified_finish (k.noted c hc (hzy.2.2.2 c hn))
    ended := hend }

end LeftIn

end Sys2Proof.Proofs
end


section
/-! PROOFS. The brine and the rinse inside a program's DRAIN (R30, R87, R90, R91), and the statement of their pulses settled (O32). -/

/- One theorem at a time, as the tests have it: proofs that wait for the kernel cost a thread each. -/
set_option Elab.async false

namespace Sys2Proof.Proofs

open Sys2Proof.Machine
open Sys2Proof.Safety

/-! ## The column is restored (R89, R91) -/

/-- The record of a column that a complete regeneration has restored. -/
def restoredRec (s : State) (col : Column) : ColRec := {
  remaining := nominalCapacity s, exhausted := false
  regens := min 65535 ((columnRec s.sfu col).regens + 1), degraded := false }

/-- A restored column joins the ready queue. -/
def restoredSfu (s : State) (col : Column) : Sfu :=
  { setColumnRec s.sfu col (restoredRec s col) with ready := s.sfu.ready ++ [col] }

/-- A column has a record of its own: C with three columns fitted (R54). -/
def Recorded (f : Sfu) (col : Column) : Prop := col = .c → f.colC.isSome = true

theorem columnRec_set {f : Sfu} {col : Column} (r : ColRec) (h : Recorded f col) : columnRec (setColumnRec f col r) col = r := by
  cases col with
  | a => rfl
  | b => rfl
  | c =>
    obtain ⟨c, hc⟩ := Option.isSome_iff_exists.mp (h rfl)
    simp [setColumnRec, columnRec, hc]

theorem columnRec_set_ne {f : Sfu} {col x : Column} (r : ColRec) (h : x ≠ col) :
    columnRec (setColumnRec f col r) x = columnRec f x := by
  cases col with
  | a =>
    cases x with
    | a => exact absurd rfl h
    | _ => rfl
  | b =>
    cases x with
    | b => exact absurd rfl h
    | _ => rfl
  | c =>
    cases x with
    | c => exact absurd rfl h
    | _ => rfl

theorem setColumnRec_set (f : Sfu) (col : Column) (a b : ColRec) : setColumnRec (setColumnRec f col a) col b = setColumnRec f col b := by
  cases col with
  | a => rfl
  | b => rfl
  | c => cases f with | mk _ _ c => cases c <;> rfl

theorem setColumnRec_places (f : Sfu) (col : Column) (r : ColRec) : (setColumnRec f col r).service = f.service
    ∧ (setColumnRec f col r).ready = f.ready ∧ (setColumnRec f col r).regenQ = f.regenQ
    ∧ (setColumnRec f col r).valveFault = f.valveFault ∧ (setColumnRec f col r).fill = f.fill := by
  cases col <;> exact ⟨rfl, rfl, rfl, rfl, rfl⟩

/-- The report of a complete regeneration. -/
def restoredReport (s : State) (col : Column) : RegenReport := {
  column := col, outcome := .completed, remaining := nominalCapacity s, place := .readyQueue
  regens := min 65535 ((columnRec s.sfu col).regens + 1), brineDrawn := s.rge.brineDrawn
  rinseDelivered := s.rge.rinseDelivered, timeout := .none }

/-- The column in its place, and told of. -/
def handedBack (s : State) (col : Column) : State :=
  raiseNotice (.regenDone (restoredReport s col)) (askWrite .columns (onSfu (fun _ => restoredSfu s col) s))

/-- The engine is idle again. -/
def restored (s : State) (col : Column) : State :=
  report .engineLeft (askWrite .columns (onRge (fun e => engineIdle e) (handedBack s col)))

theorem restored_keeps (s : State) (col : Column) : (restored s col).part = s.part ∧ (restored s col).cfg = s.cfg
    ∧ (restored s col).ddu = s.ddu ∧ (restored s col).lnk.mask = s.lnk.mask ∧ (restored s col).seq = s.seq
    ∧ (restored s col).wpc = s.wpc ∧ (restored s col).sfu = restoredSfu s col ∧ (restored s col).rge = engineIdle s.rge
    ∧ (restored s col).reports = s.reports ++ [.engineLeft] ∧ writeAsked .columns (restored s col) = true := by
  have hr := raiseNotice_rest (.regenDone (restoredReport s col)) (askWrite .columns (onSfu (fun _ => restoredSfu s col) s))
  have hm := raiseNotice_mask (.regenDone (restoredReport s col)) (askWrite .columns (onSfu (fun _ => restoredSfu s col) s))
  have hh : handedBack s col = { askWrite .columns (onSfu (fun _ => restoredSfu s col) s) with lnk := (handedBack s col).lnk } := hr
  obtain ⟨l, hl⟩ : ∃ l, (handedBack s col).lnk = l := ⟨_, rfl⟩
  have hm : (handedBack s col).lnk.mask = s.lnk.mask := hm
  rw [hl] at hh hm
  unfold restored
  rw [hh]
  exact ⟨rfl, rfl, rfl, hm, rfl, rfl, rfl, rfl, rfl, writeAsked_askWrite_self .columns
    (onRge (fun e => engineIdle e) { askWrite .columns (onSfu (fun _ => restoredSfu s col) s) with lnk := l })⟩

theorem restored_notified {s : State} {col : Column} (h : noticeEnabled s.lnk.mask 14 = true) :
    notified (.regenDone (restoredReport s col)) (restored s col) = true :=
  notified_raiseNotice (c := .regenDone (restoredReport s col)) (s := askWrite .columns (onSfu (fun _ => restoredSfu s col) s)) h

theorem admitColumn_ready {s : State} {col : Column} {r : ColRec} (hc : columnRec s.sfu col = r) (hn : s.cfg.reserve < r.remaining) :
    admitColumn col s = askWrite .columns (onSfu (fun f => { setColumnRec f col { r with exhausted := false } with
      ready := f.ready ++ [col] }) s) := by
  unfold admitColumn
  rw [hc]
  dsimp only
  rw [if_pos hn, (setColumnRec_places s.sfu col { r with exhausted := false }).2.1]
  rfl

section
variable {s : State} {col : Column} (hr : Recorded s.sfu col)
include hr

theorem admit_restored (hx : s.rge.result = some ⟨nominalCapacity s, false⟩) (hn : s.cfg.reserve < nominalCapacity s) :
    admitColumn col (enterResult col s) = askWrite .columns (onSfu (fun _ => restoredSfu s col) s) := by
  obtain ⟨r, hrr⟩ : ∃ r : ColRec, { columnRec s.sfu col with
      remaining := nominalCapacity s, degraded := false, regens := min 65535 ((columnRec s.sfu col).regens + 1) } = r := ⟨_, rfl⟩
  have he : enterResult col s = onSfu (fun f => setColumnRec f col r) s := by
    rw [enterResult, hx, ← hrr]
    simp
  have hc : columnRec (onSfu (fun f => setColumnRec f col r) s).sfu col = r := columnRec_set r hr
  have hm : r.remaining = nominalCapacity s := by rw [← hrr]
  have hd : ({ r with exhausted := false } : ColRec) = restoredRec s col := by rw [← hrr]; rfl
  have hset : setColumnRec (setColumnRec s.sfu col r) col (restoredRec s col) = setColumnRec s.sfu col (restoredRec s col) :=
    setColumnRec_set s.sfu col r _
  rw [he, admitColumn_ready hc (show s.cfg.reserve < r.remaining by rw [hm]; exact hn), hd]
  show askWrite .columns (onSfu (fun _ => { setColumnRec (setColumnRec s.sfu col r) col (restoredRec s col) with
    ready := (setColumnRec s.sfu col r).ready ++ [col] }) s) = _
  rw [hset, (setColumnRec_places s.sfu col r).2.1]
  rfl

/-- Where nothing calls for the column at once, it stands in the ready queue with its capacity restored (R64, R91). -/
theorem finishRegen_restores (hc : s.rge.column = some col) (ht : s.rge.timeout = .none) (hm : s.rge.saltMark = false)
    (hx : s.rge.result = some ⟨nominalCapacity s, false⟩) (hn : s.cfg.reserve < nominalCapacity s)
    (hs : s.sfu.valveFault = true ∨ ∃ x, s.sfu.service = some x ∧ x ≠ col ∧ (columnRec s.sfu x).exhausted = false) :
    finishRegen s = restored s col := by
  have hcol : columnRec (restoredSfu s col) col = restoredRec s col := columnRec_set (restoredRec s col) hr
  have hb : finishRegen s = readyTest (restored s col) := by
    simp only [finishRegen, hc, ht, if_true, admit_restored hr hx hn]
    show readyTest (report .engineLeft (askWrite .columns (onRge (fun e => engineIdle e)
      (regenDone col (if s.rge.saltMark = true then .degraded else .completed)
        (if s.cfg.reserve < (columnRec (restoredSfu s col) col).remaining then .readyQueue else .regenQueue)
        (askWrite .columns (onSfu (fun _ => restoredSfu s col) s)))))) = _
    rw [hm, hcol, if_neg (by simp), if_pos (show s.cfg.reserve < (restoredRec s col).remaining from hn)]
    have hd : regenDone col .completed .readyQueue (askWrite .columns (onSfu (fun _ => restoredSfu s col) s)) = handedBack s col := by
      have hy : columnRec (askWrite .columns (onSfu (fun _ => restoredSfu s col) s)).sfu col = restoredRec s col := hcol
      have ht' : (askWrite .columns (onSfu (fun _ => restoredSfu s col) s)).rge.timeout = .none := ht
      rw [regenDone, hy, ht']
      rfl
    rw [hd]
    rfl
  obtain ⟨p1, -, -, p4, -⟩ := setColumnRec_places s.sfu col (restoredRec s col)
  obtain ⟨-, -, -, -, -, -, hsf, -⟩ := restored_keeps s col
  rw [hb, readyTest, if_neg]
  rw [hsf]
  have hv : (restoredSfu s col).valveFault = s.sfu.valveFault := p4
  rcases hs with h | ⟨x, h1, h2, h3⟩
  · simp [hv, h]
  · have hw : serviceWanted (restored s col) = false := by
      have hsx : (restoredSfu s col).service = some x := p1.trans h1
      have hxx : (columnRec (restoredSfu s col) x).exhausted = false := by
        rw [← h3]
        exact congrArg ColRec.exhausted (columnRec_set_ne (restoredRec s col) h2)
      rw [serviceWanted, hsf, hsx]
      exact hxx
    simp [hw]

end

end Sys2Proof.Proofs
end


section
/-! PROOFS. The statement of the engine's pulses, settled (O32): outside a program's DRAIN and inside it. -/

/- One theorem at a time, as the tests have it: proofs that wait for the kernel cost a thread each. -/
set_option Elab.async false

namespace Sys2Proof.Proofs

open Sys2Proof.Machine
open Sys2Proof.Safety

section
variable {k : RegenKind} {n j : Nat} {s : State} (hx : s.seq.extension.isSome = true) (ho : s.sfu.fill.isOpen = false)

theorem EngineGrant.free (h : EngineGrant k n s) : s.wpc.inhibit = false ∧ s.wpc.highLevel = false := by
  have hf := h.flows
  simp only [regenMayFlow, Bool.and_eq_true, Bool.not_eq_true'] at hf
  exact ⟨hf.1.2, hf.2⟩

/-! ## The brine's target in DRAIN (R30, R82) -/

include hx ho in
theorem leftIn_brineOver (h : EngineGrant .brine n s) (hd : runningIn s .drain = true) :
    LeftIn s (brineOver (flowed brineCounted j s)) := by
  have hg : (flowed brineCounted j s).wpc.regen = some ⟨.brine, true⟩ := h.regen
  have hi := idled_brineOver hg h.fill
  obtain ⟨h1, h2⟩ := h.free
  rw [brineOver_eq hg] at hi ⊢
  exact {
    drains := hd
    extended := hx
    ready := h.awake.2.1
    idled := hi
    engine := nofun
    seq := rfl
    cfg := rfl
    ddu := rfl
    mask := rfl
    fill := h.fill
    inhibit := ⟨h1, h1⟩
    burst := ⟨h.burst, h.burst⟩
    low := ⟨h2, h2⟩
    brineValve := rfl
    closed := ho
    reports := ⟨[], by simp [report, flowed, closeInlet, h.awake.2.2], by simp⟩ }

include hx ho in
theorem brine_ends_drain (h : EngineGrant .brine n s) (hd : runningIn s .drain = true) (h0 : s.rge.brineDrawn < s.rge.brineTarget)
    (ht : s.rge.brineTarget ≤ s.rge.brineDrawn + n) :
    ∃ t, exec .flowMeterPulse s = .next t
      ∧ t.rge = { s.rge with state := .dwell, brineDrawn := s.rge.brineTarget, dwellLeft := s.rge.dwellTime }
      ∧ t.wpc.regen = none ∧ t.wpc.brineValve = false ∧ t.wpc.seqDrain = none ∧ t.seq.extension = none ∧ PhaseEnded s t := by
  obtain ⟨j, hj⟩ : ∃ j, s.rge.brineTarget - s.rge.brineDrawn = j := ⟨_, rfl⟩
  have hb : s.rge.brineDrawn + j = s.rge.brineTarget := by omega
  have hg : (flowed brineCounted j s).wpc.regen = some ⟨.brine, true⟩ := h.regen
  have k := (leftIn_brineOver (j := j) hx ho h hd).ends
  rw [h.expires, h.brine_ends h.holder h.regen h0 ht, hj]
  refine ⟨_, rfl, k.rge.trans ?_, k.regen, k.brineValve, k.seqDrain, k.extension, k.ended⟩
  rw [brineOver_eq hg, ← hb]
  rfl

/-! ## The rinse's target in DRAIN (R30, R87, R90, R91) -/

/-- The premises under which a complete regeneration hands its column back, nothing calling for it at once. -/
structure HandsBack (s : State) (col : Column) : Prop where
  column : s.rge.column = some col
  recorded : Recorded s.sfu col
  mark : s.rge.saltMark = false
  timeout : s.rge.timeout = .none
  above : s.cfg.reserve < s.cfg.nominal * 1000000
  queue : s.sfu.regenQ = []
  unasked : s.sfu.valveFault = true ∨ ∃ x, s.sfu.service = some x ∧ x ≠ col ∧ (columnRec s.sfu x).exhausted = false

/-- The engine's last millilitre, the engine having left its rinse. -/
def rinseLeft (j : Nat) (s : State) : State := report .engineLeft (rinsed (flowed rinseCounted j s))

theorem rinseLeft_keeps (j : Nat) (s : State) : (rinseLeft j s).part = s.part ∧ (rinseLeft j s).cfg = s.cfg
    ∧ (rinseLeft j s).ddu = s.ddu ∧ (rinseLeft j s).lnk = s.lnk ∧ (rinseLeft j s).seq = s.seq ∧ (rinseLeft j s).sfu = s.sfu
    ∧ (rinseLeft j s).rge = (rinsed (flowed rinseCounted j s)).rge ∧ (rinseLeft j s).reports = s.reports ++ [.engineLeft] :=
  ⟨rfl, rfl, rfl, rfl, rfl, rfl, rfl, rfl⟩

theorem rinseLeft_wpc (j : Nat) (s : State) : (rinseLeft j s).wpc = { s.wpc with
    residue := s.wpc.residue + 1000 - j * s.wpc.latchedK, grantCount := s.wpc.grantCount + j
    regen := none, holder := .none, inletValve := false, brineValve := false, fillTimer := none } := rfl

section
variable {col : Column} (h : EngineGrant .rinse n s) (hd : runningIn s .drain = true) (hb : HandsBack s col)
  (hj : s.rge.rinseDelivered + j = s.rge.rinseTarget)
include h hd hb hj

theorem rinseOver_restores : rinseOver (flowed rinseCounted j s) = restored (rinseLeft j s) col := by
  obtain ⟨-, k2, -, -, -, k6, k7, -⟩ := rinseLeft_keeps j s
  have hr : (rinseLeft j s).rge = rinseDone s col := k7.trans (rinsed_rge hb.column hj)
  have hn : nominalCapacity (rinseLeft j s) = s.cfg.nominal * 1000000 := by rw [nominalCapacity, k2]
  have hg : (flowed rinseCounted j s).wpc.regen = some ⟨.rinse, true⟩ := h.regen
  rw [rinseOver_finishes hg (show runningIn (flowed rinseCounted j s) .drain = true from hd)]
  refine finishRegen_restores (s := rinseLeft j s) ?_ ?_ ?_ ?_ ?_ ?_ ?_
  · rw [k6]; exact hb.recorded
  · rw [hr]; exact hb.column
  · rw [hr]; exact hb.timeout
  · rw [hr]; exact hb.mark
  · rw [hr, hn]
    simp [rinseDone, hb.mark]
  · rw [k2, hn]; exact hb.above
  · rw [k6]; exact hb.unasked

omit hd in
/-- The state in which the engine has handed its column back. -/
theorem restored_rinse : Idled (restored (rinseLeft j s) col) ∧ (restored (rinseLeft j s) col).part = s.part
    ∧ (restored (rinseLeft j s) col).reports = [.engineLeft, .engineLeft]
    ∧ (restored (rinseLeft j s) col).rge = { timeout := .none, lidOpen := s.rge.lidOpen, saltLow := s.rge.saltLow }
    ∧ (restored (rinseLeft j s) col).seq = s.seq ∧ (restored (rinseLeft j s) col).sfu = restoredSfu s col
    ∧ (restored (rinseLeft j s) col).wpc = (rinseLeft j s).wpc := by
  obtain ⟨r1, r2, r3, r4, r5, r6, r7, r8, r9, -⟩ := restored_keeps (rinseLeft j s) col
  obtain ⟨k1, k2, k3, k4, k5, k6, k7, k8⟩ := rinseLeft_keeps j s
  have hr : (rinseLeft j s).rge = rinseDone s col := k7.trans (rinsed_rge hb.column hj)
  have hf : restoredSfu (rinseLeft j s) col = restoredSfu s col := by
    simp only [restoredSfu, restoredRec, nominalCapacity, k2, k6]
  have he : engineIdle (rinseDone s col) = { timeout := .none, lidOpen := s.rge.lidOpen, saltLow := s.rge.saltLow } := by
    simp [engineIdle, rinseDone, hb.mark, hb.timeout]
  rw [hr, he] at r8
  rw [hf] at r7
  have hw := rinseLeft_wpc j s
  refine ⟨⟨fun q hq => ?_, ?_, ?_, fun hx => ?_, fun _ => ?_⟩, r1.trans k1, ?_, r8, r5.trans k5, r7, r6⟩
  · rw [r6, hw] at hq
    exact absurd (show q ∈ s.wpc.fill from hq) (by simp [h.fill])
  · rw [r6, hw]
  · rw [r6, hw]
    exact ⟨nofun, nofun⟩
  · rw [r8] at hx
    cases hx
  · rw [r7]
    exact .inl ((setColumnRec_places s.sfu col (restoredRec s col)).2.2.1.trans hb.queue)
  · rw [r9, k8, h.awake.2.2]
    rfl

theorem leftIn_restored (hx : s.seq.extension.isSome = true) (ho : s.sfu.fill.isOpen = false) :
    LeftIn s (restored (rinseLeft j s) col) := by
  obtain ⟨e1, e2, e3, e4, e5, e6, e7⟩ := restored_rinse h hb hj
  obtain ⟨-, r2, r3, r4, -⟩ := restored_keeps (rinseLeft j s) col
  obtain ⟨-, k2, k3, k4, -⟩ := rinseLeft_keeps j s
  obtain ⟨h1, h2⟩ := h.free
  have hw := e7.trans (rinseLeft_wpc j s)
  exact {
    drains := hd
    extended := hx
    ready := by rw [e2]; exact h.awake.2.1
    idled := e1
    engine := by rw [e4]; nofun
    seq := e5
    cfg := r2.trans k2
    ddu := r3.trans k3
    mask := r4.trans (congrArg Lnk.mask k4)
    fill := by rw [hw]; exact h.fill
    inhibit := ⟨h1, by rw [hw]; exact h1⟩
    burst := ⟨h.burst, by rw [hw]; exact h.burst⟩
    low := ⟨h2, by rw [hw]; exact h2⟩
    brineValve := by rw [hw]
    closed := by rw [e6]; exact (congrArg FillRec.isOpen (setColumnRec_places s.sfu col (restoredRec s col)).2.2.2.2).trans ho
    reports := ⟨[.engineLeft], e3, by simp⟩ }

end

/-- The column is restored and told of, and the engine idle. -/
structure Restores (s : State) (col : Column) (t : State) : Prop where
  rge : t.rge = { timeout := .none, lidOpen := s.rge.lidOpen, saltLow := s.rge.saltLow }
  regen : t.wpc.regen = none
  burst : t.wpc.burst = none
  record : columnRec t.sfu col = restoredRec s col
  ready : t.sfu.ready = s.sfu.ready ++ [col]
  service : t.sfu.service = s.sfu.service
  asked : writeAsked .columns t = true
  noted : noticeEnabled s.lnk.mask 14 = true → notified (.regenDone { restoredReport s col with
    rinseDelivered := s.rge.rinseTarget }) t = true

theorem columnRec_congr {f g : Sfu} {col : Column} (h1 : g.colA = f.colA) (h2 : g.colB = f.colB) (h3 : g.colC = f.colC) :
    columnRec g col = columnRec f col := by
  cases col with
  | a => exact h1
  | b => exact h2
  | c => exact congrArg (Option.getD · {}) h3

theorem restoredSfu_places {col : Column} (hr : Recorded s.sfu col) : columnRec (restoredSfu s col) col = restoredRec s col
    ∧ (restoredSfu s col).ready = s.sfu.ready ++ [col] ∧ (restoredSfu s col).service = s.sfu.service :=
  ⟨columnRec_set (restoredRec s col) hr, rfl, (setColumnRec_places s.sfu col (restoredRec s col)).1⟩

section
variable {col : Column} (h : EngineGrant .rinse n s) (hd : runningIn s .drain = true) (hb : HandsBack s col)
  (h0 : s.rge.rinseDelivered < s.rge.rinseTarget) (ht : s.rge.rinseTarget ≤ s.rge.rinseDelivered + n)
include h hd hb h0 ht

theorem rinse_expires : ∃ j, s.rge.rinseDelivered + j = s.rge.rinseTarget
    ∧ exec .flowMeterPulse s = .next (conclude (restored (rinseLeft j s) col)) := by
  obtain ⟨j, hj⟩ : ∃ j, s.rge.rinseTarget - s.rge.rinseDelivered = j := ⟨_, rfl⟩
  have hj' : s.rge.rinseDelivered + j = s.rge.rinseTarget := by omega
  have ho := rinseOver_restores h hd hb hj'
  obtain ⟨-, -, -, -, -, -, e7⟩ := restored_rinse h hb hj'
  refine ⟨j, hj', ?_⟩
  rw [h.expires, h.rinse_ends h.holder h0 ht (by rw [hj, ho, e7, rinseLeft_wpc]), hj, ho]

omit h hd h0 ht in
theorem restored_told {j : Nat} (hj : s.rge.rinseDelivered + j = s.rge.rinseTarget) (hm : noticeEnabled s.lnk.mask 14 = true) :
    notified (.regenDone { restoredReport s col with rinseDelivered := s.rge.rinseTarget }) (restored (rinseLeft j s) col) = true := by
  obtain ⟨-, k2, -, k4, -, k6, k7, -⟩ := rinseLeft_keeps j s
  have hr : (rinseLeft j s).rge = rinseDone s col := k7.trans (rinsed_rge hb.column hj)
  have he : restoredReport (rinseLeft j s) col = { restoredReport s col with rinseDelivered := s.rge.rinseTarget } := by
    simp only [restoredReport, nominalCapacity, k2, k6, hr]
    rfl
  rw [← he]
  exact restored_notified (by rw [k4]; exact hm)

/-- In a DRAIN that is not extended the sequencer goes on (R30). -/
theorem rinse_finishes (hx : s.seq.extension = none) : ∃ t, exec .flowMeterPulse s = .next t ∧ Restores s col t
    ∧ t.seq = { s.seq with permit := t.seq.permit } ∧ t.wpc.seqDrain = s.wpc.seqDrain := by
  obtain ⟨j, hj, he⟩ := rinse_expires h hd hb h0 ht
  obtain ⟨e1, e2, e3, e4, e5, e6, e7⟩ := restored_rinse h hb hj
  obtain ⟨-, -, -, -, -, -, -, -, -, ra⟩ := restored_keeps (rinseLeft j s) col
  obtain ⟨p1, p2, p3⟩ := restoredSfu_places hb.recorded
  have htold := restored_told hb hj
  obtain ⟨y, hy⟩ : ∃ y, restored (rinseLeft j s) col = y := ⟨_, rfl⟩
  rw [hy] at he e1 e2 e3 e4 e5 e6 e7 ra htold
  have hp : y.part.state = .ready := by rw [e2]; exact h.awake.2.1
  have hr : ∀ r ∈ y.reports, r = .engineLeft := by rw [e3]; simp
  have hx' : runningIn y .drain = false ∨ y.seq.extension = none := .inr (by rw [e5]; exact hx)
  have k := outputsOf_left e1 hp hr hx'
  have hw : (conclude y).wpc = { (rinseLeft j s).wpc with drainPump := pumpAsked y.wpc } := by rw [k.wpc, e7]
  rw [rinseLeft_wpc] at hw
  refine ⟨_, he, ⟨k.rge.trans e4, by rw [hw], by rw [hw]; exact h.burst, by rw [k.sfu, e6]; exact p1,
    by rw [k.sfu, e6]; exact p2, by rw [k.sfu, e6]; exact p3, ?_, fun hm => ?_⟩, by rw [k.seq, e5], by rw [hw]⟩
  · rw [conclude_left e1 hp hr hx']
    exact writeAsked_finish (s := outputs (onReports (fun _ => []) y)) ra
  · rw [conclude_left e1 hp hr hx']
    exact notified_finish (s := outputs (onReports (fun _ => []) y)) (htold hm)

/-- In an extended DRAIN the extension ends, and with it the phase (R30). -/
theorem rinse_ends_drain (hx : s.seq.extension.isSome = true) (ho : s.sfu.fill.isOpen = false) :
    ∃ t, exec .flowMeterPulse s = .next t ∧ Restores s col t ∧ t.wpc.seqDrain = none ∧ t.seq.extension = none ∧ PhaseEnded s t := by
  obtain ⟨j, hj, he⟩ := rinse_expires h hd hb h0 ht
  obtain ⟨-, -, -, e4, -, e6, -⟩ := restored_rinse h hb hj
  obtain ⟨-, -, -, -, -, -, -, -, -, ra⟩ := restored_keeps (rinseLeft j s) col
  obtain ⟨p1, p2, p3⟩ := restoredSfu_places hb.recorded
  have k := (leftIn_restored h hd hb hj hx ho).ends
  refine ⟨_, he, ⟨k.rge.trans e4, k.regen, k.burst, ?_, ?_, ?_, k.asked _ ra, fun hm => k.noted _ rfl (restored_told hb hj hm)⟩,
    k.seqDrain, k.extension, k.ended⟩
  · rw [k.sfu, e6]
    exact (columnRec_congr rfl rfl rfl).trans p1
  · rw [k.sfu, e6]
    exact p2
  · rw [k.sfu, e6]
    exact p3

end

end

/-- Settles O32: each millilitre is emitted to the grant it finds; at the target the water path rests, or an extended drain ends. -/
theorem brineAndRinsePulsesCount : Obligations.BrineAndRinsePulsesCount := by
  unfold Obligations.BrineAndRinsePulsesCount
  constructor
  · intro s ha hg hf hfill _ hp hk hr hc hpump hd col hcol n hn
    have hd' : runningIn s .drain = false := by
      simp only [runningIn, Bool.and_eq_false_iff, beq_eq_false_iff_ne]
      exact .inr hd
    refine ⟨fun hs => ?_, fun hs => ?_⟩
    · have h : EngineGrant .brine n s := ⟨⟨hk, hr, hc, hn⟩, ha, hg, hf, hp, hpump, hfill, hs⟩
      refine ⟨brine_goes_on h, fun h0 ht => ?_⟩
      obtain ⟨t, e, t1, t2, t3, t4, t5, -, t6, t7, t8, t9⟩ := brine_reaches h h0 ht (.inl hd')
      exact ⟨t, e, t1, t2, t3, t4, t5, t6, t7, t8, by rw [t9], by rw [t9]⟩
    · have h : EngineGrant .rinse n s := ⟨⟨hk, hr, hc, hn⟩, ha, hg, hf, hp, hpump, hfill, hs⟩
      exact ⟨rinse_goes_on h, fun h0 ht => rinse_reaches h h0 ht hd' hcol⟩
  · intro s ha hg hf hfill _ hp hk hr hc hpump hd ho col hcol hrec n hn
    refine ⟨fun hs h0 ht => ?_, fun hs h0 ht hm htm hres hq hsv => ?_⟩
    · have h : EngineGrant .brine n s := ⟨⟨hk, hr, hc, hn⟩, ha, hg, hf, hp, hpump, hfill, hs⟩
      cases hx : s.seq.extension with
      | none =>
        obtain ⟨t, e, t1, t2, t3, -, t5, t6, -, -, -, t9⟩ := brine_reaches h h0 ht (.inr hx)
        exact ⟨t, e, t1, t2, t5, fun _ => ⟨t9, t6, t3⟩, fun hy => absurd hy (by simp)⟩
      | some m =>
        obtain ⟨t, e, t1, t2, t3, t4⟩ := brine_ends_drain (by rw [hx]; rfl) ho h hd h0 ht
        exact ⟨t, e, t1, t2, t3, nofun, fun _ => t4⟩
    · have h : EngineGrant .rinse n s := ⟨⟨hk, hr, hc, hn⟩, ha, hg, hf, hp, hpump, hfill, hs⟩
      have hb : HandsBack s col := ⟨hcol, hrec, hm, htm, hres, hq, hsv⟩
      cases hx : s.seq.extension with
      | none =>
        obtain ⟨t, e, k, t1, t2⟩ := rinse_finishes h hd hb h0 ht hx
        exact ⟨t, e, k.rge, k.regen, k.burst, k.record, k.ready, k.service, k.asked, k.noted, fun _ => ⟨t1, t2⟩,
          fun hy => absurd hy (by simp)⟩
      | some m =>
        obtain ⟨t, e, k, t1⟩ := rinse_ends_drain h hd hb h0 ht (by rw [hx]; rfl) ho
        exact ⟨t, e, k.rge, k.regen, k.burst, k.record, k.ready, k.service, k.asked, k.noted, nofun, fun _ => t1⟩

end Sys2Proof.Proofs
end


section
/-! PROOFS. What the inlet's conditions make of the engine's request at the end of a step without a fill (R29, R39, R81, R87): it gives
way where they fail, and is granted where they hold. -/

/- One theorem at a time, as the tests have it: proofs that wait for the kernel cost a thread each. -/
set_option Elab.async false

namespace Sys2Proof.Proofs

open Sys2Proof.Machine
open Sys2Proof.Safety

theorem revokeRegen_unheld {s : State} (h : s.wpc.holder ≠ .fill) : (revokeRegen s).wpc.holder = .none := by
  unfold revokeRegen
  cases hx : s.wpc.holder with
  | fill => exact absurd hx h
  | none => exact hx
  | _ => rfl

/-- A draw over a low salt level is marked and told of (R85). -/
theorem markSaltLow_marks {s : State} {col : Column} (h : s.rge.column = some col) :
    (markSaltLow s).rge = { s.rge with saltMark := true } ∧ (markSaltLow s).wpc = s.wpc
      ∧ (s.rge.saltMark = false → noticeEnabled s.lnk.mask 15 = true → notified (.saltLow col s.rge.brineDrawn) (markSaltLow s) = true) := by
  unfold markSaltLow
  rw [h]
  dsimp only
  cases hm : s.rge.saltMark with
  | true => exact ⟨by rw [if_pos rfl, ← hm], rfl, nofun⟩
  | false =>
    rw [if_neg (by simp)]
    have hr := raiseNotice_rest (.saltLow col s.rge.brineDrawn) (onRge (fun e => { e with saltMark := true }) s)
    exact ⟨by rw [hr]; rfl, by rw [hr]; rfl,
      fun _ hn => notified_raiseNotice (s := onRge (fun e => { e with saltMark := true }) s) hn⟩

section
variable {s : State} {col : Column}

theorem grantRegen_brine (hr : s.wpc.regen = some ⟨.brine, false⟩) (hg : regenGrantable s = true) (hc : s.rge.column = some col) :
    (grantRegen s).rge = { s.rge with state := .brineDraw, saltMark := s.rge.saltMark || s.rge.saltLow }
      ∧ (grantRegen s).wpc = (beginGrant .brine (onWpc (fun w => { w with regen := some ⟨.brine, true⟩ }) s)).wpc
      ∧ (s.rge.saltMark = false → s.rge.saltLow = true → noticeEnabled s.lnk.mask 15 = true →
        notified (.saltLow col s.rge.brineDrawn) (grantRegen s) = true) := by
  have k := markSaltLow_marks (s := onRge (fun e => { e with state := .brineDraw })
    (beginGrant .brine (onWpc (fun w => { w with regen := some ⟨.brine, true⟩ }) s))) (col := col) hc
  unfold grantRegen
  rw [hr]
  dsimp only
  rw [if_pos hg]
  split
  · next hl =>
    have hl : s.rge.saltLow = true := hl
    obtain ⟨k1, k2, k3⟩ := k
    have hx : (s.rge.saltMark || s.rge.saltLow) = true := by rw [hl, Bool.or_true]
    exact ⟨by rw [k1, hx]; rfl, k2, fun h1 _ h2 => k3 h1 h2⟩
  · next hl =>
    have hl : s.rge.saltLow = false := Bool.eq_false_iff.mpr hl
    have hx : (s.rge.saltMark || s.rge.saltLow) = s.rge.saltMark := by rw [hl, Bool.or_false]
    exact ⟨by rw [hx]; rfl, rfl, fun _ hx => absurd (hl.symm.trans hx) (by simp)⟩

theorem grantRegen_rinse (hr : s.wpc.regen = some ⟨.rinse, false⟩) (hg : regenGrantable s = true) :
    (grantRegen s).rge = { s.rge with state := .rinse }
      ∧ (grantRegen s).wpc = (beginGrant .rinse (onWpc (fun w => { w with regen := some ⟨.rinse, true⟩ }) s)).wpc := by
  unfold grantRegen
  rw [hr]
  dsimp only
  rw [if_pos hg]
  exact ⟨rfl, rfl⟩

end

/-- A READY part without a report, a fill, and an effluent drained beside a program's DRAIN. -/
structure Tries (u : State) : Prop where
  ready : u.part.state = .ready
  reports : u.reports = []
  fill : u.wpc.fill = none
  effluent : u.rge.state = .effluentDrain → runningIn u .drain = false

namespace Tries

variable {u : State} (h : Tries u)
include h

theorem fillable : Fillable u := fun q hq => absurd hq (by simp [h.fill])

theorem settles_to : waterSettle u
    = grantRegen (handOver (refreshPump (revokeUnlessFlows (refreshPump u)))) := by
  have hg : grantDeferred u = u := Laws.grantDeferred_rests fun q hq => absurd hq (by simp [h.fill])
  have he : effluentMeetsDrain (refreshPump u) = refreshPump u := Laws.effluentMeetsDrain_rests h.effluent
  unfold waterSettle
  rw [hg, he, Laws.refreshPump_refreshPump]

theorem unreported : (waterSettle u).reports = [] := by
  rw [h.settles_to, grantRegen_reports, handOver_reports, Laws.refreshPump_reports, revokeUnlessFlows_reports,
    Laws.refreshPump_reports, h.reports]

theorem settled : settle u = rested (waterSettle u) := settle_unreported h.ready h.unreported

theorem drifts : Drifts u (conclude u) := drifts_unreported h.ready h.fillable h.unreported (concludes_conclude u)

/-- But for its permit the sequencer stands. -/
theorem seq : (conclude u).seq = { u.seq with permit := permitCondition (conclude u) } := by
  have k := h.drifts.seq_of_quiet h.reports
  rwa [(concludes_conclude u).settled.permit] at k

/-! ## The conditions fail -/

/-- A request without its conditions is left with nothing that flows (R39). -/
theorem rests_revoked (ha : u.part.powered = true) (hg : GrantsAgree u) (hi : u.rge.state ≠ .idle) (hw : waterFlows u = false) :
    Rests (revokeRegen u) := by
  have k := revokeRegen_yields u
  obtain ⟨y1, y2, y3, y4, y5, y6⟩ := k
  have kw := (Wets.refl u).revokeRegen
  have hh := holder_of_engine hg h.fill
  have hn := revokeRegen_unheld (holder_of_agree hg h.fill)
  have hwf : waterFlows (revokeRegen u) = false := by rw [kw.waterFlows (revokeRegen_burst u)]; exact hw
  have hreg : ∀ g ∈ (revokeRegen u).wpc.regen, g.held = false := by
    intro g hgr
    obtain ⟨z1, z2, -⟩ := engineGivesWay_of_yields hg h.fill y1 y2 y3 (kw.piped (piped_of_agree hg))
    rw [z2] at hgr
    obtain ⟨r, -, rfl⟩ := Option.map_eq_some_iff.mp hgr
    rfl
  have hf : (revokeRegen u).wpc.fill = none := y4.trans h.fill
  refine ⟨⟨by rw [kw.part]; exact ha, by rw [kw.part]; exact h.ready, (revokeRegen_reports u).trans h.reports⟩,
    by simp [hf], by simp [hf], by simp [hn], fun g _ => .inr (.inr (.inl hwf)), fun hx => absurd (y6 hx) hi, fun hx => ?_,
    fun hx => absurd (y6 hx) hi, ?_, fun g hgr hgh => by simp [hreg g hgr] at hgh⟩
  · rw [kw.runningIn]
    refine h.effluent ?_
    rcases y1 with ⟨k1, -⟩ | ⟨-, k1, -⟩ | ⟨-, k1, -⟩ <;> rw [k1] at hx
    · exact hx
    · cases hx
    · cases hx
  · rw [hn, holderOf, hf]
    cases hr : (revokeRegen u).wpc.regen with
    | none => rfl
    | some g =>
      have hgh := hreg g hr
      obtain ⟨k, b⟩ := g
      obtain rfl : b = false := hgh
      cases k <;> rfl

theorem gives_way (ha : u.part.powered = true) (hg : GrantsAgree u) (hi : u.rge.state ≠ .idle) (hw : waterFlows u = false) :
    conclude u = finish (outputs (revokeRegen u)) := by
  have hr := h.rests_revoked ha hg hi hw
  have hx : revokeUnlessFlows (refreshPump u) = refreshPump (revokeRegen u) := by
    have hm : regenMayFlow (refreshPump u) = false := by rw [Laws.regenMayFlow_refreshPump, hw]
    rw [revokeUnlessFlows, hm, if_neg (by simp)]
    unfold revokeRegen
    have hh : (refreshPump u).wpc.holder = u.wpc.holder := rfl
    rw [hh]
    cases u.wpc.holder <;> rfl
  have hs : waterSettle u = waterSettle (revokeRegen u) := by
    rw [h.settles_to, hx, Laws.waterSettle_rests hr.2, Laws.refreshPump_refreshPump]
    obtain ⟨-, -, -, -, h4, h5, -⟩ := hr
    rw [Laws.handOver_rests (s := refreshPump (revokeRegen u)) h5, Laws.grantRegen_rests h4]
  rw [← Laws.conclude_rests hr, conclude, conclude, settle_congr (congrArg (takeReports 64) hs)]

/-- The engine has given way, and nothing else of the water path has moved (R39, R83). -/
theorem given_way (ha : u.part.powered = true) (hg : GrantsAgree u) (hi : u.rge.state ≠ .idle) (hw : waterFlows u = false) :
    EngineGivesWay u (conclude u) ∧ (conclude u).wpc.holder = .none ∧ (conclude u).wpc.inletValve = false
      ∧ (conclude u).sfu = u.sfu := by
  have hr := h.rests_revoked ha hg hi hw
  obtain ⟨y1, y2, y3, y4, y5, -⟩ := revokeRegen_yields u
  have hp := (Wets.refl u).revokeRegen.piped (piped_of_agree hg)
  have hc : (conclude u).wpc = { (revokeRegen u).wpc with drainPump := pumpAsked (revokeRegen u).wpc }
      ∧ (conclude u).rge = (revokeRegen u).rge ∧ (conclude u).sfu = (revokeRegen u).sfu := by
    rw [h.gives_way ha hg hi hw]
    exact ⟨Laws.finish_wpc _, Laws.finish_rge _, Laws.finish_sfu _⟩
  obtain ⟨c1, c2, c3⟩ := hc
  obtain ⟨z1, z2, z3⟩ := engineGivesWay_of_yields hg h.fill y1 y2 y3 hp
  have hn := revokeRegen_unheld (holder_of_agree hg h.fill)
  refine ⟨⟨c2.trans z1, by rw [c1]; exact z2, by rw [c1]; exact z3⟩, by rw [c1]; exact hn, ?_, c3.trans y5⟩
  rw [c1]
  show (revokeRegen u).wpc.inletValve = false
  rw [hp.inlet, hn]
  rfl

/-! ## The conditions hold -/

omit h in
theorem unburst (hg : GrantsAgree u) (hi : u.rge.state ≠ .effluentDrain) : u.wpc.burst = none := by
  obtain ⟨-, -, -, -, -, hx, -⟩ := hg
  have he : (u.rge.state == .effluentDrain) = false := by simpa using hi
  rw [he] at hx
  exact Option.not_isSome_iff_eq_none.mp (by simp [hx])

/-- With its conditions a request that waits is granted (R39). -/
theorem concludes_granted (hi : u.rge.state ≠ .idle) (hw : waterFlows u = true) :
    conclude u = finish (outputs (grantRegen (refreshPump u))) := by
  have hm : regenMayFlow (refreshPump u) = true := by rw [Laws.regenMayFlow_refreshPump, hw]
  have hx : waterSettle u = grantRegen (refreshPump u) := by
    have hv : revokeUnlessFlows (refreshPump u) = refreshPump u := by rw [revokeUnlessFlows, if_pos hm]
    rw [h.settles_to, hv, Laws.refreshPump_refreshPump]
    exact congrArg grantRegen (handOver_unqueued (s := refreshPump u) fun hs => absurd hs hi)
  have hb := (grantRegen_burst (refreshPump u)).1
  have hf : regenMayFlow (refreshPump (grantRegen (refreshPump u))) = true := by
    rw [Laws.regenMayFlow_refreshPump, ((Wets.refl u).refreshPump.grantRegen).waterFlows hb]
    exact hw
  rw [conclude, h.settled, hx, rested, revokeUnlessFlows, if_pos hf]
  rfl

theorem granted (hg : GrantsAgree u) (hi : u.rge.state ≠ .idle) (hw : waterFlows u = true) :
    EngineGranted u (conclude u) := by
  have hc := h.concludes_granted hi hw
  have hreg := hg.1
  have hh := holder_of_engine hg h.fill
  have hcol : u.rge.column.isSome = true := by
    obtain ⟨-, -, -, -, -, -, hx, -⟩ := hg
    rw [hx]
    simpa using hi
  obtain ⟨col, hcol⟩ := Option.isSome_iff_exists.mp hcol
  have hgr : u.rge.state ≠ .effluentDrain → u.wpc.holder = .none → regenGrantable (refreshPump u) = true := fun he hn => by
    have hm : regenMayFlow (refreshPump u) = true := by rw [Laws.regenMayFlow_refreshPump, hw]
    have hb : (refreshPump u).wpc.burst = none := unburst hg he
    simp [regenGrantable, hm, h.fill, hb, hn]
  unfold engineRequest at hreg
  obtain ⟨v, hv⟩ : ∃ v, grantRegen (refreshPump u) = v := ⟨_, rfl⟩
  have hout : (conclude u).rge = v.rge ∧ (conclude u).wpc = { v.wpc with drainPump := pumpAsked v.wpc }
      ∧ (∀ c, notified c v = true → notified c (conclude u) = true) := by
    rw [hc, hv]
    exact ⟨Laws.finish_rge _, Laws.finish_wpc _, fun c hn => notified_finish (s := outputs v) hn⟩
  obtain ⟨o1, o2, o3⟩ := hout
  refine ⟨fun hs hl => ?_, fun hs => ?_, fun hs => ?_⟩
  · have hr : (refreshPump u).wpc.regen = some ⟨.brine, false⟩ := hreg.trans (by rw [hs, hl]; rfl)
    rw [hs] at hh
    obtain ⟨g1, g2, g3⟩ := grantRegen_brine (s := refreshPump u) hr (hgr (by rw [hs]; nofun) hh) hcol
    rw [hv] at g1 g2 g3
    refine ⟨o1.trans g1, by rw [o2, g2]; rfl, by rw [o2, g2]; rfl, by rw [o2, g2]; rfl, by rw [o2, g2]; rfl, by rw [o2, g2]; rfl,
      by rw [o2, g2]; rfl, by rw [o2, g2]; rfl, fun hm hlow hn d hcc => ?_⟩
    obtain rfl : col = d := Option.some.inj (hcol.symm.trans hcc)
    exact o3 _ (g3 hm hlow hn)
  · have hr : (refreshPump u).wpc.regen = some ⟨.rinse, false⟩ := hreg.trans (by rw [hs])
    rw [hs] at hh
    obtain ⟨g1, g2⟩ := grantRegen_rinse (s := refreshPump u) hr (hgr (by rw [hs]; nofun) hh)
    rw [hv] at g1 g2
    exact ⟨o1.trans g1, by rw [o2, g2]; rfl, by rw [o2, g2]; rfl, by rw [o2, g2]; rfl, by rw [o2, g2]; rfl, by rw [o2, g2]; rfl,
      by rw [o2, g2]; rfl, by rw [o2, g2]; rfl⟩
  · have hx : ∀ g ∈ u.wpc.regen, g.held = true := fun g hgm => by
      rcases hs with ⟨hs, hl⟩ | hs | hs | hs | hs <;> rw [hs] at hreg
      · rw [hl] at hreg
        simp [hreg] at hgm
      all_goals
        simp only [hreg, Option.mem_def, Option.some.injEq, reduceCtorEq] at hgm
        try rw [← hgm]
    have he : grantRegen (refreshPump u) = refreshPump u := Laws.grantRegen_rests fun g hgm => .inl (hx g hgm)
    rw [hv] at he
    exact ⟨by rw [o1, he]; rfl, by rw [o2, he]; rfl⟩

end Tries

end Sys2Proof.Proofs
end


section
/-! PROOFS. The conditions of the inlet fall and return without a fill (R29, R39): the sump-empty and the high-level switch, the end of
a flood's run-on, and the pump of a program's DRAIN. -/

/- One theorem at a time, as the tests have it: proofs that wait for the kernel cost a thread each. -/
set_option Elab.async false

namespace Sys2Proof.Proofs

open Sys2Proof.Machine
open Sys2Proof.Safety

/-! ## The switches are heard -/

/-- A switch that reads EMPTY starts the run-on of a drain that pumps (R47). -/
def runsOn (d : SeqDrain) : SeqDrain :=
  match d with
  | ⟨.pumping _, second⟩ => ⟨.runOn 0, second⟩
  | d => d

/-- The part with a reading of the sump-empty switch. -/
def sumpRead (b : Bool) (s : State) : State :=
  onWpc (fun w => { w with
    sumpEmpty := b, seqDrain := if b = true ∧ w.sumpEmpty = false then w.seqDrain.map runsOn else w.seqDrain })
    (onPins (fun p => { p with sumpEmpty := b }) s)

theorem sumpEmptyChanged_eq (b : Bool) (s : State) : sumpEmptyChanged b s = onWpc (fun w => { w with
    sumpEmpty := b, seqDrain := if b = true ∧ w.sumpEmpty = false then w.seqDrain.map runsOn else w.seqDrain }) s := by
  unfold sumpEmptyChanged onWpc
  dsimp only
  split
  · next hb =>
    have hn : ¬ (b = true ∧ s.wpc.sumpEmpty = false) := by rintro ⟨rfl, h⟩; simp [h] at hb
    rw [if_neg hn, ← hb]
  · next hb =>
    cases b with
    | false =>
      rw [if_neg (by simp)]
      split <;> rfl
    | true =>
      have hf : s.wpc.sumpEmpty = false := by simpa using hb
      rw [if_pos ⟨rfl, hf⟩]
      cases hd : s.wpc.seqDrain with
      | none => rfl
      | some d =>
        obtain ⟨st, second⟩ := d
        cases st <;> rfl

section
variable {s : State} (h : Awake s) (b : Bool)
include h

theorem sump_heard : exec (.sumpEmptySwitchChange b) s = .next (conclude (sumpRead b s)) := by
  show execSumpEmptySwitchChange b s = _
  simp [execSumpEmptySwitchChange, whenPowered, h.1, senses, h.2.1, sumpEmptyChanged_eq, sumpRead]

theorem cover_heard : exec (.heaterCoverLevelChange b) s
    = .next (conclude { s with pins := { s.pins with heaterCover := b }, wpc := { s.wpc with heaterCover := b } }) := by
  show execHeaterCoverLevelChange b s = _
  simp [execHeaterCoverLevelChange, whenPowered, h.1, senses, h.2.1, heaterCoverChanged]
  rfl

end

/-- The part with a reading of the high-level switch. -/
def levelRead (b : Bool) (s : State) : State :=
  onWpc (fun w => { w with highLevel := b }) (onPins (fun p => { p with highLevel := b }) s)

/-- What a reading HIGH does to the inlet's holder (R39, R41). -/
def levelStops (s : State) : State :=
  match s.wpc.fill with
  | some ⟨_, _, true⟩ => endFill .highLevel s
  | _ => revokeRegen s

theorem highLevelChanged_eq (b : Bool) (s : State) (hb : s.wpc.highLevel ≠ b) : highLevelChanged b (onPins (fun p => { p with highLevel := b }) s)
    = if b = true then levelStops (levelRead b s) else levelRead b s := by
  unfold highLevelChanged
  rw [if_neg (by exact hb)]
  rfl

theorem highLevelChanged_same (b : Bool) (s : State) (hb : s.wpc.highLevel = b) :
    highLevelChanged b (onPins (fun p => { p with highLevel := b }) s) = levelRead b s := by
  unfold highLevelChanged
  rw [if_pos (by exact hb), levelRead, onWpc, ← hb]
  rfl

theorem level_heard {s : State} (h : Awake s) (b : Bool) : exec (.highLevelSwitchChange b) s
    = .next (concludeFill s (highLevelChanged b (onPins (fun p => { p with highLevel := b }) s))) := by
  show execHighLevelSwitchChange b s = _
  simp [execHighLevelSwitchChange, whenPowered, h.1, senses, h.2.1]
  rfl

theorem concludeFill_unheld {s u : State} (h : fillHeld s = false) : concludeFill s u = conclude u := by
  simp [concludeFill, h]

/-! ## The conditions fall and return -/

/-- Where the permit hangs on the sump-empty switch it follows it (R29). -/
theorem permit_follows {s t : State} (hp : permitCondition { s with wpc := { s.wpc with sumpEmpty := true } } = true)
    (hd : runningIn s .drain = false) (h1 : t.seq.state = s.seq.state) (h2 : t.seq.sub = s.seq.sub) :
    permitCondition t = t.wpc.sumpEmpty := by
  unfold permitCondition at hp ⊢
  unfold runningIn at hd
  rw [h1, h2]
  cases hs : s.seq.state <;> rw [hs] at hp hd <;> simp_all

section
variable {s : State} (ha : Awake s) (hs : Sound s) (hf : s.wpc.fill = none)
include ha hs hf

theorem tries_of_sound {u : State} (h1 : u.part = s.part) (h2 : u.reports = s.reports) (h3 : u.wpc.fill = s.wpc.fill) (h4 : u.rge = s.rge)
    (h5 : u.seq.state = s.seq.state ∧ u.seq.sub = s.seq.sub) : Tries u := by
  obtain ⟨-, -, -, he, -⟩ := Laws.sound_waterKept hs
  refine ⟨by rw [h1]; exact ha.2.1, h2.trans ha.2.2, h3.trans hf, fun hx => ?_⟩
  have hr : runningIn u .drain = runningIn s .drain := by simp [runningIn, h5]
  rw [hr]
  exact he (h4 ▸ hx)

section
variable (hp : permitCondition { s with wpc := { s.wpc with sumpEmpty := true } } = true) (hd : runningIn s .drain = false)
include hp hd

/-- The permit is the reading once it is heard. -/
theorem sump_permits (b : Bool) : (conclude (sumpRead b s)).seq = { s.seq with permit := b } := by
  have hu : Tries (sumpRead b s) := tries_of_sound ha hs hf rfl rfl rfl rfl ⟨rfl, rfl⟩
  have hq := hu.seq
  rw [permit_follows hp hd hu.drifts.state hu.drifts.sub, hu.drifts.sumpEmpty] at hq
  exact hq

omit ha hs hf in
theorem sump_flows (b : Bool) : waterFlows (sumpRead b s) = (b && !s.wpc.flood && !s.wpc.inhibit && !s.wpc.highLevel) := by
  have h : permitCondition { sumpRead b s with wpc := { (sumpRead b s).wpc with drainPump := pumpAsked (sumpRead b s).wpc } } = b :=
    permit_follows hp hd rfl rfl
  rw [waterFlows, h]
  rfl

theorem sump_falls (hi : s.rge.state ≠ .idle) :
    ∃ t, exec (.sumpEmptySwitchChange false) s = .next t
      ∧ t.wpc.sumpEmpty = false ∧ t.seq = { s.seq with permit := false } ∧ EngineGivesWay s t
      ∧ t.wpc.holder = .none ∧ t.wpc.inletValve = false ∧ t.sfu = s.sfu ∧ t.dsu = s.dsu ∧ t.rst.history = s.rst.history := by
  have hu : Tries (sumpRead false s) := tries_of_sound ha hs hf rfl rfl rfl rfl ⟨rfl, rfl⟩
  obtain ⟨g1, g2, g3, g4⟩ := hu.given_way ha.1 (Laws.sound_grantsAgree hs) hi (by rw [sump_flows hp hd, Bool.false_and]; rfl)
  have k := hu.drifts
  exact ⟨_, sump_heard ha false, k.sumpEmpty, sump_permits ha hs hf hp hd false, g1, g2, g3, g4, k.dsu, k.history⟩

theorem sump_returns (h1 : s.wpc.flood = false) (h2 : s.wpc.inhibit = false) (h3 : s.wpc.highLevel = false) :
    ∃ t, exec (.sumpEmptySwitchChange true) s = .next t ∧ t.wpc.sumpEmpty = true ∧ t.seq = { s.seq with permit := true }
      ∧ (s.rge.state ≠ .idle → EngineGranted s t) ∧ t.rst.history = s.rst.history := by
  have hg : GrantsAgree s := Laws.sound_grantsAgree hs
  have hu : Tries (sumpRead true s) := tries_of_sound ha hs hf rfl rfl rfl rfl ⟨rfl, rfl⟩
  have k := hu.drifts
  exact ⟨_, sump_heard ha true, k.sumpEmpty, sump_permits ha hs hf hp hd true,
    fun hi => hu.granted hg hi (by rw [sump_flows hp hd, h1, h2, h3]; rfl), k.history⟩

end

/-- The high-level switch no longer reads HIGH (R39). -/
theorem level_returns (hl : s.wpc.highLevel = true) (h1 : s.wpc.flood = false) (h2 : s.wpc.inhibit = false)
    (hp : permitCondition s = true) (hpump : s.wpc.drainPump = pumpAsked s.wpc) :
    ∃ t, exec (.highLevelSwitchChange false) s = .next t ∧ t.wpc.highLevel = false ∧ (s.rge.state ≠ .idle → EngineGranted s t)
      ∧ t.seq.state = s.seq.state ∧ t.rst.history = s.rst.history := by
  have hg : GrantsAgree s := Laws.sound_grantsAgree hs
  have hu : Tries (levelRead false s) := tries_of_sound ha hs hf rfl rfl rfl rfl ⟨rfl, rfl⟩
  have hx := level_heard ha false
  rw [highLevelChanged_eq false s (by simp [hl]), if_neg (by simp), concludeFill_unheld (by simp [fillHeld, hf])] at hx
  have k := hu.drifts
  refine ⟨_, hx, k.highLevel, fun hi => hu.granted hg hi ?_, k.state, k.history⟩
  have hw : ({ s with wpc := { s.wpc with drainPump := pumpAsked s.wpc } } : State) = s := by rw [← hpump]
  have hpc : permitCondition { levelRead false s with wpc := { (levelRead false s).wpc with
      drainPump := pumpAsked (levelRead false s).wpc } } = permitCondition { s with wpc := { s.wpc with drainPump := pumpAsked s.wpc } } :=
    rfl
  rw [waterFlows, hpc, hw, hp]
  show (true && !s.wpc.flood && !s.wpc.inhibit && !false) = true
  rw [h1, h2]
  rfl

/-- The run-on of a flood ends (R52). -/
theorem flood_ends {n : Nat} (hq : s.wpc.floodReq = some (.runOn n)) (h1 : s.wpc.flood = false) (h2 : s.wpc.highLevel = false)
    (hd : runningIn s .drain = false) (hp : permitCondition s = true) :
    ∃ t, exec .floodRunOnExpiry s = .next t ∧ t.wpc.floodReq = none ∧ t.wpc.inhibit = false
      ∧ (s.rge.state ≠ .idle → EngineGranted s t) ∧ t.seq.state = s.seq.state ∧ t.rst.history = s.rst.history := by
  have hx : exec .floodRunOnExpiry s = .next (conclude (onWpc (fun w => { w with floodReq := none, inhibit := false }) s)) := by
    show execFloodRunOnExpiry s = _
    simp [execFloodRunOnExpiry, whenPowered, ha.1, hq]
  have hg : GrantsAgree s := Laws.sound_grantsAgree hs
  have hu : Tries (onWpc (fun w => { w with floodReq := none, inhibit := false }) s) :=
    tries_of_sound ha hs hf rfl rfl rfl rfl ⟨rfl, rfl⟩
  have k := hu.drifts
  refine ⟨_, hx, by rw [k.wpc]; rfl, k.inhibit, fun hi => hu.granted hg hi ?_, k.state, k.history⟩
  have hpc : ∀ p : Bool, permitCondition { s with wpc := { s.wpc with floodReq := none, inhibit := false, drainPump := p } } = true := by
    intro p
    unfold runningIn at hd
    unfold permitCondition at hp ⊢
    cases hs : s.seq.state <;> rw [hs] at hp hd <;> simp_all
  obtain ⟨p, hpe⟩ : ∃ p, pumpAsked { s.wpc with floodReq := none, inhibit := false } = p := ⟨_, rfl⟩
  have hw : waterFlows (onWpc (fun w => { w with floodReq := none, inhibit := false }) s)
      = (permitCondition { s with wpc := { s.wpc with floodReq := none, inhibit := false, drainPump := p } }
        && !s.wpc.flood && !false && !s.wpc.highLevel) := by
    rw [← hpe]
    rfl
  rw [hw, hpc p, h1, h2]
  rfl

end

end Sys2Proof.Proofs
end


section
/-! PROOFS. The pump of a program's DRAIN stops and starts again (R29, R48), and the switches over a water path that rests (R44, R46,
R47). -/

/- One theorem at a time, as the tests have it: proofs that wait for the kernel cost a thread each. -/
set_option Elab.async false

namespace Sys2Proof.Proofs

open Sys2Proof.Machine
open Sys2Proof.Safety

theorem Tries.burst {u : State} (h : Tries u) : (conclude u).wpc.burst = u.wpc.burst := by
  have k := (Yielded.refreshPump u).trans ((Yielded.revokeUnlessFlows _).trans ((Yielded.refreshPump _).trans (Yielded.handOver _)))
  rw [conclude, Laws.finish_wpc, h.settled]
  show (revokeUnlessFlows (refreshPump (waterSettle u))).wpc.burst = _
  have hr := (Yielded.refreshPump (waterSettle u)).trans (Yielded.revokeUnlessFlows _)
  rw [hr.burst, h.settles_to, (grantRegen_burst _).1, k.burst]

/-! ## The pump of a program's DRAIN -/

section
variable {s : State} (ha : Awake s) (hs : Sound s) (hd : runningIn s .drain = true) (h1 : s.wpc.leak = none)
  (h2 : s.wpc.floodReq = none)
include ha hs hd h1 h2

/-- The pump runs for the sequencer's request alone (R46). -/
theorem pump_of_drain (d : SeqDrain) : pumpAsked (draining (some d) s).wpc = drainAsks (some d) := by
  have hb := Draining.burst ⟨ha, hs, hd⟩
  have hw : (draining (some d) s).wpc = { s.wpc with seqDrain := some d } := rfl
  simp [pumpAsked, burstRuns, hw, hb, h1, h2]

/-- The request has changed: pump and permit follow it (R29, R46). -/
theorem drain_changes (d : SeqDrain) : Tries (draining (some d) s)
    ∧ (conclude (draining (some d) s)).wpc.seqDrain = some d
    ∧ (conclude (draining (some d) s)).wpc.drainPump = drainAsks (some d)
    ∧ (conclude (draining (some d) s)).seq = { s.seq with permit := drainAsks (some d) }
    ∧ (conclude (draining (some d) s)).rst.history = s.rst.history := by
  have hdr : Draining s := ⟨ha, hs, hd⟩
  have hu : Tries (draining (some d) s) := tries_of_sound ha hs hdr.fill rfl rfl rfl rfl ⟨rfl, rfl⟩
  have k := hu.drifts
  have hb := hu.burst
  have hp := (concludes_conclude (draining (some d) s)).settled.pump
  obtain ⟨t, ht⟩ : ∃ t, conclude (draining (some d) s) = t := ⟨_, rfl⟩
  have hq := hu.seq
  rw [ht] at k hb hp hq ⊢
  have hpump : t.wpc.drainPump = drainAsks (some d) := by
    rw [hp, ← pump_of_drain ha hs hd h1 h2 d, pumpAsked, pumpAsked, hb, k.wpc]
  have hpm : permitCondition t = t.wpc.drainPump := by
    obtain ⟨r1, r2⟩ := (runningIn_iff _ _).mp hd
    have t1 : t.seq.state = .running := k.state.trans r1
    have t2 : t.seq.sub = .drain := k.sub.trans r2
    simp [permitCondition, t1, t2, show (SubStage.drain == SubStage.dry) = false from rfl]
  rw [hpm, hpump] at hq
  exact ⟨hu, k.seqDrain, hpump, hq, k.history⟩

theorem pump_stops {d : SeqDrain} (hsd : s.wpc.seqDrain = some d) {n : Nat} (hst : d.stage = .pumping n) (hse : d.second = false) :
    ∃ t, exec .drainAttemptLimit s = .next t
      ∧ t.wpc.seqDrain = some ⟨.paused 0, false⟩ ∧ t.wpc.drainPump = false ∧ t.seq = { s.seq with permit := false }
      ∧ (s.rge.state ≠ .idle → EngineGivesWay s t) ∧ t.rst.history = s.rst.history := by
  obtain ⟨st, sec⟩ := d
  obtain rfl : st = .pumping n := hst
  obtain rfl : sec = false := hse
  obtain ⟨hu, k1, k2, k3, k4⟩ := drain_changes ha hs hd h1 h2 ⟨.paused 0, false⟩
  have hx : exec .drainAttemptLimit s = .next (conclude (draining (some ⟨.paused 0, false⟩) s)) := by
    show execDrainAttemptLimit s = _
    simp [execDrainAttemptLimit, whenPowered, ha.1, hsd, draining]
  refine ⟨_, hx, k1, k2, k3, fun hi => ?_, k4⟩
  have hw : waterFlows (draining (some ⟨.paused 0, false⟩) s) = false := by
    rw [waterFlows_in_drain (s := draining (some ⟨.paused 0, false⟩) s) hd, pump_of_drain ha hs hd h1 h2]
    rfl
  have hg : GrantsAgree s := Laws.sound_grantsAgree hs
  exact (hu.given_way ha.1 hg hi hw).1

theorem pump_starts {d : SeqDrain} (hsd : s.wpc.seqDrain = some d) {n : Nat} (hst : d.stage = .paused n)
    (f1 : s.wpc.highLevel = false) (f2 : s.wpc.inhibit = false) (f3 : s.wpc.flood = false) :
    ∃ t, exec .drainPauseExpiry s = .next t
      ∧ t.wpc.seqDrain = some ⟨if s.wpc.sumpEmpty then .runOn 0 else .pumping 0, true⟩ ∧ t.wpc.drainPump = true
      ∧ t.seq = { s.seq with permit := true } ∧ (s.rge.state ≠ .idle → EngineGranted s t) ∧ t.rst.history = s.rst.history := by
  obtain ⟨st, sec⟩ := d
  obtain rfl : st = .paused n := hst
  obtain ⟨x, hxx⟩ : ∃ x, (if s.wpc.sumpEmpty then .runOn 0 else .pumping 0 : DrainStage) = x := ⟨_, rfl⟩
  obtain ⟨hu, k1, k2, k3, k4⟩ := drain_changes ha hs hd h1 h2 ⟨x, true⟩
  have hx : exec .drainPauseExpiry s = .next (conclude (draining (some ⟨x, true⟩) s)) := by
    show execDrainPauseExpiry s = _
    rw [← hxx]
    simp [execDrainPauseExpiry, whenPowered, ha.1, hsd, draining]
  have hasks : drainAsks (some ⟨x, true⟩) = true := by
    rw [← hxx]
    cases s.wpc.sumpEmpty <;> rfl
  rw [hasks] at k2 k3
  rw [hxx]
  refine ⟨_, hx, k1, k2, k3, fun hi => ?_, k4⟩
  have hw : waterFlows (draining (some ⟨x, true⟩) s) = true := by
    rw [waterFlows_in_drain (s := draining (some ⟨x, true⟩) s) hd, pump_of_drain ha hs hd h1 h2, hasks]
    show (true && !s.wpc.flood && !s.wpc.inhibit && !s.wpc.highLevel) = true
    rw [f1, f2, f3]
    rfl
  have hg : GrantsAgree s := Laws.sound_grantsAgree hs
  exact hu.granted hg hi hw

end

/-! ## The switches over a water path that rests -/

/-- With other inputs of the conditions the water path still rests where a holder keeps them and a waiting party gains none. -/
theorem rests_switched {s u : State} (h : Rests s) (hu : u = { s with pins := u.pins, wpc := { s.wpc with
      sumpEmpty := u.wpc.sumpEmpty, heaterCover := u.wpc.heaterCover, highLevel := u.wpc.highLevel, seqDrain := u.wpc.seqDrain
      leak := u.wpc.leak } })
    (hk : s.wpc.holder = .brine ∨ s.wpc.holder = .rinse → waterFlows s = true → waterFlows u = true)
    (hn : s.wpc.regen ≠ none → s.wpc.holder = .none → waterFlows s = false → waterFlows u = false) : Rests u := by
  obtain ⟨ha, h1, h2, h3, h4, h5, h6, h7, h8, h9⟩ := h
  have k3 : s.wpc.holder = .brine ∨ s.wpc.holder = .rinse → waterFlows u = true := fun hh => hk hh (h3 hh)
  have k4 : ∀ g ∈ s.wpc.regen, g.held = true ∨ s.wpc.fill.isSome = true ∨ waterFlows u = false
      ∨ s.wpc.burst = some .waiting ∨ s.wpc.holder ≠ .none := fun g hg => by
    by_cases hh : s.wpc.holder = .none
    · exact (h4 g hg).imp id (.imp id (.imp (hn (fun hx => absurd hg (by simp [hx])) hh) id))
    · exact .inr (.inr (.inr (.inr hh)))
  have e1 : u.part = s.part ∧ u.reports = s.reports ∧ u.seq = s.seq ∧ u.rge = s.rge ∧ u.sfu = s.sfu := by rw [hu]; exact ⟨rfl, rfl, rfl, rfl, rfl⟩
  have e2 : u.wpc.holder = s.wpc.holder ∧ u.wpc.fill = s.wpc.fill ∧ u.wpc.regen = s.wpc.regen ∧ u.wpc.burst = s.wpc.burst := by
    rw [hu]
    exact ⟨rfl, rfl, rfl, rfl⟩
  obtain ⟨p1, p2, p3, p4, p5⟩ := e1
  obtain ⟨w1, w2, w3, w4⟩ := e2
  have hh : holderOf u.wpc = holderOf s.wpc := by unfold holderOf; rw [w2, w3]
  have hr : runningIn u .drain = runningIn s .drain := by unfold runningIn; rw [p3]
  unfold Rests Awake WaterRests
  rw [p1, p2, p3, p4, p5, w1, w2, w3, w4, hh, hr]
  exact ⟨ha, h1, h2, k3, k4, h5, h6, h7, h8, h9⟩

section
variable {s : State} (h : Rests s) (b : Bool)
include h

theorem sump_rests (h1 : s.wpc.regen = none) (h2 : s.wpc.holder ≠ .brine) (h3 : s.wpc.holder ≠ .rinse) :
    exec (.sumpEmptySwitchChange b) s = .next (finish (outputs (sumpRead b s))) := by
  rw [sump_heard h.1 b, Laws.conclude_rests]
  exact rests_switched h rfl (fun hh => absurd hh (by simp [h2, h3])) fun hr => absurd h1 hr

theorem cover_rests : exec (.heaterCoverLevelChange b) s = .next (finish (outputs { s with
    pins := { s.pins with heaterCover := b }, wpc := { s.wpc with heaterCover := b } })) := by
  rw [cover_heard h.1 b, Laws.conclude_rests]
  exact rests_switched h rfl (fun _ hw => hw) fun _ _ hw => hw

theorem level_rests (h1 : s.wpc.holder = .none) (h2 : ∀ q, s.wpc.fill = some q → q.held = false) (h3 : b = true ∨ s.wpc.regen = none) :
    exec (.highLevelSwitchChange b) s = .next (finish (outputs (levelRead b s))) := by
  have hf : fillHeld s = false := by
    unfold fillHeld
    cases hq : s.wpc.fill with
    | none => rfl
    | some q => exact h2 q hq
  have hr : Rests (levelRead b s) := rests_switched h rfl (fun hh => absurd hh (by simp [h1])) fun hg _ hw => by
    rcases h3 with rfl | hx
    · simp [waterFlows, levelRead]
    · exact absurd hx hg
  have hst : levelStops (levelRead true s) = levelRead true s := by
    have hn : (levelRead true s).wpc.holder = .none := h1
    have hv : revokeRegen (levelRead true s) = levelRead true s := by
      unfold revokeRegen
      rw [hn]
    unfold levelStops
    split
    · next hq => exact absurd (h2 _ hq) (by simp)
    · exact hv
  rw [level_heard h.1 b, concludeFill_unheld hf, ← Laws.conclude_rests hr]
  by_cases hb : s.wpc.highLevel = b
  · rw [highLevelChanged_same b s hb]
  · rw [highLevelChanged_eq b s hb]
    cases b with
    | true => rw [if_pos rfl, hst]
    | false => rw [if_neg (by simp)]

/-- The leak drain is over (R36, R46). -/
theorem leak_ends (h1 : s.wpc.leak.isSome = true)
    (h2 : (s.wpc.regen = none ∧ s.wpc.holder ≠ .brine ∧ s.wpc.holder ≠ .rinse) ∨ runningIn s .drain = false) :
    exec .leakDrainExpiry s = .next (finish (outputs (onWpc (fun w => { w with leak := none }) s))) := by
  have hr : Rests (onWpc (fun w => { w with leak := none }) s) := by
    rcases h2 with ⟨h2, h3, h4⟩ | h2
    · exact rests_switched h rfl (fun hh => absurd hh (by simp [h3, h4])) fun hr => absurd h2 hr
    · have hw : waterFlows (onWpc (fun w => { w with leak := none }) s) = waterFlows s := by
        have hs : s.seq.state = .running → (s.seq.sub == .drain) = false := fun hs => by simpa [runningIn, hs] using h2
        simp only [waterFlows, permitCondition, Laws.onWpc_wpc, Laws.onWpc_seq]
        cases hq : s.seq.state with
        | running => simp [hs hq]
        | _ => rfl
      exact rests_switched h rfl (fun _ hx => hw.trans hx) fun _ _ hx => hw.trans hx
  obtain ⟨n, hn⟩ := Option.isSome_iff_exists.mp h1
  rw [← Laws.conclude_rests hr]
  show execLeakDrainExpiry s = _
  simp [execLeakDrainExpiry, whenPowered, h.1.1, hn]

end

/-- Where nothing is sensed only the input moves (R33, R193, R198). -/
theorem switches_unsensed {s : State} (h : s.part.powered = true) (hs : s.part.state = .standby ∨ s.part.state = .down ∨ s.part.state = .shut)
    (b : Bool) :
    exec (.sumpEmptySwitchChange b) s = .next { s with pins := { s.pins with sumpEmpty := b } }
      ∧ exec (.heaterCoverLevelChange b) s = .next { s with pins := { s.pins with heaterCover := b } }
      ∧ exec (.highLevelSwitchChange b) s = .next { s with pins := { s.pins with highLevel := b } } := by
  have hn : ∀ f : Pins → Pins, senses (onPins f s) = false := fun f => by
    show senses s = false
    unfold senses
    rcases hs with hs | hs | hs <;> rw [hs]
  refine ⟨?_, ?_, ?_⟩
  · show execSumpEmptySwitchChange b s = _
    simp [execSumpEmptySwitchChange, whenPowered, h, hn]
    rfl
  · show execHeaterCoverLevelChange b s = _
    simp [execHeaterCoverLevelChange, whenPowered, h, hn]
    rfl
  · show execHighLevelSwitchChange b s = _
    simp [execHighLevelSwitchChange, whenPowered, h, hn]
    rfl

/-! ## The high-level switch revokes a regeneration's grant (R39) -/

theorem level_revokes {s : State} (ha : Awake s) (hg : GrantsAgree s) (hl : s.wpc.highLevel = false) (hf : s.wpc.fill = none)
    (he : s.rge.state = .brineDraw ∨ s.rge.state = .rinse) :
    ∃ t, exec (.highLevelSwitchChange true) s = .next t
      ∧ t.rge = { s.rge with state := if s.rge.state = .brineDraw then .brineWait else .rinseWait }
      ∧ t.wpc = { s.wpc with
          highLevel := true, holder := .none, inletValve := false, brineValve := false, fillTimer := none, residue := 0
          regen := s.wpc.regen.map fun r => { r with held := false }, drainPump := pumpAsked s.wpc }
      ∧ t.sfu = s.sfu ∧ t.seq = { s.seq with permit := permitCondition { s with wpc := t.wpc } } := by
  have hu : Tries (levelRead true s) := ⟨ha.2.1, ha.2.2, hf, fun hx => by
    have hx : s.rge.state = .effluentDrain := hx
    rcases he with he | he <;> rw [he] at hx <;> cases hx⟩
  have hi : s.rge.state ≠ .idle := by rcases he with he | he <;> rw [he] <;> nofun
  have hr := hu.rests_revoked ha.1 hg hi (by simp [waterFlows, levelRead])
  have hst : levelStops (levelRead true s) = revokeRegen (levelRead true s) := by
    have hfu : (levelRead true s).wpc.fill = none := hf
    unfold levelStops
    rw [hfu]
  have hx := level_heard ha true
  rw [highLevelChanged_eq true s (by simp [hl]), if_pos rfl, concludeFill_unheld (by simp [fillHeld, hf]), hst,
    Laws.conclude_rests hr] at hx
  have hh := holder_of_engine hg hf
  have hreg := hg.1
  unfold engineRequest at hreg
  refine ⟨_, hx, ?_⟩
  rw [Laws.finish_rge, Laws.finish_wpc, Laws.finish_sfu, Laws.finish_seq]
  have hhu : (levelRead true s).wpc.holder = s.wpc.holder := rfl
  unfold revokeRegen
  rw [hhu]
  rcases he with he | he <;> rw [he] at hh hreg <;> rw [hh, hreg, he]
  · exact ⟨rfl, rfl, rfl, rfl⟩
  · exact ⟨rfl, rfl, rfl, rfl⟩

end Sys2Proof.Proofs
end


section
/-! PROOFS. The stray flow (R34, R36): what a pulse without a holder counts, and the leak that 200 mL of it are. -/

/- One theorem at a time, as the tests have it: proofs that wait for the kernel cost a thread each. -/
set_option Elab.async false

namespace Sys2Proof.Proofs

open Sys2Proof.Machine
open Sys2Proof.Safety

/-! ## The millilitres of a stray pulse -/

/-- The part with a stray residue of `r` and `c` stray millilitres. -/
def strayed (r c : Nat) (s : State) : State := onWpc (fun w => { w with strayResidue := r, strayCount := c }) s

theorem strayMl_strayed (r c : Nat) (s : State) :
    strayMl (strayed r c s) = if 200 ≤ c + 1 then inletLeaks (strayed r (c + 1) s) else strayed r (c + 1) s := rfl

theorem strayMl_below {s : State} {r c : Nat} (h : c + 1 < 200) : strayMl (strayed r c s) = strayed r (c + 1) s := by
  rw [strayMl_strayed, if_neg (Nat.not_le.mpr h)]

theorem strayMl_leaks (s : State) (r : Nat) : strayMl (strayed r 199 s) = inletLeaks (strayed r 200 s) := by
  rw [strayMl_strayed, if_pos (by decide)]

theorem emitStray_stops {s : State} (m : Nat) (h : s.wpc.strayResidue < s.cfg.k) : emitStray m s = s := by
  cases m with
  | zero => rfl
  | succ m => exact if_neg (Nat.not_le.mpr h)

theorem emitStray_step {s : State} {r c : Nat} (m : Nat) (h : s.cfg.k ≤ r) :
    emitStray (m + 1) (strayed r c s) = emitStray m (strayMl (strayed (r - s.cfg.k) c s)) :=
  if_pos (show (strayed r c s).cfg.k ≤ (strayed r c s).wpc.strayResidue from h)

/-- A quotient that is not 0 is one more than that of the rest. -/
theorem quotient_step {r k n : Nat} (hk : 0 < k) (hn : r / k = n + 1) : k ≤ r ∧ (r - k) / k = n ∧ (r - k) % k = r % k := by
  have hr : k ≤ r := Nat.not_lt.mp fun hx => by rw [Nat.div_eq_of_lt hx] at hn; omega
  refine ⟨hr, ?_, (Nat.mod_eq_sub_mod hr).symm⟩
  rw [Nat.div_eq_sub_div hk hr] at hn
  omega

theorem emitStray_below {s : State} {r c m n : Nat} (hk : 0 < s.cfg.k) (hn : r / s.cfg.k = n) (hm : n ≤ m) (hc : c + n < 200) :
    emitStray m (strayed r c s) = strayed (r % s.cfg.k) (c + n) s := by
  induction n generalizing r c m with
  | zero =>
    have hr : r < s.cfg.k := (Nat.div_eq_zero_iff_lt hk).mp hn
    rw [emitStray_stops m (s := strayed r c s) hr, Nat.mod_eq_of_lt hr, Nat.add_zero]
  | succ n ih =>
    obtain ⟨h1, h2, h3⟩ := quotient_step hk hn
    obtain ⟨m, rfl⟩ : ∃ x, m = x + 1 := ⟨m - 1, by omega⟩
    rw [emitStray_step m h1, strayMl_below (by omega), ih h2 (by omega) (by omega), h3, Nat.add_assoc, Nat.add_comm 1]

theorem emitStray_leaks {s : State} {r c m n : Nat} (hk : 0 < s.cfg.k) (hn : r / s.cfg.k = n) (hm : n ≤ m) (h0 : c < 200)
    (hc : 200 ≤ c + n) : ∃ x, emitStray m (strayed r c s) = inletLeaks (strayed x 200 s) := by
  induction n generalizing r c m with
  | zero => omega
  | succ n ih =>
    obtain ⟨h1, h2, -⟩ := quotient_step hk hn
    obtain ⟨m, rfl⟩ : ∃ x, m = x + 1 := ⟨m - 1, by omega⟩
    rw [emitStray_step m h1]
    by_cases hl : c = 199
    · refine ⟨r - s.cfg.k, ?_⟩
      have hcfg : (inletLeaks (strayed (r - s.cfg.k) 200 s)).cfg = s.cfg := by
        unfold inletLeaks
        rw [raiseFault_rest]
        rfl
      rw [hl, strayMl_leaks, emitStray_stops]
      rw [hcfg]
      exact hk
    · rw [strayMl_below (by omega)]
      exact ih h2 (by omega) (by omega) (by omega)

section
variable {s : State} (h : Rests s) (hh : s.wpc.holder = .none)
include h hh

theorem stray_heard : exec .flowMeterPulse s
    = .next (conclude (emitStray 10 (strayed (s.wpc.strayResidue + 1000) s.wpc.strayCount s))) := by
  have hf : fillHeld s = false := by
    obtain ⟨-, -, -, -, -, -, -, -, h8, -⟩ := h
    rw [hh] at h8
    unfold fillHeld
    cases hq : s.wpc.fill with
    | none => rfl
    | some q =>
      obtain ⟨a, b, c⟩ := q
      cases c with
      | false => rfl
      | true => rw [holderOf, hq] at h8; cases h8
  have hm : meterPulse s = emitStray 10 (strayed (s.wpc.strayResidue + 1000) s.wpc.strayCount s) := by
    unfold meterPulse
    rw [if_pos hh]
    rfl
  show execFlowMeterPulse s = _
  simp [execFlowMeterPulse, whenPowered, h.1.1, senses, h.1.2.1, concludeFill, hf, hm]

variable (hk : 200 ≤ s.cfg.k) (hr : s.wpc.strayResidue < s.cfg.k)
include hk hr

omit h hh in
theorem stray_most : (s.wpc.strayResidue + 1000) / s.cfg.k ≤ 10 := (pulse_most hk hr rfl).trans (by omega)

theorem stray_counts (hc : s.wpc.strayCount + (s.wpc.strayResidue + 1000) / s.cfg.k < 200) :
    exec .flowMeterPulse s = .next (finish (outputs (onWpc (fun w => { w with
      strayResidue := (w.strayResidue + 1000) % s.cfg.k
      strayCount := w.strayCount + (w.strayResidue + 1000) / s.cfg.k }) s))) := by
  rw [stray_heard h hh, emitStray_below (by omega) rfl (stray_most hk hr) hc, Laws.conclude_rests]
  · rfl
  · exact h

end

/-! ## The leak (R26, R36) -/

/-- The inlet's leak stands: its drain runs and nothing stray is counted, while the inhibit is as it was. -/
def Leaks (i : Bool) (s : State) : Prop :=
  s.wpc.strayResidue = 0 ∧ s.wpc.strayCount = 0 ∧ s.wpc.leak = some 60 ∧ s.wpc.inhibit = i

namespace Leaks

variable {i : Bool} {s t a b : State}

theorem congr (h : Leaks i s) (k : t.wpc = s.wpc) : Leaks i t := by
  unfold Leaks
  rw [k]
  exact h

theorem ite {c : Prop} [Decidable c] (ha : c → Leaks i a) (hb : ¬ c → Leaks i b) : Leaks i (if c then a else b) := by
  split
  · exact ha ‹_›
  · exact hb ‹_›

theorem beginGrant (h : Leaks i s) (p : Holder) : Leaks i (beginGrant p s) := ⟨rfl, rfl, h.2.2⟩

theorem startBurst (h : Leaks i s) : Leaks i (startBurst s) := by
  unfold Machine.startBurst
  split <;> exact h

theorem endFill (h : Leaks i s) (r : FillEnd) : Leaks i (endFill r s) := by
  unfold Machine.endFill
  split
  · exact h
  · next q _ =>
    dsimp only
    have hb : Leaks i (Machine.startBurst (closeInlet (onWpc (fun w => { w with fill := none })
        (report (.fillEnded q.kind r s.wpc.grantCount) s)))) :=
      startBurst (s := closeInlet (onWpc (fun w => { w with fill := none }) (report (.fillEnded q.kind r s.wpc.grantCount) s))) h
    split
    · exact hb
    · exact hb.congr (Serves.refl _).endTopUp.wpc

theorem revokeRegen (h : Leaks i s) : Leaks i (revokeRegen s) := by
  unfold Machine.revokeRegen
  split <;> exact h

theorem grantFill (h : Leaks i s) (q : FillReq) : Leaks i (grantFill q s) :=
  have hg : Leaks i (onWpc (fun w => { w with fill := some { q with held := true }, fillTimer := some 0 }) (Machine.beginGrant .fill s)) :=
    h.beginGrant .fill
  .ite (fun _ => hg.endFill _) fun _ => hg

theorem offerFill (h : Leaks i s) (q : FillReq) : Leaks i (offerFill q s) :=
  .ite (fun _ => h) fun _ => .ite (fun _ => h) fun _ => h.revokeRegen.grantFill q

theorem grantDeferred (h : Leaks i s) : Leaks i (grantDeferred s) := by
  unfold Machine.grantDeferred
  split
  · exact .ite (fun _ => h.offerFill _) fun _ => h
  · exact h

theorem withdrawFill (h : Leaks i s) : Leaks i (withdrawFill s) := by
  unfold Machine.withdrawFill
  split
  · exact h
  · exact .ite (fun _ => h.endFill _) fun _ => h

theorem effluentMeetsDrain (h : Leaks i s) : Leaks i (effluentMeetsDrain s) :=
  .ite (fun _ => congr (s := withdrawBurst s) h (finishRegen_keeps (withdrawBurst s)).1) fun _ => h

theorem revokeUnlessFlows (h : Leaks i s) : Leaks i (revokeUnlessFlows s) := .ite (fun _ => h) fun _ => h.revokeRegen

theorem handOver (h : Leaks i s) : Leaks i (handOver s) := by
  unfold Machine.handOver
  split
  · exact h
  · split
    · simp only [takeColumn]
      split <;> exact h
    · exact h

theorem grantRegen (h : Leaks i s) : Leaks i (grantRegen s) := by
  have hm : ∀ u : State, Leaks i u → Leaks i (markSaltLow u) := fun u hu => by
    unfold markSaltLow
    split
    · refine .ite (fun _ => hu) fun _ => congr (s := u) hu ?_
      rw [raiseNotice_rest]
      rfl
    · exact hu
  unfold Machine.grantRegen
  split
  · exact .ite (fun _ => .ite (fun _ => hm _ (h.beginGrant .brine)) fun _ => h.beginGrant .brine) fun _ => h
  · exact .ite (fun _ => h.beginGrant .rinse) fun _ => h
  · exact h

theorem refreshPump (h : Leaks i s) : Leaks i (refreshPump s) := h

theorem waterSettle (h : Leaks i s) : Leaks i (waterSettle s) :=
  h.grantDeferred.refreshPump.effluentMeetsDrain.refreshPump.revokeUnlessFlows.refreshPump.handOver.grantRegen

/-! ## The fault ends what runs -/

theorem stopProgram (h : Leaks i s) : Leaks i (stopProgram s) := by
  have h1 : Leaks i (withdrawHeat s) := h.congr (Bides.refl s).withdrawHeat.wpc
  have h2 : Leaks i (closeFill (Machine.withdrawFill (withdrawHeat s))) := h1.withdrawFill.congr (closeFill_keeps _).1
  have h3 : Leaks i (stopCirculation (cancelSequencerDoses (closeFill (Machine.withdrawFill (withdrawHeat s))))) :=
    h2.congr (Bides.refl (closeFill (Machine.withdrawFill (withdrawHeat s)))).cancelSequencerDoses.stopCirculation.wpc
  unfold Machine.stopProgram
  dsimp only
  generalize stopCirculation (cancelSequencerDoses (closeFill (Machine.withdrawFill (withdrawHeat s)))) = u at h3
  split <;> exact h3

theorem programFault (h : Leaks i s) (c : FaultCode) : Leaks i (programFault c s) := by
  have hf : ∀ u : State, Leaks i u → Leaks i (enterFaulted (setOutcome .faulted (holdCode c u))) := fun u hu =>
    congr (s := u) hu (enterFaulted_wpc (setOutcome .faulted (holdCode c u)))
  have he : ∀ u : State, Leaks i u → Leaks i (enterEnding (setOutcome .faulted (holdCode c u))) := fun _ hu => hu
  have hd : Leaks i (onSeq (fun q => { q with holdPending := false }) (endDrying s)) :=
    h.congr (by rw [Laws.onSeq_wpc, (Dries.refl s).endDrying.rest])
  have hdrop : Leaks i (enterFaulted (dropDrain (setOutcome .faulted (holdCode c s)))) :=
    congr (s := dropDrain s) h (enterFaulted_wpc (dropDrain (setOutcome .faulted (holdCode c s))))
  unfold Machine.programFault
  split
  · exact h
  · exact h
  all_goals try
    split
    · exact hf _ hd
    · exact .ite (fun _ => he _ h.stopProgram) fun _ => hf _ h.stopProgram
  · exact .ite (fun _ => h) fun _ => hdrop
  · exact h

/-- FAULTED, the sequencer leaves the inlet whatever it hears. -/
theorem takeReport (h : Leaks i s) (hs : s.seq.state = .faulted) (r : Report) : Leaks i (takeReport r s) := by
  have hr : ∀ b, runningIn s b = false := fun b => by simp [runningIn, hs]
  have hh : heatEnded s = s := by
    unfold heatEnded
    split <;> simp [hr]
  cases r with
  | fillEnded k e n => exact h.congr (congrArg State.wpc (fillEnded_harmless (.inr (.inr (.inr (hr _))))))
  | fillRefused => simpa [Machine.takeReport, fillRefusedToSeq, programRuns, hs] using h
  | drainEnded => simpa [Machine.takeReport, drainEnded, hr, hs, dropDrain, Leaks] using h
  | programFault c => exact h.programFault c
  | targetReached => exact h.congr (congrArg State.wpc hh)
  | heatLimitExpired => exact h.congr (congrArg State.wpc hh)
  | heatDisabled => exact h.congr (congrArg State.wpc hh)
  | sensorFailed =>
    have hx : runningIn (onSeq (fun q => { q with heaterOff := true }) s) .heat = false := hr .heat
    simp only [Machine.takeReport, sensorFailedToSeq, hx]
    split <;> exact h
  | doseEnded a => simpa [Machine.takeReport, doseEnded_harmless (hr .dose), Leaks] using h
  | pressureLow => simpa [Machine.takeReport, pressureLowToSeq, hr] using h
  | doorOpened => simpa [Machine.takeReport, doorOpenedToSeq, hs, Leaks] using h
  | doorClosed => simpa [Machine.takeReport, doorClosedToSeq, hs] using h
  | dryingDone o => simpa [Machine.takeReport, dryingDone, hr] using h
  | engineLeft => simpa [Machine.takeReport, engineLeft, hr] using h
  | linkLost => simpa [Machine.takeReport, linkLostToSeq, hs, Leaks] using h

theorem takeReports (h : Leaks i s) (hs : s.seq.state = .faulted) (n : Nat) : Leaks i (takeReports n s) := by
  induction n generalizing s with
  | zero => exact h
  | succ n ih =>
    unfold Machine.takeReports
    split
    · exact h
    · next r l _ =>
      have hw := (Wets.refl (Machine.takeReport r (onReports (fun _ => l) s))).waterSettle
      have hf := ((follows_takeReport r (onReports (fun _ => l) s)).faulted hs).1
      have hl : Leaks i (onReports (fun _ => l) s) := h
      exact ih (hl.takeReport hs r).waterSettle (hw.state.trans hf)

end Leaks

/-- The code that stands is held, or this one (R26). -/
theorem programFault_holds {c : FaultCode} {s : State} (hs : s.seq.state ≠ .faulted) :
    (programFault c s).seq.fault = some (s.seq.fault.getD c) := by
  have hh : ∀ u : State, u.seq.fault = s.seq.fault → (holdCode c u).seq.fault = some (s.seq.fault.getD c) := fun u hu => by
    rw [← hu]
    unfold holdCode
    cases hx : u.seq.fault <;> simp [hx]
  obtain ⟨x, hx⟩ : ∃ x, s.seq.fault.getD c = x := ⟨_, rfl⟩
  rw [hx] at hh ⊢
  have hd : (endDrying s).seq.fault = s.seq.fault := by rw [(Dries.refl s).endDrying.rest]
  have hp : (stopProgram s).seq.fault = s.seq.fault := by rw [(halted_stopProgram s).seq]
  have ho : ∀ u : State, u.seq.fault = s.seq.fault → (setOutcome .faulted (holdCode c u)).seq.fault = some x := fun u hu => hh u hu
  have hf : ∀ u : State, u.seq.fault = s.seq.fault → (enterFaulted (setOutcome .faulted (holdCode c u))).seq.fault = some x :=
    fun u hu => (enterFaulted_fault _).trans (ho u hu)
  unfold programFault
  split
  · exact hh (seqTo .faulted .none s) rfl
  · exact hh (seqTo .faulted .none s) rfl
  all_goals try
    split
    · exact hf _ hd
    · dsimp only
      split
      · exact ho _ hp
      · exact hf _ hp
  · dsimp only
    split
    · exact ho _ rfl
    · exact (enterFaulted_fault _).trans (ho _ rfl)
  · contradiction

/-- The step of a leak, which alone is reported. -/
theorem leak_settled {i : Bool} {y : State} (hp : y.part.state = .ready) (hl : Leaks i y) (hr : y.reports = [.programFault .inletLeak]) :
    Leaks i (conclude y) ∧ (conclude y).wpc.drainPump = true ∧ (conclude y).seq.state = .faulted
      ∧ (conclude y).rst.history = y.rst.history
      ∧ (y.seq.state ≠ .faulted → (conclude y).seq.fault = some (y.seq.fault.getD .inletLeak)) := by
  obtain ⟨l, hal, hi⟩ := Appends.waterSettle y
  rw [hr, List.singleton_append] at hal
  obtain ⟨u, hu⟩ : ∃ u, onReports (fun _ => l) (waterSettle y) = u := ⟨_, rfl⟩
  have hwu : Wets y u := hu ▸ (Wets.refl y).waterSettle.onReports (fun _ => l) fun _ => not_drainEnded hi
  have hlu : Leaks i u := hu ▸ hl.waterSettle
  have ht : takeReports 64 (waterSettle y) = takeReports 63 (waterSettle (programFault .inletLeak u)) := by
    rw [takeReports_cons hal, hu]
    rfl
  have hw := (Wets.refl (programFault .inletLeak u)).waterSettle
  have hf : (waterSettle (programFault .inletLeak u)).seq.state = .faulted := hw.state.trans (programFault_faulted rfl u)
  have hh := takeReports_faulted hf 63
  have hlv := (hlu.programFault .inletLeak).waterSettle.takeReports hf 63
  obtain ⟨h1, h2, -⟩ := (follows_takeReports 63 _).faulted hf
  rw [hw.history, programFault_history, hwu.history] at hh
  have hg := ((Seals.refl y).waterSettle.toGuards).takeReports 64
  obtain ⟨v, hv⟩ : ∃ v, takeReports 63 (waterSettle (programFault .inletLeak u)) = v := ⟨_, rfl⟩
  rw [hv] at hh h1 h2 ht hlv
  have hcl : conclude y = finish (rested v) := by
    rw [conclude, settle_ready (by rw [hg.part]; exact hp), ht]
  have k := wets_rested v
  have hlc : Leaks i (conclude y) := by
    have hb : Leaks i (rested v) := hlv.refreshPump.revokeUnlessFlows
    rw [hcl]
    exact hb.congr (Laws.finish_wpc _)
  refine ⟨hlc, ?_, ?_, ?_, fun hs => ?_⟩
  · obtain ⟨-, -, hk, -⟩ := hlc
    rw [(concludes_conclude y).settled.pump]
    simp [pumpAsked, hk]
  · rw [hcl, Laws.finish_seq, k.state]
    exact h1
  · rw [hcl, Laws.finish_history, k.history, hh]
  · rw [hcl, Laws.finish_seq, k.seq]
    have hx : (programFault .inletLeak u).seq.fault = some (u.seq.fault.getD .inletLeak) :=
      programFault_holds (by rw [hwu.state]; exact hs)
    rw [hwu.seq] at hx
    show v.seq.fault = _
    rw [h2, hw.seq]
    exact hx

theorem stray_leaks {s : State} (h : Rests s) (hh : s.wpc.holder = .none) (hk : 200 ≤ s.cfg.k) (hr : s.wpc.strayResidue < s.cfg.k)
    (h0 : s.wpc.strayCount < 200) (hc : 200 ≤ s.wpc.strayCount + (s.wpc.strayResidue + 1000) / s.cfg.k) :
    ∃ t, exec .flowMeterPulse s = .next t
      ∧ t.wpc.strayResidue = 0 ∧ t.wpc.strayCount = 0 ∧ t.wpc.leak = some 60 ∧ t.wpc.drainPump = true
      ∧ t.rst.history = appendHistory ⟨.inletLeak, s.lnk.stamp, faultPhase s, .num 200, .num 0⟩ s.rst.history
      ∧ t.wpc.inhibit = s.wpc.inhibit ∧ t.seq.state = .faulted
      ∧ (s.seq.state ≠ .faulted → t.seq.fault = some (s.seq.fault.getD .inletLeak)) := by
  obtain ⟨x, hx⟩ := emitStray_leaks (m := 10) (by omega) rfl (stray_most hk hr) h0 hc
  obtain ⟨y, hy⟩ : ∃ y, inletLeaks (strayed x 200 s) = y := ⟨_, rfl⟩
  have hrf := raiseFault_rest .inletLeak (.num 200) (.num 0) (strayed x 200 s)
  have hye : y = report (.programFault .inletLeak) (onWpc (fun w => { w with leak := some Config.leakDrain, strayCount := 0, strayResidue := 0 })
      (raiseFault .inletLeak (.num 200) (.num 0) (strayed x 200 s))) := hy.symm
  have hleak : Leaks s.wpc.inhibit y := by
    rw [hye, hrf]
    exact ⟨rfl, rfl, rfl, rfl⟩
  have hrep : y.reports = [.programFault .inletLeak] := by
    rw [hye, hrf]
    exact congrArg (· ++ [Report.programFault .inletLeak]) h.1.2.2
  have hready : y.part.state = .ready := by
    rw [hye, hrf]
    exact h.1.2.1
  have hseq : y.seq = s.seq := by
    rw [hye, hrf]
    rfl
  have hhist : y.rst.history = appendHistory ⟨.inletLeak, s.lnk.stamp, faultPhase s, .num 200, .num 0⟩ s.rst.history := by
    rw [hye]
    exact raiseFault_history .inletLeak (.num 200) (.num 0) (strayed x 200 s)
  obtain ⟨⟨l1, l2, l3, l4⟩, l5, l6, l7, l8⟩ := leak_settled hready hleak hrep
  rw [hseq] at l8
  exact ⟨_, by rw [stray_heard h hh, hx, hy], l1, l2, l3, l5, l7.trans hhist, l4, l6, l8⟩

end Sys2Proof.Proofs
end


section
/-! PROOFS. What follows a main fill that has ended (R9, R11 to R13): DOSE, HEAT or CIRCULATE with the pump running and the columns'
record asked, and how the step goes on behind it. -/

/- One theorem at a time, as the tests have it: proofs that wait for the kernel cost a thread each. -/
set_option Elab.async false

namespace Sys2Proof.Proofs

open Sys2Proof.Machine
open Sys2Proof.Safety

/-! ## A change of the service position stays told -/

/-- A notice of a change of the service position stands on from `s` to `t`. -/
def Retells (s t : State) : Prop := ∀ c, noticeCode c = 12 → notified c s = true → notified c t = true

namespace Retells

variable {s t u : State}

theorem refl (s : State) : Retells s s := fun _ _ h => h

theorem trans (h : Retells s t) (k : Retells t u) : Retells s u := fun c hc hn => k c hc (h c hc hn)

theorem of_lnk (h : t.lnk = s.lnk) : Retells s t := fun c _ hn => by
  unfold notified at hn ⊢
  rw [h]
  exact hn

theorem lead (k : Retells u t) (h : u.lnk = s.lnk) : Retells s t := (of_lnk h).trans k

theorem bides (h : Bides s t) : Retells s t := fun c hc hn => h.noted c (by simp [hc, serviceNotices]) hn

theorem handOver (s : State) : Retells s (handOver s) := by
  refine of_lnk ?_
  unfold Machine.handOver
  split
  · rfl
  · split
    · unfold takeColumn
      dsimp only
      split <;> rfl
    · rfl

theorem grantRegen (s : State) : Retells s (grantRegen s) := by
  have hm : ∀ u : State, Retells u (markSaltLow u) := fun u => by
    unfold markSaltLow
    split
    · split
      · exact refl u
      · intro c hc hn
        refine notified_raiseNotice_ne ?_ (of_lnk (s := u) rfl c hc hn)
        rw [hc]
        nofun
    · exact refl u
  unfold Machine.grantRegen
  split
  · split
    · dsimp only
      split
      · exact (hm _).lead rfl
      · exact of_lnk rfl
    · exact refl s
  · split
    · exact of_lnk rfl
    · exact refl s
  · exact refl s

theorem revokeUnlessFlows (s : State) : Retells s (revokeUnlessFlows s) := by
  refine of_lnk ?_
  unfold Machine.revokeUnlessFlows
  split
  · rfl
  · unfold revokeRegen
    split <;> rfl

/-- The water path settles without a word of the service position where no fill stands and the sequencer does not drain. -/
theorem waterSettle (hf : s.wpc.fill = none) (hd : runningIn s .drain = false) : Retells s (waterSettle s) := by
  have h1 : grantDeferred s = s := by
    unfold grantDeferred
    rw [hf]
  have h2 : effluentMeetsDrain (refreshPump s) = refreshPump s := by
    unfold effluentMeetsDrain
    rw [show runningIn (refreshPump s) .drain = runningIn s .drain from rfl, hd, Bool.and_false]
    rfl
  unfold Machine.waterSettle
  rw [h1, h2]
  exact ((revokeUnlessFlows (refreshPump (refreshPump s))).lead rfl).trans (((handOver _).trans (grantRegen _)).lead rfl)

end Retells

/-! ## The step goes on in a phase past its fill -/

/-- From `s`, in a phase past its fill, to `t` the step has gone on: the pump runs on, DOSE and CIRCULATE stand, and the columns stand
unless the engine takes one. -/
structure Passes (s t : State) : Prop where
  asked : ∀ i, writeAsked i s = true → writeAsked i t = true
  waterWait : t.seq.waterWait = s.seq.waterWait
  dsu : t.dsu = s.dsu
  high : t.wpc.highLevel = s.wpc.highLevel
  pump : s.czs.pump = true → t.czs.pump = true
  dose : s.seq.sub = .dose → t.seq.sub = .dose
  circulate : s.seq.sub = .circulate → t.seq.sub = .circulate ∧ t.seq.holdTimer = s.seq.holdTimer
  columns : Unqueued s → t.sfu = s.sfu ∧ Unqueued t
  retells : Retells s t

namespace Passes

variable {s t u : State}

theorem refl (s : State) : Passes s s := ⟨fun _ => id, rfl, rfl, rfl, id, id, fun h => ⟨h, rfl⟩, fun h => ⟨rfl, h⟩, .refl s⟩

theorem trans (h : Passes s t) (k : Passes t u) : Passes s u where
  asked := fun i => k.asked i ∘ h.asked i
  waterWait := k.waterWait.trans h.waterWait
  dsu := k.dsu.trans h.dsu
  high := k.high.trans h.high
  pump := k.pump ∘ h.pump
  dose := k.dose ∘ h.dose
  circulate := fun hs => by
    obtain ⟨h1, h2⟩ := h.circulate hs
    obtain ⟨k1, k2⟩ := k.circulate h1
    exact ⟨k1, k2.trans h2⟩
  columns := fun hs => by
    obtain ⟨h1, h2⟩ := h.columns hs
    obtain ⟨k1, k2⟩ := k.columns h2
    exact ⟨k1.trans h1, k2⟩
  retells := h.retells.trans k.retells

theorem drifts (k : Drifts s t) (hd : runningIn s .drain = false) (hr : Retells s t) : Passes s t where
  asked := k.asked
  waterWait := by rw [k.seq]
  dsu := k.dsu
  high := k.highLevel
  pump := by rw [k.czs]; exact id
  dose := by rw [k.sub]; exact id
  circulate := by rw [k.seq]; exact fun h => ⟨h, rfl⟩
  columns := k.columns hd
  retells := hr

end Passes

theorem withdrawHeat_passes (s : State) : (withdrawHeat s).dsu = s.dsu ∧ (withdrawHeat s).seq.waterWait = s.seq.waterWait := by
  unfold withdrawHeat
  split <;> exact ⟨rfl, rfl⟩

section
variable {w : WashRecord} {m : Summary} {t : State} (hh : 0 < w.holdTime)
include hh

theorem enterCirculate_eq (s : State) :
    enterCirculate w s = runCirculation w (onSeq (fun q => { q with holdTimer := 0 }) (seqTo .running .circulate s)) := by
  unfold enterCirculate
  exact if_neg (by omega)

theorem enterCirculate_sub (s : State) : (enterCirculate w s).seq = { s.seq with state := .running, sub := .circulate, holdTimer := 0 }
    ∧ (enterCirculate w s).czs.pump = true ∧ (enterCirculate w s).dsu = s.dsu ∧ (enterCirculate w s).sfu = s.sfu
    ∧ (enterCirculate w s).rge = s.rge ∧ (enterCirculate w s).rst = s.rst ∧ (enterCirculate w s).wpc = s.wpc ∧ (enterCirculate w s).lnk = s.lnk := by
  rw [enterCirculate_eq hh]
  refine ⟨by rw [runCirculation_seq]; rfl, runCirculation_pump w _, ?_⟩
  rw [runCirculation_rest]
  exact ⟨rfl, rfl, rfl, rfl, rfl, rfl⟩

/-- HEAT is left for CIRCULATE. -/
theorem passes_circulates {s : State} (hs : s.seq.sub = .heat) {u : State} (hu : Bides s u) (h1 : u.dsu = s.dsu)
    (h2 : u.seq.waterWait = s.seq.waterWait) : Passes s (enterCirculate w u) := by
  obtain ⟨k1, k2, k3, k4, k5, k6, k7, k8⟩ := enterCirculate_sub hh u
  refine ⟨fun i hi => ?_, by rw [k1]; exact h2, k3.trans h1, by rw [k7, hu.wpc], fun _ => k2, fun hx => absurd (hs.symm.trans hx) (by simp),
    fun hx => absurd (hs.symm.trans hx) (by simp), fun hx => ⟨k4.trans hu.sfu, ?_⟩, (Retells.bides hu).trans (.of_lnk k8)⟩
  · have ha := hu.asked i hi
    unfold writeAsked at ha ⊢
    rw [k6]
    exact ha
  · unfold Unqueued
    rw [k4, k5, hu.sfu, hu.rge]
    exact hx

theorem heatEnded_passes (h : Warm w m t) : Passes t (heatEnded t) := by
  unfold heatEnded
  rw [h.wash]
  dsimp only
  split
  · next hx => exact passes_circulates hh ((runningIn_iff _ _).mp hx).2 (.refl t) rfl rfl
  · exact .refl t

theorem takeReport_passes (h : Warm w m t) {r : Report} (hr : Warming r) : Passes t (takeReport r t) := by
  rcases hr with rfl | rfl | rfl
  · exact heatEnded_passes hh h
  · exact heatEnded_passes hh h
  · have hs : Passes t (onSeq (fun q => { q with heaterOff := true }) t) :=
      ⟨fun _ => id, rfl, rfl, rfl, id, id, fun hx => ⟨hx, rfl⟩, fun hx => ⟨rfl, hx⟩, .of_lnk rfl⟩
    have hw : currentWash (onSeq (fun q => { q with heaterOff := true }) t) = some w := h.wash
    obtain ⟨u, hu⟩ : ∃ u, onSeq (fun q => { q with heaterOff := true }) t = u := ⟨_, rfl⟩
    have he : takeReport .sensorFailed t = if runningIn u .heat = true then enterCirculate w (withdrawHeat u) else u := by
      rw [← hu]
      show sensorFailedToSeq t = _
      unfold sensorFailedToSeq
      dsimp only
      rw [hw]
    rw [hu] at hs
    rw [he]
    split
    · next hx =>
      obtain ⟨h1, h2⟩ := withdrawHeat_passes u
      exact hs.trans (passes_circulates hh ((runningIn_iff _ _).mp hx).2 (Bides.refl u).withdrawHeat h1 h2)
    · exact hs

theorem takeReports_passes (h : Warm w m t) (n : Nat) : Passes t (takeReports n t) := by
  induction n generalizing t with
  | zero => exact .drifts ((Drifts.refl t).onReports _ (by simp)) h.not_drain (.of_lnk rfl)
  | succ n ih =>
    unfold takeReports
    split
    · exact .refl t
    · next r l hr =>
      have hd := (Drifts.refl t).onReports (fun _ => l) fun x hx => by rw [hr]; exact List.mem_cons_of_mem _ hx
      have h2 := (h.drifts hd fun x hx => by rw [hr]; exact List.mem_cons_of_mem _ hx).2
      have h4 := (takeReport_warm hh h2 (h.reports r (by simp [hr]))).2
      have hw := Passes.drifts ((Drifts.refl _).waterSettle h4.fillable) h4.not_drain (.waterSettle h4.fill h4.not_drain)
      exact (Passes.drifts hd h.not_drain (.of_lnk rfl)).trans ((takeReport_passes hh h2 (h.reports r (by simp [hr]))).trans
        (hw.trans (ih h4.waterSettle.2)))

end

/-! ## What is entered -/

/-- What a phase past its fill stands in, as the doses, HEAT or CIRCULATE have begun from `s` (R11 to R13). -/
structure Entered (w : WashRecord) (s t : State) : Prop where
  pump : t.czs.pump = true
  asked : ∀ i, writeAsked i s = true → writeAsked i t = true
  waterWait : t.seq.waterWait = s.seq.waterWait
  wpc : t.wpc = s.wpc
  sfu : t.sfu = s.sfu
  retells : Retells s t
  rge : t.rge = s.rge
  circulate : w.refs = [] → w.target = 0 → t.seq.sub = .circulate ∧ t.seq.holdTimer = 0
  dose : (placeDoses w w.refs (runCirculation w (seqTo .running .dose s))).seq.placed ≠ [] → w.refs ≠ [] →
    t.seq.sub = .dose ∧ t.dsu = (placeDoses w w.refs (runCirculation w (seqTo .running .dose s))).dsu

theorem placeDoses_czs (w : WashRecord) (l : List DoseRef) (s : State) : (placeDoses w l s).czs = s.czs := by
  induction l generalizing s with
  | nil => rfl
  | cons r l ih =>
    rw [placeDoses_cons, ih]
    unfold placeRef
    split
    · rfl
    · unfold placeDose joinQueue
      split
      · rfl
      · dsimp only
        split <;> rfl

theorem placeHeating_pump (n l : Nat) (s : State) : (placeHeating n l s).czs = s.czs := by
  unfold placeHeating
  dsimp only
  split
  · rfl
  · split
    · rfl
    · split
      · unfold heatExpires
        dsimp only
        rw [raiseNotice_rest]
        rfl
      · rfl

section
variable {w : WashRecord} (hh : 0 < w.holdTime)
include hh

theorem enterHeat_enters {s u : State} (hu : Bides s u ∨ Bides (seqTo .running .dose s) u) (h2 : u.seq.waterWait = s.seq.waterWait) :
    (enterHeat w u).czs.pump = true ∧ (∀ i, writeAsked i s = true → writeAsked i (enterHeat w u) = true)
      ∧ (enterHeat w u).seq.waterWait = s.seq.waterWait ∧ (enterHeat w u).wpc = s.wpc ∧ (enterHeat w u).sfu = s.sfu ∧ (enterHeat w u).rge = s.rge ∧ Retells s (enterHeat w u) := by
  have ha : (∀ i, writeAsked i s = true → writeAsked i u = true) ∧ u.sfu = s.sfu ∧ u.rge = s.rge ∧ u.wpc = s.wpc ∧ Retells s u := by
    rcases hu with hu | hu
    · exact ⟨hu.asked, hu.sfu, hu.rge, hu.wpc, .bides hu⟩
    · exact ⟨hu.asked, hu.sfu, hu.rge, hu.wpc, (Retells.bides hu).lead rfl⟩
  obtain ⟨a1, a2, a3, a4, a5⟩ := ha
  unfold enterHeat
  split
  · have hb := ((Bides.refl (seqTo .running .heat u)).runCirculation w).placeHeating w.target w.heatLimit
    refine ⟨?_, fun i hi => hb.asked i (a1 i hi), ?_, hb.wpc.trans a4, hb.sfu.trans a2, hb.rge.trans a3,
      a5.trans ((Retells.bides hb).lead rfl)⟩
    · rw [placeHeating_pump]
      exact runCirculation_pump w _
    · rw [hb.seq]
      exact h2
  · obtain ⟨k1, k2, k3, k4, k5, k6, k7, k8⟩ := enterCirculate_sub hh u
    refine ⟨k2, fun i hi => ?_, by rw [k1]; exact h2, k7.trans a4, k4.trans a2, k5.trans a3, a5.trans (.of_lnk k8)⟩
    have ha := a1 i hi
    unfold writeAsked at ha ⊢
    rw [k6]
    exact ha

theorem enterDose_enters (s : State) : Entered w s (enterDose w s) := by
  have hb := ((Bides.refl (seqTo .running .dose s)).runCirculation w).placeDoses w w.refs
  have hq : (placeDoses w w.refs (runCirculation w (seqTo .running .dose s))).seq.waterWait = s.seq.waterWait := by rw [hb.seq]; rfl
  have hpump : (placeDoses w w.refs (runCirculation w (seqTo .running .dose s))).czs.pump = true := by
    rw [placeDoses_czs]
    exact runCirculation_pump w _
  obtain ⟨p, hp⟩ : ∃ p, placeDoses w w.refs (runCirculation w (seqTo .running .dose s)) = p := ⟨_, rfl⟩
  rw [hp] at hb hq hpump
  unfold enterDose
  split
  · next hr =>
    obtain ⟨k1, k2, k3, k6, k4, k5, k7⟩ := enterHeat_enters hh (s := s) (u := s) (.inl (.refl s)) rfl
    refine ⟨k1, k2, k3, k6, k4, k7, k5, fun _ ht => ?_, fun _ hx => absurd (List.isEmpty_iff.mp hr) hx⟩
    unfold enterHeat
    rw [if_neg (by omega), (enterCirculate_sub hh s).1]
    exact ⟨rfl, rfl⟩
  · next hr =>
    dsimp only
    rw [hp]
    split
    · next he =>
      obtain ⟨k1, k2, k3, k6, k4, k5, k7⟩ := enterHeat_enters hh (s := s) (u := p) (.inr hb) hq
      exact ⟨k1, k2, k3, k6, k4, k7, k5, fun hx => absurd hx (by simpa using hr), fun hx => by rw [hp] at hx; simp [hx] at he⟩
    · exact ⟨hpump, hb.asked, hq, hb.wpc, hb.sfu, (Retells.bides hb).lead rfl, hb.rge, fun hx => absurd hx (by simpa using hr), fun _ _ => ⟨hb.sub, by rw [hp]⟩⟩

end

end Sys2Proof.Proofs
end


section
/-! PROOFS. The doses that a phase asks on its entry to DOSE (R11, R111, R112, R114), with the queue empty. -/

/- One theorem at a time, as the tests have it: proofs that wait for the kernel cost a thread each. -/
set_option Elab.async false

namespace Sys2Proof.Proofs

open Sys2Proof.Machine
open Sys2Proof.Safety

/-- The dose of a reference, with its channel, where it is one (R11). -/
def doseAsked (s : State) (w : WashRecord) (r : DoseRef) : Option (Channel × Nat) :=
  if computeDose s w r = 0 ∨ (reservoirOf s.dsu r.channel).fitted = false then none else some (r.channel, computeDose s w r)

theorem dosesAsked_eq (s : State) (w : WashRecord) : dosesAsked s w s.sfu.fill.v s.sfu.fill.hFill = w.refs.filterMap (doseAsked s w) := rfl

/-- The queue once these doses have joined it: the window opens with the first (R115). -/
def joined (s : State) (a : List (Channel × Nat)) : Dsu :=
  if a = [] then s.dsu
  else { s.dsu with
    state := if s.dsu.state = .idle then .gathering else s.dsu.state
    windowLeft := if s.dsu.state = .idle then 2 else s.dsu.windowLeft
    waiting := s.dsu.waiting ++ doseRequests s a
    next := (s.dsu.next + a.length) % 256 }

theorem joined_asked {s : State} {a : List (Channel × Nat)} (h : a ≠ []) : joined s a = { s.dsu with
    state := if s.dsu.state = .idle then .gathering else s.dsu.state
    windowLeft := if s.dsu.state = .idle then 2 else s.dsu.windowLeft
    waiting := s.dsu.waiting ++ doseRequests s a
    next := (s.dsu.next + a.length) % 256 } := if_neg h

/-- A dose that is placed: it waits, and the sequencer knows its arrival. -/
def placedOne (c : Channel) (v : Nat) (s : State) : State :=
  onSeq (fun q => { q with placed := q.placed ++ [s.dsu.next] }) (onDsu (fun _ => joined s [(c, v)]) s)

theorem doseRequests_cons (s : State) (c : Channel) (v : Nat) (a : List (Channel × Nat)) :
    doseRequests s ((c, v) :: a) = doseRequests s [(c, v)] ++ doseRequests (placedOne c v s) a := by
  have hx : (placedOne c v s).dsu.next = (s.dsu.next + 1) % 256 := rfl
  unfold doseRequests
  rw [List.zipIdx_cons, List.map_cons, List.zipIdx_succ, List.map_map, List.zipIdx_cons, hx]
  simp only [List.map_cons, List.zipIdx_nil, List.map_nil, List.cons_append, List.nil_append]
  congr 1
  refine List.map_congr_left fun p _ => ?_
  have hmod : (s.dsu.next + (p.2 + 1)) % 256 = ((s.dsu.next + 1) % 256 + p.2) % 256 := by omega
  simp only [Function.comp, hmod]
  rfl

theorem joined_cons (s : State) (c : Channel) (v : Nat) (a : List (Channel × Nat)) :
    joined (placedOne c v s) a = joined s ((c, v) :: a) := by
  have h1 : (placedOne c v s).dsu = joined s [(c, v)] := rfl
  have hx := doseRequests_cons s c v a
  have hs : (joined s [(c, v)]).state = if s.dsu.state = .idle then .gathering else s.dsu.state := rfl
  have hne : (joined s [(c, v)]).state ≠ .idle := by
    rw [hs]
    split
    · nofun
    · assumption
  cases a with
  | nil => rfl
  | cons b a =>
    have hl : ((s.dsu.next + 1) % 256 + (b :: a).length) % 256 = (s.dsu.next + ((c, v) :: b :: a).length) % 256 := by
      simp only [List.length_cons]
      omega
    rw [joined_asked (s := placedOne c v s) (by simp), joined_asked (s := s) (by simp), hx, h1, if_neg hne, if_neg hne,
      ← List.append_assoc, ← hl]
    rfl

section
variable {s : State} {w : WashRecord}

/-- A dose of a fitted channel without a request in the queue is placed (R114). -/
theorem placeRef_places {r : DoseRef} (h0 : computeDose s w r ≠ 0) (hf : (reservoirOf s.dsu r.channel).fitted = true)
    (hb : s.dsu.batch = []) (hl : s.dsu.waiting.length < 6) (hn : s.dsu.next < 256)
    (hc : ∀ x ∈ s.dsu.waiting, x.channel ≠ r.channel) :
    placeRef w s r = placedOne r.channel (computeDose s w r) s := by
  have hq : queued s.dsu r.channel (.sequencer s.seq.idx) = false := by
    simp only [queued, doseQueue, hb, List.nil_append, List.any_eq_false]
    intro x hx
    simp [hc x hx]
  have hlen : decide (Config.queueSize ≤ (doseQueue s.dsu).length) = false := by
    simp only [doseQueue, hb, List.nil_append, Config.queueSize, decide_eq_false_iff_not]
    omega
  have hm : (s.dsu.next + 0) % 256 = s.dsu.next := by omega
  unfold placeRef placeDose
  rw [if_neg h0, hf, hq, hlen, if_neg (by simp)]
  unfold placedOne joinQueue joined doseRequests
  simp only [List.zipIdx_cons, List.zipIdx_nil, List.map_cons, List.map_nil, hm]
  by_cases hi : s.dsu.state = .idle
  · simp [hi, Config.gatherWindow]
  · simp [hi]

theorem placeRef_passes {r : DoseRef} (h : computeDose s w r = 0 ∨ (reservoirOf s.dsu r.channel).fitted = false) :
    placeRef w s r = s := by
  unfold placeRef
  split
  · rfl
  · next h0 =>
    unfold placeDose
    rw [h.resolve_left h0, if_pos (by simp)]

theorem doseAsked_placedOne (c : Channel) (v : Nat) (r : DoseRef) : doseAsked (placedOne c v s) w r = doseAsked s w r := by
  have h1 : ∀ d : Dsu, d.r1 = s.dsu.r1 → d.r2 = s.dsu.r2 → d.r3 = s.dsu.r3 → reservoirOf d r.channel = reservoirOf s.dsu r.channel := by
    intro d h1 h2 h3
    unfold reservoirOf
    rw [h1, h2, h3]
  have h2 : reservoirOf (placedOne c v s).dsu r.channel = reservoirOf s.dsu r.channel := h1 _ rfl rfl rfl
  unfold doseAsked
  rw [h2]
  rfl

/-- The doses of a phase's references, each of its own channel, join an empty queue in their order. -/
theorem placeDoses_places (l : List DoseRef) (hb : s.dsu.batch = []) (hn : s.dsu.next < 256) (hl : s.dsu.waiting.length + l.length ≤ 6)
    (hu : (l.map (·.channel)).Nodup) (hc : ∀ x ∈ s.dsu.waiting, ∀ r ∈ l, x.channel ≠ r.channel) :
    (placeDoses w l s).dsu = joined s (l.filterMap (doseAsked s w))
      ∧ (l.filterMap (doseAsked s w) ≠ [] ∨ s.seq.placed ≠ [] → (placeDoses w l s).seq.placed ≠ []) := by
  induction l generalizing s with
  | nil => exact ⟨rfl, fun h => h.resolve_left (by simp)⟩
  | cons r l ih =>
    rw [placeDoses_cons]
    obtain ⟨hu1, hu2⟩ := List.nodup_cons.mp hu
    by_cases hp : computeDose s w r = 0 ∨ (reservoirOf s.dsu r.channel).fitted = false
    · have ha : doseAsked s w r = none := if_pos hp
      rw [placeRef_passes hp, List.filterMap_cons_none ha]
      exact ih hb hn (by simp only [List.length_cons] at hl; omega) hu2 fun x hx y hy => hc x hx y (List.mem_cons_of_mem _ hy)
    · have ha : doseAsked s w r = some (r.channel, computeDose s w r) := if_neg hp
      simp only [not_or, Bool.not_eq_false] at hp
      obtain ⟨hp1, hp2⟩ := hp
      rw [placeRef_places hp1 hp2 hb (by simp only [List.length_cons] at hl; omega) hn fun x hx => hc x hx r List.mem_cons_self,
        List.filterMap_cons_some ha, ← joined_cons s]
      have hd : (placedOne r.channel (computeDose s w r) s).dsu.waiting
          = s.dsu.waiting ++ doseRequests s [(r.channel, computeDose s w r)] := rfl
      have hw : (placedOne r.channel (computeDose s w r) s).seq.placed ≠ [] := by
        show s.seq.placed ++ [s.dsu.next] ≠ []
        simp
      have he : l.filterMap (doseAsked (placedOne r.channel (computeDose s w r) s) w) = l.filterMap (doseAsked s w) :=
        List.filterMap_congr fun y _ => doseAsked_placedOne _ _ y
      obtain ⟨k1, k2⟩ := ih (s := placedOne r.channel (computeDose s w r) s) hb (Nat.mod_lt _ (by omega)) (by
        rw [hd]
        simp only [List.length_cons, List.length_append, doseRequests, List.length_map, List.length_zipIdx, List.length_nil] at hl ⊢
        omega) hu2 fun x hx y hy => by
        rw [hd] at hx
        rcases List.mem_append.mp hx with hx | hx
        · exact hc x hx y (List.mem_cons_of_mem _ hy)
        · have hxc : x.channel = r.channel := by
            simp only [doseRequests, List.zipIdx_cons, List.zipIdx_nil, List.map_cons, List.map_nil, List.mem_singleton] at hx
            rw [hx]
          rw [hxc]
          exact fun hxy => hu1 (List.mem_map.mpr ⟨y, hy, hxy.symm⟩)
      rw [he] at k1 k2
      exact ⟨k1, fun _ => k2 (.inr hw)⟩

end

end Sys2Proof.Proofs
end


section
/-! PROOFS. A main fill that has ended, by the switch or by its volume (R9, R41, R67): the record closes, what follows FILL begins, and
the step goes on to its end. -/

/- One theorem at a time, as the tests have it: proofs that wait for the kernel cost a thread each. -/
set_option Elab.async false

namespace Sys2Proof.Proofs

open Sys2Proof.Machine
open Sys2Proof.Safety

/-- The step in which a main fill has ended: `y` reports it, `v` hears of it, `t` is the step's end. -/
structure FillEnds (w : WashRecord) (y v t : State) : Prop where
  hears : Drifts y v
  moves : Moves y t
  warm : Warm w y.seq.summary t
  record : t.sfu.fill = closedRecord y.sfu
  entered : Entered w (closeFill v) (enterDose w (closeFill v))
  passes : Passes (waterSettle (enterDose w (closeFill v))) t
  begun : Warm w y.seq.summary (enterDose w (closeFill v))
  found : v = onReports (fun _ => []) (waterSettle y)
  later : Moves (waterSettle (enterDose w (closeFill v))) t

/-- A fill's end by which the phase goes on (R9). -/
def Over (r : FillEnd) : Prop := r = .highLevel ∨ r = .volumeReached

section
variable {w : WashRecord} {y : State} {r : FillEnd} {n : Nat}

theorem takeReport_fillEnded (ho : Over r) {v : State} (hw : currentWash v = some w) (hb : runningIn v .fill = true) :
    takeReport (.fillEnded .main r n) v = enterDose w (closeFill v) := by
  rcases ho with rfl | rfl <;> simp [takeReport, fillEnded, hw, hb]

/-- The sequencer takes the one report once the water path has settled. -/
theorem takeReports_heard (hr : y.reports = [.fillEnded .main r n]) (hf : y.wpc.fill = none) (hd : runningIn y .drain = false) (k : Nat) :
    takeReports (k + 1) (waterSettle y)
      = takeReports k (waterSettle (takeReport (.fillEnded .main r n) (onReports (fun _ => []) (waterSettle y)))) := by
  have hw : (waterSettle y).reports = [.fillEnded .main r n] := by
    rcases waterSettle_reports (s := y) (fun q hq => by simp [hf] at hq) with he | ⟨hx, -⟩
    · rw [he, hr]
    · rw [hd] at hx
      cases hx
  conv_lhs => unfold takeReports
  rw [hw]

theorem rested_retells (s : State) : Retells s (rested s) :=
  ((Retells.revokeUnlessFlows (refreshPump s)).lead rfl).trans (.of_lnk rfl)

theorem Concludes.retells {u t : State} (h : Concludes u t) : Retells (settle u) t := by
  obtain ⟨f, hf, rfl⟩ := h
  obtain ⟨-, -, h1, h2⟩ := hf (settle u).lnk
  refine fun c _ hn => notified_finish ?_
  unfold notified at hn ⊢
  rw [Laws.onLnk_lnk, h1, h2]
  exact hn

theorem fill_ends {t : State} (hh : 0 < w.holdTime) (ho : Over r) (hp : y.part.state = .ready)
    (hr : y.reports = [.fillEnded .main r n]) (hb : runningIn y .fill = true) (hw : currentWash y = some w) (hf : y.wpc.fill = none)
    (hc : Concludes y t) : ∃ v, FillEnds w y v t := by
  obtain ⟨hst, hsub⟩ := (runningIn_iff _ _).mp hb
  have hd : runningIn y .drain = false := by simp [runningIn, hsub]
  have hx : waterFlows y = false := by simp [waterFlows, permitCondition, hst, hsub]
  obtain ⟨v, hfound⟩ : ∃ v, v = onReports (fun _ => []) (waterSettle y) := ⟨_, rfl⟩
  have hv : Drifts y v := by
    rw [hfound]
    exact ((Drifts.refl y).waterSettle fun q hq => by simp [hf] at hq).onReports _ (by simp)
  have hvr : v.reports = [] := by rw [hfound]; rfl
  have ht := takeReports_heard hr hf hd
  rw [← hfound] at ht
  have he : takeReport (.fillEnded .main r n) v = enterDose w (closeFill v) :=
    takeReport_fillEnded ho (by rw [hv.currentWash, hw]) (by rw [hv.runningIn, hb])
  have hcl := (Wets.refl v).closeFill
  obtain ⟨c1, -, c3, c4, -⟩ := closeFill_keeps v
  have hs : Washes w y.seq.summary (closeFill v) := ⟨by rw [hcl.part, hv.part, hp], by rw [hcl.state, hv.state, hst],
    by rw [hcl.currentWash, hv.currentWash, hw], by rw [c1, hv.fill, hf], by rw [hcl.seq, hv.seq], by rw [c3, hvr]; simp⟩
  obtain ⟨k1, k2⟩ := enterDose_warm hh hs
  obtain ⟨k3, k4⟩ := k2.waterSettle
  obtain ⟨k5, k6⟩ := k4.takeReports hh 63
  have p5 := takeReports_passes hh k4 63
  have hset : settle y = rested (takeReports 63 (waterSettle (enterDose w (closeFill v)))) := by
    rw [← he, ← ht 63]
    exact settle_ready (by rw [ht 63, he]; exact k6.ready)
  obtain ⟨k7, k8⟩ := k6.drifts (drifts_rested _) (by rw [rested_reports]; exact fun _ => id)
  have p7 := p5.trans (Passes.drifts (drifts_rested _) k6.not_drain (rested_retells _))
  rw [← hset] at k7 k8 p7
  have hm := (((Moves.refl y).drifts hv hf hd hx).closeFill)
  have hk := k1.trans (k3.trans (k5.trans k7))
  have hdr := hc.drifts
  obtain ⟨k9, k10⟩ := k8.drifts hdr (by rw [hc.quiet.reports]; exact fun _ => id)
  refine ⟨v, hv, hm.trans (hk.trans k9), k10, ?_, enterDose_enters hh _, p7.trans (Passes.drifts hdr k8.not_drain hc.retells), k2, hfound,
    k5.trans (k7.trans k9)⟩
  have hrec := (hk.trans k9).record (by rw [c4]; exact closedRecord_isOpen _)
  obtain ⟨r1, r2, -⟩ := hv.record
  rw [hrec, c4]
  unfold closedRecord
  rw [r1, r2]

end

namespace FillEnds

variable {w : WashRecord} {y v t : State} (h : FillEnds w y v t)
include h

theorem waterWait : t.seq.waterWait = y.seq.waterWait := by
  have hw := (Drifts.refl _).waterSettle h.begun.fillable
  rw [h.passes.waterWait, hw.seq]
  show (enterDose w (closeFill v)).seq.waterWait = _
  rw [h.entered.waterWait, (Wets.refl v).closeFill.seq]
  show v.seq.waterWait = _
  rw [h.hears.seq]

theorem settled : Passes (enterDose w (closeFill v)) t :=
  (Passes.drifts ((Drifts.refl _).waterSettle h.begun.fillable) h.begun.not_drain
    (.waterSettle h.begun.fill h.begun.not_drain)).trans h.passes

theorem high : t.wpc.highLevel = y.wpc.highLevel := by
  rw [h.settled.high, h.entered.wpc, (Wets.refl v).closeFill.highLevel, h.hears.highLevel]

theorem pump : t.czs.pump = true := h.settled.pump h.entered.pump

theorem asked (ho : y.sfu.fill.isOpen = true) : writeAsked .columns t = true := by
  have hv : v.sfu.fill.isOpen = true := by rw [h.hears.record.1]; exact ho
  refine h.settled.asked _ (h.entered.asked _ ?_)
  unfold closeFill
  rw [if_pos hv]
  exact ((Wets.refl _).releaseRule).asked _ (writeAsked_askWrite_self _ _)

theorem circulates (h1 : w.refs = []) (h2 : w.target = 0) : t.seq.sub = .circulate ∧ t.seq.holdTimer = 0 := by
  obtain ⟨e1, e2⟩ := h.entered.circulate h1 h2
  obtain ⟨k1, k2⟩ := h.settled.circulate e1
  exact ⟨k1, k2.trans e2⟩

/-- The doses of the closed fill have been asked (R11, R108 to R112). -/
theorem doses {s : State} (hy : y.cfg = s.cfg ∧ y.dsu = s.dsu ∧ y.ddu = s.ddu ∧ y.seq.soil = s.seq.soil ∧ y.seq.idx = s.seq.idx)
    (hs : s.dsu.state = .idle) (hb : s.dsu.batch = []) (hw : s.dsu.waiting = [])
    (hn : s.dsu.next < 256) (hl : w.refs.length ≤ 2) (hu : (w.refs.map (·.channel)).Nodup)
    (ha : dosesAsked s w t.sfu.fill.v t.sfu.fill.hFill ≠ []) :
    t.seq.sub = .dose ∧ t.dsu = { s.dsu with
      state := .gathering, windowLeft := 2
      waiting := doseRequests s (dosesAsked s w t.sfu.fill.v t.sfu.fill.hFill)
      next := (s.dsu.next + (dosesAsked s w t.sfu.fill.v t.sfu.fill.hFill).length) % 256 } := by
  obtain ⟨y1, y2, y3, y4, y5⟩ := hy
  have hc := (Wets.refl v).closeFill
  obtain ⟨-, -, -, c4, -⟩ := closeFill_keeps v
  obtain ⟨u, hu'⟩ : ∃ u, runCirculation w (seqTo .running .dose (closeFill v)) = u := ⟨_, rfl⟩
  have hrest := runCirculation_rest w (seqTo .running .dose (closeFill v))
  rw [hu'] at hrest
  have u1 : u.cfg = s.cfg := by rw [hrest]; exact (hc.cfg.trans h.hears.cfg).trans y1
  have u2 : u.dsu = s.dsu := by rw [hrest]; exact (hc.dsu.trans h.hears.dsu).trans y2
  have u3 : u.ddu = s.ddu := by rw [hrest]; exact (hc.ddu.trans h.hears.ddu).trans y3
  have hq : u.seq = { v.seq with state := .running, sub := .dose, permit := u.seq.permit, placed := u.seq.placed } := by
    rw [hrest]
    show { (closeFill v).seq with state := .running, sub := .dose } = _
    conv_lhs => rw [hc.seq]
    rfl
  have u4 : u.seq.soil = s.seq.soil := by rw [hq, h.hears.seq]; exact y4
  have u5 : u.seq.idx = s.seq.idx := by rw [hq, h.hears.seq]; exact y5
  have u6 : u.sfu.fill = t.sfu.fill := by
    rw [hrest, h.record]
    show (closeFill v).sfu.fill = _
    obtain ⟨r1, r2, -⟩ := h.hears.record
    rw [c4]
    unfold closedRecord
    rw [r1, r2]
  have hasked : w.refs.filterMap (doseAsked u w) = dosesAsked s w t.sfu.fill.v t.sfu.fill.hFill := by
    rw [← dosesAsked_eq, u6]
    unfold dosesAsked
    rw [u1, u2, u3, u4]
  obtain ⟨k1, k2⟩ := placeDoses_places (s := u) (w := w) w.refs (by rw [u2]; exact hb) (by rw [u2]; exact hn)
    (by rw [u2, hw]; simp only [List.length_nil]; omega) hu (by rw [u2, hw]; simp)
  rw [hasked] at k1 k2
  have hrefs : w.refs ≠ [] := fun hx => ha (by rw [← hasked, hx]; rfl)
  have hd := h.entered.dose
  rw [hu'] at hd
  obtain ⟨d1, d2⟩ := hd (k2 (.inl ha)) hrefs
  refine ⟨h.settled.dose d1, ?_⟩
  have hreq : doseRequests u (dosesAsked s w t.sfu.fill.v t.sfu.fill.hFill) = doseRequests s (dosesAsked s w t.sfu.fill.v t.sfu.fill.hFill) := by
    unfold doseRequests
    rw [u1, u2, u5]
  rw [h.settled.dsu, d2, k1, joined_asked ha, hreq, u2, if_pos hs, if_pos hs, hw, List.nil_append]

end FillEnds

end Sys2Proof.Proofs
end


section
/-! PROOFS. The high-level switch ends a FILL grant (R41, R42). -/

/- One theorem at a time, as the tests have it: proofs that wait for the kernel cost a thread each. -/
set_option Elab.async false

namespace Sys2Proof.Proofs

open Sys2Proof.Machine
open Sys2Proof.Safety

/-! ## The end of a FILL grant -/

/-- A burst that waited runs once the grant has gone (R49). -/
def burstBegun (b : Burst) : Burst := if b = .waiting then .running 0 else b

/-- The inlet once a FILL grant has gone. -/
def unfilled (w : Wpc) : Wpc := { w with
  fill := none, holder := .none, inletValve := false, brineValve := false, fillTimer := none, burst := w.burst.map burstBegun }

theorem startBurst_begins (s : State) : startBurst s = onWpc (fun w => { w with burst := w.burst.map burstBegun }) s := by
  have hs : ∀ b, s.wpc.burst = b → onWpc (fun w => { w with burst := b }) s = s := by
    rintro b rfl
    rfl
  have hm : onWpc (fun w => { w with burst := w.burst.map burstBegun }) s
      = onWpc (fun w => { w with burst := s.wpc.burst.map burstBegun }) s := rfl
  rw [hm]
  unfold startBurst
  cases hb : s.wpc.burst with
  | none => exact (hs none hb).symm
  | some b =>
    cases b with
    | waiting => rfl
    | running n => exact (hs _ hb).symm

/-- The grant has gone, and the sequencer hears of it. -/
def grantOver (k : FillKind) (r : FillEnd) (s : State) : State :=
  onWpc unfilled (report (.fillEnded k r s.wpc.grantCount) s)

section
variable {s : State} {q : FillReq} (hq : s.wpc.fill = some q) (r : FillEnd)
include hq

theorem endFill_main (hk : q.kind = .main) : endFill r s = grantOver .main r s := by
  unfold endFill
  rw [hq]
  dsimp only
  rw [hk, startBurst_begins]
  rfl

theorem endFill_topUp (hk : q.kind = .topUp) : endFill r s = endTopUp (grantOver .topUp r s) := by
  unfold endFill
  rw [hq]
  dsimp only
  rw [hk, startBurst_begins]
  rfl

end

theorem concludeFill_marks (s u : State) : ∃ f, concludeFill s u = onTies f (conclude u) := by
  unfold concludeFill
  dsimp only
  split
  · exact ⟨_, rfl⟩
  · exact ⟨id, rfl⟩

/-- A top-up's end leaves the sequencer as it is (R42). -/
theorem topUp_over {y t : State} {n : Nat} {r : FillEnd} (hp : y.part.state = .ready) (hr : y.reports = [.fillEnded .topUp r n])
    (hf : y.wpc.fill = none) (hd : runningIn y .drain = false) (hc : Concludes y t) :
    Drifts y t ∧ t.seq = { y.seq with permit := t.seq.permit } := by
  have hq : Quieted y := ⟨hp, fun q hx => absurd hx (by simp [hf]), fun x hx => by
    rw [hr, List.mem_singleton] at hx
    rw [hx]
    exact .inl rfl⟩
  have k := (hq.settle (.inl hd)).trans hc.drifts
  have hdl : Doseless y := fun a => by simp [hr]
  have hs := k.seq
  rw [(k.placed hdl).1] at hs
  exact ⟨k, hs⟩

/-- A program runs, neither in DRAIN nor in DRY. -/
structure BeforeDrain (s : State) : Prop where
  running : s.seq.state = .running
  drain : s.seq.sub ≠ .drain
  dry : s.seq.sub ≠ .dry

theorem BeforeDrain.not_drain {s : State} (h : BeforeDrain s) : runningIn s .drain = false := by simp [runningIn, h.drain]

/-- There is no permit there (R29). -/
theorem BeforeDrain.flows {s : State} (h : BeforeDrain s) : waterFlows s = false := by
  simp [waterFlows, permitCondition, h.running, h.drain, h.dry]

theorem BeforeDrain.congr {s t : State} (h : BeforeDrain s) (h1 : t.seq.state = s.seq.state) (h2 : t.seq.sub = s.seq.sub) : BeforeDrain t :=
  ⟨h1.trans h.running, by rw [h2]; exact h.drain, by rw [h2]; exact h.dry⟩

/-! ## The switch ends a grant (R41) -/

section
variable {s : State} (ha : Awake s) (hs : Sound s) {q : FillReq} (hq : s.wpc.fill = some q)
include ha hs hq

omit ha in
/-- A fill stands in RUNNING, before the drain (R9, R16). -/
theorem fill_running : BeforeDrain s ∧ (q.kind = .main → runningIn s .fill = true) := by
  obtain ⟨h1, h2, -⟩ := Laws.sound_waterKept hs
  have hr := h1 (by rw [hq]; rfl)
  have hst : s.seq.state = .running ∧ (s.seq.sub = .fill ∨ s.seq.sub = .dose ∨ s.seq.sub = .heat ∨ s.seq.sub = .circulate) := by
    simp only [runningIn_iff] at hr
    tauto
  obtain ⟨hst, hsub⟩ := hst
  refine ⟨⟨hst, ?_, ?_⟩, fun hk => (runningIn_iff _ _).mpr ⟨hst, ((h2 q hq).1).mp hk⟩⟩
  · rcases hsub with hx | hx | hx | hx <;> rw [hx] <;> nofun
  · rcases hsub with hx | hx | hx | hx <;> rw [hx] <;> nofun

variable (hl : s.wpc.highLevel = false) (hh : q.held = true)
include hl hh

omit hs in
theorem level_ends : exec (.highLevelSwitchChange true) s = .next (concludeFill s (endFill .highLevel (levelRead true s))) := by
  have hst : levelStops (levelRead true s) = endFill .highLevel (levelRead true s) := by
    obtain ⟨a, b, c⟩ := q
    obtain rfl : c = true := hh
    have hf : (levelRead true s).wpc.fill = some ⟨a, b, true⟩ := hq
    unfold levelStops
    rw [hf]
  rw [level_heard ha true, highLevelChanged_eq true s (by simp [hl]), if_pos rfl, hst]

theorem level_ends_topUp (hk : q.kind = .topUp) :
    ∃ t, exec (.highLevelSwitchChange true) s = .next t
      ∧ t.wpc.highLevel = true ∧ t.wpc.fill = none ∧ t.wpc.holder = .none ∧ t.wpc.inletValve = false
      ∧ t.wpc.fillTimer = none ∧ t.wpc.grantCount = s.wpc.grantCount
      ∧ t.seq = { s.seq with permit := t.seq.permit } ∧ t.sfu.fill = s.sfu.fill
      ∧ writeAsked .columns t = true ∧ t.rst.history = s.rst.history ∧ t.part = s.part ∧ t.dsu = s.dsu ∧ t.ddu = s.ddu := by
  obtain ⟨hb, -⟩ := fill_running hs hq
  have hx := level_ends ha hq hl hh
  have hg := (waterKept_exec hs hx).1
  have hqu : (levelRead true s).wpc.fill = some q := hq
  rw [endFill_topUp hqu .highLevel hk] at hx hg
  obtain ⟨f, hf⟩ := concludeFill_marks s (endTopUp (grantOver .topUp .highLevel (levelRead true s)))
  rw [hf] at hx hg
  have hy := (Serves.refl (askWrite .columns (grantOver .topUp .highLevel (levelRead true s)))).releaseRule
  obtain ⟨y, hyy⟩ : ∃ y, endTopUp (grantOver .topUp .highLevel (levelRead true s)) = y := ⟨_, rfl⟩
  have hyk : Serves (askWrite .columns (grantOver .topUp .highLevel (levelRead true s))) y := hyy ▸ hy
  have hya : writeAsked .columns y = true := by
    rw [← hyy]
    exact ((Wets.refl (askWrite .columns (grantOver .topUp .highLevel (levelRead true s)))).releaseRule).asked _
      (writeAsked_askWrite_self _ _)
  have hyh : y.rst.history = s.rst.history := by
    rw [← hyy]
    exact (Wets.refl (grantOver .topUp .highLevel (levelRead true s))).endTopUp.history
  rw [hyy] at hx hg
  have yw : y.wpc = (grantOver .topUp .highLevel (levelRead true s)).wpc := hyk.wpc
  have ys : y.seq = s.seq := hyk.seq
  have yr : y.reports = [.fillEnded .topUp .highLevel s.wpc.grantCount] := by
    rw [hyk.reports]
    exact congrArg (· ++ [Report.fillEnded .topUp .highLevel s.wpc.grantCount]) ha.2.2
  have yp : y.part = s.part := by rw [hyk.rest]; rfl
  have yb : BeforeDrain y := hb.congr (by rw [ys]) (by rw [ys])
  obtain ⟨k, kq⟩ := topUp_over (by rw [yp]; exact ha.2.1) yr (by rw [yw]; rfl) yb.not_drain (concludes_conclude y)
  have tb : BeforeDrain (conclude y) := yb.congr k.state k.sub
  have th : (conclude y).wpc.holder = .none := (concludes_conclude y).settled.holder_none tb.flows
    (k.free (by rw [yw]; rfl) (by rw [yw]; nofun))
  have yx : y.dsu = s.dsu ∧ y.ddu = s.ddu ∧ y.sfu.fill = s.sfu.fill := by
    refine ⟨?_, ?_, hyk.record.1⟩ <;> rw [hyk.rest] <;> rfl
  obtain ⟨x1, x2, x3⟩ := yx
  obtain ⟨t, ht⟩ : ∃ t, conclude y = t := ⟨_, rfl⟩
  rw [ht] at hx hg k kq th
  obtain ⟨-, -, g3, -, g5, -⟩ := hg
  have g3 : t.wpc.inletValve = (t.wpc.holder != .none) := g3
  have g5 : t.wpc.fillTimer.isSome = (t.wpc.holder == .fill) := g5
  rw [th] at g3 g5
  rw [ys] at kq
  refine ⟨_, hx, k.highLevel.trans ?_, k.fill.trans ?_, th, g3, Option.not_isSome_iff_eq_none.mp (by simp [g5]),
    (k.count yb.not_drain yb.flows).trans ?_, kq, k.record.1.trans x3, k.asked _ hya, k.history.trans hyh, k.part.trans yp,
    k.dsu.trans x1, k.ddu.trans x2⟩
  · rw [yw]
    rfl
  · rw [yw]
    rfl
  · rw [yw]
    rfl

theorem level_ends_main (hk : q.kind = .main) (ho : s.sfu.fill.isOpen = true) {w : WashRecord} (hw : currentWash s = some w)
    (hw0 : 0 < w.holdTime) :
    ∃ t, exec (.highLevelSwitchChange true) s = .next t
      ∧ t.wpc.highLevel = true ∧ t.wpc.fill = none ∧ t.wpc.holder = .none ∧ t.wpc.inletValve = false
      ∧ t.wpc.fillTimer = none ∧ t.wpc.grantCount = s.wpc.grantCount
      ∧ t.wpc.burst = s.wpc.burst.map burstBegun
      ∧ t.sfu.fill = closedRecord s.sfu
      ∧ t.seq.state = .running ∧ (t.seq.sub = .dose ∨ t.seq.sub = .heat ∨ t.seq.sub = .circulate)
      ∧ t.seq.idx = s.seq.idx ∧ t.seq.summary = s.seq.summary ∧ t.czs.pump = true
      ∧ (w.refs = [] → w.target = 0 → t.seq.sub = .circulate ∧ t.seq.holdTimer = 0)
      ∧ (s.dsu.state = .idle → s.dsu.batch = [] → s.dsu.waiting = [] → s.dsu.next < 256 →
        w.refs.length ≤ 2 → (w.refs.map (·.channel)).Nodup → dosesAsked s w t.sfu.fill.v t.sfu.fill.hFill ≠ [] →
        t.seq.sub = .dose ∧ t.dsu = { s.dsu with
          state := .gathering, windowLeft := 2
          waiting := doseRequests s (dosesAsked s w t.sfu.fill.v t.sfu.fill.hFill)
          next := (s.dsu.next + (dosesAsked s w t.sfu.fill.v t.sfu.fill.hFill).length) % 256 })
      ∧ writeAsked .columns t = true ∧ t.rst.history = s.rst.history ∧ t.part = s.part ∧ t.ddu = s.ddu := by
  obtain ⟨-, hm⟩ := fill_running hs hq
  have hx := level_ends ha hq hl hh
  have hg := (waterKept_exec hs hx).1
  have hqu : (levelRead true s).wpc.fill = some q := hq
  rw [endFill_main hqu .highLevel hk] at hx hg
  obtain ⟨f, hf⟩ := concludeFill_marks s (grantOver .main .highLevel (levelRead true s))
  rw [hf] at hx hg
  obtain ⟨y, hy⟩ : ∃ y, grantOver .main .highLevel (levelRead true s) = y := ⟨_, rfl⟩
  have yw : y.wpc = { unfilled s.wpc with highLevel := true } := hy ▸ rfl
  have yk : y.part = s.part ∧ y.seq = s.seq ∧ y.sfu = s.sfu ∧ y.cfg = s.cfg ∧ y.dsu = s.dsu ∧ y.ddu = s.ddu ∧ y.rst = s.rst :=
    hy ▸ ⟨rfl, rfl, rfl, rfl, rfl, rfl, rfl⟩
  have yr : y.reports = [.fillEnded .main .highLevel s.wpc.grantCount] := by
    rw [← hy]
    exact congrArg (· ++ [Report.fillEnded .main .highLevel s.wpc.grantCount]) ha.2.2
  rw [hy] at hx hg
  obtain ⟨y1, y2, y3, y4, y5, y6, y7⟩ := yk
  obtain ⟨v, k⟩ := fill_ends hw0 (.inl rfl) (by rw [y1]; exact ha.2.1) yr (by rw [runningIn, y2]; exact hm hk)
    (by rw [currentWash_congr (s := s) (by rw [y2]) (by rw [y2])]; exact hw) (by rw [yw]; rfl) (concludes_conclude y)
  have th : (conclude y).wpc.holder = .none := (concludes_conclude y).settled.holder_none k.warm.dry (k.moves.free (by rw [yw]; nofun))
  have trec := k.record
  rw [y3] at trec
  have tasked := k.asked (by rw [y3]; exact ho)
  have tdose := fun a b c d e f g => k.doses (s := s) ⟨y4, y5, y6, by rw [y2], by rw [y2]⟩ a b c d e f g
  obtain ⟨t, ht⟩ : ∃ t, conclude y = t := ⟨_, rfl⟩
  rw [ht] at hx hg k th trec tasked tdose
  obtain ⟨-, -, g3, -, g5, -⟩ := hg
  have g3 : t.wpc.inletValve = (t.wpc.holder != .none) := g3
  have g5 : t.wpc.fillTimer.isSome = (t.wpc.holder == .fill) := g5
  rw [th] at g3 g5
  refine ⟨_, hx, ?_, k.warm.fill, th, g3, Option.not_isSome_iff_eq_none.mp (by simp [g5]), ?_, ?_, trec, k.warm.running, k.warm.sub, ?_, ?_,
    k.pump, k.circulates, tdose, tasked, ?_, k.moves.part.trans y1, k.moves.ddu.trans y6⟩
  · exact k.high.trans (by rw [yw])
  · exact k.moves.count.trans (by rw [yw]; rfl)
  · exact k.moves.burst.trans (by rw [yw]; rfl)
  · exact k.moves.idx.trans (by rw [y2])
  · exact k.warm.summary.trans (by rw [y2])
  · exact k.moves.history.trans (by rw [y7])

end

end Sys2Proof.Proofs
end


section
/-! PROOFS. A fill asked again after the water wait (R10, R41, R49), and the statement of stray flow and the water switches settled
(O30). -/

/- One theorem at a time, as the tests have it: proofs that wait for the kernel cost a thread each. -/
set_option Elab.async false

namespace Sys2Proof.Proofs

open Sys2Proof.Machine
open Sys2Proof.Safety

/-- The phase back in FILL, its wait for water over. -/
def waited (s : State) : State := seqTo .running .fill (onSeq (fun q => { q with waterWait := none }) s)

section
variable {s : State} (ha : Awake s) (hs : Sound s) (hst : s.seq.state = .waitWater) {w : WashRecord} (hw : currentWash s = some w)
include ha hs hst hw

omit hs in
theorem wait_expires : exec .waterWaitExpiry s = .next (conclude (placeFill (w.fillVolume - s.sfu.fill.v) .main (waited s))) := by
  show execWaterWaitExpiry s = _
  simp [execWaterWaitExpiry, whenPowered, ha.1, hw, hst]
  rfl

theorem asks_waited : Asks w (waited s) ∧ GrantsAgree (waited s) ∧ s.wpc.inhibit = false := by
  obtain ⟨h1, -, -, -, h5, -⟩ := Laws.sound_waterKept hs
  have hf : s.wpc.fill = none := by
    cases hq : s.wpc.fill with
    | none => rfl
    | some q =>
      have hr := h1 (by rw [hq]; rfl)
      simp [runningIn, hst] at hr
  have hi : s.wpc.inhibit = false := by
    cases hx : s.wpc.inhibit with
    | false => rfl
    | true => exact absurd hst (h5 hx).1
  exact ⟨⟨ha.2.1, ha.2.2, rfl, hw, hf⟩, grantsAgree_congr (s := s) rfl rfl (Laws.sound_grantsAgree hs), hi⟩

/-- Behind a drain burst the fill waits (R38, R49). -/
theorem wait_defers (hb : s.wpc.burst.isSome = true) :
    ∃ t, exec .waterWaitExpiry s = .next t
      ∧ t.wpc.fill = some ⟨w.fillVolume - s.sfu.fill.v, .main, false⟩ ∧ t.wpc.holder = .none
      ∧ t.wpc.inletValve = false ∧ t.wpc.burst = s.wpc.burst ∧ t.sfu.fill = s.sfu.fill
      ∧ t.seq = { s.seq with state := .running, sub := .fill, waterWait := none, permit := false }
      ∧ t.rst.history = s.rst.history ∧ t.part = s.part ∧ t.dsu = s.dsu ∧ t.ddu = s.ddu := by
  obtain ⟨h1, h2, h3⟩ := asks_waited ha hs hst hw
  obtain ⟨k, kg, -⟩ := fill_waits h1 h2 h3 hb (concludes_conclude (placeFill (w.fillVolume - s.sfu.fill.v) .main (waited s)))
  obtain ⟨w1, w2, w3⟩ := k.wpc
  exact ⟨_, wait_expires ha hst hw, w1, w2, w3, kg.burst, k.drifts.record.1, k.seq, kg.history, kg.part, k.drifts.dsu, kg.ddu⟩

/-- Under the high level the fill is over at once (R41). -/
theorem wait_over (hl : s.wpc.highLevel = true) (hb : s.wpc.burst = none) (ho : s.sfu.fill.isOpen = true) (hh : 0 < w.holdTime) :
    ∃ t, exec .waterWaitExpiry s = .next t
      ∧ t.wpc.fill = none ∧ t.wpc.holder = .none ∧ t.wpc.inletValve = false ∧ t.wpc.fillTimer = none
      ∧ t.wpc.grantCount = 0 ∧ t.sfu.fill = closedRecord s.sfu
      ∧ t.seq.state = .running ∧ (t.seq.sub = .dose ∨ t.seq.sub = .heat ∨ t.seq.sub = .circulate)
      ∧ t.seq.waterWait = none ∧ t.seq.idx = s.seq.idx ∧ t.seq.summary = s.seq.summary
      ∧ writeAsked .columns t = true ∧ t.rst.history = s.rst.history ∧ t.part = s.part ∧ t.ddu = s.ddu := by
  obtain ⟨h1, h2, h3⟩ := asks_waited ha hs hst hw
  have hx := wait_expires ha hst hw
  obtain ⟨-, -, -, -, g5, -⟩ := (waterKept_exec hs hx).1
  obtain ⟨k, kg, -⟩ := fill_over h1 h2 h3 hb hl hh (concludes_conclude (placeFill (w.fillVolume - s.sfu.fill.v) .main (waited s)))
  have he : placeFill (w.fillVolume - s.sfu.fill.v) .main (waited s) = closeInlet (onWpc (fun w => { w with fill := none })
      (report (.fillEnded .main .highLevel 0) (granted ⟨w.fillVolume - s.sfu.fill.v, .main, false⟩ (waited s)))) := by
    have hi : (waited s).wpc.inhibit = false := h3
    have hbw : (waited s).wpc.burst = none := hb
    have hlw : (waited s).wpc.highLevel = true := hl
    rw [placeFill_meets _ _ h1.fill hi hbw, hlw, if_pos rfl, endFill_granted hbw]
  have hwets : Wets (waited s) (placeFill (w.fillVolume - s.sfu.fill.v) .main (waited s)) := by
    rw [he]
    exact (((granted_wets ⟨w.fillVolume - s.sfu.fill.v, .main, false⟩ (waited s)).report _).setFill none).closeInlet
  have hrep : (placeFill (w.fillVolume - s.sfu.fill.v) .main (waited s)).reports = [.fillEnded .main .highLevel 0] := by
    rw [he]
    exact congrArg (· ++ [Report.fillEnded .main .highLevel 0]) ((revokeRegen_reports (waited s)).trans h1.reports)
  have hnf : (placeFill (w.fillVolume - s.sfu.fill.v) .main (waited s)).wpc.fill = none := by rw [he]; rfl
  have hsf : (placeFill (w.fillVolume - s.sfu.fill.v) .main (waited s)).sfu = s.sfu := by
    rw [he]
    exact (revokeRegen_yields (waited s)).2.2.2.2.1
  obtain ⟨y, hy⟩ : ∃ y, placeFill (w.fillVolume - s.sfu.fill.v) .main (waited s) = y := ⟨_, rfl⟩
  rw [hy] at hx k kg hwets hrep hnf hsf g5
  obtain ⟨v, e⟩ := fill_ends hh (.inl rfl) (by rw [hwets.part]; exact ha.2.1) hrep (by rw [hwets.runningIn]; exact h1.running)
    (by rw [hwets.currentWash]; exact h1.wash) hnf (concludes_conclude y)
  have g5 : (conclude y).wpc.fillTimer.isSome = ((conclude y).wpc.holder == .fill) := g5
  rw [k.holder] at g5
  refine ⟨_, hx, k.fill, k.holder, k.inlet, Option.not_isSome_iff_eq_none.mp (by simp [g5]), k.count, k.record, k.running, k.sub, ?_,
    kg.idx, k.summary, e.asked (by rw [hsf]; exact ho), kg.history, kg.part, kg.ddu⟩
  rw [e.waterWait, hwets.seq]
  rfl

end

/-- The delivered hardness of a record that was open (R67). -/
theorem closedRecord_open {f : Sfu} (h : f.fill.isOpen = true) : closedRecord f = { f.fill with
    isOpen := false
    hFill := if f.fill.v = 0 then f.hRaw else (f.fill.g + 500 * f.fill.v) / (1000 * f.fill.v) } := by
  unfold closedRecord
  rw [if_pos h]
  rfl

/-- Settles O30: what a pulse without a holder, the water switches and the conditions of a grant do, case by case. -/
theorem strayFlowAndTheWaterSwitches : Obligations.StrayFlowAndTheWaterSwitches := by
  unfold Obligations.StrayFlowAndTheWaterSwitches
  refine ⟨fun s h hh hk hr => ⟨stray_counts h hh hk hr, stray_leaks h hh hk hr⟩, fun b s => ⟨fun h => ?_, fun h hs =>
      switches_unsensed h hs b, fun ha hg hl hf he => level_revokes ha hg hl hf he⟩, fun s ha hs => ⟨fun hl q hq hh => ?_,
      fun hst hl hb ho w hw h0 => ?_, fun hst hb w hw => wait_defers ha hs hst hw hb⟩, fun s ha hs hf =>
    ⟨fun hp hd => ⟨fun _ hi => sump_falls ha hs hf hp hd hi, fun _ h1 h2 h3 => sump_returns ha hs hf hp hd h1 h2 h3⟩,
      level_returns ha hs hf, fun n hq h1 h2 hd hp => flood_ends ha hs hf hq h1 h2 hd hp, fun hd h1 h2 d hsd =>
      ⟨fun ⟨n, hst⟩ hse => pump_stops ha hs hd h1 h2 hsd hst hse,
        fun ⟨n, hst⟩ f1 f2 f3 => pump_starts ha hs hd h1 h2 hsd hst f1 f2 f3⟩⟩⟩
  · exact ⟨sump_rests h b, cover_rests h b, level_rests h b, leak_ends h⟩
  · refine ⟨fun hk ho w hw h0 => ?_, fun hk => level_ends_topUp ha hs hq hl hh hk⟩
    obtain ⟨t, hx, e1, e2, e3, e4, e5, e6, e7, e8, e9, e10, e11, e12, e13, e14, e15, e16⟩ :=
      level_ends_main ha hs hq hl hh hk ho hw h0
    rw [closedRecord_open ho] at e8
    exact ⟨t, hx, e1, e2, e3, e4, e5, e6, e7, e8, e9, e10, e11, e12, e13, e14, fun _ => e15, e16⟩
  · rw [← closedRecord_open ho]
    exact wait_over ha hs hst hw hl hb ho h0

end Sys2Proof.Proofs
end


section
/-! PROOFS. The millilitres of a pulse of a FILL grant (R34, R35): what they leave of the part, and what its water path makes of them. -/

/- One theorem at a time, as the tests have it: proofs that wait for the kernel cost a thread each. -/
set_option Elab.async false

namespace Sys2Proof.Proofs

open Sys2Proof.Machine
open Sys2Proof.Safety

/-! ## One millilitre after the other -/

/-- A millilitre of a FILL grant is counted, and the water of the program with it (R31, R35). -/
def watered (s : State) : State :=
  onSeq (fun q => { q with summary := { q.summary with water := q.summary.water + 1 } }) (tallied (shared s))

/-- The part with `i` millilitres of a pulse handed to the softener (R35, R59). -/
def pouring (k : FillKind) : Nat → State → State
  | 0, s => onWpc (fun w => { w with residue := w.residue + 1000 }) s
  | i + 1, s => accountMl k ((watered (pouring k i s)).wpc.grantCount == 1) (watered (pouring k i s))

/-- `x` is the part with `i` millilitres of a pulse handed to the softener: the meter's and the softener's fields, the summary, the
notices and the writes asked may have changed. -/
structure Poured (i : Nat) (s x : State) : Prop where
  rest : x = { s with
    wpc := { s.wpc with residue := s.wpc.residue + 1000 - i * s.wpc.latchedK, grantCount := s.wpc.grantCount + i }
    sfu := x.sfu, lnk := x.lnk, rst := x.rst, seq := { s.seq with summary := x.seq.summary } }
  opened : x.sfu.fill.isOpen = s.sfu.fill.isOpen

theorem Poured.zero (s : State) : Poured 0 s (onWpc (fun w => { w with residue := w.residue + 1000 }) s) :=
  ⟨by rw [Nat.zero_mul]; rfl, rfl⟩

namespace Poured

variable {i : Nat} {s x : State} (h : Poured i s x)
include h

theorem wpc : x.wpc = { s.wpc with
    residue := s.wpc.residue + 1000 - i * s.wpc.latchedK, grantCount := s.wpc.grantCount + i } := by rw [h.rest]

/-- What a millilitre takes from the residue and adds to the grant's count. -/
theorem watered (hg : s.wpc.grantCount + i < 65535) : Poured (i + 1) s (watered x) := by
  have h1 : s.wpc.residue + 1000 - i * s.wpc.latchedK - s.wpc.latchedK = s.wpc.residue + 1000 - (i + 1) * s.wpc.latchedK := by
    rw [Nat.add_mul, Nat.one_mul]
    omega
  have h2 : min 65535 (s.wpc.grantCount + i + 1) = s.wpc.grantCount + (i + 1) := by omega
  refine ⟨?_, h.opened⟩
  obtain ⟨a, ha⟩ : ∃ a, x.sfu = a := ⟨_, rfl⟩
  rw [h.rest]
  simp only [Proofs.watered, tallied, shared, onWpc, onSeq, h1, h2]

theorem accounts {y : State} (k : Accounts x y) : Poured i s y := by
  refine ⟨?_, k.opened.trans h.opened⟩
  have hk := k.rest
  rw [h.rest] at hk
  exact hk

theorem holder : x.wpc.holder = s.wpc.holder := by rw [h.wpc]

theorem fill : x.wpc.fill = s.wpc.fill := by rw [h.wpc]

theorem count : x.wpc.grantCount = s.wpc.grantCount + i := by rw [h.wpc]

theorem residue : x.wpc.residue = s.wpc.residue + 1000 - i * s.wpc.latchedK := by rw [h.wpc]

theorem latchedK : x.wpc.latchedK = s.wpc.latchedK := by rw [h.wpc]

end Poured

theorem poured_pouring (k : FillKind) {i : Nat} {s : State} (hg : s.wpc.grantCount + i ≤ 65535) : Poured i s (pouring k i s) := by
  induction i with
  | zero => exact .zero s
  | succ i ih => exact ((ih (by omega)).watered (by omega)).accounts ((Accounts.refl _).accountMl k _)

/-- The first millilitre of a grant is the one that makes its count 1 (R60). -/
theorem pouring_succ (k : FillKind) {i : Nat} {s : State} (hg : s.wpc.grantCount + i < 65535) :
    pouring k (i + 1) s = accountMl k (s.wpc.grantCount + i == 0) (watered (pouring k i s)) := by
  have hc := ((poured_pouring k (by omega)).watered hg).count
  show accountMl k ((watered (pouring k i s)).wpc.grantCount == 1) _ = _
  have hb : (s.wpc.grantCount + i + 1 == 1) = (s.wpc.grantCount + i == 0) := by
    rw [Bool.eq_iff_iff, beq_iff_eq, beq_iff_eq]
    omega
  rw [hc, ← Nat.add_assoc, hb]

/-! ## The pulse (R35, R41) -/

section
variable {n : Nat} {s : State} (h : Pulsed n s) {q : FillReq} (hq : s.wpc.fill = some q) (hh : s.wpc.holder = .fill)
include h hq hh

theorem fill_emits {i : Nat} (hi : i < n) : Emits .fill (pouring q.kind i s)
    (if q.target ≤ s.wpc.grantCount + (i + 1) then endFill .volumeReached (pouring q.kind (i + 1) s)
      else pouring q.kind (i + 1) s) := by
  have hc := h.counts hi
  have k := poured_pouring q.kind (s := s) (i := i) (by omega)
  have k1 := poured_pouring q.kind (s := s) (i := i + 1) (by omega)
  refine ⟨k.holder.trans hh, ?_, ?_⟩
  · rw [k.residue, k.latchedK]
    exact h.share hi
  · rw [grantMl_fill (s := shared (pouring q.kind i s)) (k.holder.trans hh) (k.fill.trans hq)]
    show (if q.target ≤ (pouring q.kind (i + 1) s).wpc.grantCount then endFill .volumeReached (pouring q.kind (i + 1) s)
      else pouring q.kind (i + 1) s) = _
    rw [k1.count]

theorem fill_pours (ht : s.wpc.grantCount + n < q.target) : meterPulse s = pouring q.kind n s := by
  have hm := h.most
  have hc := h.count
  refine meterPulse_goes_on (f := fun i => pouring q.kind i s) (by simp [hh]) (by omega) rfl (fun i hi => ?_) ?_
  · have k := fill_emits h hq hh hi
    rw [if_neg (by omega)] at k
    rw [hh]
    exact k
  · have k := poured_pouring q.kind (s := s) (i := n) (by omega)
    rw [k.residue, k.latchedK]
    exact h.rest

theorem fill_reached (h0 : s.wpc.grantCount < q.target) (ht : q.target ≤ s.wpc.grantCount + n) :
    meterPulse s = endFill .volumeReached (pouring q.kind (q.target - s.wpc.grantCount) s) := by
  obtain ⟨k, hk⟩ : ∃ k, q.target = s.wpc.grantCount + (k + 1) := ⟨q.target - s.wpc.grantCount - 1, by omega⟩
  have hm := h.most
  rw [show q.target - s.wpc.grantCount = k + 1 by omega]
  refine meterPulse_ends (f := fun i => pouring q.kind i s) (k := k) (by simp [hh]) (by omega) rfl (fun i hi => ?_) ?_ ?_
  · have e := fill_emits h hq hh (i := i) (by omega)
    rw [if_neg (by omega)] at e
    rw [hh]
    exact e
  · have e := fill_emits h hq hh (i := k) (by omega)
    rw [if_pos (by omega)] at e
    rw [hh]
    exact e
  · have hc := h.count
    have hf : (pouring q.kind (k + 1) s).wpc.fill = some q := (poured_pouring q.kind (by omega)).fill.trans hq
    rw [hh]
    cases hk : q.kind with
    | main =>
      rw [hk] at hf
      rw [endFill_main hf .volumeReached hk]
      nofun
    | topUp =>
      rw [hk] at hf
      rw [endFill_topUp hf .volumeReached hk, ((Serves.refl _).endTopUp).wpc]
      nofun

end

end Sys2Proof.Proofs
end


section
/-! PROOFS. A millilitre at the softener (R59 to R62): it leaves the serving column, charges it, breaks through or exhausts it. -/

/- One theorem at a time, as the tests have it: proofs that wait for the kernel cost a thread each. -/
set_option Elab.async false

namespace Sys2Proof.Proofs

open Sys2Proof.Machine
open Sys2Proof.Safety

/-! ## The softener's fields -/

/-- A millilitre is counted to the open record, or to the top-up's volume (R59, R60). -/
def measure (k : FillKind) (first : Bool) (f : Sfu) : Sfu :=
  match k with
  | .main => { f with fill := { f.fill with v := f.fill.v + 1 } }
  | .topUp => { f with
      topUpCount := if first then 1 else f.topUpCount + 1, topUpMark := if first then false else f.topUpMark }

/-- The record's G has grown by `n` millilitres of this share; a top-up leaves it (R59, R60). -/
def grown (k : FillKind) (n share : Nat) (f : Sfu) : Sfu :=
  match k with
  | .main => { f with fill := { f.fill with g := f.fill.g + n * (f.hRaw * share) } }
  | .topUp => f

/-- The hundredths of capacity that `n` softened millilitres ask, the residue among them (R59). -/
def charge (n : Nat) (f : Sfu) : Nat := f.rho + n * (f.hRaw * (1000 - f.blend))

/-- The column has been charged with `n` millilitres through the residue (R59). -/
def drawn (col : Column) (n : Nat) (f : Sfu) : Sfu :=
  { setColumnRec f col { columnRec f col with remaining := (columnRec f col).remaining - charge n f / 100 } with
    rho := charge n f % 100 }

theorem addG_grown (k : FillKind) (share : Nat) (s : State) : addG k share s = onSfu (grown k 1 share) s := by
  cases k with
  | main =>
    show _ = onSfu (fun f => grown .main 1 share f) s
    simp only [grown, Nat.one_mul]
    rfl
  | topUp => rfl

theorem setColumnRec_self {f : Sfu} {col : Column} (h : Recorded f col) : setColumnRec f col (columnRec f col) = f := by
  cases col with
  | a => rfl
  | b => rfl
  | c =>
    obtain ⟨r, hr⟩ := Option.isSome_iff_exists.mp (h rfl)
    have hm : f.colC.map (fun _ => f.colC.getD {}) = f.colC := by simp [hr]
    show { f with colC := f.colC.map fun _ => f.colC.getD {} } = f
    rw [hm]

/-- The columns and their places stand: the fill record and the top-up's fields apart the softener is as it was. -/
def SameColumns (f g : Sfu) : Prop := g = { f with fill := g.fill, topUpCount := g.topUpCount, topUpMark := g.topUpMark }

theorem SameColumns.keeps {f g : Sfu} (h : SameColumns f g) : g.service = f.service ∧ g.valveFault = f.valveFault
    ∧ g.blend = f.blend ∧ g.ready = f.ready ∧ (∀ col, columnRec g col = columnRec f col) ∧ (∀ n, charge n g = charge n f) := by
  refine ⟨?_, ?_, ?_, ?_, fun col => ?_, fun n => ?_⟩ <;> rw [show g = _ from h]
  · cases col <;> rfl
  · rfl

theorem Recorded.same {f g : Sfu} {col : Column} (h : Recorded f col) (k : SameColumns f g) : Recorded g col := by
  unfold Recorded
  rw [show g = _ from k]
  exact h

theorem SameColumns.trans {f g u : Sfu} (h : SameColumns f g) (k : SameColumns g u) : SameColumns f u := by
  unfold SameColumns at h k ⊢
  rw [h] at k
  exact k

theorem SameColumns.measure (k : FillKind) (b : Bool) (f : Sfu) : SameColumns f (measure k b f) := by cases k <;> rfl

theorem SameColumns.grown (k : FillKind) (n share : Nat) (f : Sfu) : SameColumns f (grown k n share f) := by cases k <;> rfl

theorem accountMl_eq (k : FillKind) (b : Bool) (s : State) :
    accountMl k b s = exhaustionCheck (softenMl k (onSfu (measure k b) s)) := by
  cases k with
  | main => rfl
  | topUp => cases b <;> rfl

/-! ## The exhaustion check (R62) -/

theorem exhaustionCheck_passes {s : State} (h : s.sfu.service = none ∨ s.sfu.valveFault = true ∨ ∃ col, s.sfu.service = some col
    ∧ (s.cfg.reserve < (columnRec s.sfu col).remaining ∨ (columnRec s.sfu col).exhausted = true)) : exhaustionCheck s = s := by
  unfold exhaustionCheck
  split
  · rfl
  · next col hc =>
    have hn : (!s.sfu.valveFault && decide ((columnRec s.sfu col).remaining ≤ s.cfg.reserve) && !(columnRec s.sfu col).exhausted) = false := by
      rcases h with h | h | ⟨x, hx, h⟩
      · simp [hc] at h
      · simp [h]
      · obtain rfl : x = col := Option.some_inj.mp (hx.symm.trans hc)
        rcases h with h | h
        · simp [Nat.not_le.mpr h]
        · simp [h]
    dsimp only
    rw [hn]
    rfl

theorem exhaustionCheck_exhausts {s : State} {col : Column} (hc : s.sfu.service = some col) (hv : s.sfu.valveFault = false)
    (hr : (columnRec s.sfu col).remaining ≤ s.cfg.reserve) (he : (columnRec s.sfu col).exhausted = false) :
    exhaustionCheck s = if s.sfu.ready.isEmpty then markExhausted col s else switchService .exhausted (markExhausted col s) := by
  unfold exhaustionCheck
  rw [hc]
  dsimp only
  rw [hv, he, decide_eq_true hr]
  have hm : (markExhausted col s).sfu.ready = s.sfu.ready := (setColumnRec_places s.sfu col _).2.1
  rw [hm]
  rfl

/-! ## A millilitre that leaves the column, and one that charges it (R59) -/

/-- A millilitre leaves the column: in bypass service, under a valve fault, or with a latched b of 1000. -/
def Leaves (s : State) : Prop :=
  s.sfu.service = none ∨ s.sfu.valveFault = true ∨ (∃ col, s.sfu.service = some col ∧ 1000 ≤ s.sfu.blend
    ∧ 0 < (columnRec s.sfu col).remaining
    ∧ (s.cfg.reserve < (columnRec s.sfu col).remaining ∨ (columnRec s.sfu col).exhausted = true))

theorem softenMl_leaves {s : State} (k : FillKind) (h : s.sfu.service = none ∨ s.sfu.valveFault = true
    ∨ ∃ col, s.sfu.service = some col ∧ 1000 ≤ s.sfu.blend ∧ 0 < (columnRec s.sfu col).remaining) :
    softenMl k s = onSfu (grown k 1 1000) s := by
  rw [← addG_grown]
  unfold softenMl
  rcases h with h | h | ⟨col, h1, h2, h3⟩
  · rw [h]
  · split
    · rfl
    · rw [if_pos h]
  · rw [h1]
    dsimp only
    rw [if_neg (Nat.pos_iff_ne_zero.mp h3), if_neg (Nat.not_lt.mpr h2), ite_self]

theorem Leaves.same {s x : State} (h : Leaves s) (hf : SameColumns s.sfu x.sfu) (hc : x.cfg = s.cfg) : Leaves x := by
  obtain ⟨k1, k2, k3, -, k5, -⟩ := hf.keeps
  unfold Leaves
  simp only [k1, k2, k3, k5, hc]
  exact h

theorem accountMl_leaves {s : State} (k : FillKind) (b : Bool) (h : Leaves s) :
    accountMl k b s = onSfu (fun f => grown k 1 1000 (measure k b f)) s := by
  have h1 : Leaves (onSfu (measure k b) s) := h.same (SameColumns.measure k b s.sfu) rfl
  have h2 : Leaves (onSfu (fun f => grown k 1 1000 (measure k b f)) s) :=
    h.same ((SameColumns.measure k b s.sfu).trans (.grown k 1 1000 _)) rfl
  rw [accountMl_eq, softenMl_leaves k (h1.imp_right (.imp_right fun ⟨col, a, b, c, _⟩ => ⟨col, a, b, c⟩))]
  exact exhaustionCheck_passes (s := onSfu (fun f => grown k 1 1000 (measure k b f)) s)
    (h2.imp_right (.imp_right fun ⟨col, a, _, _, d⟩ => ⟨col, a, d⟩))

theorem chargeColumn_drawn (col : Column) (s : State) : chargeColumn col s = onSeq (drawFrom col) (onSfu (drawn col 1) s) := by
  have hx : charge 1 s.sfu = s.sfu.rho + s.sfu.hRaw * (1000 - s.sfu.blend) := by rw [charge, Nat.one_mul]
  unfold chargeColumn
  rw [← hx]
  rfl

section
variable {s : State} {col : Column} (k : FillKind) (hc : s.sfu.service = some col) (hv : s.sfu.valveFault = false)
  (h0 : 0 < (columnRec s.sfu col).remaining)
include hc hv h0

theorem softenMl_charges (hb : s.sfu.blend < 1000) :
    softenMl k s = onSeq (drawFrom col) (onSfu (fun f => grown k 1 s.sfu.blend (drawn col 1 f)) s) := by
  unfold softenMl
  rw [hc]
  dsimp only
  rw [hv, if_neg Bool.false_ne_true, if_neg (Nat.pos_iff_ne_zero.mp h0), if_pos hb, addG_grown, chargeColumn_drawn]
  rfl

omit hc hv h0 in
/-- With a latched b of 1000 a residue below 100 charges nothing. -/
theorem drawn_whole (hb : s.sfu.blend = 1000) (hr : s.sfu.rho < 100) (hrec : Recorded s.sfu col) : drawn col 1 s.sfu = s.sfu := by
  have hx : charge 1 s.sfu = s.sfu.rho := by simp [charge, hb]
  unfold drawn
  rw [hx, Nat.mod_eq_of_lt hr, Nat.div_eq_of_lt hr]
  show { setColumnRec s.sfu col (columnRec s.sfu col) with rho := s.sfu.rho } = s.sfu
  rw [setColumnRec_self hrec]

/-- A millilitre that charges the column, or leaves its residue with a latched b of 1000, has been charged. -/
theorem softenMl_draws (hrec : Recorded s.sfu col) (hb : s.sfu.blend < 1000 ∨ (s.sfu.blend = 1000 ∧ s.sfu.rho < 100)) :
    ∃ m, softenMl k s = onSeq (fun q => { q with summary := m }) (onSfu (fun f => grown k 1 s.sfu.blend (drawn col 1 f)) s) := by
  rcases hb with hb | ⟨hb, hr⟩
  · have hd : drawFrom col s.seq = { s.seq with summary := (drawFrom col s.seq).summary } := by
      unfold drawFrom
      split <;> rfl
    exact ⟨(drawFrom col s.seq).summary, (softenMl_charges k hc hv h0 hb).trans
      (congrArg (fun q => { onSfu (fun f => grown k 1 s.sfu.blend (drawn col 1 f)) s with seq := q }) hd)⟩
  · refine ⟨s.seq.summary, (softenMl_leaves k (.inr (.inr ⟨col, hc, by omega, h0⟩))).trans ?_⟩
    show _ = onSfu (fun _ => grown k 1 s.sfu.blend (drawn col 1 s.sfu)) s
    rw [drawn_whole hb hr hrec, hb]
    rfl

end

/-! ## The column charged (R59, R62) -/

theorem drawn_rec {f : Sfu} {col : Column} (n : Nat) (h : Recorded f col) :
    columnRec (drawn col n f) col = { columnRec f col with remaining := (columnRec f col).remaining - charge n f / 100 } := by
  have hx := columnRec_set { columnRec f col with remaining := (columnRec f col).remaining - charge n f / 100 } h
  rw [← hx]
  cases col <;> rfl

theorem drawn_places (col : Column) (n : Nat) (f : Sfu) : (drawn col n f).service = f.service
    ∧ (drawn col n f).valveFault = f.valveFault ∧ (drawn col n f).ready = f.ready := by cases col <;> exact ⟨rfl, rfl, rfl⟩

section
variable {s : State} {col : Column} (k : FillKind) (b : Bool) (hc : s.sfu.service = some col) (hv : s.sfu.valveFault = false)
include hc hv

theorem accountMl_charges (h0 : 0 < (columnRec s.sfu col).remaining) (hb : s.sfu.blend < 1000) (hrec : Recorded s.sfu col)
    (hn : s.cfg.reserve < (columnRec s.sfu col).remaining - charge 1 s.sfu / 100) :
    accountMl k b s
      = onSeq (drawFrom col) (onSfu (fun f => grown k 1 s.sfu.blend (drawn col 1 (measure k b f))) s) := by
  obtain ⟨m1, m2, m3, -, m5, m6⟩ := (SameColumns.measure k b s.sfu).keeps
  obtain ⟨d1, -⟩ := drawn_places col 1 (measure k b s.sfu)
  obtain ⟨g1, -, -, -, g5, -⟩ := (SameColumns.grown k 1 s.sfu.blend (drawn col 1 (measure k b s.sfu))).keeps
  have hx := softenMl_charges (s := onSfu (measure k b) s) k (m1.trans hc) (m2.trans hv) (by rw [Laws.onSfu_sfu, m5]; exact h0)
    (m3.trans_lt hb)
  rw [Laws.onSfu_sfu, m3] at hx
  have hg := g5 col
  rw [drawn_rec 1 (hrec.same (.measure k b s.sfu)), m5 col, m6 1] at hg
  rw [accountMl_eq, hx]
  refine exhaustionCheck_passes (s := onSeq (drawFrom col) (onSfu (fun f => grown k 1 s.sfu.blend (drawn col 1 (measure k b f))) s))
    (.inr (.inr ⟨col, g1.trans (d1.trans (m1.trans hc)), .inl ?_⟩))
  rw [show columnRec (onSeq (drawFrom col) (onSfu (fun f => grown k 1 s.sfu.blend (drawn col 1 (measure k b f))) s)).sfu col = _ from hg]
  exact hn

end

end Sys2Proof.Proofs
end


section
/-! PROOFS. A millilitre through an empty column, and the one that exhausts its column (R61 to R63). -/

/- One theorem at a time, as the tests have it: proofs that wait for the kernel cost a thread each. -/
set_option Elab.async false

namespace Sys2Proof.Proofs

open Sys2Proof.Machine
open Sys2Proof.Safety

/-! ## A breakthrough (R61) -/

/-- A breakthrough millilitre is counted to the program. -/
def broken (q : Seq) : Seq := { q with summary := { q.summary with breakthrough := q.summary.breakthrough + 1 } }

/-- `n` breakthrough millilitres are counted to the open record. -/
def brokenFill (n : Nat) (f : Sfu) : Sfu := { f with fill := { f.fill with breakthrough := f.fill.breakthrough + n } }

/-- A top-up's breakthrough has been told of. -/
def topUpTold (f : Sfu) : Sfu := { f with topUpMark := true }

theorem breakthroughMl_main (col : Column) (s : State) : breakthroughMl .main col s
    = if s.sfu.fill.breakthrough = 0 then raiseNotice (.breakthrough col .main s.sfu.fill.v) (onSeq broken (onSfu (brokenFill 1) s))
      else onSeq broken (onSfu (brokenFill 1) s) := by
  show (if (s.sfu.fill.breakthrough == 0) = true then
      raiseNotice (.breakthrough col .main s.sfu.fill.v) (onSeq broken (onSfu (brokenFill 1) s))
    else onSeq broken (onSfu (brokenFill 1) s)) = _
  simp only [beq_iff_eq]

theorem breakthroughMl_topUp (col : Column) (s : State) : breakthroughMl .topUp col s
    = if s.sfu.topUpMark then onSeq broken s
      else raiseNotice (.breakthrough col .topUp s.sfu.topUpCount) (onSeq broken (onSfu topUpTold s)) := by
  rfl

/-- A breakthrough leaves the columns. -/
theorem breakthroughMl_same (k : FillKind) (col : Column) (s : State) :
    SameColumns s.sfu (breakthroughMl k col s).sfu ∧ (breakthroughMl k col s).cfg = s.cfg := by
  cases k with
  | main =>
    rw [breakthroughMl_main]
    split
    · rw [raiseNotice_rest]
      exact ⟨rfl, rfl⟩
    · exact ⟨rfl, rfl⟩
  | topUp =>
    rw [breakthroughMl_topUp]
    split
    · exact ⟨rfl, rfl⟩
    · rw [raiseNotice_rest]
      exact ⟨rfl, rfl⟩

section
variable {s : State} {col : Column} (k : FillKind) (b : Bool) (hc : s.sfu.service = some col) (hv : s.sfu.valveFault = false)
include hc hv

/-- Through an empty column that is marked exhausted. -/
theorem accountMl_breaks (h0 : (columnRec s.sfu col).remaining = 0) (he : (columnRec s.sfu col).exhausted = true) :
    accountMl k b s = breakthroughMl k col (onSfu (fun f => grown k 1 1000 (measure k b f)) s) := by
  obtain ⟨m1, m2, -, -, m5, -⟩ := (SameColumns.measure k b s.sfu).keeps
  have hx : softenMl k (onSfu (measure k b) s) = breakthroughMl k col (onSfu (fun f => grown k 1 1000 (measure k b f)) s) := by
    unfold softenMl
    rw [Laws.onSfu_sfu, m1, hc]
    dsimp only
    rw [m2, hv, if_neg Bool.false_ne_true, if_pos (by rw [m5]; exact h0), addG_grown]
    rfl
  obtain ⟨k1, k2⟩ := breakthroughMl_same k col (onSfu (fun f => grown k 1 1000 (measure k b f)) s)
  obtain ⟨y, hy⟩ : ∃ y, breakthroughMl k col (onSfu (fun f => grown k 1 1000 (measure k b f)) s) = y := ⟨_, rfl⟩
  rw [hy] at hx k1 k2
  obtain ⟨n1, -, -, -, n5, -⟩ := (((SameColumns.measure k b s.sfu).trans (.grown k 1 1000 _)).trans k1).keeps
  rw [accountMl_eq, hx, hy]
  exact exhaustionCheck_passes (.inr (.inr ⟨col, n1.trans hc, .inr (by rw [n5]; exact he)⟩))

end

/-! ## The column exhausted (R62) -/

/-- The column is marked exhausted with its charge. -/
def spentRec (col : Column) (f : Sfu) : Sfu :=
  { setColumnRec f col { columnRec f col with
      remaining := (columnRec f col).remaining - charge 1 f / 100, exhausted := true } with
    rho := charge 1 f % 100 }

theorem setColumnRec_measure (k : FillKind) (b : Bool) (f : Sfu) (col : Column) (r : ColRec) :
    setColumnRec (measure k b f) col r = measure k b (setColumnRec f col r) := by cases k <;> cases col <;> rfl

theorem setColumnRec_grown (k : FillKind) (n share : Nat) (f : Sfu) (col : Column) (r : ColRec) :
    setColumnRec (grown k n share f) col r = grown k n share (setColumnRec f col r) := by cases k <;> cases col <;> rfl

theorem drawn_measure (k : FillKind) (b : Bool) (f : Sfu) (col : Column) (n : Nat) :
    drawn col n (measure k b f) = measure k b (drawn col n f) := by cases k <;> cases col <;> rfl

theorem setColumnRec_drawn (f : Sfu) (col : Column) (n : Nat) (r : ColRec) :
    setColumnRec (drawn col n f) col r = { setColumnRec f col r with rho := charge n f % 100 } := by
  cases col with
  | a => rfl
  | b => rfl
  | c =>
    show { f with colC := (f.colC.map _).map _, rho := _ } = _
    rw [Option.map_map]
    rfl

/-- A column charged and marked is the column spent. -/
theorem marked_drawn {k : FillKind} {b : Bool} {share : Nat} {f g : Sfu} {col : Column} (h : Recorded f col)
    (hg : g = grown k 1 share (drawn col 1 (measure k b f))) :
    setColumnRec g col { columnRec g col with exhausted := true } = grown k 1 share (measure k b (spentRec col f)) := by
  obtain ⟨-, -, -, -, m5, -⟩ := (SameColumns.measure k b (drawn col 1 f)).keeps
  obtain ⟨-, -, -, -, g5, -⟩ := (SameColumns.grown k 1 share (measure k b (drawn col 1 f))).keeps
  rw [hg, drawn_measure, g5, m5, drawn_rec 1 h, setColumnRec_grown, setColumnRec_measure, setColumnRec_drawn]
  rfl

section
variable {s : State} {col : Column} (k : FillKind) (b : Bool) (hc : s.sfu.service = some col) (hv : s.sfu.valveFault = false)
  (hrec : Recorded s.sfu col)
include hc hv hrec

/-- The millilitre that brings the column to the switch reserve, or finds it there unmarked. -/
theorem accountMl_exhausts (h0 : 0 < (columnRec s.sfu col).remaining) (he : (columnRec s.sfu col).exhausted = false)
    (hb : s.sfu.blend < 1000 ∨ (s.sfu.blend = 1000 ∧ s.sfu.rho < 100))
    (hn : (columnRec s.sfu col).remaining - charge 1 s.sfu / 100 ≤ s.cfg.reserve) :
    ∃ m x, x = askWrite .columns (onSeq (fun q => { q with summary := m })
        (onSfu (fun f => grown k 1 s.sfu.blend (measure k b (spentRec col f))) s))
      ∧ accountMl k b s = if s.sfu.ready.isEmpty then x else switchService .exhausted x := by
  obtain ⟨m1, m2, m3, m4, m5, m6⟩ := (SameColumns.measure k b s.sfu).keeps
  have hx : ∃ m, softenMl k (onSfu (measure k b) s)
      = onSeq (fun q => { q with summary := m }) (onSfu (fun f => grown k 1 s.sfu.blend (drawn col 1 (measure k b f))) s) := by
    have hrho : (measure k b s.sfu).rho = s.sfu.rho := by cases k <;> rfl
    obtain ⟨m, hm⟩ := softenMl_draws (s := onSfu (measure k b) s) k (m1.trans hc) (m2.trans hv) (by rw [Laws.onSfu_sfu, m5]; exact h0)
      (hrec.same (.measure k b s.sfu)) (by rw [Laws.onSfu_sfu, m3, hrho]; exact hb)
    rw [Laws.onSfu_sfu, m3] at hm
    exact ⟨m, hm⟩
  obtain ⟨m, hm⟩ := hx
  obtain ⟨y, hy⟩ : ∃ y, onSeq (fun q => { q with summary := m })
      (onSfu (fun f => grown k 1 s.sfu.blend (drawn col 1 (measure k b f))) s) = y := ⟨_, rfl⟩
  have yf : y.sfu = grown k 1 s.sfu.blend (drawn col 1 (measure k b s.sfu)) := hy ▸ rfl
  have ym : markExhausted col y = askWrite .columns (onSeq (fun q => { q with summary := m })
      (onSfu (fun f => grown k 1 s.sfu.blend (measure k b (spentRec col f))) s)) := by
    rw [markExhausted, ← hy]
    exact congrArg (fun f => askWrite .columns (onSeq (fun q => { q with summary := m }) (onSfu (fun _ => f) s)))
      (marked_drawn (share := s.sfu.blend) hrec rfl)
  obtain ⟨d1, d2, d3⟩ := drawn_places col 1 (measure k b s.sfu)
  obtain ⟨g1, g2, -, g4, g5, -⟩ := (SameColumns.grown k 1 s.sfu.blend (drawn col 1 (measure k b s.sfu))).keeps
  have yr : columnRec y.sfu col
      = { columnRec s.sfu col with remaining := (columnRec s.sfu col).remaining - charge 1 s.sfu / 100 } := by
    rw [yf, g5, drawn_rec 1 (hrec.same (.measure k b s.sfu)), m5, m6]
  have yc : y.cfg = s.cfg := hy ▸ rfl
  refine ⟨m, _, rfl, ?_⟩
  rw [accountMl_eq, hm, hy, exhaustionCheck_exhausts (col := col) (by rw [yf, g1, d1, m1, hc]) (by rw [yf, g2, d2, m2, hv])
    (by rw [yr, yc]; exact hn) (by rw [yr]; exact he), ym, yf, g4, d3, m4]

end

end Sys2Proof.Proofs
end


section
/-! PROOFS. The millilitres of a pulse while the grant goes on: none leaves a mark, each charges the column, or each breaks through
(R35, R59 to R61). -/

/- One theorem at a time, as the tests have it: proofs that wait for the kernel cost a thread each. -/
set_option Elab.async false

namespace Sys2Proof.Proofs

open Sys2Proof.Machine
open Sys2Proof.Safety

/-! ## A run of millilitres -/

/-- The part with `i` millilitres of a pulse metered, the softener's fields `f` and the summary `m` but for its water. -/
def metered (i : Nat) (f : Sfu) (m : Summary) (s : State) : State := { s with
  wpc := { s.wpc with residue := s.wpc.residue + 1000 - i * s.wpc.latchedK, grantCount := s.wpc.grantCount + i }
  sfu := f
  seq := { s.seq with summary := { m with water := m.water + i } } }

theorem watered_metered {i : Nat} {f : Sfu} {m : Summary} {s z : State} (hz : z.wpc = s.wpc) (hg : s.wpc.grantCount + i < 65535) :
    watered (metered i f m z) = metered (i + 1) f m z := by
  have h1 : s.wpc.residue + 1000 - i * s.wpc.latchedK - s.wpc.latchedK = s.wpc.residue + 1000 - (i + 1) * s.wpc.latchedK := by
    rw [Nat.add_mul, Nat.one_mul]
    omega
  have h2 : min 65535 (s.wpc.grantCount + i + 1) = s.wpc.grantCount + (i + 1) := by omega
  simp only [watered, tallied, shared, onWpc, onSeq, metered, hz, h1, h2]
  rfl

/-- Where each millilitre takes the softener's fields and the summary on, the run of them does. -/
theorem pouring_runs {k : FillKind} {f : Nat → Sfu} {m : Nat → Summary} {s z : State} {j d : Nat} (hz : z.wpc = s.wpc)
    (hg : s.wpc.grantCount + (j + d) < 65535) (hj : pouring k j s = metered j (f j) (m j) z)
    (hs : ∀ i, j ≤ i → i < j + d →
      accountMl k (s.wpc.grantCount + i == 0) (metered (i + 1) (f i) (m i) z) = metered (i + 1) (f (i + 1)) (m (i + 1)) z) :
    pouring k (j + d) s = metered (j + d) (f (j + d)) (m (j + d)) z := by
  induction d with
  | zero => exact hj
  | succ d ih =>
    rw [← Nat.add_assoc, pouring_succ k (by omega), ih (by omega) fun i h1 h2 => hs i h1 (by omega), watered_metered hz (by omega)]
    exact hs (j + d) (by omega) (by omega)

theorem pouring_zero (k : FillKind) (s : State) : pouring k 0 s = metered 0 s.sfu s.seq.summary s := by
  unfold metered
  rw [Nat.zero_mul]
  rfl

/-- A pulse's first millilitre, as the softener finds it. -/
theorem pouring_one (k : FillKind) {s : State} (hg : s.wpc.grantCount < 65535) :
    pouring k 1 s = accountMl k (s.wpc.grantCount == 0) (metered 1 s.sfu s.seq.summary s) := by
  rw [pouring_succ k (i := 0) hg, pouring_zero, watered_metered rfl hg]
  rfl

/-- `i` millilitres of a pulse are counted to the open record, or to the top-up's volume, which begins anew with the first of its
grant (R59, R60). -/
def measured (k : FillKind) (c i : Nat) (f : Sfu) : Sfu :=
  match k with
  | .main => { f with fill := { f.fill with v := f.fill.v + i } }
  | .topUp => { f with
      topUpCount := if c = 0 ∧ i ≠ 0 then i else f.topUpCount + i
      topUpMark := if c = 0 ∧ i ≠ 0 then false else f.topUpMark }

theorem measured_zero (k : FillKind) (c : Nat) (f : Sfu) : measured k c 0 f = f := by
  cases k with
  | main => rfl
  | topUp => simp [measured]

theorem measure_measured (k : FillKind) (c i : Nat) (f : Sfu) : measure k (c + i == 0) (measured k c i f) = measured k c (i + 1) f := by
  cases k with
  | main => rfl
  | topUp =>
    unfold measure measured
    by_cases hc : c = 0
    · by_cases hi : i = 0
      · simp [hc, hi]
      · simp [hc, hi]
    · simp [hc, Nat.add_assoc]

theorem SameColumns.measured (k : FillKind) (c i : Nat) (f : Sfu) : SameColumns f (measured k c i f) := by cases k <;> rfl

theorem grown_zero (k : FillKind) (share : Nat) (f : Sfu) : grown k 0 share f = f := by
  cases k with
  | main =>
    unfold grown
    rw [Nat.zero_mul]
    rfl
  | topUp => rfl

theorem grown_grown (k : FillKind) (n share : Nat) (f : Sfu) : grown k 1 share (grown k n share f) = grown k (n + 1) share f := by
  cases k with
  | main => simp only [grown, Nat.add_mul, Nat.one_mul, Nat.add_assoc]
  | topUp => rfl

theorem measure_grown (k : FillKind) (b : Bool) (n share : Nat) (f : Sfu) :
    measure k b (grown k n share f) = grown k n share (measure k b f) := by cases k <;> rfl

/-! ## None leaves a mark on the column (R59, R77) -/

/-- The softener's fields once `i` millilitres have left the column. -/
def leftBy (k : FillKind) (c i : Nat) (f : Sfu) : Sfu := grown k i 1000 (measured k c i f)

theorem leftBy_same (k : FillKind) (c i : Nat) (f : Sfu) : SameColumns f (leftBy k c i f) :=
  (SameColumns.measured k c i f).trans (.grown k i 1000 _)

theorem leftBy_succ (k : FillKind) (c i : Nat) (f : Sfu) :
    grown k 1 1000 (measure k (c + i == 0) (leftBy k c i f)) = leftBy k c (i + 1) f := by
  unfold leftBy
  rw [measure_grown, measure_measured, grown_grown]

theorem pouring_leaves {s : State} (k : FillKind) (n : Nat) (hg : s.wpc.grantCount + n < 65535) (h : Leaves s) :
    pouring k n s = metered n (leftBy k s.wpc.grantCount n s.sfu) s.seq.summary s := by
  have hr := pouring_runs (k := k) (f := fun i => leftBy k s.wpc.grantCount i s.sfu) (m := fun _ => s.seq.summary) (s := s) (z := s)
    (j := 0) (d := n) rfl (by omega) ?_ fun i _ _ => ?_
  · rw [Nat.zero_add] at hr
    exact hr
  · rw [pouring_zero]
    unfold leftBy
    rw [measured_zero, grown_zero]
  · have hx : Leaves (metered (i + 1) (leftBy k s.wpc.grantCount i s.sfu) s.seq.summary s) := h.same (leftBy_same k _ i _) rfl
    rw [accountMl_leaves k _ hx]
    show metered (i + 1) (grown k 1 1000 (measure k _ (leftBy k s.wpc.grantCount i s.sfu))) s.seq.summary s = _
    rw [leftBy_succ]

/-! ## Each charges the column (R59) -/

theorem charge_succ (n : Nat) (f : Sfu) : charge (n + 1) f = charge n f + f.hRaw * (1000 - f.blend) := by
  rw [charge, charge, Nat.add_mul, Nat.one_mul, Nat.add_assoc]

theorem charge_le {i n : Nat} (h : i ≤ n) (f : Sfu) : charge i f ≤ charge n f := Nat.add_le_add_left (Nat.mul_le_mul_right _ h) _

theorem charge_drawn (col : Column) (n i : Nat) (f : Sfu) : charge i (drawn col n f) = charge n f % 100 + i * (f.hRaw * (1000 - f.blend)) := by
  cases col <;> rfl

theorem drawn_zero {f : Sfu} {col : Column} (h : Recorded f col) (hr : f.rho < 100) : drawn col 0 f = f := by
  have hx : charge 0 f = f.rho := by rw [charge, Nat.zero_mul, Nat.add_zero]
  unfold drawn
  rw [hx, Nat.mod_eq_of_lt hr, Nat.div_eq_of_lt hr]
  show { setColumnRec f col (columnRec f col) with rho := f.rho } = f
  rw [setColumnRec_self h]

theorem drawn_drawn {f : Sfu} {col : Column} (h : Recorded f col) (n : Nat) : drawn col 1 (drawn col n f) = drawn col (n + 1) f := by
  have hm : charge 1 (drawn col n f) = charge n f % 100 + f.hRaw * (1000 - f.blend) := by rw [charge_drawn, Nat.one_mul]
  have h1 : (charge n f % 100 + f.hRaw * (1000 - f.blend)) % 100 = charge (n + 1) f % 100 := by rw [charge_succ]; omega
  have h2 : (columnRec f col).remaining - charge n f / 100 - (charge n f % 100 + f.hRaw * (1000 - f.blend)) / 100
      = (columnRec f col).remaining - charge (n + 1) f / 100 := by rw [charge_succ]; omega
  rw [drawn, drawn_rec n h, setColumnRec_drawn, hm, h1]
  dsimp only
  rw [h2]
  rfl

theorem drawn_grown (k : FillKind) (m share : Nat) (f : Sfu) (col : Column) (n : Nat) :
    drawn col n (grown k m share f) = grown k m share (drawn col n f) := by cases k <;> cases col <;> rfl

theorem drawn_measured (k : FillKind) (c i : Nat) (f : Sfu) (col : Column) (n : Nat) :
    drawn col n (measured k c i f) = measured k c i (drawn col n f) := by cases k <;> cases col <;> rfl

/-- The softener's fields once `i` millilitres have charged the column. -/
def chargedBy (k : FillKind) (col : Column) (c i : Nat) (f : Sfu) : Sfu := grown k i f.blend (measured k c i (drawn col i f))

theorem chargedBy_succ (k : FillKind) {col : Column} (c i : Nat) {f : Sfu} (h : Recorded f col) :
    grown k 1 f.blend (drawn col 1 (measure k (c + i == 0) (chargedBy k col c i f))) = chargedBy k col c (i + 1) f := by
  unfold chargedBy
  rw [measure_grown, measure_measured, drawn_grown, drawn_measured, drawn_drawn h, grown_grown]

/-- The columns drawn from, once `i` millilitres have come from this one (R31). -/
def drawnFrom (col : Column) (i : Nat) (m : Summary) : Summary :=
  { m with columns := if i = 0 ∨ col ∈ m.columns then m.columns else m.columns ++ [col] }

theorem drawFrom_eq (col : Column) (q : Seq) : drawFrom col q = { q with summary := { q.summary with
    columns := if col ∈ q.summary.columns then q.summary.columns else q.summary.columns ++ [col] } } := by
  unfold drawFrom
  split <;> rfl

theorem drawnFrom_succ (col : Column) (i : Nat) (m : Summary) : (if col ∈ (drawnFrom col i m).columns then (drawnFrom col i m).columns
    else (drawnFrom col i m).columns ++ [col]) = (drawnFrom col (i + 1) m).columns := by
  by_cases hm : col ∈ m.columns
  · simp [drawnFrom, hm]
  · by_cases hi : i = 0
    · simp [drawnFrom, hm, hi]
    · simp [drawnFrom, hm, hi]

theorem drawFrom_metered (col : Column) (i : Nat) (m : Summary) (f : Sfu) (s : State) :
    onSeq (drawFrom col) (metered (i + 1) f (drawnFrom col i m) s) = metered (i + 1) f (drawnFrom col (i + 1) m) s := by
  have hq := drawFrom_eq col (metered (i + 1) f (drawnFrom col i m) s).seq
  rw [show (metered (i + 1) f (drawnFrom col i m) s).seq.summary.columns = (drawnFrom col i m).columns from rfl, drawnFrom_succ] at hq
  exact congrArg (fun q => { metered (i + 1) f (drawnFrom col i m) s with seq := q }) hq

theorem Recorded.drawn {f : Sfu} {x : Column} (h : Recorded f x) (col : Column) (n : Nat) : Recorded (drawn col n f) x := by
  intro hx
  cases col with
  | a => exact h hx
  | b => exact h hx
  | c => exact (Option.isSome_map ..).trans (h hx)

section
variable {s : State} (k : FillKind) {n : Nat} {col : Column} (hg : s.wpc.grantCount + n < 65535) (hc : s.sfu.service = some col)
  (hv : s.sfu.valveFault = false)
include hg hc hv

theorem pouring_charges (hb : s.sfu.blend < 1000) (hrec : Recorded s.sfu col) (hr : s.sfu.rho < 100)
    (hn : s.cfg.reserve < (columnRec s.sfu col).remaining - charge n s.sfu / 100) :
    pouring k n s = metered n (chargedBy k col s.wpc.grantCount n s.sfu) (drawnFrom col n s.seq.summary) s := by
  have hr := pouring_runs (k := k) (f := fun i => chargedBy k col s.wpc.grantCount i s.sfu)
    (m := fun i => drawnFrom col i s.seq.summary) (s := s) (z := s) (j := 0) (d := n) rfl (by omega) ?_ fun i _ hi => ?_
  · rw [Nat.zero_add] at hr
    exact hr
  · rw [pouring_zero]
    unfold chargedBy
    rw [drawn_zero hrec hr, measured_zero, grown_zero]
    rfl
  · obtain ⟨d1, d2, -⟩ := drawn_places col i s.sfu
    have hsame : SameColumns (drawn col i s.sfu) (chargedBy k col s.wpc.grantCount i s.sfu) :=
      (SameColumns.measured k _ i _).trans (.grown k i s.sfu.blend _)
    obtain ⟨k1, k2, k3, -, k5, k6⟩ := hsame.keeps
    have hbl : (chargedBy k col s.wpc.grantCount i s.sfu).blend = s.sfu.blend := k3.trans (by cases col <;> rfl)
    have hci : charge 1 (chargedBy k col s.wpc.grantCount i s.sfu) = charge i s.sfu % 100 + s.sfu.hRaw * (1000 - s.sfu.blend) := by
      rw [k6, charge_drawn, Nat.one_mul]
    have hle := charge_le (show i + 1 ≤ n by omega) s.sfu
    have hsc := charge_succ i s.sfu
    have hx := accountMl_charges (s := metered (i + 1) (chargedBy k col s.wpc.grantCount i s.sfu) (drawnFrom col i s.seq.summary) s)
      k (s.wpc.grantCount + i == 0) (k1.trans (d1.trans hc)) (k2.trans (d2.trans hv)) ?_ (hbl.trans_lt hb) ?_ ?_
    · rw [hx]
      show onSeq (drawFrom col) (metered (i + 1) (grown k 1 (chargedBy k col s.wpc.grantCount i s.sfu).blend
        (drawn col 1 (measure k _ (chargedBy k col s.wpc.grantCount i s.sfu)))) (drawnFrom col i s.seq.summary) s) = _
      rw [hbl, chargedBy_succ k _ _ hrec, drawFrom_metered]
    · show 0 < (columnRec (chargedBy k col s.wpc.grantCount i s.sfu) col).remaining
      rw [k5, drawn_rec i hrec]
      show 0 < (columnRec s.sfu col).remaining - charge i s.sfu / 100
      omega
    · exact (hrec.drawn col i).same hsame
    · show s.cfg.reserve < (columnRec (chargedBy k col s.wpc.grantCount i s.sfu) col).remaining
        - charge 1 (chargedBy k col s.wpc.grantCount i s.sfu) / 100
      rw [k5, drawn_rec i hrec, hci]
      show s.cfg.reserve < (columnRec s.sfu col).remaining - charge i s.sfu / 100 - _
      omega

end

end Sys2Proof.Proofs
end


section
/-! PROOFS. A pulse of a FILL grant that goes on (R34, R35, R41): the water path rests, and the step ends with the outputs. -/

/- One theorem at a time, as the tests have it: proofs that wait for the kernel cost a thread each. -/
set_option Elab.async false

namespace Sys2Proof.Proofs

open Sys2Proof.Machine
open Sys2Proof.Safety

/-! ## The water path rests behind the pulse -/

/-- An idle engine still has no column to take. -/
theorem Unqueued.congr {s x : State} (h : Unqueued s) (hr : x.rge = s.rge)
    (hq : x.sfu.regenQ = s.sfu.regenQ ∧ x.sfu.valveFault = s.sfu.valveFault) : Unqueued x := by
  unfold Unqueued
  rw [hr, hq.1, hq.2]
  exact h

theorem unqueued_of_rests {s : State} (h : Rests s) : Unqueued s := by
  obtain ⟨-, -, -, -, -, h5, -⟩ := h
  exact h5

/-- While the grant stands the millilitres metered leave the water path at rest. -/
theorem Poured.rests {i : Nat} {s x : State} (h : Poured i s x) (hr : Rests s) (hu : Unqueued x) : Rests x := by
  obtain ⟨⟨a1, a2, a3⟩, h1, h2, h3, h4, -, h6, h7, h8, h9⟩ := hr
  obtain ⟨f, hf⟩ : ∃ f, x.sfu = f := ⟨_, rfl⟩
  obtain ⟨l, hl⟩ : ∃ l, x.lnk = l := ⟨_, rfl⟩
  obtain ⟨r, hr⟩ : ∃ r, x.rst = r := ⟨_, rfl⟩
  obtain ⟨m, hm⟩ : ∃ m, x.seq.summary = m := ⟨_, rfl⟩
  have hx := h.rest
  rw [hf, hl, hr, hm] at hx
  rw [hx] at hu ⊢
  exact ⟨⟨a1, a2, a3⟩, h1, h2, h3, h4, hu, h6, h7, h8, h9⟩

section
variable {n : Nat} {s : State} (hr : Rests s) (hp : Pulsed n s) {q : FillReq} (hq : s.wpc.fill = some q) (hh : q.held = true)
include hr hq hh

omit hr in
theorem fillHeld_held {x : State} (h : x.wpc.fill = s.wpc.fill) : fillHeld x = true := by
  rw [fillHeld, h, hq]
  exact hh

theorem holder_fill_rests : s.wpc.holder = .fill := by
  obtain ⟨-, -, -, -, -, -, -, -, h8, -⟩ := hr
  rw [h8]
  exact holderOf_fill.mpr ⟨q, hq, hh⟩

omit hq hh in
theorem pulse_hears : exec .flowMeterPulse s = .next (concludeFill s (meterPulse s)) := by
  obtain ⟨⟨a1, a2, -⟩, -⟩ := hr
  show execFlowMeterPulse s = _
  simp [execFlowMeterPulse, whenPowered, a1, senses, a2]

include hp

/-- The grant goes on: the step ends with what the pulse has made of the part. -/
theorem pulse_goes_on (ht : s.wpc.grantCount + n < q.target) (hu : Unqueued (pouring q.kind n s)) :
    exec .flowMeterPulse s = .next (finish (outputs (pouring q.kind n s))) := by
  have hm := hp.most
  have hc := hp.count
  have k := poured_pouring q.kind (s := s) (i := n) (by omega)
  rw [pulse_hears hr, fill_pours hp hq (holder_fill_rests hr hq hh) ht, concludeFill, fillHeld_held hq hh rfl,
    fillHeld_held hq hh k.fill, Laws.conclude_rests (k.rests hr hu)]
  rfl

/-- The grant goes on, and the columns keep their places. -/
theorem pulse_metered (ht : s.wpc.grantCount + n < q.target) {k : FillKind} (hk : q.kind = k) {f : Sfu} {m : Summary}
    (hx : pouring k n s = metered n f m s)
    (hf : f.regenQ = s.sfu.regenQ ∧ f.valveFault = s.sfu.valveFault) :
    exec .flowMeterPulse s = .next (finish (outputs { s with
      wpc := { s.wpc with residue := (s.wpc.residue + 1000) % s.wpc.latchedK, grantCount := s.wpc.grantCount + n }
      seq := { s.seq with summary := { m with water := m.water + n } }
      sfu := f })) := by
  have he := pulse_goes_on hr hp hq hh ht (by rw [hk, hx]; exact (unqueued_of_rests hr).congr rfl hf)
  rw [hk, hx, metered, pulse_rest hp.quotient] at he
  exact he

end

theorem SameColumns.places {f g : Sfu} (h : SameColumns f g) : g.regenQ = f.regenQ ∧ g.valveFault = f.valveFault := by
  constructor <;> rw [show g = _ from h]

theorem chargedBy_places (k : FillKind) (col : Column) (c i : Nat) (f : Sfu) :
    (chargedBy k col c i f).regenQ = f.regenQ ∧ (chargedBy k col c i f).valveFault = f.valveFault := by
  cases k <;> cases col <;> exact ⟨rfl, rfl⟩

/-! ## Each breaks through (R61) -/

/-- `i` breakthrough millilitres are counted to the program. -/
def brokenBy (i : Nat) (m : Summary) : Summary := { m with breakthrough := m.breakthrough + i }

section
variable {s : State} {col : Column} (hc : s.sfu.service = some col) (hv : s.sfu.valveFault = false)
  (h0 : (columnRec s.sfu col).remaining = 0) (he : (columnRec s.sfu col).exhausted = true)
include hc hv h0 he

/-- A millilitre through the empty column, from any softener's fields with the columns as they are. -/
theorem breaks_same {x : State} (k : FillKind) (b : Bool) (hf : SameColumns s.sfu x.sfu) :
    accountMl k b x = breakthroughMl k col (onSfu (fun f => grown k 1 1000 (measure k b f)) x) := by
  obtain ⟨k1, k2, -, -, k5, -⟩ := hf.keeps
  exact accountMl_breaks k b (k1.trans hc) (k2.trans hv) (by rw [k5]; exact h0) (by rw [k5]; exact he)

/-- In a main fill whose breakthrough has been told of. -/
theorem pouring_breaks {n : Nat} (hg : s.wpc.grantCount + n < 65535) (hb : 0 < s.sfu.fill.breakthrough) :
    pouring .main n s
      = metered n (brokenFill n (leftBy .main s.wpc.grantCount n s.sfu)) (brokenBy n s.seq.summary) s := by
  have hr := pouring_runs (k := .main) (f := fun i => brokenFill i (leftBy .main s.wpc.grantCount i s.sfu))
    (m := fun i => brokenBy i s.seq.summary) (s := s) (z := s) (j := 0) (d := n) rfl (by omega) ?_ fun i _ hi => ?_
  · rw [Nat.zero_add] at hr
    exact hr
  · rw [pouring_zero]
    unfold leftBy
    rw [measured_zero, grown_zero]
    rfl
  · have hs : SameColumns s.sfu (brokenFill i (leftBy .main s.wpc.grantCount i s.sfu)) := rfl
    rw [breaks_same hc hv h0 he (x := metered (i + 1) (brokenFill i (leftBy .main s.wpc.grantCount i s.sfu))
      (brokenBy i s.seq.summary) s) .main _ hs, breakthroughMl_main]
    refine (if_neg (show ¬ s.sfu.fill.breakthrough + i = 0 by omega)).trans ?_
    show metered (i + 1) (brokenFill (i + 1) (grown .main 1 1000 (measure .main (s.wpc.grantCount + i == 0)
      (leftBy .main s.wpc.grantCount i s.sfu)))) (brokenBy (i + 1) s.seq.summary) s = _
    rw [leftBy_succ]

/-- In a top-up whose breakthrough has been told of, from `j` millilitres on. -/
theorem topUp_breaks {z : State} {j d : Nat} (hz : z.wpc = s.wpc) (hg : s.wpc.grantCount + (j + d) < 65535)
    (hn : s.wpc.grantCount + j ≠ 0)
    (hj : pouring .topUp j s = metered j (topUpTold (measured .topUp s.wpc.grantCount j s.sfu)) (brokenBy j s.seq.summary) z) :
    pouring .topUp (j + d) s
      = metered (j + d) (topUpTold (measured .topUp s.wpc.grantCount (j + d) s.sfu)) (brokenBy (j + d) s.seq.summary) z := by
  refine pouring_runs (k := .topUp) (f := fun i => topUpTold (measured .topUp s.wpc.grantCount i s.sfu))
    (m := fun i => brokenBy i s.seq.summary) hz hg hj fun i h1 h2 => ?_
  have hs : SameColumns s.sfu (topUpTold (measured .topUp s.wpc.grantCount i s.sfu)) := rfl
  have hb : (s.wpc.grantCount + i == 0) = false := beq_eq_false_iff_ne.mpr (by omega)
  rw [breaks_same hc hv h0 he (x := metered (i + 1) (topUpTold (measured .topUp s.wpc.grantCount i s.sfu))
      (brokenBy i s.seq.summary) z) .topUp _ hs, breakthroughMl_topUp, hb]
  show metered (i + 1) (topUpTold (measure .topUp false (measured .topUp s.wpc.grantCount i s.sfu))) (brokenBy (i + 1) s.seq.summary) z
    = _
  rw [← hb, measure_measured]

end

end Sys2Proof.Proofs
end


section
/-! PROOFS. What a pulse of a FILL grant below its target leaves of the part (R35, R59 to R61, log entries 28, 68). -/

/- One theorem at a time, as the tests have it: proofs that wait for the kernel cost a thread each. -/
set_option Elab.async false

namespace Sys2Proof.Proofs

open Sys2Proof.Machine
open Sys2Proof.Safety

theorem chargedBy_main (col : Column) (c n : Nat) (f : Sfu) : chargedBy .main col c n f = { drawn col n f with
    fill := { f.fill with v := f.fill.v + n, g := f.fill.g + n * (f.hRaw * f.blend) } } := by
  cases col <;> rfl

theorem leftBy_topUp {c n : Nat} (hn : 0 < n) (f : Sfu) : leftBy .topUp c n f = { f with
    topUpCount := if c = 0 then n else f.topUpCount + n, topUpMark := f.topUpMark && c != 0 } := by
  have h0 : n ≠ 0 := by omega
  by_cases hc : c = 0
  · simp [leftBy, grown, measured, hc, h0]
  · simp [leftBy, grown, measured, hc]

theorem chargedBy_topUp {c n : Nat} (hn : 0 < n) (col : Column) (f : Sfu) : chargedBy .topUp col c n f = { drawn col n f with
    topUpCount := if c = 0 then n else f.topUpCount + n, topUpMark := f.topUpMark && c != 0 } := by
  have hx : chargedBy .topUp col c n f = leftBy .topUp c n (drawn col n f) := rfl
  rw [hx, leftBy_topUp hn]
  cases col <;> rfl

/-- The residue of the charge: as it was without a millilitre, else below 100 (R59). -/
theorem charge_residue {n : Nat} {f : Sfu} (h : f.rho < 100) :
    charge n f % 100 = if n = 0 then f.rho else charge n f % 100 := by
  split
  · next hn =>
    rw [hn, charge, Nat.zero_mul]
    exact Nat.mod_eq_of_lt h
  · rfl

section
variable {s : State} (hr : Rests s) {n : Nat} (hp : Pulsed n s) {q : FillReq} (hq : s.wpc.fill = some q) (hh : q.held = true)
  (ht : s.wpc.grantCount + n < q.target)
include hr hp hq hh ht

/-! ## A main fill (R59, R61) -/

theorem main_leaves (hk : q.kind = .main) (hl : Leaves s) : exec .flowMeterPulse s = .next (finish (outputs { s with
    wpc := { s.wpc with residue := (s.wpc.residue + 1000) % s.wpc.latchedK, grantCount := s.wpc.grantCount + n }
    seq := { s.seq with summary := { s.seq.summary with water := s.seq.summary.water + n } }
    sfu := { s.sfu with fill := { s.sfu.fill with v := s.sfu.fill.v + n, g := s.sfu.fill.g + n * (s.sfu.hRaw * 1000) } } })) := by
  have hc := hp.count
  have hm := hp.most
  exact pulse_metered hr hp hq hh ht hk (pouring_leaves .main n (by omega) hl) ⟨rfl, rfl⟩

theorem main_charges (hk : q.kind = .main) (hrho : s.sfu.rho < 100) {col : Column} (hcol : s.sfu.service = some col)
    (hv : s.sfu.valveFault = false) (hb : s.sfu.blend < 1000) (hrec : Recorded s.sfu col)
    (hn : s.cfg.reserve < (columnRec s.sfu col).remaining - charge n s.sfu / 100) :
    exec .flowMeterPulse s = .next (finish (outputs { s with
      wpc := { s.wpc with residue := (s.wpc.residue + 1000) % s.wpc.latchedK, grantCount := s.wpc.grantCount + n }
      seq := { s.seq with summary := { s.seq.summary with
        water := s.seq.summary.water + n
        columns := if n = 0 ∨ col ∈ s.seq.summary.columns then s.seq.summary.columns
          else s.seq.summary.columns ++ [col] } }
      sfu := { setColumnRec s.sfu col { columnRec s.sfu col with
          remaining := (columnRec s.sfu col).remaining - charge n s.sfu / 100 } with
        rho := if n = 0 then s.sfu.rho else charge n s.sfu % 100
        fill := { s.sfu.fill with v := s.sfu.fill.v + n, g := s.sfu.fill.g + n * (s.sfu.hRaw * s.sfu.blend) } } })) := by
  have hc := hp.count
  have hm := hp.most
  have he := pulse_metered hr hp hq hh ht hk (pouring_charges .main (by omega) hcol hv hb hrec hrho hn)
    (chargedBy_places .main col _ n s.sfu)
  rw [chargedBy_main] at he
  rw [← charge_residue hrho]
  exact he

theorem main_breaks (hk : q.kind = .main) {col : Column} (hcol : s.sfu.service = some col) (hv : s.sfu.valveFault = false)
    (h0 : (columnRec s.sfu col).remaining = 0) (hx : (columnRec s.sfu col).exhausted = true) (hb : 0 < s.sfu.fill.breakthrough) :
    exec .flowMeterPulse s = .next (finish (outputs { s with
      wpc := { s.wpc with residue := (s.wpc.residue + 1000) % s.wpc.latchedK, grantCount := s.wpc.grantCount + n }
      seq := { s.seq with summary := { s.seq.summary with
        water := s.seq.summary.water + n, breakthrough := s.seq.summary.breakthrough + n } }
      sfu := { s.sfu with fill := { s.sfu.fill with
        v := s.sfu.fill.v + n, g := s.sfu.fill.g + n * (s.sfu.hRaw * 1000)
        breakthrough := s.sfu.fill.breakthrough + n } } })) := by
  have hc := hp.count
  have hm := hp.most
  have hs : SameColumns s.sfu (brokenFill n (leftBy .main s.wpc.grantCount n s.sfu)) := rfl
  have he := pulse_metered hr hp hq hh ht hk (pouring_breaks hcol hv h0 hx (by omega) hb) hs.places
  exact he

/-! ## A top-up (R60, R61) -/

variable (hn : 0 < n) (hk : q.kind = .topUp)
include hn hk

theorem topUp_leaves (hl : Leaves s) : exec .flowMeterPulse s = .next (finish (outputs { s with
    wpc := { s.wpc with residue := (s.wpc.residue + 1000) % s.wpc.latchedK, grantCount := s.wpc.grantCount + n }
    seq := { s.seq with summary := { s.seq.summary with water := s.seq.summary.water + n } }
    sfu := { s.sfu with
      topUpCount := if s.wpc.grantCount = 0 then n else s.sfu.topUpCount + n
      topUpMark := s.sfu.topUpMark && s.wpc.grantCount != 0 } })) := by
  have hc := hp.count
  have hm := hp.most
  have he := pulse_metered hr hp hq hh ht hk (pouring_leaves .topUp n (by omega) hl) ⟨rfl, rfl⟩
  rw [leftBy_topUp hn] at he
  exact he

theorem topUp_charges (hrho : s.sfu.rho < 100) {col : Column} (hcol : s.sfu.service = some col)
    (hv : s.sfu.valveFault = false) (hb : s.sfu.blend < 1000) (hrec : Recorded s.sfu col)
    (hres : s.cfg.reserve < (columnRec s.sfu col).remaining - charge n s.sfu / 100) :
    exec .flowMeterPulse s = .next (finish (outputs { s with
      wpc := { s.wpc with residue := (s.wpc.residue + 1000) % s.wpc.latchedK, grantCount := s.wpc.grantCount + n }
      seq := { s.seq with summary := { s.seq.summary with
        water := s.seq.summary.water + n
        columns := if col ∈ s.seq.summary.columns then s.seq.summary.columns else s.seq.summary.columns ++ [col] } }
      sfu := { setColumnRec s.sfu col { columnRec s.sfu col with
          remaining := (columnRec s.sfu col).remaining - charge n s.sfu / 100 } with
        rho := charge n s.sfu % 100
        topUpCount := if s.wpc.grantCount = 0 then n else s.sfu.topUpCount + n
        topUpMark := s.sfu.topUpMark && s.wpc.grantCount != 0 } })) := by
  have hc := hp.count
  have hm := hp.most
  have he := pulse_metered hr hp hq hh ht hk (pouring_charges .topUp (by omega) hcol hv hb hrec hrho hres)
    (chargedBy_places .topUp col _ n s.sfu)
  have hd : drawnFrom col n s.seq.summary = { s.seq.summary with
      columns := if col ∈ s.seq.summary.columns then s.seq.summary.columns else s.seq.summary.columns ++ [col] } := by
    simp [drawnFrom, show n ≠ 0 by omega]
  rw [chargedBy_topUp hn, hd] at he
  exact he

end

end Sys2Proof.Proofs
end


section
/-! PROOFS. A top-up's pulse through an empty column, the first breakthrough millilitre of a fill, and the millilitre that exhausts a
column that stays in service (R60 to R62). -/

/- One theorem at a time, as the tests have it: proofs that wait for the kernel cost a thread each. -/
set_option Elab.async false

namespace Sys2Proof.Proofs

open Sys2Proof.Machine
open Sys2Proof.Safety

/-! ## The end of a step whose water path rests -/

theorem beginWrite_lnk (u : State) : (beginWrite u).lnk = u.lnk := by
  unfold beginWrite
  split <;> rfl

/-- The transmitter reads nothing but the link (R179). -/
theorem beginTransmit_congr (a b : State) (l : Lnk) :
    (beginTransmit { a with lnk := l }).lnk = (beginTransmit { b with lnk := l }).lnk := by
  unfold beginTransmit linkSends
  dsimp only
  cases l.tx with
  | some _ => rfl
  | none =>
    cases l.awaiting with
    | some _ => rfl
    | none =>
      cases l.busy with
      | some _ => rfl
      | none =>
        cases l.notices with
        | nil => rfl
        | cons n rest => cases l.state <;> rfl

theorem finish_lnk_congr {u v : State} (h : u.lnk = v.lnk) : (finish u).lnk = (finish v).lnk := by
  have h1 : beginWrite u = { beginWrite u with lnk := v.lnk } := by rw [← h, ← beginWrite_lnk u]
  have h2 : beginWrite v = { beginWrite v with lnk := v.lnk } := by rw [← beginWrite_lnk v]
  unfold finish
  rw [h1, h2]
  exact beginTransmit_congr _ _ _

/-- What the end of a step leaves of the part, the outputs apart. -/
structure Ended (x t : State) : Prop extends OutputsOf x t where
  history : t.rst.history = x.rst.history
  asked : ∀ i, writeAsked i x = true → writeAsked i t = true
  noted : ∀ c, notified c x = true → notified c t = true
  notices : t.lnk.notices = (finish x).lnk.notices

theorem ended_outputs (x : State) : Ended x (finish (outputs x)) :=
  ⟨outputsOf_finish x, Laws.finish_history _, fun _ h => writeAsked_finish (s := outputs x) h,
    fun _ h => notified_finish (s := outputs x) h, congrArg Lnk.notices (finish_lnk_congr (u := outputs x) rfl)⟩

section
variable {n : Nat} {s : State} (hr : Rests s) (hp : Pulsed n s) {q : FillReq} (hq : s.wpc.fill = some q) (hh : q.held = true)
  (ht : s.wpc.grantCount + n < q.target)
include hr hp hq hh ht

/-- The step of a pulse that leaves an idle engine no column to take. -/
theorem pulse_ended {k : FillKind} (hk : q.kind = k) {x : State} (hx : pouring k n s = x)
    (hu : x.sfu.regenQ = s.sfu.regenQ ∧ x.sfu.valveFault = s.sfu.valveFault ∨ s.rge.state ≠ .idle) :
    ∃ t, exec .flowMeterPulse s = .next t ∧ Ended x t ∧ Poured n s x := by
  have hc := hp.count
  have hm := hp.most
  have h := poured_pouring k (s := s) (i := n) (by omega)
  have hun : Unqueued x := by
    have hrge : x.rge = s.rge := by rw [← hx, h.rest]
    rcases hu with hu | hu
    · exact (unqueued_of_rests hr).congr hrge hu
    · intro hi
      exact absurd (by rw [← hrge]; exact hi) hu
  have he := pulse_goes_on hr hp hq hh ht (by rw [hk, hx]; exact hun)
  rw [hk, hx] at he
  rw [hx] at h
  exact ⟨_, he, ended_outputs x, h⟩

end

/-! ## A top-up's pulse through an empty column (R61) -/

/-- What of the top-up's volume its breakthrough notice carries: the volume with the pulse's first millilitre. -/
def topUpBegun (s : State) : Nat := if s.wpc.grantCount = 0 then 1 else s.sfu.topUpCount + 1

theorem topUpTold_told {f : Sfu} (h : f.topUpMark = true) : topUpTold f = f := by
  unfold topUpTold
  rw [← h]

section
variable {s : State} {col : Column} (hc : s.sfu.service = some col) (hv : s.sfu.valveFault = false)
  (h0 : (columnRec s.sfu col).remaining = 0) (he : (columnRec s.sfu col).exhausted = true)
include hc hv h0 he

/-- The first millilitre of a grant through the empty column tells of it. -/
theorem topUp_tells (hg : s.wpc.grantCount < 65535) (hm : s.sfu.topUpMark = false ∨ s.wpc.grantCount = 0) :
    pouring .topUp 1 s = raiseNotice (.breakthrough col .topUp (topUpBegun s))
      (metered 1 (topUpTold (measured .topUp s.wpc.grantCount 1 s.sfu)) (brokenBy 1 s.seq.summary) s) := by
  have hb : (s.wpc.grantCount + 0 == 0) = (s.wpc.grantCount == 0) := rfl
  have hf : measure .topUp (s.wpc.grantCount == 0) s.sfu = measured .topUp s.wpc.grantCount 1 s.sfu := by
    rw [← hb, ← measure_measured, measured_zero]
  have hmark : (measured .topUp s.wpc.grantCount 1 s.sfu).topUpMark = false := by
    rcases hm with hm | hm <;> simp [measured, hm]
  have hcount : (measured .topUp s.wpc.grantCount 1 s.sfu).topUpCount = topUpBegun s := by
    simp [measured, topUpBegun]
  have hs : SameColumns s.sfu s.sfu := rfl
  rw [pouring_one .topUp hg, breaks_same hc hv h0 he (x := metered 1 s.sfu s.seq.summary s) .topUp _ hs, breakthroughMl_topUp]
  have hx : onSfu (fun f => grown .topUp 1 1000 (measure .topUp (s.wpc.grantCount == 0) f)) (metered 1 s.sfu s.seq.summary s)
      = metered 1 (measured .topUp s.wpc.grantCount 1 s.sfu) s.seq.summary s := by rw [← hf]; rfl
  rw [hx, show (metered 1 (measured .topUp s.wpc.grantCount 1 s.sfu) s.seq.summary s).sfu
    = measured .topUp s.wpc.grantCount 1 s.sfu from rfl, hmark, hcount]
  rfl

theorem pouring_empties {n : Nat} (hn : 0 < n) (hg : s.wpc.grantCount + n < 65535) : ∃ l : Lnk,
    pouring .topUp n s = metered n (topUpTold (measured .topUp s.wpc.grantCount n s.sfu)) (brokenBy n s.seq.summary) { s with lnk := l }
    ∧ (s.sfu.topUpMark = false ∨ s.wpc.grantCount = 0 → noticeEnabled s.lnk.mask 13 = true →
      notified (.breakthrough col .topUp (topUpBegun s)) { s with lnk := l } = true)
    ∧ (s.sfu.topUpMark = true → s.wpc.grantCount ≠ 0 → l = s.lnk) := by
  by_cases hm : s.sfu.topUpMark = false ∨ s.wpc.grantCount = 0
  · obtain ⟨d, rfl⟩ : ∃ d, n = 1 + d := ⟨n - 1, by omega⟩
    have h1 := topUp_tells hc hv h0 he (by omega) hm
    obtain ⟨x, hx⟩ : ∃ x, metered 1 (topUpTold (measured .topUp s.wpc.grantCount 1 s.sfu)) (brokenBy 1 s.seq.summary) s = x := ⟨_, rfl⟩
    have hxm : x.lnk.mask = s.lnk.mask := hx ▸ rfl
    rw [hx] at h1
    obtain ⟨l, hl⟩ : ∃ l, (raiseNotice (.breakthrough col .topUp (topUpBegun s)) x).lnk = l := ⟨_, rfl⟩
    have hrest : raiseNotice (.breakthrough col .topUp (topUpBegun s)) x = { x with lnk := l } := by
      rw [← hl]
      exact raiseNotice_rest _ x
    refine ⟨l, topUp_breaks hc hv h0 he rfl hg (by omega) (h1.trans (hrest.trans ?_)), fun _ hen => ?_, fun a b => ?_⟩
    · rw [← hx]
      rfl
    · have hno := notified_raiseNotice (c := .breakthrough col .topUp (topUpBegun s)) (s := x) (by rw [hxm]; exact hen)
      rw [hrest] at hno
      exact hno
    · rcases hm with hm | hm
      · simp [a] at hm
      · exact absurd hm b
  · push Not at hm
    obtain ⟨hm, hc0⟩ := hm
    have hm : s.sfu.topUpMark = true := by simpa using hm
    have h := topUp_breaks hc hv h0 he (z := s) (j := 0) (d := n) rfl (by omega) (by omega) (by
      rw [pouring_zero, measured_zero, topUpTold_told hm]
      rfl)
    rw [Nat.zero_add] at h
    exact ⟨s.lnk, h, fun a => by simp [hm, hc0] at a, fun _ _ => rfl⟩

end

/-! ## The steps -/

section
variable {n : Nat} {s : State} (hr : Rests s) (hp : Pulsed n s) {q : FillReq} (hq : s.wpc.fill = some q) (hh : q.held = true)
  (ht : s.wpc.grantCount + n < q.target) {col : Column} (hcol : s.sfu.service = some col) (hv : s.sfu.valveFault = false)
include hr hp hq hh ht hcol hv

theorem topUp_breakthrough (hn : 0 < n) (hk : q.kind = .topUp) (h0 : (columnRec s.sfu col).remaining = 0)
    (hx : (columnRec s.sfu col).exhausted = true) {counted : Nat}
    (hct : counted = if s.wpc.grantCount = 0 then n else s.sfu.topUpCount + n) :
    ∃ t, exec .flowMeterPulse s = .next t
      ∧ t.sfu = { s.sfu with topUpCount := counted, topUpMark := true }
      ∧ t.seq = { s.seq with
          summary := { s.seq.summary with
            water := s.seq.summary.water + n, breakthrough := s.seq.summary.breakthrough + n }
          permit := t.seq.permit }
      ∧ (s.sfu.topUpMark = false ∨ s.wpc.grantCount = 0 → noticeEnabled s.lnk.mask 13 = true →
        notified (.breakthrough col .topUp (counted + 1 - n)) t = true)
      ∧ (s.sfu.topUpMark = true → s.wpc.grantCount ≠ 0 → t.lnk.notices = (finish (outputs s)).lnk.notices)
      ∧ t.wpc.grantCount = s.wpc.grantCount + n ∧ t.wpc.fill = s.wpc.fill ∧ t.rge = s.rge
      ∧ t.rst.history = s.rst.history := by
  have hc := hp.count
  have hm := hp.most
  obtain ⟨l, hl, h1, h2⟩ := pouring_empties hcol hv h0 hx hn (by omega)
  have hf : topUpTold (measured .topUp s.wpc.grantCount n s.sfu) = { s.sfu with topUpCount := counted, topUpMark := true } := by
    simp [topUpTold, measured, hct, show n ≠ 0 by omega]
  have hb : topUpBegun s = counted + 1 - n := by
    rw [hct]
    unfold topUpBegun
    split <;> omega
  rw [hf] at hl
  rw [hb] at h1
  obtain ⟨t, he, k, -⟩ := pulse_ended hr hp hq hh ht hk hl (.inl ⟨rfl, rfl⟩)
  refine ⟨t, he, k.sfu, k.seq, fun a b => k.noted _ (h1 a b), fun a b => ?_, by rw [k.wpc]; rfl, by rw [k.wpc]; rfl, k.rge, k.history⟩
  obtain rfl := h2 a b
  rw [k.notices]
  exact congrArg Lnk.notices (finish_lnk_congr rfl)

end

section
variable {s : State} (hr : Rests s) (hp : Pulsed 1 s) {q : FillReq} (hq : s.wpc.fill = some q) (hh : q.held = true)
  (ht : s.wpc.grantCount + 1 < q.target) {col : Column} (hcol : s.sfu.service = some col) (hv : s.sfu.valveFault = false)
include hr hp hq hh ht hcol hv

/-- The first breakthrough millilitre of a fill (R61). -/
theorem main_breakthrough (hk : q.kind = .main) (h0 : (columnRec s.sfu col).remaining = 0)
    (hx : (columnRec s.sfu col).exhausted = true) (hb : s.sfu.fill.breakthrough = 0) :
    ∃ t, exec .flowMeterPulse s = .next t
      ∧ (noticeEnabled s.lnk.mask 13 = true → notified (.breakthrough col .main (s.sfu.fill.v + 1)) t = true)
      ∧ t.sfu = { s.sfu with fill := { s.sfu.fill with
          v := s.sfu.fill.v + 1, g := s.sfu.fill.g + s.sfu.hRaw * 1000, breakthrough := 1 } }
      ∧ t.seq.summary = { s.seq.summary with
          water := s.seq.summary.water + 1, breakthrough := s.seq.summary.breakthrough + 1 }
      ∧ t.rge = s.rge ∧ t.rst.history = s.rst.history := by
  have hc := hp.count
  have hs : SameColumns s.sfu s.sfu := rfl
  have hl := pouring_one .main (s := s) (by omega)
  rw [breaks_same hcol hv h0 hx (x := metered 1 s.sfu s.seq.summary s) .main _ hs, breakthroughMl_main] at hl
  have hl := hl.trans (if_pos hb)
  obtain ⟨y, hy⟩ : ∃ y, onSeq broken (onSfu (brokenFill 1) (onSfu (fun f => grown .main 1 1000 (measure .main (s.wpc.grantCount == 0) f))
      (metered 1 s.sfu s.seq.summary s))) = y := ⟨_, rfl⟩
  have y1 : y.sfu = { s.sfu with fill := { s.sfu.fill with
      v := s.sfu.fill.v + 1, g := s.sfu.fill.g + 1 * (s.sfu.hRaw * 1000), breakthrough := s.sfu.fill.breakthrough + 1 } } := hy ▸ rfl
  have y2 : y.seq.summary = { s.seq.summary with
      water := s.seq.summary.water + 1, breakthrough := s.seq.summary.breakthrough + 1 } := hy ▸ rfl
  have y3 : y.lnk.mask = s.lnk.mask ∧ y.rge = s.rge ∧ y.rst = s.rst := hy ▸ ⟨rfl, rfl, rfl⟩
  obtain ⟨y3, y4, y5⟩ := y3
  have hl : pouring .main 1 s = raiseNotice (.breakthrough col .main (s.sfu.fill.v + 1)) y := hy ▸ hl
  have hrest := raiseNotice_rest (.breakthrough col .main (s.sfu.fill.v + 1)) y
  obtain ⟨t, he, k, -⟩ := pulse_ended hr hp hq hh ht hk hl (.inl (by
    rw [hrest]
    show y.sfu.regenQ = _ ∧ y.sfu.valveFault = _
    rw [y1]
    exact ⟨rfl, rfl⟩))
  refine ⟨t, he, fun hen => k.noted _ (notified_raiseNotice (by rw [y3]; exact hen)), ?_, ?_, ?_, ?_⟩
  · rw [k.sfu, hrest]
    show y.sfu = _
    rw [y1, hb, Nat.one_mul]
  · rw [k.seq, hrest]
    exact y2
  · rw [k.rge, hrest]
    exact y4
  · rw [k.history, hrest]
    exact congrArg Rst.history y5

end

/-! ## The column exhausted (R62) -/

section
variable {s : State} {col : Column} (hcol : s.sfu.service = some col) (hv : s.sfu.valveFault = false) (hrec : Recorded s.sfu col)
  (hb : s.sfu.blend < 1000 ∨ (s.sfu.blend = 1000 ∧ s.sfu.rho < 100)) (h0 : 0 < (columnRec s.sfu col).remaining)
  (hx : (columnRec s.sfu col).exhausted = false) (hn : (columnRec s.sfu col).remaining - charge 1 s.sfu / 100 ≤ s.cfg.reserve)
include hcol hv hrec hb h0 hx hn

/-- The millilitre that exhausts the column: it is charged and marked, and what is ready enters service. -/
theorem pouring_exhausts (k : FillKind) (hg : s.wpc.grantCount < 65535) : ∃ x, Poured 1 s x
    ∧ pouring k 1 s = (if s.sfu.ready.isEmpty then x else switchService .exhausted x)
    ∧ x.sfu = grown k 1 s.sfu.blend (measure k (s.wpc.grantCount == 0) (spentRec col s.sfu))
    ∧ writeAsked .columns x = true ∧ x.rst.history = s.rst.history ∧ x.lnk = s.lnk := by
  obtain ⟨m, x, hx', hm⟩ := accountMl_exhausts (s := metered 1 s.sfu s.seq.summary s) k (s.wpc.grantCount == 0) hcol hv hrec h0 hx hb hn
  have hw : (metered 1 s.sfu s.seq.summary s).sfu = s.sfu := rfl
  rw [hw] at hm hx'
  obtain ⟨y, hy⟩ : ∃ y, onSeq (fun q => { q with summary := m }) (onSfu
      (fun f => grown k 1 s.sfu.blend (measure k (s.wpc.grantCount == 0) (spentRec col f))) (metered 1 s.sfu s.seq.summary s)) = y := ⟨_, rfl⟩
  have yk : y.sfu = grown k 1 s.sfu.blend (measure k (s.wpc.grantCount == 0) (spentRec col s.sfu)) ∧ y.rst = s.rst ∧ y.lnk = s.lnk :=
    hy ▸ ⟨rfl, rfl, rfl⟩
  have ho : y.sfu.fill.isOpen = s.sfu.fill.isOpen := by
    rw [yk.1]
    cases k <;> cases col <;> rfl
  have yp : Poured 1 s y := ⟨by rw [← hy]; unfold metered; rw [Nat.one_mul]; rfl, ho⟩
  obtain ⟨y1, y2, y3⟩ := yk
  rw [hy] at hx'
  refine ⟨x, ?_, (pouring_one k hg).trans hm, ?_, ?_, ?_, ?_⟩
  · exact yp.accounts (hx' ▸ ⟨rfl, rfl⟩)
  · rw [hx']
    exact y1
  · rw [hx']
    exact writeAsked_askWrite_self _ _
  · rw [hx']
    exact (askRecord_history _ _).trans (congrArg Rst.history y2)
  · rw [hx']
    exact y3

/-- With nothing ready the column stays in service. -/
theorem exhausts_alone (hr : Rests s) (hp : Pulsed 1 s) {q : FillReq} (hq : s.wpc.fill = some q) (hh : q.held = true)
    (ht : s.wpc.grantCount + 1 < q.target) {k : FillKind} (hk : q.kind = k) (hready : s.sfu.ready = []) :
    ∃ t, exec .flowMeterPulse s = .next t
      ∧ t.sfu = grown k 1 s.sfu.blend (measure k (s.wpc.grantCount == 0) (spentRec col s.sfu))
      ∧ writeAsked .columns t = true ∧ t.rge = s.rge ∧ t.rst.history = s.rst.history := by
  have hc := hp.count
  obtain ⟨x, xp, hl, xs, x3, x2, -⟩ := pouring_exhausts hcol hv hrec hb h0 hx hn k (by omega)
  rw [if_pos (List.isEmpty_iff.mpr hready)] at hl
  obtain ⟨t, he, k', -⟩ := pulse_ended hr hp hq hh ht hk hl (.inl (by
    rw [xs]
    cases k <;> cases col <;> exact ⟨rfl, rfl⟩))
  exact ⟨t, he, k'.sfu.trans xs, k'.asked _ x3, k'.rge.trans (by rw [xp.rest]), k'.history.trans x2⟩

end

end Sys2Proof.Proofs
end


section
/-! PROOFS. A change of the service position as one event (R63), and the exhausted column at the engine (R65, R80). -/

/- One theorem at a time, as the tests have it: proofs that wait for the kernel cost a thread each. -/
set_option Elab.async false

namespace Sys2Proof.Proofs

open Sys2Proof.Machine
open Sys2Proof.Safety

/-! ## The service position changes (R63) -/

/-- The softener once `col` has left service for the regeneration queue and the head of the ready queue has entered it. -/
def switched (col : Column) (f : Sfu) : Sfu := { f with
  regenQ := f.regenQ ++ [col], service := f.ready.head?, ready := f.ready.tail, rho := 0
  duty := if f.ready.head?.isSome then f.blend else 1000
  valveMove := some ⟨match f.ready.head? with | some x => .column x | none => .bypass, 0,
    (match f.valveMove with | some m => m.homing | none => false)⟩
  failedValve := none }

/-- The change of the places alone (R63). -/
def entering (col : Column) (f : Sfu) : Sfu :=
  { f with regenQ := f.regenQ ++ [col], service := f.ready.head?, ready := f.ready.tail, rho := 0 }

/-- What COLUMN_SWITCH carries (R63, log entry 43). -/
def switchTold (reason : SwitchReason) (col : Column) (f : Sfu) : Content :=
  .columnSwitch (some col) f.ready.head? reason
    (match f.ready.head? with | some x => (columnRec f x).remaining | none => 0) (if f.fill.isOpen then f.fill.v else 0)

theorem switchService_eq {s : State} {col : Column} {reason : SwitchReason} (hr : reason = .exhausted ∨ reason = .release)
    (hc : s.sfu.service = some col) (hv : s.sfu.valveFault = false) : switchService reason s
      = askWrite .columns (raiseNotice (switchTold reason col s.sfu) (onSfu (switched col) s)) := by
  have hj : joinPlace reason (some col) s.sfu = { s.sfu with regenQ := s.sfu.regenQ ++ [col] } := by
    rcases hr with rfl | rfl <;> rfl
  have hd : setDuty (commandValve (servicePosition (onSfu (fun _ => entering col s.sfu) s)) (onSfu (fun _ => entering col s.sfu) s))
      = onSfu (switched col) s := rfl
  have hx : switchService reason s = askWrite .columns (raiseNotice (.columnSwitch (some col) s.sfu.ready.head? reason
      (match s.sfu.ready.head? with
        | some x => (columnRec (onSfu (switched col) s).sfu x).remaining
        | none => 0)
      (if s.sfu.fill.isOpen then s.sfu.fill.v else 0)) (onSfu (switched col) s)) := by
    rw [← hd]
    unfold switchService
    rw [hc, hv]
    dsimp only
    rw [hj]
    simp only [Bool.false_eq_true, if_false, Laws.onSfu_sfu]
    rw [if_neg (show ¬ s.sfu.valveFault = true by simp [hv])]
    rfl
  rw [hx]
  unfold switchTold
  cases s.sfu.ready.head? with
  | none => rfl
  | some x => cases x <;> rfl

/-- What a change of the service position leaves. -/
theorem switchService_ends {s : State} {col : Column} {reason : SwitchReason} (hr : reason = .exhausted ∨ reason = .release)
    (hc : s.sfu.service = some col) (hv : s.sfu.valveFault = false) : (switchService reason s).sfu = switched col s.sfu
      ∧ writeAsked .columns (switchService reason s) = true ∧ (switchService reason s).rst.history = s.rst.history
      ∧ (noticeEnabled s.lnk.mask 12 = true → notified (switchTold reason col s.sfu) (switchService reason s) = true) := by
  have hx := switchService_eq hr hc hv
  obtain ⟨y, hy⟩ : ∃ y, raiseNotice (switchTold reason col s.sfu) (onSfu (switched col) s) = y := ⟨_, rfl⟩
  have hn : noticeEnabled s.lnk.mask 12 = true → notified (switchTold reason col s.sfu) y = true := fun h =>
    hy ▸ notified_raiseNotice (c := switchTold reason col s.sfu) (s := onSfu (switched col) s) h
  have hrest := raiseNotice_rest (switchTold reason col s.sfu) (onSfu (switched col) s)
  have yk : y.sfu = switched col s.sfu ∧ y.rst = s.rst := by
    rw [← hy, hrest]
    exact ⟨rfl, rfl⟩
  obtain ⟨y1, y2⟩ := yk
  rw [hx, hy]
  exact ⟨y1, writeAsked_askWrite_self _ _, (askRecord_history _ _).trans (congrArg Rst.history y2), hn⟩

/-! ## The engine takes the column (R65, R80) -/

theorem handOver_takes {s : State} {col : Column} {rest : List Column} (hq : s.sfu.regenQ = col :: rest) (hp : handsOver s = true)
    (hi : s.rge.state = .idle) (hv : s.sfu.valveFault = false) :
    handOver s = askWrite .columns (takeColumn col (onSfu (fun f => { f with regenQ := rest }) s)) := by
  unfold handOver
  rw [hq]
  simp [hp, hi, hv]

/-- What the engine's take leaves: its own fields, and its request unless the salt lid stands open (R80, R81). -/
structure Takes (col : Column) (rest : List Column) (s t : State) : Prop where
  rest : t = { s with sfu := { s.sfu with regenQ := rest }, rge := t.rge, rst := t.rst, wpc := { s.wpc with regen := t.wpc.regen } }
  regen : ∀ g ∈ t.wpc.regen, g = ⟨.brine, false⟩ ∨ g ∈ s.wpc.regen
  column : t.rge.column = some col
  state : t.rge.state = .brineWait
  deficit : t.rge.deficit = nominalCapacity s - (columnRec s.sfu col).remaining
  asked : writeAsked .columns t = true
  history : t.rst.history = s.rst.history

theorem takes_handOver {s : State} {col : Column} {rest : List Column} (hq : s.sfu.regenQ = col :: rest) (hp : handsOver s = true)
    (hi : s.rge.state = .idle) (hv : s.sfu.valveFault = false) : Takes col rest s (handOver s) := by
  have hc : columnRec (onSfu (fun f => { f with regenQ := rest }) s).sfu col = columnRec s.sfu col := by cases col <;> rfl
  rw [handOver_takes hq hp hi hv]
  unfold takeColumn
  dsimp only
  rw [hc]
  split
  · exact ⟨rfl, fun g hg => .inr hg, rfl, rfl, rfl, writeAsked_askWrite_self _ _, askRecord_history _ _⟩
  · refine ⟨rfl, fun g hg => .inl ?_, rfl, rfl, rfl, writeAsked_askWrite_self _ _, askRecord_history _ _⟩
    exact (Option.mem_some_iff.mp hg).symm

/-- An idle engine takes the column in the queue; with a fill standing, or without the conditions of R39, nothing is granted. -/
theorem waterSettle_takes {s : State} {col : Column} {rest : List Column} (hq : s.sfu.regenQ = col :: rest) (hp : handsOver s = true)
    (hi : s.rge.state = .idle) (hv : s.sfu.valveFault = false) (hf : ∀ q ∈ s.wpc.fill, q.held = true ∨ s.wpc.burst.isSome = true)
    (hh : s.wpc.holder ≠ .brine ∧ s.wpc.holder ≠ .rinse) (hg : s.wpc.fill.isSome = true ∨ waterFlows s = false) :
    waterSettle s = handOver (refreshPump s) ∧ Takes col rest (refreshPump s) (handOver (refreshPump s)) := by
  have k : Takes col rest (refreshPump s) (handOver (refreshPump s)) := takes_handOver hq hp hi hv
  refine ⟨?_, k⟩
  have hgr : regenGrantable (handOver (refreshPump s)) = false := by
    obtain ⟨-, hm⟩ := handOver_flows (refreshPump s)
    have hw : (handOver (refreshPump s)).wpc.fill = s.wpc.fill := by rw [k.rest]; rfl
    unfold regenGrantable
    rw [hm, Laws.regenMayFlow_refreshPump, hw]
    rcases hg with hg | hg
    · rw [Option.isNone_eq_false_iff.mpr hg]
      rfl
    · rw [hg, Bool.and_false]
      rfl
  have hx : grantRegen (handOver (refreshPump s)) = handOver (refreshPump s) := by
    unfold grantRegen
    simp only [hgr, Bool.false_eq_true, if_false]
    split <;> rfl
  unfold waterSettle
  rw [Laws.grantDeferred_rests hf, Laws.effluentMeetsDrain_rests (s := refreshPump s) (fun hx => by simp [hi] at hx),
    Laws.refreshPump_refreshPump, Laws.revokeUnlessFlows_rests (fun hx => absurd hx (by simp [hh])), Laws.refreshPump_refreshPump, hx]

/-- The step of a READY part with nothing to report in which an idle engine takes the column, a FILL grant standing. -/
theorem conclude_takes {s : State} {col : Column} {rest : List Column} (ha : Awake s) (hq : s.sfu.regenQ = col :: rest)
    (hi : s.rge.state = .idle) (hv : s.sfu.valveFault = false) {q : FillReq} (hf : s.wpc.fill = some q) (hh : q.held = true)
    (hl : s.wpc.holder = .fill) :
    conclude s = finish (outputs (handOver (refreshPump s))) ∧ Takes col rest (refreshPump s) (handOver (refreshPump s)) := by
  obtain ⟨-, a2, a3⟩ := ha
  obtain ⟨hw, k⟩ := waterSettle_takes hq (by simp [handsOver, a2]) hi hv (fun x hx => .inl (by
    rw [hf, Option.mem_some_iff] at hx
    rw [← hx]
    exact hh)) (by simp [hl]) (.inl (by simp [hf]))
  refine ⟨?_, k⟩
  have hr : (handOver (refreshPump s)).reports = [] := by rw [k.rest]; exact a3
  have hp : (handOver (refreshPump s)).part.state = .ready := by rw [k.rest]; exact a2
  have hh : (handOver (refreshPump s)).wpc.holder = .fill := by rw [k.rest]; exact hl
  rw [conclude, settle_ready (by rw [hw, Laws.takeReports_nil 64 hr]; exact hp), hw, Laws.takeReports_nil 64 hr, rested,
    Laws.revokeUnlessFlows_rests (fun hx => absurd hx (by simp [hh]))]
  rfl

end Sys2Proof.Proofs
end


section
/-! PROOFS. The millilitre that exhausts the serving column while another is ready (R62, R63, R65). -/

/- One theorem at a time, as the tests have it: proofs that wait for the kernel cost a thread each. -/
set_option Elab.async false

namespace Sys2Proof.Proofs

open Sys2Proof.Machine
open Sys2Proof.Safety

/-- The softener with the column spent by a millilitre of a main fill. -/
def spentBy (col : Column) (f : Sfu) : Sfu := { spentRec col f with
  fill := { f.fill with v := f.fill.v + 1, g := f.fill.g + f.hRaw * f.blend } }

theorem spentBy_eq (b : Bool) (col : Column) (f : Sfu) : grown .main 1 f.blend (measure .main b (spentRec col f)) = spentBy col f := by
  have h : grown .main 1 f.blend (measure .main b (spentRec col f)) = { spentRec col f with
      fill := { f.fill with v := f.fill.v + 1, g := f.fill.g + 1 * (f.hRaw * f.blend) } } := by cases col <;> rfl
  rw [h, Nat.one_mul]
  rfl

theorem spentBy_places (col : Column) (f : Sfu) : (spentBy col f).service = f.service ∧ (spentBy col f).valveFault = f.valveFault
    ∧ (spentBy col f).ready = f.ready ∧ (spentBy col f).regenQ = f.regenQ := by cases col <;> exact ⟨rfl, rfl, rfl, rfl⟩

/-- The softener once the spent column has made way for the next one (R63). -/
def relieved (col next : Column) (queue : List Column) (f : Sfu) : Sfu := { spentRec col f with
  service := some next, ready := f.ready.tail, rho := 0, duty := f.blend, failedValve := none, regenQ := queue
  valveMove := some ⟨.column next, 0, (match f.valveMove with | some m => m.homing | none => false)⟩
  fill := { f.fill with v := f.fill.v + 1, g := f.fill.g + f.hRaw * f.blend } }

theorem switched_spentBy {col next : Column} {f : Sfu} (h : f.ready.head? = some next) :
    switched col (spentBy col f) = relieved col next (f.regenQ ++ [col]) f := by
  obtain ⟨-, -, h3, -⟩ := spentBy_places col f
  unfold switched
  rw [h3, h]
  cases col <;> rfl

theorem switchTold_spentBy {col next : Column} {f : Sfu} (h : f.ready.head? = some next) (hne : next ≠ col) :
    switchTold .exhausted col (spentBy col f) = .columnSwitch (some col) (some next) .exhausted (columnRec f next).remaining
      (if f.fill.isOpen then f.fill.v + 1 else 0) := by
  obtain ⟨-, -, h3, -⟩ := spentBy_places col f
  have hr : columnRec (spentBy col f) next = columnRec f next := by
    rw [← columnRec_set_ne (f := f) { columnRec f col with
      remaining := (columnRec f col).remaining - charge 1 f / 100, exhausted := true } hne]
    cases next <;> rfl
  unfold switchTold
  rw [h3, h]
  dsimp only
  rw [hr]
  cases col <;> rfl

section
variable {s : State} {col next : Column} (hcol : s.sfu.service = some col) (hv : s.sfu.valveFault = false) (hrec : Recorded s.sfu col)
  (hb : s.sfu.blend < 1000 ∨ (s.sfu.blend = 1000 ∧ s.sfu.rho < 100)) (h0 : 0 < (columnRec s.sfu col).remaining)
  (hx : (columnRec s.sfu col).exhausted = false) (hn : (columnRec s.sfu col).remaining - charge 1 s.sfu / 100 ≤ s.cfg.reserve)
  (hnext : s.sfu.ready.head? = some next) (hne : next ≠ col)
include hcol hv hrec hb h0 hx hn hnext hne

/-- What the millilitre makes of the part. -/
theorem pouring_relieves (hg : s.wpc.grantCount < 65535) : ∃ x, pouring .main 1 s = x ∧ Poured 1 s x
    ∧ x.sfu = relieved col next (s.sfu.regenQ ++ [col]) s.sfu ∧ writeAsked .columns x = true ∧ x.rst.history = s.rst.history
    ∧ (noticeEnabled s.lnk.mask 12 = true → notified (.columnSwitch (some col) (some next) .exhausted
      (columnRec s.sfu next).remaining (if s.sfu.fill.isOpen then s.sfu.fill.v + 1 else 0)) x = true) := by
  obtain ⟨x, xp, hl, xs, -, x2, x1⟩ := pouring_exhausts hcol hv hrec hb h0 hx hn .main hg
  have he : s.sfu.ready.isEmpty = false := by
    cases hr : s.sfu.ready with
    | nil => simp [hr] at hnext
    | cons _ _ => rfl
  rw [spentBy_eq] at xs
  obtain ⟨p1, p2, -, -⟩ := spentBy_places col s.sfu
  obtain ⟨e1, e2, e3, e4⟩ := switchService_ends (s := x) (.inl rfl) (by rw [xs, p1]; exact hcol) (by rw [xs, p2]; exact hv)
  rw [he, if_neg Bool.false_ne_true] at hl
  rw [xs, switched_spentBy hnext] at e1
  rw [xs, switchTold_spentBy hnext hne, x1] at e4
  exact ⟨_, hl, xp.accounts ((Accounts.refl x).serves ((Serves.refl x).switchService _)), e1, e2, e3.trans x2, e4⟩

theorem exhausts_relieved (hr : Rests s) (hp : Pulsed 1 s) {q : FillReq} (hq : s.wpc.fill = some q) (hh : q.held = true)
    (ht : s.wpc.grantCount + 1 < q.target) (hk : q.kind = .main) :
    ∃ t, exec .flowMeterPulse s = .next t
      ∧ t.sfu = relieved col next (if s.rge.state = .idle then s.sfu.regenQ else s.sfu.regenQ ++ [col]) s.sfu
      ∧ (noticeEnabled s.lnk.mask 12 = true → notified (.columnSwitch (some col) (some next) .exhausted
        (columnRec s.sfu next).remaining (if s.sfu.fill.isOpen then s.sfu.fill.v + 1 else 0)) t = true)
      ∧ (s.rge.state = .idle → t.rge.column = some col ∧ t.rge.state = .brineWait
        ∧ t.rge.deficit = s.cfg.nominal * 1000000 - ((columnRec s.sfu col).remaining - charge 1 s.sfu / 100))
      ∧ (s.rge.state ≠ .idle → t.rge = s.rge)
      ∧ writeAsked .columns t = true ∧ t.rst.history = s.rst.history := by
  have hc := hp.count
  obtain ⟨x, hl, xp, xs, xa, xh, xn⟩ := pouring_relieves hcol hv hrec hb h0 hx hn hnext hne (by omega)
  by_cases hi : s.rge.state = .idle
  · have hqu : s.sfu.regenQ = [] := (unqueued_of_rests hr hi).resolve_right (by simp [hv])
    rw [hqu, List.nil_append] at xs
    have xr : x.rge.state = .idle := by rw [xp.rest]; exact hi
    have xl : x.wpc.holder = .fill := xp.holder.trans (holder_fill_rests hr hq hh)
    have xc : x.cfg = s.cfg := by rw [xp.rest]
    have xw : Awake x := by
      obtain ⟨⟨a1, a2, a3⟩, -⟩ := hr
      rw [xp.rest]
      exact ⟨a1, a2, a3⟩
    obtain ⟨he, k⟩ := conclude_takes (s := x) xw (by rw [xs]; rfl) xr (by rw [xs]; exact (spentBy_places col s.sfu).2.1.trans hv)
      (xp.fill.trans hq) hh xl
    have hex : exec .flowMeterPulse s = .next (finish (outputs (handOver (refreshPump x)))) := by
      rw [pulse_hears hr, fill_pours hp hq (holder_fill_rests hr hq hh) ht, hk, hl, concludeFill, fillHeld_held hq hh rfl,
        fillHeld_held hq hh xp.fill, he]
      rfl
    have hrc : columnRec (refreshPump x).sfu col = { columnRec s.sfu col with
        remaining := (columnRec s.sfu col).remaining - charge 1 s.sfu / 100, exhausted := true } := by
      show columnRec x.sfu col = _
      rw [xs, ← columnRec_set { columnRec s.sfu col with
        remaining := (columnRec s.sfu col).remaining - charge 1 s.sfu / 100, exhausted := true } hrec]
      cases col <;> rfl
    obtain ⟨y, hy⟩ : ∃ y, handOver (refreshPump x) = y := ⟨_, rfl⟩
    rw [hy] at hex k
    have t := ended_outputs y
    refine ⟨_, hex, ?_, fun hen => t.noted _ ?_, fun _ => ⟨?_, ?_, ?_⟩, fun hx => absurd hi hx, t.asked _ k.asked, ?_⟩
    · rw [t.sfu, k.rest, if_pos hi, hqu]
      show { x.sfu with regenQ := [] } = _
      rw [xs]
      rfl
    · rw [k.rest]
      exact xn hen
    · rw [t.rge, k.column]
    · rw [t.rge, k.state]
    · rw [t.rge, k.deficit, hrc]
      show x.cfg.nominal * 1000000 - _ = _
      rw [xc]
    · rw [t.history, k.history]
      exact xh
  · obtain ⟨t, he, k, -⟩ := pulse_ended hr hp hq hh ht hk hl (.inr hi)
    rw [if_neg hi]
    exact ⟨t, he, k.sfu.trans xs, fun hen => k.noted _ (xn hen), fun hx => absurd hx hi, fun _ => k.rge.trans (by rw [xp.rest]),
      k.asked _ xa, k.history.trans xh⟩

end

end Sys2Proof.Proofs
end


section
/-! PROOFS. The millilitre that reaches the target of a fill (R41, R42): the record's volume, the summary, and the grant's end. -/

/- One theorem at a time, as the tests have it: proofs that wait for the kernel cost a thread each. -/
set_option Elab.async false

namespace Sys2Proof.Proofs

open Sys2Proof.Machine
open Sys2Proof.Safety

/-! ## What the softener leaves of the record and of the summary (R59, R60, R31) -/

/-- From `s` to `t` the softener has taken a millilitre of this kind on its account: the record's volume stands, of the summary only
the columns drawn from and the breakthrough have changed, and a top-up leaves the record. -/
structure Softens (k : FillKind) (s t : State) : Prop where
  summary : t.seq.summary = { s.seq.summary with columns := t.seq.summary.columns, breakthrough := t.seq.summary.breakthrough }
  volume : t.sfu.fill.v = s.sfu.fill.v
  record : k = .topUp → t.sfu.fill = s.sfu.fill
  history : t.rst.history = s.rst.history

namespace Softens

variable {k : FillKind} {s t u : State}

theorem trans (h : Softens k s t) (h' : Softens k t u) : Softens k s u := by
  refine ⟨?_, h'.volume.trans h.volume, fun hk => (h'.record hk).trans (h.record hk), h'.history.trans h.history⟩
  have hx := h'.summary
  rw [h.summary] at hx
  exact hx

theorem serves (h : Serves s t) (hh : t.rst.history = s.rst.history) : Softens k s t :=
  ⟨by rw [h.rest], by rw [h.record.1], fun _ => h.record.1, hh⟩

theorem addG (k : FillKind) (n : Nat) (s : State) : Softens k s (addG k n s) := by
  cases k with
  | main => exact ⟨rfl, rfl, nofun, rfl⟩
  | topUp => exact ⟨rfl, rfl, fun _ => rfl, rfl⟩

theorem chargeColumn (k : FillKind) (col : Column) (s : State) : Softens k s (chargeColumn col s) := by
  rw [chargeColumn_drawn]
  have hf : (drawn col 1 s.sfu).fill = s.sfu.fill := by cases col <;> rfl
  refine ⟨?_, congrArg FillRec.v hf, fun _ => hf, rfl⟩
  have hq : (onSeq (drawFrom col) (onSfu (drawn col 1) s)).seq = _ := drawFrom_eq col s.seq
  rw [hq]

theorem breakthroughMl (k : FillKind) (col : Column) (s : State) : Softens k s (breakthroughMl k col s) := by
  cases k with
  | main =>
    rw [breakthroughMl_main]
    split
    · rw [raiseNotice_rest]
      exact ⟨rfl, rfl, nofun, rfl⟩
    · exact ⟨rfl, rfl, nofun, rfl⟩
  | topUp =>
    rw [breakthroughMl_topUp]
    split
    · exact ⟨rfl, rfl, fun _ => rfl, rfl⟩
    · rw [raiseNotice_rest]
      exact ⟨rfl, rfl, fun _ => rfl, rfl⟩

theorem softenMl (k : FillKind) (s : State) : Softens k s (softenMl k s) := by
  unfold Machine.softenMl
  split
  · exact addG k 1000 s
  · split
    · exact addG k 1000 s
    · split
      · exact (addG k 1000 s).trans (breakthroughMl k _ _)
      · split
        · exact (chargeColumn k _ s).trans (addG k _ _)
        · exact addG k 1000 s

end Softens

theorem markExhausted_serves (col : Column) (s : State) : Serves s (markExhausted col s) :=
  ((Serves.refl s).onSfu (fun f => setColumnRec f col { columnRec f col with exhausted := true }) (by cases col <;> rfl)
    (by cases col <;> rfl) (by cases col <;> rfl) (by cases col <;> rfl)).askWrite _

theorem exhaustionCheck_serves (s : State) : Serves s (exhaustionCheck s) := by
  unfold exhaustionCheck
  split
  · exact .refl s
  · exact .ite (fun _ => .ite (fun _ => markExhausted_serves _ s) fun _ => (markExhausted_serves _ s).switchService _) fun _ => .refl s

theorem exhaustionCheck_history (s : State) : (exhaustionCheck s).rst.history = s.rst.history := by
  have hm : ∀ col, (markExhausted col s).rst.history = s.rst.history := fun col => askRecord_history _ _
  unfold exhaustionCheck
  split
  · rfl
  · next col _ =>
    dsimp only
    split
    · split
      · exact hm col
      · exact ((Wets.refl (markExhausted col s)).switchService .exhausted).history.trans (hm col)
    · rfl

/-- `i` millilitres of a pulse on the program's account and on the record's. -/
structure Volumes (k : FillKind) (i : Nat) (s x : State) : Prop where
  summary : x.seq.summary = { s.seq.summary with
    water := s.seq.summary.water + i, columns := x.seq.summary.columns, breakthrough := x.seq.summary.breakthrough }
  volume : k = .main → x.sfu.fill.v = s.sfu.fill.v + i
  record : k = .topUp → x.sfu.fill = s.sfu.fill
  history : x.rst.history = s.rst.history

theorem accountMl_softens (k : FillKind) (b : Bool) (s : State) :
    Softens k (onSfu (measure k b) s) (accountMl k b s) := by
  rw [accountMl_eq]
  exact (Softens.softenMl k _).trans (.serves (exhaustionCheck_serves _) (exhaustionCheck_history _))

theorem volumes_pouring (k : FillKind) (i : Nat) (s : State) : Volumes k i s (pouring k i s) := by
  induction i with
  | zero => exact ⟨rfl, fun _ => rfl, fun _ => rfl, rfl⟩
  | succ i ih =>
    obtain ⟨x, hx⟩ : ∃ x, pouring k i s = x := ⟨_, rfl⟩
    rw [hx] at ih
    have hs : Softens k (onSfu (measure k ((watered x).wpc.grantCount == 1)) (watered x)) (pouring k (i + 1) s) := by
      rw [← hx]
      exact accountMl_softens k _ _
    refine ⟨?_, fun hk => ?_, fun hk => ?_, hs.history.trans ih.history⟩
    · have h1 := hs.summary
      have h2 : (watered x).seq.summary = { x.seq.summary with water := x.seq.summary.water + 1 } := rfl
      rw [show (onSfu (measure k ((watered x).wpc.grantCount == 1)) (watered x)).seq = (watered x).seq from rfl, h2, ih.summary] at h1
      exact h1
    · subst hk
      rw [hs.volume]
      show x.sfu.fill.v + 1 = _
      rw [ih.volume rfl, Nat.add_assoc]
    · have h1 := hs.record hk
      subst hk
      exact h1.trans (ih.record rfl)

end Sys2Proof.Proofs
end


section
/-! PROOFS. A fill that reaches its target: the main fill closes and the phase goes on, the top-up ends alone (R9, R41, R42, R67). -/

/- One theorem at a time, as the tests have it: proofs that wait for the kernel cost a thread each. -/
set_option Elab.async false

namespace Sys2Proof.Proofs

open Sys2Proof.Machine
open Sys2Proof.Safety

/-! ## The main fill (R41, R67) -/

/-- The part `x` with its grant over at the target. -/
def reached (k : FillKind) (x : State) : State := grantOver k .volumeReached x

/-- What the millilitre that reaches the target of a main fill leads to: `d` millilitres have made `x` of the part, and the step ends
in `t`. -/
structure FillReached (w : WashRecord) (d : Nat) (s x v t : State) : Prop extends FillEnds w (reached .main x) v t where
  poured : Poured d s x
  volumes : Volumes .main d s x
  holder : t.wpc.holder = .none
  inlet : t.wpc.inletValve = false

section
variable {s : State} (hr : Rests s) {n : Nat} (hp : Pulsed n s) {q : FillReq} (hq : s.wpc.fill = some q) (hh : q.held = true)
  (h0 : s.wpc.grantCount < q.target) (ht : q.target ≤ s.wpc.grantCount + n)
include hr hp hq hh h0 ht

/-- The pulse ends the grant at its target. -/
theorem pulse_reaches : exec .flowMeterPulse s
    = .next (concludeFill s (endFill .volumeReached (pouring q.kind (q.target - s.wpc.grantCount) s))) := by
  rw [pulse_hears hr, fill_reached hp hq (holder_fill_rests hr hq hh) h0 ht]

theorem fill_reaches (hk : q.kind = .main) (hb : runningIn s .fill = true) {w : WashRecord} (hw : currentWash s = some w)
    (hw0 : 0 < w.holdTime) {x : State} (hx : pouring .main (q.target - s.wpc.grantCount) s = x) :
    ∃ v t f, exec .flowMeterPulse s = .next (onTies f t) ∧ FillReached w (q.target - s.wpc.grantCount) s x v t := by
  have hm := hp.most
  have hc := hp.count
  have k := poured_pouring .main (s := s) (i := q.target - s.wpc.grantCount) (by omega)
  have kv := volumes_pouring .main (q.target - s.wpc.grantCount) s
  rw [hx] at k kv
  have he := pulse_reaches hr hp hq hh h0 ht
  rw [hk, hx, endFill_main (k.fill.trans hq) .volumeReached hk] at he
  obtain ⟨f, hf⟩ := concludeFill_marks s (reached .main x)
  have he : exec .flowMeterPulse s = .next (onTies f (conclude (reached .main x))) := by
    rw [← hf]
    exact he
  obtain ⟨⟨-, a2, a3⟩, -⟩ := hr
  have xs : x.part = s.part ∧ x.reports = s.reports ∧ x.seq.state = s.seq.state ∧ x.seq.sub = s.seq.sub
      ∧ currentWash x = currentWash s := by
    rw [k.rest]
    exact ⟨rfl, rfl, rfl, rfl, rfl⟩
  obtain ⟨x1, x2, x3, x4, x5⟩ := xs
  obtain ⟨y, hy⟩ : ∃ y, reached .main x = y := ⟨_, rfl⟩
  have yk : y.part = x.part ∧ y.seq = x.seq := hy ▸ ⟨rfl, rfl⟩
  have yr : y.reports = [.fillEnded .main .volumeReached x.wpc.grantCount] := by
    rw [← hy]
    exact congrArg (· ++ [Report.fillEnded .main .volumeReached x.wpc.grantCount]) (x2.trans a3)
  have yw : y.wpc = unfilled x.wpc := hy ▸ rfl
  obtain ⟨y1, y2⟩ := yk
  rw [hy] at he
  obtain ⟨v, e⟩ := fill_ends hw0 (.inr rfl) (by rw [y1, x1]; exact a2) yr (by rw [runningIn, y2, x3, x4]; exact hb)
    (by rw [currentWash_congr (s := x) (by rw [y2]) (by rw [y2]), x5]; exact hw) (by rw [yw]; rfl) (concludes_conclude y)
  have hth := (concludes_conclude y).settled.holder_none e.warm.dry (e.moves.free (by rw [yw]; nofun))
  have hpi : Piped y.wpc := by
    rw [yw]
    exact ⟨rfl, rfl⟩
  have hin := (e.moves.piped hpi).inlet
  rw [hth] at hin
  rw [← hy] at e he hth hin
  exact ⟨v, _, f, he, e, k, kv, hth, hin⟩

theorem main_reached (hk : q.kind = .main) (hb : runningIn s .fill = true) (ho : s.sfu.fill.isOpen = true) {w : WashRecord}
    (hw : currentWash s = some w) (hw0 : 0 < w.holdTime) :
    ∃ t, exec .flowMeterPulse s = .next t
      ∧ t.wpc.fill = none ∧ t.wpc.holder = .none ∧ t.wpc.inletValve = false ∧ t.wpc.grantCount = q.target
      ∧ t.seq.summary.water = s.seq.summary.water + (q.target - s.wpc.grantCount)
      ∧ t.sfu.fill.isOpen = false ∧ t.sfu.fill.v = s.sfu.fill.v + (q.target - s.wpc.grantCount)
      ∧ t.sfu.fill.hFill = (t.sfu.fill.g + 500 * t.sfu.fill.v) / (1000 * t.sfu.fill.v)
      ∧ t.seq.state = .running ∧ (t.seq.sub = .dose ∨ t.seq.sub = .heat ∨ t.seq.sub = .circulate)
      ∧ (w.refs = [] → w.target = 0 → t.seq.sub = .circulate ∧ t.seq.holdTimer = 0 ∧ t.czs.pump = true)
      ∧ writeAsked .columns t = true ∧ t.rst.history = s.rst.history := by
  obtain ⟨v, t, f, he, e⟩ := fill_reaches hr hp hq hh h0 ht hk hb hw hw0 rfl
  obtain ⟨x, hx⟩ : ∃ x, pouring .main (q.target - s.wpc.grantCount) s = x := ⟨_, rfl⟩
  rw [hx] at e
  have hop : x.sfu.fill.isOpen = true := e.poured.opened.trans ho
  have hv := e.volumes.volume rfl
  have hrec : t.sfu.fill = closedRecord x.sfu := e.record
  rw [closedRecord_open hop, if_neg (by omega)] at hrec
  have hcount := e.poured.count
  refine ⟨onTies f t, he, e.moves.fill rfl, e.holder, e.inlet, ?_, ?_, by rw [Laws.onTies_sfu, hrec], ?_, ?_, e.warm.running, e.warm.sub,
    fun h1 h2 => ?_, e.asked hop, ?_⟩
  · exact e.moves.count.trans (hcount.trans (by omega))
  · have hs : t.seq.summary = x.seq.summary := e.warm.summary
    rw [Laws.onTies_seq, hs, e.volumes.summary]
  · rw [Laws.onTies_sfu, hrec]
    exact hv
  · rw [Laws.onTies_sfu, hrec]
  · obtain ⟨k1, k2⟩ := e.circulates h1 h2
    exact ⟨k1, k2, e.pump⟩
  · exact e.moves.history.trans e.volumes.history

/-! ## The top-up (R42, R66) -/

theorem topUp_reached (hk : q.kind = .topUp) :
    ∃ t, exec .flowMeterPulse s = .next t
      ∧ t.wpc.fill = none ∧ t.wpc.holder = .none ∧ t.wpc.inletValve = false ∧ t.wpc.grantCount = q.target
      ∧ t.seq = { s.seq with
          summary := { s.seq.summary with
            water := s.seq.summary.water + (q.target - s.wpc.grantCount)
            columns := t.seq.summary.columns, breakthrough := t.seq.summary.breakthrough }
          permit := t.seq.permit }
      ∧ (s.sfu.service = none → t.seq.summary.columns = s.seq.summary.columns
          ∧ t.seq.summary.breakthrough = s.seq.summary.breakthrough)
      ∧ t.sfu.fill = s.sfu.fill ∧ t.rst.history = s.rst.history := by
  have hm := hp.most
  have hc := hp.count
  obtain ⟨d, hd⟩ : ∃ d, q.target - s.wpc.grantCount = d := ⟨_, rfl⟩
  have k := poured_pouring .topUp (s := s) (i := d) (by omega)
  have kv := volumes_pouring .topUp d s
  have kl : s.sfu.service = none → (pouring .topUp d s).seq.summary = { s.seq.summary with water := s.seq.summary.water + d } := by
    intro hn
    rw [pouring_leaves .topUp d (by omega) (.inl hn)]
    rfl
  have he := pulse_reaches hr hp hq hh h0 ht
  rw [hk, hd] at he
  obtain ⟨x, hx⟩ : ∃ x, pouring .topUp d s = x := ⟨_, rfl⟩
  rw [hx] at k kv kl he
  rw [endFill_topUp (k.fill.trans hq) .volumeReached hk] at he
  obtain ⟨f, hf⟩ := concludeFill_marks s (endTopUp (reached .topUp x))
  have he : exec .flowMeterPulse s = .next (onTies f (conclude (endTopUp (reached .topUp x)))) := by
    rw [← hf]
    exact he
  have hys := (Serves.refl (reached .topUp x)).endTopUp
  have hyw := (Wets.refl (reached .topUp x)).endTopUp
  obtain ⟨y, hy⟩ : ∃ y, endTopUp (reached .topUp x) = y := ⟨_, rfl⟩
  rw [hy] at he hys hyw
  obtain ⟨⟨-, a2, a3⟩, -, hw2, -⟩ := hr
  have hb : BeforeDrain s := by
    obtain ⟨b1, -, b2, b3⟩ := hw2 (by rw [hq]; rfl)
    exact ⟨b1, b2, b3⟩
  have xs : x.part = s.part ∧ x.reports = s.reports ∧ x.seq = { s.seq with summary := x.seq.summary } := by
    rw [k.rest]
    exact ⟨rfl, rfl, rfl⟩
  obtain ⟨x1, x2, x3⟩ := xs
  have yw : y.wpc = unfilled x.wpc := hys.wpc
  have ys : y.seq = x.seq := hys.seq
  have yr : y.reports = [.fillEnded .topUp .volumeReached x.wpc.grantCount] := by
    rw [hys.reports]
    exact congrArg (· ++ [Report.fillEnded .topUp .volumeReached x.wpc.grantCount]) (x2.trans a3)
  have yb : BeforeDrain y := hb.congr (by rw [ys, x3]) (by rw [ys, x3])
  obtain ⟨kd, kq⟩ := topUp_over (by rw [hyw.part]; exact (congrArg Part.state x1).trans a2) yr (by rw [yw]; rfl) yb.not_drain (concludes_conclude y)
  have tb : BeforeDrain (conclude y) := yb.congr kd.state kd.sub
  have hth : (conclude y).wpc.holder = .none := (concludes_conclude y).settled.holder_none tb.flows
    (kd.free (by rw [yw]; rfl) (by rw [yw]; nofun))
  have hpi : Piped y.wpc := by
    rw [yw]
    exact ⟨rfl, rfl⟩
  have hin := (kd.piped hpi).inlet
  rw [hth] at hin
  obtain ⟨t, ht'⟩ : ∃ t, conclude y = t := ⟨_, rfl⟩
  rw [ht'] at he kd kq hth hin
  have hcount := k.count
  have hsum : t.seq.summary = x.seq.summary := by rw [kq, ys]
  rw [hd]
  refine ⟨onTies f t, he, kd.fill.trans (by rw [yw]; rfl), hth, hin, ?_, ?_, fun hn => ?_, ?_, ?_⟩
  · refine (kd.count yb.not_drain yb.flows).trans ?_
    rw [yw]
    exact hcount.trans (by omega)
  · have h1 := kq
    rw [ys, x3, kv.summary] at h1
    rw [Laws.onTies_seq, hsum]
    exact h1
  · show t.seq.summary.columns = _ ∧ t.seq.summary.breakthrough = _
    rw [hsum, kl hn]
    exact ⟨rfl, rfl⟩
  · exact kd.record.1.trans (hys.record.1.trans (kv.record rfl))
  · exact kd.history.trans (hyw.history.trans kv.history)

end

end Sys2Proof.Proofs
end


section
/-! PROOFS. The close of a fill through an exhausted column with nothing ready (R66, R67, log entry 43). -/

/- One theorem at a time, as the tests have it: proofs that wait for the kernel cost a thread each. -/
set_option Elab.async false

namespace Sys2Proof.Proofs

open Sys2Proof.Machine
open Sys2Proof.Safety

/-! ## The release rule (R66) -/

theorem releaseRule_waits {s : State} (h : s.rge.state ≠ .idle) : releaseRule s = s := by
  unfold releaseRule
  split
  · rfl
  · rw [if_neg (by simp [h])]

theorem releaseRule_releases {s : State} {col : Column} (hc : s.sfu.service = some col) (hv : s.sfu.valveFault = false)
    (he : (columnRec s.sfu col).exhausted = true) (hr : s.sfu.ready = []) (hq : s.sfu.regenQ = []) (hi : s.rge.state = .idle) :
    releaseRule s = switchService .release s := by
  unfold releaseRule
  rw [hc]
  dsimp only
  rw [if_pos (by simp [hv, he, hr, hq, hi])]

/-- The record of a fill, closed (R67). -/
def recordClosed (s : State) : State := askWrite .columns (onSfu (fun f => { f with fill := closedRecord f }) s)

theorem closeFill_open {s : State} (h : s.sfu.fill.isOpen = true) : closeFill s = releaseRule (recordClosed s) := by
  unfold closeFill recordClosed
  rw [if_pos h]
  have hc := closedRecord_open h
  show releaseRule (askWrite .columns (onSfu _ s)) = releaseRule (askWrite .columns (onSfu (fun _ => { s.sfu with fill := closedRecord s.sfu }) s))
  rw [hc]
  rfl

/-! ## The last millilitre through the empty column (R61) -/

section
variable {s : State} {col : Column} (hc : s.sfu.service = some col) (hv : s.sfu.valveFault = false)
  (h0 : (columnRec s.sfu col).remaining = 0) (he : (columnRec s.sfu col).exhausted = true)
include hc hv h0 he

/-- It leaves the columns and the mask. -/
theorem pouring_empty (hg : s.wpc.grantCount < 65535) {x : State} (hx : pouring .main 1 s = x) :
    SameColumns s.sfu x.sfu ∧ x.lnk.mask = s.lnk.mask := by
  have hs : SameColumns s.sfu s.sfu := rfl
  rw [pouring_one .main hg, breaks_same hc hv h0 he (x := metered 1 s.sfu s.seq.summary s) .main _ hs] at hx
  obtain ⟨z, hz⟩ : ∃ z, onSfu (fun f => grown .main 1 1000 (measure .main (s.wpc.grantCount == 0) f)) (metered 1 s.sfu s.seq.summary s) = z :=
    ⟨_, rfl⟩
  have zs : SameColumns s.sfu z.sfu := hz ▸ rfl
  have zm : z.lnk.mask = s.lnk.mask := hz ▸ rfl
  rw [hz] at hx
  obtain ⟨k, -⟩ := breakthroughMl_same .main col z
  rw [← hx]
  refine ⟨zs.trans k, ?_⟩
  rw [breakthroughMl_main, ← zm]
  split
  · exact raiseNotice_mask _ _
  · rfl

end

/-! ## The column released (R66, log entry 43) -/

/-- The softener once the record has closed and the column has been released. -/
def releasedSfu (col : Column) (f : Sfu) : Sfu := switched col { f with fill := closedRecord f }

/-- The close of a fill through an exhausted column with nothing ready or waiting, the engine idle. -/
theorem closeFill_releases {v : State} {col : Column} (ho : v.sfu.fill.isOpen = true) (hc : v.sfu.service = some col)
    (hv : v.sfu.valveFault = false) (he : (columnRec v.sfu col).exhausted = true) (hr : v.sfu.ready = []) (hq : v.sfu.regenQ = [])
    (hi : v.rge.state = .idle) : (closeFill v).sfu = releasedSfu col v.sfu
      ∧ (noticeEnabled v.lnk.mask 12 = true → notified (.columnSwitch (some col) none .release 0 0) (closeFill v) = true) := by
  have hrec : columnRec (recordClosed v).sfu col = columnRec v.sfu col := by cases col <;> rfl
  have hclosed : (recordClosed v).sfu.fill.isOpen = false := closedRecord_isOpen v.sfu
  have htold : switchTold .release col (recordClosed v).sfu = .columnSwitch (some col) none .release 0 0 := by
    have hre : (recordClosed v).sfu.ready = [] := hr
    unfold switchTold
    rw [hclosed, hre]
    rfl
  obtain ⟨k1, -, -, k4⟩ := switchService_ends (s := recordClosed v) (reason := .release) (.inr rfl) hc hv
  rw [closeFill_open ho, releaseRule_releases (s := recordClosed v) hc hv (by rw [hrec]; exact he) hr hq hi]
  rw [htold] at k4
  exact ⟨k1, k4⟩

/-- The idle water path behind the grant's end. -/
theorem reached_rests {s x : State} {d : Nat} (hr : Rests s) (hi : s.rge.state = .idle) (h : Poured d s x)
    (hq : x.sfu.regenQ = [] ) : WaterRests (reached .main x) := by
  obtain ⟨-, -, -, -, -, -, -, h7, -⟩ := hr
  have hre : x.wpc.regen = none := by rw [h.wpc]; exact h7 hi
  have hx : (reached .main x).wpc.regen = none ∧ (reached .main x).wpc.fill = none ∧ (reached .main x).wpc.holder = .none := ⟨hre, rfl, rfl⟩
  obtain ⟨x1, x2, x3⟩ := hx
  have hxi : (reached .main x).rge.state = .idle := by
    show x.rge.state = _
    rw [h.rest]
    exact hi
  refine ⟨fun q hq => ?_, fun hx => ?_, fun hx => ?_, fun g hg => ?_, fun _ => .inl hq, fun hx => ?_, fun _ => x1, ?_, fun g hg => ?_⟩
  · simp [x2] at hq
  · simp [x2] at hx
  · simp [x3] at hx
  · simp [x1] at hg
  · simp [hxi] at hx
  · rw [x3]
    unfold holderOf
    rw [x1, x2]
  · simp [x1] at hg

/-! ## The close while the engine is at work, and while it is idle -/

section
variable {s : State} (hr : Rests s) (hp : Pulsed 1 s) {q : FillReq} (hq : s.wpc.fill = some q) (hh : q.held = true)
  (h0 : s.wpc.grantCount < q.target) (ht : q.target ≤ s.wpc.grantCount + 1) (hk : q.kind = .main)
  {col : Column} (hcol : s.sfu.service = some col) (hv : s.sfu.valveFault = false) (hrem : (columnRec s.sfu col).remaining = 0)
  (hex : (columnRec s.sfu col).exhausted = true) (hready : s.sfu.ready = []) (hb : runningIn s .fill = true)
  (ho : s.sfu.fill.isOpen = true) {w : WashRecord} (hw : currentWash s = some w) (hw0 : 0 < w.holdTime)
include hr hp hq hh h0 ht hk hcol hv hrem hex hb ho hw hw0

omit hready in
/-- The fill's last millilitre has come through the empty column. -/
theorem last_breaks : ∃ x v t f, exec .flowMeterPulse s = .next (onTies f t) ∧ FillReached w 1 s x v t
    ∧ SameColumns s.sfu x.sfu ∧ x.lnk.mask = s.lnk.mask ∧ x.sfu.fill.isOpen = true := by
  have hd : q.target - s.wpc.grantCount = 1 := by omega
  obtain ⟨x, hx⟩ : ∃ x, pouring .main 1 s = x := ⟨_, rfl⟩
  obtain ⟨v, t, f, he, e⟩ := fill_reaches (x := x) hr hp hq hh h0 ht hk hb hw hw0 (by rw [hd]; exact hx)
  rw [hd] at e
  have hc := hp.count
  obtain ⟨k1, k2⟩ := pouring_empty hcol hv hrem hex (by omega) hx
  exact ⟨x, v, t, f, he, e, k1, k2, e.poured.opened.trans ho⟩

omit hready in
/-- With the engine at work the column stays in service (R66). -/
theorem close_keeps (hi : s.rge.state ≠ .idle) :
    ∃ t, exec .flowMeterPulse s = .next t
      ∧ t.sfu.service = some col ∧ t.sfu.regenQ = s.sfu.regenQ ∧ t.sfu.fill.isOpen = false ∧ t.rge = s.rge
      ∧ writeAsked .columns t = true ∧ t.rst.history = s.rst.history := by
  obtain ⟨x, v, t, f, he, e, k1, -, hop⟩ := last_breaks hr hp hq hh h0 ht hk hcol hv hrem hex hb ho hw hw0
  have hst : s.seq.state = .running ∧ s.seq.sub = .fill := (runningIn_iff _ _).mp hb
  have hy : (reached .main x).rge = s.rge ∧ (reached .main x).sfu = x.sfu ∧ runningIn (reached .main x) .drain = false
      ∧ waterFlows (reached .main x) = false := by
    have hx : x.rge = s.rge ∧ x.seq.state = s.seq.state ∧ x.seq.sub = s.seq.sub := by
      rw [e.poured.rest]
      exact ⟨rfl, rfl, rfl⟩
    obtain ⟨x1, x2, x3⟩ := hx
    have yb : BeforeDrain (reached .main x) := ⟨x2.trans hst.1, by
      rw [show (reached .main x).seq.sub = x.seq.sub from rfl, x3, hst.2]
      nofun, by
      rw [show (reached .main x).seq.sub = x.seq.sub from rfl, x3, hst.2]
      nofun⟩
    exact ⟨x1, rfl, yb.not_drain, yb.flows⟩
  obtain ⟨y1, y2, y3, y4⟩ := hy
  have hyi : (reached .main x).rge.state ≠ .idle := by rw [y1]; exact hi
  have hun : ∀ u : State, u.rge.state ≠ .idle → Unqueued u := fun u hu hx => absurd hx hu
  have vs : v.sfu = x.sfu := (e.hears.columns y3 (hun _ hyi)).1.trans y2
  obtain ⟨vy, vi⟩ := e.hears.engine y3 y4 hyi
  have hcl : (closeFill v).sfu = { v.sfu with fill := closedRecord v.sfu } := by
    rw [closeFill_open (by rw [vs]; exact hop), releaseRule_waits (s := recordClosed v) vi]
    rfl
  obtain ⟨-, crge, -⟩ := closeFill_keeps v
  have ui : (enterDose w (closeFill v)).rge.state ≠ .idle := by
    rw [e.entered.rge, crge]
    exact vi
  have ts : t.sfu = { x.sfu with fill := closedRecord x.sfu } := by
    rw [(e.settled.columns (hun _ ui)).1, e.entered.sfu, hcl, vs]
  have tr : t.rge = s.rge := by
    obtain ⟨k | ⟨k, -⟩ | ⟨k, -⟩, -⟩ := e.moves.engine hyi
    · exact k.1.trans y1
    · cases k
    · cases k
  obtain ⟨s1, -⟩ := k1.keeps
  obtain ⟨q1, -⟩ := k1.places
  refine ⟨onTies f t, he, ?_, ?_, ?_, tr, e.asked hop, e.moves.history.trans e.volumes.history⟩
  · rw [Laws.onTies_sfu, ts]
    exact s1.trans hcol
  · rw [Laws.onTies_sfu, ts]
    exact q1
  · rw [Laws.onTies_sfu, ts]
    exact closedRecord_isOpen _

include hready

/-- With the engine idle the column is released, and the engine takes it (R65, R66). -/
theorem close_releases (hi : s.rge.state = .idle) :
    ∃ t, exec .flowMeterPulse s = .next t
      ∧ t.sfu.service = none ∧ t.sfu.duty = 1000 ∧ t.sfu.rho = 0 ∧ t.sfu.regenQ = [] ∧ t.sfu.fill.isOpen = false
      ∧ t.sfu.valveMove = some ⟨.bypass, 0, (match s.sfu.valveMove with | some m => m.homing | none => false)⟩
      ∧ (noticeEnabled s.lnk.mask 12 = true → notified (.columnSwitch (some col) none .release 0 0) t = true)
      ∧ t.rge.column = some col ∧ t.rge.state = .brineWait ∧ t.rge.deficit = s.cfg.nominal * 1000000
      ∧ writeAsked .columns t = true ∧ t.rst.history = s.rst.history := by
  obtain ⟨x, v, t, f, he, e, k1, k2, hop⟩ := last_breaks hr hp hq hh h0 ht hk hcol hv hrem hex hb ho hw hw0
  obtain ⟨s1, s2, -, s4, s5, -⟩ := k1.keeps
  obtain ⟨q1, -⟩ := k1.places
  have hqu : s.sfu.regenQ = [] := (unqueued_of_rests hr hi).resolve_right (by simp [hv])
  have hvv : v = onReports (fun _ => []) (refreshPump (reached .main x)) :=
    e.found.trans (by rw [Laws.waterSettle_rests (reached_rests hr hi e.poured (q1.trans hqu))])
  have xr : x.rge = s.rge ∧ x.cfg = s.cfg := by
    rw [e.poured.rest]
    exact ⟨rfl, rfl⟩
  obtain ⟨x1, x2⟩ := xr
  have vk : v.sfu = x.sfu ∧ v.rge = x.rge ∧ v.lnk.mask = x.lnk.mask ∧ v.wpc.holder = .none := by
    rw [hvv]
    exact ⟨rfl, rfl, rfl, rfl⟩
  obtain ⟨v1, v2, v3, v4⟩ := vk
  obtain ⟨c1, c2⟩ := closeFill_releases (v := v) (col := col) (by rw [v1]; exact hop) (by rw [v1]; exact s1.trans hcol)
    (by rw [v1]; exact s2.trans hv) (by rw [v1, s5]; exact hex) (by rw [v1]; exact s4.trans hready) (by rw [v1]; exact q1.trans hqu)
    (by rw [v2, x1]; exact hi)
  obtain ⟨cw, crge, -⟩ := closeFill_keeps v
  have ub := e.begun
  have usfu := e.entered.sfu
  have urge := e.entered.rge
  have uwpc := e.entered.wpc
  have uret := e.entered.retells
  have tset := e.settled.retells
  have tcol := e.passes.columns
  have tmov := e.later
  obtain ⟨u, hu⟩ : ∃ u, enterDose w (closeFill v) = u := ⟨_, rfl⟩
  rw [hu] at ub usfu urge uwpc uret tset tcol tmov
  rw [c1, v1] at usfu
  have uq : u.sfu.regenQ = [col] := by
    rw [usfu]
    show x.sfu.regenQ ++ [col] = _
    rw [q1, hqu]
    rfl
  have uh : u.wpc.holder = .none := by rw [uwpc, cw, v4]
  obtain ⟨w1, k⟩ := waterSettle_takes (s := u) uq (by simp [handsOver, ub.ready]) (by rw [urge, crge, v2, x1]; exact hi)
    (by rw [usfu]; exact s2.trans hv) (fun q hq => by simp [ub.fill] at hq) (by simp [uh]) (.inr ub.dry)
  rw [w1] at tcol tmov
  obtain ⟨y, hy⟩ : ∃ y, handOver (refreshPump u) = y := ⟨_, rfl⟩
  rw [hy] at tcol tmov k
  have yi : y.rge.state ≠ .idle := by rw [k.state]; nofun
  have yh : y.wpc.holder = .none := by rw [k.rest]; exact uh
  have tr : t.rge = y.rge := by
    obtain ⟨j | ⟨j, -⟩ | ⟨j, -⟩, -⟩ := tmov.engine yi
    · exact j.1
    · simp [yh] at j
    · simp [yh] at j
  have ts : t.sfu = { releasedSfu col x.sfu with regenQ := [] } := by
    rw [(tcol fun hx => absurd hx yi).1, k.rest]
    show { u.sfu with regenQ := [] } = _
    rw [usfu]
  have ucfg : u.cfg = s.cfg := by
    have h1 : y.cfg = u.cfg := by rw [k.rest]; rfl
    have h2 : t.cfg = x.cfg := e.moves.cfg
    rw [← h1, ← tmov.cfg, h2, x2]
  have hready' : x.sfu.ready = [] := s4.trans hready
  have hmove : x.sfu.valveMove = s.sfu.valveMove := by rw [show x.sfu = _ from k1]
  refine ⟨onTies f t, he, ?_, ?_, ?_, ?_, ?_, ?_, fun hen => ?_, ?_, ?_, ?_, e.asked hop, e.moves.history.trans e.volumes.history⟩
  · rw [Laws.onTies_sfu, ts]
    show x.sfu.ready.head? = none
    rw [hready']
    rfl
  · rw [Laws.onTies_sfu, ts]
    show (if x.sfu.ready.head?.isSome then x.sfu.blend else 1000) = 1000
    rw [hready']
    rfl
  · rw [Laws.onTies_sfu, ts]
    rfl
  · rw [Laws.onTies_sfu, ts]
  · rw [Laws.onTies_sfu, ts]
    exact closedRecord_isOpen x.sfu
  · rw [Laws.onTies_sfu, ts]
    show some (⟨match x.sfu.ready.head? with | some x => .column x | none => .bypass, 0,
      (match x.sfu.valveMove with | some m => m.homing | none => false)⟩ : ValveMove) = _
    rw [hready', hmove]
    rfl
  · exact tset _ rfl (uret _ rfl (c2 (by rw [v3, k2]; exact hen)))
  · exact (congrArg Rge.column tr).trans k.column
  · exact (congrArg Rge.state tr).trans k.state
  · refine (congrArg Rge.deficit tr).trans (k.deficit.trans ?_)
    have hrec : columnRec (refreshPump u).sfu col = columnRec x.sfu col := by
      show columnRec u.sfu col = _
      rw [usfu]
      cases col <;> rfl
    rw [hrec, s5, hrem]
    show u.cfg.nominal * 1000000 - 0 = _
    rw [ucfg]
    rfl

end

end Sys2Proof.Proofs
end


section
/-! PROOFS. The pulses of a FILL grant, main fill and top-up, and the serving column exhausted: the statement settled (O31). -/

/- One theorem at a time, as the tests have it: proofs that wait for the kernel cost a thread each. -/
set_option Elab.async false

namespace Sys2Proof.Proofs

open Sys2Proof.Machine
open Sys2Proof.Safety

/-- A pulse that emits one millilitre finds a latched K of more than 500 (R34). -/
theorem pulsed_one {s : State} (hr : s.wpc.residue < s.wpc.latchedK) (hn : (s.wpc.residue + 1000) / s.wpc.latchedK = 1)
    (hc : s.wpc.grantCount < 60000) : Pulsed 1 s := by
  have h := (Nat.div_lt_iff_lt_mul (by omega)).mp (show (s.wpc.residue + 1000) / s.wpc.latchedK < 2 by omega)
  exact ⟨by omega, hr, hc, hn⟩

/-- The hundredths that one millilitre asks (R59). -/
theorem charge_one (f : Sfu) : charge 1 f = f.rho + f.hRaw * (1000 - f.blend) := by rw [charge, Nat.one_mul]

theorem spentRec_eq {col : Column} {f : Sfu} {n : Nat}
    (h : (columnRec f col).remaining - (f.rho + f.hRaw * (1000 - f.blend)) / 100 = n) :
    spentRec col f = { setColumnRec f col { columnRec f col with remaining := n, exhausted := true } with
      rho := (f.rho + f.hRaw * (1000 - f.blend)) % 100 } := by
  unfold spentRec
  rw [charge_one, h]

/-- Where the column of a fill is exhausted and stays in service. -/
theorem main_exhausts {s : State} (hr : Rests s) (hp : Pulsed 1 s) {q : FillReq} (hq : s.wpc.fill = some q) (hh : q.held = true)
    (ht : s.wpc.grantCount + 1 < q.target) (hk : q.kind = .main) {col : Column} (hcol : s.sfu.service = some col)
    (hv : s.sfu.valveFault = false) (hrec : Recorded s.sfu col) (hb : s.sfu.blend < 1000 ∨ (s.sfu.blend = 1000 ∧ s.sfu.rho < 100))
    (h0 : 0 < (columnRec s.sfu col).remaining) (hx : (columnRec s.sfu col).exhausted = false) {n : Nat}
    (hn : (columnRec s.sfu col).remaining - (s.sfu.rho + s.sfu.hRaw * (1000 - s.sfu.blend)) / 100 = n) (hres : n ≤ s.cfg.reserve)
    (hready : s.sfu.ready = []) :
    ∃ t, exec .flowMeterPulse s = .next t
      ∧ t.sfu = { setColumnRec s.sfu col { columnRec s.sfu col with remaining := n, exhausted := true } with
          rho := (s.sfu.rho + s.sfu.hRaw * (1000 - s.sfu.blend)) % 100
          fill := { s.sfu.fill with v := s.sfu.fill.v + 1, g := s.sfu.fill.g + s.sfu.hRaw * s.sfu.blend } }
      ∧ writeAsked .columns t = true ∧ t.rge = s.rge ∧ t.rst.history = s.rst.history := by
  obtain ⟨t, he, k1, k2⟩ := exhausts_alone hcol hv hrec hb h0 hx (by rw [charge_one, hn]; exact hres) hr hp hq hh ht hk hready
  rw [spentBy_eq, spentBy, spentRec_eq hn] at k1
  exact ⟨t, he, k1, k2⟩

theorem topUp_exhausts {s : State} (hr : Rests s) (hp : Pulsed 1 s) {q : FillReq} (hq : s.wpc.fill = some q) (hh : q.held = true)
    (ht : s.wpc.grantCount + 1 < q.target) (hk : q.kind = .topUp) {col : Column} (hcol : s.sfu.service = some col)
    (hv : s.sfu.valveFault = false) (hb : s.sfu.blend < 1000 ∨ (s.sfu.blend = 1000 ∧ s.sfu.rho < 100)) (hrec : Recorded s.sfu col)
    (h0 : 0 < (columnRec s.sfu col).remaining) (hx : (columnRec s.sfu col).exhausted = false) (hready : s.sfu.ready = [])
    (hres : (columnRec s.sfu col).remaining - (s.sfu.rho + s.sfu.hRaw * (1000 - s.sfu.blend)) / 100 ≤ s.cfg.reserve) {counted : Nat}
    (hct : counted = if s.wpc.grantCount = 0 then 1 else s.sfu.topUpCount + 1) :
    ∃ t, exec .flowMeterPulse s = .next t
      ∧ t.sfu = { setColumnRec s.sfu col { columnRec s.sfu col with
            remaining := (columnRec s.sfu col).remaining - (s.sfu.rho + s.sfu.hRaw * (1000 - s.sfu.blend)) / 100
            exhausted := true } with
          rho := (s.sfu.rho + s.sfu.hRaw * (1000 - s.sfu.blend)) % 100
          topUpCount := counted, topUpMark := s.sfu.topUpMark && s.wpc.grantCount != 0 }
      ∧ writeAsked .columns t = true ∧ t.rge = s.rge ∧ t.rst.history = s.rst.history := by
  obtain ⟨t, he, k1, k2⟩ := exhausts_alone hcol hv hrec hb h0 hx (by rw [charge_one]; exact hres) hr hp hq hh ht hk hready
  refine ⟨t, he, k1.trans ?_, k2⟩
  have hm : measure .topUp (s.wpc.grantCount == 0) (spentRec col s.sfu) = { spentRec col s.sfu with
      topUpCount := counted, topUpMark := s.sfu.topUpMark && s.wpc.grantCount != 0 } := by
    have h1 : (spentRec col s.sfu).topUpCount = s.sfu.topUpCount ∧ (spentRec col s.sfu).topUpMark = s.sfu.topUpMark := by
      cases col <;> exact ⟨rfl, rfl⟩
    obtain ⟨h1, h2⟩ := h1
    by_cases hc : s.wpc.grantCount = 0
    · simp [measure, hct, hc]
    · simp [measure, hct, hc, h1, h2]
  show measure .topUp (s.wpc.grantCount == 0) (spentRec col s.sfu) = _
  rw [hm, spentRec_eq rfl]

/-- Settles O31: each pulse of a FILL grant hands its millilitres to the softener one by one, which leave the serving column, charge it,
break through it or exhaust it, until the grant's target. -/
theorem fillsAreMeteredToTheirTarget : Obligations.FillsAreMeteredToTheirTarget := by
  unfold Obligations.FillsAreMeteredToTheirTarget
  refine ⟨fun s hr _ hk hres n hn q hq hh hm ht hmax => ?_, fun s hr _ hk hres q hq hh h0 hmax ht => ?_,
    fun s hr _ hres hn q hq hh hm hmax col hcol hrec hv => ?_,
    fun s hr _ hk hres n hn hpos q hq hh hm ht hmax counted hct => ?_⟩
  · have hp : Pulsed n s := ⟨hk, hres, by omega, hn⟩
    exact ⟨main_leaves hr hp hq hh ht hm, fun ⟨_, _, hrho⟩ col hcol hv hb hrec hx =>
      main_charges hr hp hq hh ht hm hrho hcol hv hb hrec hx, fun col hcol hv h0 hx hb => main_breaks hr hp hq hh ht hm hcol hv h0 hx hb⟩
  · have hp : Pulsed _ s := ⟨hk, hres, by omega, rfl⟩
    exact ⟨fun hm hb ho w hw hw0 => main_reached hr hp hq hh h0 ht hm hb ho hw hw0, topUp_reached hr hp hq hh h0 ht⟩
  · refine ⟨fun ht hb h0 hx n hrem hle => ?_, fun ht h0 hx hb => ?_, fun h0 ht hrem hx hready hb ho w hw hw0 => ?_⟩
    · have hp := pulsed_one hres hn (by omega)
      refine ⟨main_exhausts hr hp hq hh ht hm hcol hv hrec hb h0 hx hrem hle, fun next hnext hne => ?_⟩
      obtain ⟨t, he, k1, k2, k3, k4⟩ := exhausts_relieved hcol hv hrec hb h0 hx (by rw [charge_one, hrem]; exact hle) hnext hne hr hp hq hh ht hm
      rw [relieved, spentRec_eq hrem] at k1
      rw [charge_one, hrem] at k3
      exact ⟨t, he, k1, k2, k3, k4⟩
    · exact main_breakthrough hr (pulsed_one hres hn (by omega)) hq hh ht hcol hv hm h0 hx hb
    · have hp := pulsed_one hres hn (by omega)
      exact ⟨close_keeps hr hp hq hh h0 ht hm hcol hv hrem hx hb ho hw hw0,
        close_releases hr hp hq hh h0 ht hm hcol hv hrem hx hready hb ho hw hw0⟩
  · have hp : Pulsed n s := ⟨hk, hres, by omega, hn⟩
    subst hct
    refine ⟨topUp_leaves hr hp hq hh ht hpos hm, fun ⟨_, _, hrho⟩ col hcol hv hb hrec hx =>
      topUp_charges hr hp hq hh ht hpos hm hrho hcol hv hb hrec hx, fun h1 col hcol hv hb hrec h0 hx hready hle => ?_,
      fun col hcol hv h0 hx => topUp_breakthrough hr hp hq hh ht hcol hv hpos hm h0 hx rfl⟩
    subst h1
    exact topUp_exhausts hr hp hq hh ht hm hcol hv hb hrec h0 hx hready hle rfl

end Sys2Proof.Proofs
end
